-- ==== Sys2Proof/Word.lean ====
section
/-! DEFINITION. The byte and word types of the NG-6496's wire and storage formats (R5) and the sparse table type in
which every array of the machine is held. A word of an entry, a count, a time and an index are numbers; bytes on a
wire are `Byte`. -/
set_option Elab.async false
namespace Sys2Proof

/-- One byte of a message, an image or a DOMAIN value. -/
abbrev Byte := BitVec 8

/-- A string of bytes, first byte first. -/
abbrev Bytes := List Byte

/-- A table held as the rows that differ from the table's reset row: (row, value) pairs, rows strictly rising, no
value equal to the reset row (`Table.wf` in `Machine/Tables.lean`). -/
abbrev Table (α : Type) := List (Nat × α)

end Sys2Proof
end

