-- ==== Sys2Proof/Machine/Bits.lean ====
section
/-! DEFINITION. Bit fields, byte order and rounding, as R5 and R6 fix them. -/
set_option Elab.async false
namespace Sys2Proof.Machine

/-- Bits [hi:lo] of a word. -/
def bits (w hi lo : Nat) : Nat := (w / 2 ^ lo) % 2 ^ (hi + 1 - lo)

/-- Bit [n] of a word. -/
def bit (w n : Nat) : Bool := bits w n n == 1

/-- The word `w` with bits [hi:lo] replaced by `v`. -/
def setBits (w hi lo v : Nat) : Nat :=
  w - bits w hi lo * 2 ^ lo + (v % 2 ^ (hi + 1 - lo)) * 2 ^ lo

/-- The word `w` with bit [n] set to `b`. -/
def setBit (w n : Nat) (b : Bool) : Nat := setBits w n n (if b then 1 else 0)

/-- A Bool as 0 or 1. -/
def ofBool (b : Bool) : Nat := if b then 1 else 0

/-- The mask with bits [hi:lo] set. -/
def maskBits (hi lo : Nat) : Nat := (2 ^ (hi + 1 - lo) - 1) * 2 ^ lo

/-- The two's-complement reading of an `n`-bit number. -/
def signed (n w : Nat) : Int := if w < 2 ^ (n - 1) then (w : Int) else (w : Int) - (2 : Int) ^ n

/-- The `n`-bit two's-complement code of a number. -/
def unsigned (n : Nat) (v : Int) : Nat := (v % (2 : Int) ^ n).toNat

/-- ceil(a / b). -/
def ceilDiv (a b : Nat) : Nat := (a + b - 1) / b

/-- The number `a / b` rounded half up. -/
def roundDiv (a b : Nat) : Nat := (2 * a + b) / (2 * b)

/-- R6: "/" on integers truncates toward zero. -/
def truncDiv (a b : Int) : Int := a.tdiv b

/-- R6: ">>" rounds toward minus infinity. -/
def shiftRight (a : Int) (n : Nat) : Int := a / (2 : Int) ^ n

/-- A value held to the interval `lo` to `hi`. -/
def clip (lo hi v : Int) : Int := max lo (min hi v)

/-- A count that stops at its type's largest value. -/
def satAdd (width a b : Nat) : Nat := min (a + b) (2 ^ width - 1)

/-- The 32-bit sum: frame numbers and sequence numbers wrap (R4). -/
def add32 (a b : Nat) : Nat := (a + b) % 4294967296

/-- The 32-bit difference. -/
def sub32 (a b : Nat) : Nat := (a % 4294967296 + 4294967296 - b % 4294967296) % 4294967296

/-- The 16-bit sum. -/
def add16 (a b : Nat) : Nat := (a + b) % 65536

/-- The 16-bit difference. -/
def sub16 (a b : Nat) : Nat := (a % 65536 + 65536 - b % 65536) % 65536

/-- floor(log2 v) for v ≥ 1, 0 for 0, by counting at most `fuel` halvings. -/
def log2Aux : Nat → Nat → Nat
  | 0, _ => 0
  | fuel + 1, v => if v < 2 then 0 else 1 + log2Aux fuel (v / 2)

/-- floor(log2 v), 0 for 0. -/
def floorLog2 (v : Nat) : Nat := log2Aux 128 v

/-- ceil(log2 v), 0 for v ≤ 1. -/
def ceilLog2 (v : Nat) : Nat := if v ≤ 1 then 0 else floorLog2 (v - 1) + 1

/-- floor(sqrt v) by Newton's digits, most significant bit first. -/
def sqrtAux : Nat → Nat → Nat → Nat
  | 0, _, r => r
  | fuel + 1, v, r =>
    let c := r + 2 ^ fuel
    sqrtAux fuel v (if c * c ≤ v then c else r)

/-- floor(sqrt v) for v below 2^128. -/
def floorSqrt (v : Nat) : Nat := sqrtAux 64 v 0

/-- A number as `n` bytes, most significant first (R5). -/
def bytesBE : Nat → Nat → Bytes
  | 0, _ => []
  | n + 1, v => bytesBE n (v / 256) ++ [BitVec.ofNat 8 v]

/-- A number as `n` bytes, least significant first (R5, CANopen FD). -/
def bytesLE : Nat → Nat → Bytes
  | 0, _ => []
  | n + 1, v => BitVec.ofNat 8 v :: bytesLE n (v / 256)

/-- The number that bytes spell, most significant first. -/
def ofBytesBE (b : Bytes) : Nat := b.foldl (fun acc x => acc * 256 + x.toNat) 0

/-- The number that bytes spell, least significant first. -/
def ofBytesLE (b : Bytes) : Nat := b.foldr (fun x acc => acc * 256 + x.toNat) 0

/-- `n` bytes of `b` from offset `o`; fewer where `b` ends. -/
def slice (b : Bytes) (o n : Nat) : Bytes := (b.drop o).take n

/-- The number in the `n` bytes at offset `o`, most significant first. -/
def fieldBE (b : Bytes) (o n : Nat) : Nat := ofBytesBE (slice b o n)

/-- `n` zero bytes. -/
def zeros (n : Nat) : Bytes := List.replicate n 0

/-- A byte string of exactly `n` bytes: cut off, or ended by zeros. -/
def fit (n : Nat) (b : Bytes) : Bytes := (b ++ zeros n).take n

/-- The ASCII bytes of a string. -/
def ascii (s : String) : Bytes := s.toList.map fun c => BitVec.ofNat 8 c.toNat

/-- A reflected 32-bit CRC of a byte string; initial value and final inversion 0xFFFFFFFF (PRESUMED; log entry 82). -/
def crcReflected (poly : Nat) (b : Bytes) : Nat :=
  (b.foldl (fun acc x =>
    (List.range 8).foldl (fun v _ => if v % 2 = 1 then (v / 2) ^^^ poly else v / 2) (acc ^^^ x.toNat)) 0xFFFFFFFF) ^^^ 0xFFFFFFFF

/-- CRC-32C. -/
def crc32c (b : Bytes) : Nat := crcReflected 0x82F63B78 b

/-- The ones' complement sum of 16-bit words, with end-around carry. -/
def onesSum : Bytes → Nat
  | a :: b :: rest =>
    let v := a.toNat * 256 + b.toNat + onesSum rest
    v % 65536 + v / 65536
  | [a] => a.toNat * 256
  | [] => 0

end Sys2Proof.Machine
end

