-- ==== Sys2Proof/Machine/Tables.lean ====
section
/-! DEFINITION. Sparse tables in one canonical form: rows strictly rising, no row equal to the default. Reading a row
that is not listed gives the default, so equal tables are equal lists. -/
set_option Elab.async false
namespace Sys2Proof.Machine

/-- The value of row `k`: the listed one, else the default. -/
def Table.get {α : Type} (d : α) : Table α → Nat → α
  | [], _ => d
  | (j, v) :: rest, k => if j = k then v else Table.get d rest k

/-- Removes row `k`. -/
def Table.erase {α : Type} : Table α → Nat → Table α
  | [], _ => []
  | (j, v) :: rest, k => if j = k then Table.erase rest k else (j, v) :: Table.erase rest k

/-- Lists row `k` with value `v` in its place, whatever `v` is. -/
def Table.insert {α : Type} : Table α → Nat → α → Table α
  | [], k, v => [(k, v)]
  | (j, w) :: rest, k, v =>
    if k < j then (k, v) :: (j, w) :: rest
    else if j = k then (k, v) :: rest
    else (j, w) :: Table.insert rest k v

/-- Writes row `k`: a value equal to the default removes the row. -/
def Table.set {α : Type} [DecidableEq α] (d : α) (t : Table α) (k : Nat) (v : α) : Table α :=
  if v = d then Table.erase t k else Table.insert t k v

/-- Applies `f` to row `k`. -/
def Table.modify {α : Type} [DecidableEq α] (d : α) (t : Table α) (k : Nat) (f : α → α) : Table α :=
  Table.set d t k (f (Table.get d t k))

/-- Rows strictly rising from `lo` on, none of them the default. -/
def Table.wfFrom {α : Type} [DecidableEq α] (d : α) : Nat → Table α → Bool
  | _, [] => true
  | lo, (k, v) :: rest => decide (lo ≤ k) && decide (v ≠ d) && Table.wfFrom d (k + 1) rest

/-- The canonical form of a table. -/
def Table.wf {α : Type} [DecidableEq α] (d : α) (t : Table α) : Bool := Table.wfFrom d 0 t

/-- The listed rows whose number lies in `lo ≤ k < hi`. -/
def Table.within {α : Type} (t : Table α) (lo hi : Nat) : Table α :=
  t.filter fun p => decide (lo ≤ p.1) && decide (p.1 < hi)

/-- Replaces every listed row by its image, dropping images equal to the default. -/
def Table.mapRows {α : Type} [DecidableEq α] (d : α) (t : Table α) (f : Nat → α → α) : Table α :=
  (t.map fun p => (p.1, f p.1 p.2)).filter fun p => decide (p.2 ≠ d)

/-- Applies `f` to every row of a table of `n` rows, listed or not. -/
def Table.forAll {α : Type} [DecidableEq α] (d : α) (n : Nat) (f : Nat → α → α) (t : Table α) : Table α :=
  (List.range n).foldl (fun acc k => Table.modify d acc k (f k)) t

end Sys2Proof.Machine
end

