-- ==== Sys2Proof/Machine/Types.lean ====
section
/-! DEFINITION. The manual's own vocabulary: object types and access classes (Table 0-3), roles (R7), access status
codes (Table 2-1), object values, canvas time (R4), fault messages (Table 16-1), and the ways a command reaches the
device (R1). -/
set_option Elab.async false
namespace Sys2Proof.Machine

/-- Object data types, Table 0-3. -/
inductive Ty where
  | bool | u8 | u16 | u32 | u64 | i8 | i16 | i32 | i64 | q16
  /-- STR(n): at most `n` bytes. -/
  | str (n : Nat)
  | domain | time80 | ctime
  deriving DecidableEq, Repr

/-- Access classes, "Notation" of chapter 0. -/
inductive Access where
  | const | ro | rw | rg | wo | ex
  deriving DecidableEq, Repr

/-- Roles in ascending order, R7. -/
inductive Role where
  | viewer | operator | brewer | vendor
  deriving DecidableEq, Repr

/-- The role's code in HELLO (R52). -/
def Role.code : Role → Nat
  | .viewer => 0
  | .operator => 1
  | .brewer => 2
  | .vendor => 3

/-- The role a code names; codes above 3 name none. -/
def Role.ofCode : Nat → Option Role
  | 0 => some .viewer
  | 1 => some .operator
  | 2 => some .brewer
  | 3 => some .vendor
  | _ => none

/-- Access status codes, Table 2-1. -/
inductive Status where
  | ok | noObject | noSubindex | role | access | length | range | reserved | row | greenLocked | busy | busyDeferred
  | badSeq | noSession | sessionFull | authFail | authLocked | tooLong | state | noData | failed | badFormat
  deriving DecidableEq, Repr

/-- The code of a status in Strel's STATUS field, Table 2-1. -/
def Status.code : Status → Nat
  | .ok => 0x00 | .noObject => 0x01 | .noSubindex => 0x02 | .role => 0x03 | .access => 0x04 | .length => 0x05
  | .range => 0x06 | .reserved => 0x07 | .row => 0x08 | .greenLocked => 0x09 | .busy => 0x0A
  | .busyDeferred => 0x0B | .badSeq => 0x0C | .noSession => 0x0D | .sessionFull => 0x0E | .authFail => 0x0F
  | .authLocked => 0x10 | .tooLong => 0x11 | .state => 0x12 | .noData => 0x13 | .failed => 0x14
  | .badFormat => 0x15

/-- The USDO abort code of a status, Table 2-1; ACCESS differs between read and write. A status Table 2-1 gives no
abort code never ends a USDO transfer. -/
def Status.abort (isRead : Bool) : Status → Nat
  | .ok | .badSeq | .noSession | .sessionFull => 0
  | .noObject => 0x06020000
  | .noSubindex => 0x06090011
  | .role => 0x06010000
  | .access => if isRead then 0x06010001 else 0x06010002
  | .length => 0x06070010
  | .range | .reserved => 0x06090030
  | .row | .noData => 0x08000024
  | .greenLocked | .state => 0x08000022
  | .busy | .busyDeferred | .authFail | .authLocked => 0x08000020
  | .tooLong => 0x06070012
  | .failed | .badFormat => 0x08000000

/-- The value of an object: a number of a numeric type, or the bytes of a STR, DOMAIN, TIME80 or CTIME. -/
inductive Value where
  | num (n : Int)
  | bytes (b : Bytes)
  deriving DecidableEq, Repr

/-- A numeric value as a natural number; 0 for bytes. -/
def Value.toNat : Value → Nat
  | .num n => n.toNat
  | .bytes _ => 0

/-- A numeric value; 0 for bytes. -/
def Value.toInt : Value → Int
  | .num n => n
  | .bytes _ => 0

/-- The bytes of a byte value; none for a number. -/
def Value.toBytes : Value → Bytes
  | .num _ => []
  | .bytes b => b

/-- What a field of a value may hold: bits [hi:lo] lie in one of the closed intervals (R33). -/
structure FieldRule where
  hi : Nat
  lo : Nat
  allowed : List (Nat × Nat)
  deriving DecidableEq, Repr

/-- One object of the dictionary, as its chapter's object table gives it. `rows` is 0 for an object that is not a
table. `range` lists the closed intervals a numeric value may lie in (empty: every value of the type); `fields` the
bounds of its fields; `reservedMask` its reserved bits (R3); `size` the exact length of a DOMAIN value, 0 where it
varies; `cask` whether it is kept in the Cask. -/
structure Obj where
  index : Nat
  sub : Nat
  ty : Ty
  access : Access
  role : Role
  rows : Nat
  deflt : Value
  range : List (Int × Int)
  fields : List FieldRule
  reservedMask : Nat
  size : Nat
  cask : Bool
  name : String
  deriving DecidableEq, Repr

/-- index × 256 + subindex, the form SET_VALID_OBJECT uses (R42). -/
def Obj.code (o : Obj) : Nat := o.index * 256 + o.sub

/-- The key of a row of an object in a store. -/
def Obj.key (o : Obj) (row : Nat) : Nat := o.code * 4294967296 + row

/-- The width in bytes of a fixed-size type; 0 for STR and DOMAIN. -/
def Ty.width : Ty → Nat
  | .bool | .u8 | .i8 => 1
  | .u16 | .i16 => 2
  | .u32 | .i32 | .q16 => 4
  | .u64 | .i64 => 8
  | .str _ | .domain => 0
  | .time80 => 10
  | .ctime => 6

/-- The type code of DESCRIBE, R52. -/
def Ty.code : Ty → Nat
  | .bool => 0x01 | .u8 => 0x02 | .u16 => 0x03 | .u32 => 0x04 | .u64 => 0x05 | .i8 => 0x06 | .i16 => 0x07
  | .i32 => 0x08 | .i64 => 0x09 | .q16 => 0x0A | .str _ => 0x0B | .domain => 0x0C | .time80 => 0x0D
  | .ctime => 0x0E

/-- The access code of DESCRIBE, R52. -/
def Access.code : Access → Nat
  | .const => 0 | .ro => 1 | .rw => 2 | .rg => 3 | .wo => 4 | .ex => 5

/-- Whether a numeric type is signed. -/
def Ty.isSigned : Ty → Bool
  | .i8 | .i16 | .i32 | .i64 | .q16 => true
  | _ => false

/-- Whether values of the type are numbers. -/
def Ty.isNumeric : Ty → Bool
  | .str _ | .domain | .time80 | .ctime => false
  | _ => true

/-- A value's bytes, most significant first (R5); a number in its type's width, two's complement where signed. -/
def encodeValue (ty : Ty) : Value → Bytes
  | .num n => bytesBE ty.width (unsigned (8 * ty.width) n)
  | .bytes b => b

/-- The value that bytes spell in a type. -/
def decodeValue (ty : Ty) (b : Bytes) : Value :=
  if ty.isNumeric then
    .num (if ty.isSigned then signed (8 * ty.width) (ofBytesBE b) else (ofBytesBE b : Int))
  else .bytes b

/-- Canvas time ⟨F:L⟩, R4. -/
structure CTime where
  frame : Nat
  line : Nat
  deriving DecidableEq, Repr

/-- ⟨F1:L1⟩ is earlier than ⟨F2:L2⟩, R4. -/
def CTime.earlier (a b : CTime) : Bool :=
  let d := sub32 b.frame a.frame
  (decide (1 ≤ d) && decide (d ≤ 2147483647)) || (decide (d = 0) && decide (a.line < b.line))

/-- R4: whether a place lies in the past at canvas time `now`: it is earlier, or the frames differ by 2^31. -/
def CTime.past (now place : CTime) : Bool :=
  CTime.earlier place now || decide (sub32 place.frame now.frame = 2147483648)

/-- Whether frame `f2` lies in the past of frame `f1` by R4: `f1` is not earlier than and not equal to it, or their
difference is 2^31. -/
def framePast (f1 f2 : Nat) : Bool := decide (2147483648 ≤ sub32 f2 f1)

/-- Whether frame `f1` is earlier than frame `f2` by R4. -/
def frameEarlier (f1 f2 : Nat) : Bool :=
  decide (1 ≤ sub32 f2 f1) && decide (sub32 f2 f1 ≤ 2147483647)

/-- The six bytes of a CTIME value. -/
def CTime.bytes (c : CTime) : Bytes := bytesBE 4 c.frame ++ bytesBE 2 c.line

/-- A fault message, Table 16-1. CLASS is the kind's class of Table 16-2 in every message a unit builds (R384). -/
structure FaultMsg where
  source : Nat
  kind : Nat
  cls : Nat
  inj : Bool
  address : Nat
  detail : Nat
  reserved : Nat
  deriving DecidableEq, Repr

/-- The 12 bytes of a fault message, most significant first (R382). -/
def FaultMsg.bytes (m : FaultMsg) : Bytes :=
  bytesBE 12 (m.source % 4096 * 2 ^ 84 + m.kind % 256 * 2 ^ 76 + m.cls % 8 * 2 ^ 73 + ofBool m.inj * 2 ^ 72
    + m.address % 2 ^ 48 * 2 ^ 24 + m.detail % 65536 * 256 + m.reserved % 256)

/-- The fault message that 12 bytes spell. -/
def FaultMsg.ofBytes (b : Bytes) : FaultMsg :=
  let w := ofBytesBE (b.take 12)
  { source := bits w 95 84, kind := bits w 83 76, cls := bits w 75 73, inj := bit w 72,
    address := bits w 71 24, detail := bits w 23 8, reserved := bits w 7 0 }

/-- The fault kinds of Table 16-2. -/
inductive Kind where
  | eccCorr | eccUncorr | parity | timeout | busErr | laneDown | digestMismatch | tasteMismatch | deadlineMiss
  | segmentLate | trainFail | doubleFree | poolDry | gapDrop | thermWarn | thermCrit | sourceLoss | syntaxErr
  | refMissing | gravitySpent | nackUnserved | sigFail | caskErr | collectorSelf | safeCommanded
  deriving DecidableEq, Repr

/-- The kind's code, Table 16-2. -/
def Kind.code : Kind → Nat
  | .eccCorr => 0x01 | .eccUncorr => 0x02 | .parity => 0x03 | .timeout => 0x04 | .busErr => 0x05
  | .laneDown => 0x06 | .digestMismatch => 0x07 | .tasteMismatch => 0x08 | .deadlineMiss => 0x09
  | .segmentLate => 0x0A | .trainFail => 0x0B | .doubleFree => 0x0C | .poolDry => 0x0D | .gapDrop => 0x0E
  | .thermWarn => 0x0F | .thermCrit => 0x10 | .sourceLoss => 0x11 | .syntaxErr => 0x12 | .refMissing => 0x13
  | .gravitySpent => 0x14 | .nackUnserved => 0x15 | .sigFail => 0x16 | .caskErr => 0x17
  | .collectorSelf => 0x18 | .safeCommanded => 0x19

/-- The class of a kind code, Table 16-2; reserved codes have class 7, which no kind has. -/
def kindClass : Nat → Nat
  | 0x01 => 1 | 0x02 => 2 | 0x03 => 2 | 0x04 => 2 | 0x05 => 2 | 0x06 => 3 | 0x07 => 3 | 0x08 => 2 | 0x09 => 4
  | 0x0A => 0 | 0x0B => 3 | 0x0C => 2 | 0x0D => 0 | 0x0E => 0 | 0x0F => 3 | 0x10 => 6 | 0x11 => 3 | 0x12 => 0
  | 0x13 => 0 | 0x14 => 0 | 0x15 => 0 | 0x16 => 5 | 0x17 => 3 | 0x18 => 6 | 0x19 => 6
  | _ => 7

/-- The default reaction of a kind code, Table 16-2 and Table 16-4. -/
def kindReaction : Nat → Nat
  | 0x02 => 1 | 0x03 => 1 | 0x04 => 1 | 0x05 => 1 | 0x06 => 1 | 0x07 => 1 | 0x08 => 1 | 0x09 => 1 | 0x0B => 1
  | 0x0C => 1 | 0x0F => 1 | 0x10 => 5 | 0x11 => 1 | 0x16 => 1 | 0x17 => 1 | 0x18 => 1 | 0x19 => 5
  | _ => 0

/-- The reaction floor of a message, Table 16-2. -/
def kindFloor (source kind detail : Nat) : Nat :=
  if kind = 0x09 then (if bits detail 15 12 = 3 then 5 else 0)
  else if kind = 0x0B then
    (if 0x500 ≤ source ∧ source ≤ 0x50B then 5 else if 0x520 ≤ source ∧ source ≤ 0x527 then 4 else 0)
  else if kind = 0x10 then 5
  else if kind = 0x18 then (if detail = 4 then 5 else 0)
  else if kind = 0x19 then 5
  else 0

/-- A real fault message with the class of its kind (R384). -/
def faultMsg (source : Nat) (k : Kind) (address detail : Nat) : FaultMsg :=
  { source := source, kind := k.code, cls := kindClass k.code, inj := false, address := address,
    detail := detail, reserved := 0 }

/-- R383: the address where a chapter states none: F in [47:16] and y in [15:0]. -/
def faultAddr (frame y : Nat) : Nat := frame % 4294967296 * 65536 + y % 65536

/-- Who accesses an object (R1): an open Strel session, the CANopen FD path, or the firmware itself. -/
inductive Path where
  | strel (session : Nat)
  | can
  | firmware
  deriving DecidableEq, Repr

/-- A network endpoint: address (an IPv4 address in IPv4-mapped form), UDP port, where it is heard (link port 0–95, or 96 for
the management port), and the address of the device that its datagram named, in the same form (R297). -/
structure Peer where
  addr : Nat
  port : Nat
  via : Nat
  own : Nat
  deriving DecidableEq, Repr

/-- R50: whether two datagrams come from the same source: address and port, whichever port of the device hears them. -/
def Peer.same (a b : Peer) : Bool := a.addr == b.addr && a.port == b.port

/-- A Strel datagram by its fields, Table 2-7; OPCODE is the command's own. `length` is the LENGTH field, `payload`
the bytes that follow the header and `mac` the bytes that follow those, as many as arrived. -/
structure StrelMsg where
  peer : Peer
  magic : Nat
  version : Nat
  flags : Nat
  status : Nat
  length : Nat
  session : Nat
  seq : Nat
  payload : Bytes
  mac : Bytes
  deriving DecidableEq, Repr

/-- A Twin frame by its fields, Table 10-2; TYPE is the command's own. `peer`: the other end's Ethernet address, the source of a frame
received, the destination of a frame sent (R238). -/
structure TwinMsg where
  peer : Nat
  magic : Nat
  version : Nat
  role : Nat
  state : Nat
  epoch : Nat
  seq : Nat
  frame : Nat
  line : Nat
  reserved : Nat
  body : Bytes
  mac : Bytes
  deriving DecidableEq, Repr

/-- What the Compositor finds at a row's limit (R103, Table 4-5): the first CTU column not written, and the slots whose line buffers
report a parity error. -/
structure LateRow where
  fromCx : Nat
  parity : List Nat
  deriving DecidableEq, Repr

/-- The row of a segment whose last CTU is written, and the slots whose line buffers report a parity error for it (R103, Table 4-5). -/
structure ComposedRow where
  y : Nat
  parity : List Nat
  deriving DecidableEq, Repr

/-- What a channel does in the last beat of a grant: the winner's access, by address and direction, and on a DDR channel the
subchannels that complete an access (R338) and the Grist error that an access repairs, with the identity and whether it is one of
parity (R352); and the beats that the grant now ending has taken (R354). -/
structure ChannelBeat where
  addr : Nat
  write : Bool
  served : List Nat
  refill : Option (Nat × Bool)
  beats : Nat
  deriving DecidableEq, Repr

/-- What meets a Keg request in its cycle (R371, R372, R375): the ECC result of the state word, and the other requests by port,
length and spill flag. -/
structure KegCycle where
  ecc : Nat
  others : List (Nat × Nat × Bool)
  deriving DecidableEq, Repr

/-- Why a port did not leave ALIGN in time (Table 12-4): whether only deskew failed, the first failing lane, and whether the SREFP clock
of its lanes is missing (R447). -/
structure AlignFailure where
  deskewOnly : Bool
  lane : Nat
  noClock : Bool
  deriving DecidableEq, Repr

end Sys2Proof.Machine
end

