-- ==== Sys2Proof/Syntax.lean ====
section
/-! DEFINITION. The commands of the device: one constructor per row of the table of operations and events. The first
operand of every command is the running time, in nanoseconds since PORST_N release, at which it lands; `who` is the
path an object is accessed by; the others are what the command brings from outside the model (an object value, a
message, a received packet, a measurement, a commit record). -/
set_option Elab.async false
namespace Sys2Proof

open Machine

/-- A command (chapters 0 to 18; one row of the table of operations and events each). -/
inductive Instr where
  /-- OBJECT_WRITE (R33): A write to a dictionary object that has no row of its own is checked for access, role, row, length, reserved bits and range, then stored in its green, live or staged copy. -/
  | objectWrite (t : Nat) (who : Path) (index sub row : Nat) (data : Bytes)
  /-- FLR_FILL (R26): Writes one value to every green Floor Map row as one indivisible operation. -/
  | flrFill (t : Nat) (who : Path) (v : Nat)
  /-- FLR_REGIONS (R27): Loads a region form into the green Floor Map after checking its form, canvas size and tiling, setting FLR_LOAD_STATUS. -/
  | flrRegions (t : Nat) (who : Path) (form : Bytes)
  /-- FLR_CHECK (R25): Writing 1 starts or restarts a check of the green geometry, subpicture table and Floor Map. -/
  | flrCheck (t : Nat) (who : Path) (v : Nat)
  /-- FLR_CHECK_COMPLETE (R24): A running Floor Map check ends with pass, fail or stale, reporting its rule and location and writing the load. -/
  | flrCheckComplete (t : Nat)
  /-- SET_RACK (R44): Requests a rack at a target frame, locking the green set and starting validation. -/
  | setRack (t : Nat) (who : Path) (v : Nat)
  /-- SET_RACK_CANCEL (R47): Cancels a rack in VALIDATING or SCHEDULED in single mode, otherwise refused with STATE. -/
  | setRackCancel (t : Nat) (who : Path) (v : Nat)
  /-- SET_DISCARD (R41): Copies every bright value into the green set while no rack is in progress. -/
  | setDiscard (t : Nat) (who : Path) (v : Nat)
  /-- SET_VALIDATE (R42): Starts or restarts validation of the green set without racking. -/
  | setValidate (t : Nat) (who : Path) (v : Nat)
  /-- SET_VALIDATION_DONE (R42): Green-set validation completes with pass, fail or stale; in a rack it computes F and moves to SCHEDULED, AGREEING or IDLE. -/
  | setValidationDone (t : Nat)
  /-- RACK_AGREE_TIMEOUT (R44): A rack in AGREEING reaches ⟨F−2:0⟩ without the partner's answer and ends TWIN_TIMEOUT. -/
  | rackAgreeTimeout (t : Nat)
  /-- RACK_SWAP (R44): At ⟨F−1:32·Hb⟩ the green set becomes the bright set for frame F onward, templates and segment list are rebuilt and the rack enters RESEEDING. -/
  | rackSwap (t : Nat)
  /-- RESEED_COMPLETE (R46): The reseeding copy completes and the green set is unlocked, returning the rack to IDLE. -/
  | reseedComplete (t : Nat)
  /-- SET_SAVE (R48): Snapshots the bright set at the next line boundary and starts writing it to a Cask slot. -/
  | setSave (t : Nat) (who : Path) (v : Nat)
  /-- SET_SAVE_DONE (R48): A set save to the Cask completes or fails, setting SET_SAVE_STATUS and FLR_PERSIST_STATUS. -/
  | setSaveDone (t : Nat) (written : Bool)
  /-- SET_LOAD (R49): Starts replacing the whole green set with a Cask slot image. -/
  | setLoad (t : Nat) (who : Path) (v : Nat)
  /-- SET_LOAD_DONE (R49): A set load from the Cask completes, with the Floor Map flagged absent when the image lacks it. -/
  | setLoadDone (t : Nat)
  /-- BOOT_RACK_REQUEST (R40): Once canvas lock is set, and the twin listen has ended, the Maltster requests the boot rack with target frame 0 for a valid boot slot. -/
  | bootRackRequest (t : Nat)
  /-- HELLO (R53): A Strel HELLO opens a provisional session and is answered with a CHALLENGE, or refused with SESSION_FULL or AUTH_LOCKED. -/
  | hello (t : Nat) (m : StrelMsg)
  /-- PROOF (R53): A Strel PROOF is verified against the access key, granting the session or answering AUTH_FAIL. -/
  | proof (t : Nat) (m : StrelMsg)
  /-- PROOF_TIMEOUT (R53): No PROOF arrives within 5 s of the CHALLENGE and the provisional session ID is discarded. -/
  | proofTimeout (t : Nat) (id : Nat)
  /-- AUTH_LOCK_EXPIRY (R54): The 60 s lock of a key slot ends. -/
  | authLockExpiry (t : Nat) (role slot : Nat)
  /-- CLOSE (R57): A Strel CLOSE ends the session. -/
  | close (t : Nat) (m : StrelMsg)
  /-- PING (R57): A Strel PING keeps the session alive. -/
  | ping (t : Nat) (m : StrelMsg)
  /-- READ (R52): A Strel READ returns an object value or DOMAIN bytes from an offset, with sequence checking of R56. -/
  | read (t : Nat) (m : StrelMsg)
  /-- WRITE (R52): A Strel WRITE writes an object value or a DOMAIN fragment, with sequence checking of R56. -/
  | write (t : Nat) (m : StrelMsg)
  /-- READ_ROWS (R52): A Strel READ_ROWS returns COUNT rows of a fixed-size table object. -/
  | readRows (t : Nat) (m : StrelMsg)
  /-- WRITE_ROWS (R52): A Strel WRITE_ROWS writes all COUNT rows of a fixed-size table object or none. -/
  | writeRows (t : Nat) (m : StrelMsg)
  /-- DESCRIBE (R52): A Strel DESCRIBE returns the type, access, role, size, rows and name of an object. -/
  | describe (t : Nat) (m : StrelMsg)
  /-- SUBSCRIBE (R58): A Strel SUBSCRIBE selects the notice classes sent to the session. -/
  | subscribe (t : Nat) (m : StrelMsg)
  /-- SESSION_IDLE_TIMEOUT (R57): A Strel session closes after 60 s without an executed or repeated request. -/
  | sessionIdleTimeout (t : Nat) (id : Nat)
  /-- SET_SESSION_KILL (R57): Closes the Strel session with the given ID. -/
  | setSessionKill (t : Nat) (who : Path) (v : Nat)
  /-- SET_STREL_PORT (R57): Changes the Strel UDP port and closes every Strel session. -/
  | setStrelPort (t : Nat) (who : Path) (v : Nat)
  /-- CAN_USDO_TRANSFER (R60): A unicast USDO request is served as an expedited or segmented object access, or aborted with the code of Table 2-1. -/
  | canUsdoTransfer (t : Nat) (unicast : Bool) (index sub : Nat) (data : Option Bytes)
  /-- NMT_START (R61): The NMT start command moves CAN communication to OPERATIONAL. -/
  | nmtStart (t : Nat)
  /-- NMT_STOP (R61): The NMT stop command moves CAN communication to STOPPED, ceasing USDO and EMCY. -/
  | nmtStop (t : Nat)
  /-- NMT_ENTER_PRE_OPERATIONAL (R61): The NMT command moves CAN communication to PRE-OPERATIONAL. -/
  | nmtEnterPreOperational (t : Nat)
  /-- NMT_RESET_COMMUNICATION (R61): Re-initialises the CAN communication objects, returns the CAN role to VIEWER and clears ROW_SELECT values. -/
  | nmtResetCommunication (t : Nat)
  /-- NMT_RESET_NODE (R61): Acts as reset communication on the CAN path only, without resetting the device. -/
  | nmtResetNode (t : Nat)
  /-- CAN_HEARTBEAT (R60): The producer heartbeat timer expires and a heartbeat is sent. -/
  | canHeartbeat (t : Nat)
  /-- SET_CAN_NONCE (R63): A read returns a fresh 32-byte nonce and voids the previous one. -/
  | setCanNonce (t : Nat) (who : Path)
  /-- CAN_NONCE_EXPIRY (R63): A CAN nonce not used within 5 s becomes void. -/
  | canNonceExpiry (t : Nat)
  /-- SET_CAN_PROOF (R63): Verifies the CAN unlock proof and raises the CAN role, or aborts with AUTH_FAIL. -/
  | setCanProof (t : Nat) (who : Path) (data : Bytes)
  /-- SET_CAN_LOCK (R63): Returns the CAN role to VIEWER. -/
  | setCanLock (t : Nat) (who : Path) (v : Nat)
  /-- CAN_ROLE_TIMEOUT (R63): The CAN role returns to VIEWER after 60 s without a USDO request. -/
  | canRoleTimeout (t : Nat)
  /-- TBS_SOURCE (R64): Selects the time reference at once and moves the Timebase from LOCKED to ACQUIRING. -/
  | tbsSource (t : Nat) (who : Path) (v : Nat)
  /-- TBS_TOD_SET (R70): Sets the time of day for sources 1 to 3, as a step before canvas lock or under the step policy after it. -/
  | tbsTodSet (t : Nat) (who : Path) (time80 : Bytes)
  /-- PTP_ANNOUNCE_RX (R65): An Announce is taken by the slave-only best master clock algorithm, selecting the master. -/
  | ptpAnnounceRx (t : Nat) (port domain identity rank announceNs syncNs utcOffset : Nat)
  /-- PTP_SYNC_RX (R66): A Sync updates the servo, which steers frequency and may move the Timebase state. -/
  | ptpSyncRx (t : Nat) (port domain identity seq : Nat) (stampErr : Int) (originNs : Nat) (twoStep : Bool) (tlv : Bytes)
  /-- PTP_FOLLOW_UP_RX (R66): A Follow_Up completes a two-step Sync measurement for the servo. -/
  | ptpFollowUpRx (t : Nat) (port domain identity seq originNs : Nat)
  /-- PTP_DELAY_RESP_RX (R65): A Delay_Resp completes an end-to-end path delay measurement. -/
  | ptpDelayRespRx (t : Nat) (port domain identity seq receivedNs : Nat)
  /-- PTP_DELAY_REQ (R65): The Timebase sends a Delay_Req at its interval, except in SAFE. -/
  | ptpDelayReq (t : Nat)
  /-- PPS_IN_EDGE (R64): A rising edge on PPS_IN marks a whole second for the servo. -/
  | ppsInEdge (t : Nat)
  /-- FRAME_IN_EDGE (R64): A rising edge on FRAME_IN marks line 0 of a frame for the servo. -/
  | frameInEdge (t : Nat)
  /-- REFERENCE_LOST (R67): The selected reference is lost by timeout and the Timebase enters HOLDOVER or FREE. -/
  | referenceLost (t : Nat)
  /-- HOLDOVER_LIMIT (R67): Holdover reaches TBS_HOLDOVER_LIMIT and the Timebase enters FREE with a fault. -/
  | holdoverLimit (t : Nat)
  /-- TOD_WAIT_EXPIRY (R70): TBS_TOD_WAIT_S passes without a write and canvas lock is allowed from the count since release. -/
  | todWaitExpiry (t : Nat)
  /-- TIME_STEP (R78): A step is applied at line 0 of the next frame, device time jumps, the raster enters a gap and scheduled work is moved. -/
  | timeStep (t : Nat)
  /-- RASTER_GAP_END (R76): A raster gap ends at the next aligned frame boundary and instants that fell in the gap fire. -/
  | rasterGapEnd (t : Nat)
  /-- TBS_CAL_W0 (R87): Holds a calendar word 0 for the writing session without altering the row. -/
  | tbsCalW0 (t : Nat) (who : Path) (row v : Nat)
  /-- TBS_CAL_W1 (R87): Applies word 1, together with any held word 0, to a calendar row in one indivisible change. -/
  | tbsCalW1 (t : Nat) (who : Path) (row v : Nat)
  /-- CAL_HELD_W0_EXPIRY (R87): A held calendar word 0 is discarded after 1 s without its W1. -/
  | calHeldW0Expiry (t : Nat) (who : Path) (row : Nat)
  /-- GPIO_SET (R455): A calendar entry fires and writes a GPIO bit of PWR_GPIO_OUT. -/
  | gpioSet (t : Nat) (row : Nat)
  /-- GPIO_PULSE (R455): A calendar entry fires and sets a GPIO bit of PWR_GPIO_OUT for one line. -/
  | gpioPulse (t : Nat) (row : Nat)
  /-- GPIO_PULSE_END (R455): One line after a GPIO pulse the bit is cleared. -/
  | gpioPulseEnd (t : Nat) (pin : Nat)
  /-- TALLY_SET (R81): A calendar entry fires and writes the TALLY value. -/
  | tallySet (t : Nat) (row : Nat)
  /-- CAL_MARK (R81): A calendar entry fires and writes CAL_MARK with its argument to the Brew Log. -/
  | calMark (t : Nat) (row : Nat)
  /-- FLOW_PACKET_RX (R92): An ST 2110-20 packet for a flow is merged by path, checked and written into its Steep ring entry, or discarded and counted. -/
  | flowPacketRx (t : Nat) (flow : Nat) (pathB : Bool) (seq ts : Nat) (payload : Bytes)
  /-- FRAME_BUFFER_COPY (R95): A complete staging-ring line of a FRAME-mode flow is copied into its frame buffer. -/
  | frameBufferCopy (t : Nat) (flow line : Nat)
  /-- ROW_SAMPLE_POINT (R94): At the sample point of a CTU row the present and missing source lines are decided and composition of the row starts. -/
  | rowSamplePoint (t : Nat) (row : Nat) (unreadable : List (Nat × Nat × Nat))
  /-- ROW_COMPOSITION_DONE (R103): Composition of a CTU row completes, composed CTUs are written and raw-egress packets of the row are built. -/
  | rowCompositionDone (t : Nat) (row : Nat) (parity : List Nat)
  /-- COMPOSITION_LIMIT (R103): A row not composed 32 line periods after its sample point has its remaining CTUs lost and reports DEADLINE_MISS. -/
  | compositionLimit (t : Nat) (row : Nat) (late : LateRow)
  /-- CMP_STILL_DESC (R100): A still descriptor write clears VALID, releases and reallocates space in the Compositor area. -/
  | cmpStillDesc (t : Nat) (who : Path) (row v : Nat)
  /-- CMP_STILL_DATA (R100): Loads the pixel data of a still, setting VALID when the full length arrives. -/
  | cmpStillData (t : Nat) (who : Path) (row : Nat) (data : Bytes)
  /-- SEGMENT_COMPOSED (R166): The Compositor's composed-segment report reaches the Dispatcher and may make the segment ready. -/
  | segmentComposed (t : Nat) (seg : Nat) (done : ComposedRow)
  /-- SEGMENT_ASSIGN (R167): The Dispatcher assigns the first ready segment to a free Tun with a ticket, an assignment record and a Taster context. -/
  | segmentAssign (t : Nat) (unreadable : List Nat)
  /-- NEXT (R146): A recipe step continues at cur + 1. -/
  | nextStep (t : Nat) (tun : Nat)
  /-- BRANCH (R146): A recipe step branches within its page on the selected condition bits. -/
  | branchStep (t : Nat) (tun : Nat)
  /-- JUMP (R146): A recipe step jumps to the start of a page. -/
  | jumpStep (t : Nat) (tun : Nat)
  /-- CALL (R146): A recipe step pushes cur + 1 and jumps to a page, faulting on a ninth nested push. -/
  | callStep (t : Nat) (tun : Nat)
  /-- RETURN (R146): A recipe step pops the call stack. -/
  | returnStep (t : Nat) (tun : Nat)
  /-- YIELD (R155): A yield step takes any pending attention event, acting on ABORT, RESPARE, CONTEXT and RECALL. -/
  | yieldStep (t : Nat) (tun : Nat)
  /-- LOOP (R146): A recipe step decrements a loop counter and branches back while it is not zero. -/
  | loopStep (t : Nat) (tun : Nat)
  /-- END (R146): A recipe step completes the task and returns the sequencer to the idle entry. -/
  | endStep (t : Nat) (tun : Nat)
  /-- COMMIT (R156): The Tun sends its commit record with its ticket to the Dispatcher. -/
  | commit (t : Nat) (tun : Nat) (slice : Bytes) (spent : Bool) (trims floors : Nat)
  /-- YIELD_WATCHDOG (R154): 2,048 cycles pass without a yield step, the sequencer stops and the task is poisoned. -/
  | yieldWatchdog (t : Nat) (tun : Nat)
  /-- TUN_KEG_RETRY (R157): A Tun held by a dry Keg pool retries its Kilderkin request every 64 cycles. -/
  | tunKegRetry (t : Nat) (tun : Nat)
  /-- TUN_POISON (R159): A Tun detects a poisoning fault, reports it and drains, or goes from READY to SELFTEST when it holds no task. -/
  | tunPoison (t : Nat) (tun kind detail : Nat)
  /-- TUN_BIST_DONE (R162): A Tun BIST completes and the Tun becomes READY or FAILED. -/
  | tunBistDone (t : Nat) (tun phase : Nat)
  /-- TUN_SELFTEST (R163): Requests BIST of a Tun, run at once or queued for rotation. -/
  | tunSelftest (t : Nat) (who : Path) (v : Nat)
  /-- TUN_REINSTATE (R158): Returns a FAILED or RETIRED Tun with a recent PASS to READY. -/
  | tunReinstate (t : Nat) (who : Path) (v : Nat)
  /-- TUN_PATCH_IMAGE (R152): Checks a signed recipe patch image and stages it. -/
  | tunPatchImage (t : Nat) (who : Path) (image : Bytes)
  /-- TUN_PATCH_APPLY (R153): Schedules the staged recipe patch switch at a frame computed as for a rack. -/
  | tunPatchApply (t : Nat) (who : Path) (v : Nat)
  /-- TUN_PATCH_REMOVE (R153): Schedules a switch to an empty patch bank. -/
  | tunPatchRemove (t : Nat) (who : Path) (v : Nat)
  /-- PATCH_SWITCH (R153): At frame F the staged image is loaded into the free bank of every Tun and later assignments name it. -/
  | patchSwitch (t : Nat)
  /-- POISON_REPORT (R171): The Dispatcher revokes the ticket of a poisoned task, posts RESPARE and requeues the segment, or makes it a fallback at the respare limit. -/
  | poisonReport (t : Nat) (tun : Nat)
  /-- SEGMENT_DEADLINE (R173): A segment's deadline count reaches zero without commit and SEGMENT_LATE is reported. -/
  | segmentDeadline (t : Nat) (seg y : Nat)
  /-- SEGMENT_HARD_LIMIT (R174): A late segment reaches its hard limit, is aborted and becomes a fallback segment. -/
  | segmentHardLimit (t : Nat) (seg y : Nat)
  /-- FALLBACK_TIMEOUT (R175): A fallback segment not committed 32 line boundaries after it became one reports DEADLINE_MISS code 3 and SAFE follows. -/
  | fallbackTimeout (t : Nat) (seg y : Nat)
  /-- TUN_ROTATE (R178): At a rotation instant one Tun is marked for rotation into self-test, or the rotation is skipped. -/
  | tunRotate (t : Nat)
  /-- GOVERNOR_TICK (R180): Every 1 ms the thermal governor reads Tj and may request an effort change. -/
  | governorTick (t : Nat)
  /-- DSP_EFFORT_CAP (R183): Sets the effort cap and requests an effort change. -/
  | dspEffortCap (t : Nat) (who : Path) (v : Nat)
  /-- EFFORT_CHANGE (R181): At ⟨F−1:32·Hb⟩ an effort change takes effect for frame F and CONTEXT is posted to every Tun. -/
  | effortChange (t : Nat)
  /-- EFFORT_AGREE_TIMEOUT (R182): An effort change not agreed before ⟨F−2:0⟩ is proposed again for a new frame. -/
  | effortAgreeTimeout (t : Nat)
  /-- CLOCK_GROUP_ENABLE (R184): A Tun clock group is released from GATED at start-up and its Tuns begin BIST. -/
  | clockGroupEnable (t : Nat) (group : Nat)
  /-- RAK_NUDGE (R205): Requests a refresh nudge for a receiver entry. -/
  | rakNudge (t : Nat) (who : Path) (v : Nat)
  /-- REFRESH_NUDGE (R205): A scheduled nudge start takes effect at ⟨Fn−1:32·Hb⟩. -/
  | refreshNudge (t : Nat) (seg : Nat)
  /-- NUDGE_AGREE_TIMEOUT (R206): A nudge start not agreed before ⟨Fn−2:0⟩ is proposed again with a fresh Fn. -/
  | nudgeAgreeTimeout (t : Nat) (seg : Nat)
  /-- TASTE_VERDICT (R229): The Taster verdict of a committed task arrives and the Dispatcher accepts or refuses the commit record. -/
  | tasteVerdict (t : Nat) (tun verdict : Nat)
  /-- TASTE_WINDOW_END (R229): The taste window ends, the lane abandons the slice and the verdict is PARTIAL. -/
  | tasteWindowEnd (t : Nat) (tun decoded : Nat)
  /-- TASTE_MISMATCH (R230): A Taster check fails, poisoning the task and starting the lane's known-answer test. -/
  | tasteMismatch (t : Nat) (tun check : Nat)
  /-- LANE_KAT_DONE (R230): A Taster lane's known-answer slices complete and it returns to service or retires. -/
  | laneKatDone (t : Nat) (lane : Nat) (passed : Bool)
  /-- TASTE_COVERAGE (R231): Each second the taste coverage is computed and logged when it leaves or returns to 1,000. -/
  | tasteCoverage (t : Nat)
  /-- SEGMENT_ASSEMBLE (R210): The Assembler takes an accepted commit, computes the digest, sends it to the partner and builds and hands over the packets. -/
  | segmentAssemble (t : Nat) (ecc : Nat)
  /-- ASM_KEG_RETRY (R225): The Assembler retries a dry Pin request every 100 ns. -/
  | asmKegRetry (t : Nat)
  /-- ASM_DRY_LIMIT (R225): A packet without a buffer after ASM_DRY_LIMIT_NS is dropped with the rest of its segment or group, with a gap marker in single mode. -/
  | asmDryLimit (t : Nat)
  /-- TWIN_HOLD_EXPIRY (R240): A segment waiting for the partner's digest reaches its deadline plus TWN_HOLD_NS and is emitted unverified. -/
  | twinHoldExpiry (t : Nat) (frame seg y : Nat)
  /-- HEARTBEAT_TX (R237): Every 10 µs a HEARTBEAT is sent on both twin ports. -/
  | heartbeatTx (t : Nat)
  /-- HEARTBEAT (R243): A received HEARTBEAT updates link state and the pair conditions, silencing a device after 1 ms of failure. -/
  | heartbeat (t : Nat) (m : TwinMsg)
  /-- TWIN_LINK_DOWN (R237): Five intervals pass without a valid twin frame and the link is down. -/
  | twinLinkDown (t : Nat)
  /-- DIGESTS (R239): Received digest records are paired and compared, releasing verified segments or arbitrating a mismatch. -/
  | digests (t : Nat) (m : TwinMsg)
  /-- DIGEST_MISSING (R239): A partner record has not arrived by ⟨F+2:0⟩ and is counted missing. -/
  | digestMissing (t : Nat) (frame : Nat)
  /-- PROPOSE (R246): A received proposal is confirmed, held, refused or combined with a crossing proposal. -/
  | propose (t : Nat) (m : TwinMsg)
  /-- PROPOSE_REPEAT (R246): An unanswered proposal is repeated every 100 µs. -/
  | proposeRepeat (t : Nat)
  /-- ANSWER (R246): A received answer completes, adopts a later frame for, or refuses an agreement. -/
  | answer (t : Nat) (m : TwinMsg)
  /-- SILENCE (R244): A received SILENCE frame records the partner's silence. -/
  | silence (t : Nat) (m : TwinMsg)
  /-- TWIN_REJOIN (R245): Once all rejoin conditions hold, a silenced device sends REJOIN with FR = F + 2. -/
  | twinRejoin (t : Nat)
  /-- REJOIN (R245): A received REJOIN schedules the partner's return to PAIRED at ⟨FR:0⟩. -/
  | rejoin (t : Nat) (m : TwinMsg)
  /-- REJOIN_LINE (R245): At ⟨FR:0⟩ the rejoining device resumes transmission and both enter PAIRED. -/
  | rejoinLine (t : Nat)
  /-- SYNC_REQ (R249): A received SYNC_REQ is answered within 1 ms with SYNC fragments for FJ. -/
  | syncReq (t : Nat) (m : TwinMsg)
  /-- SYNC (R249): A received SYNC fragment delivers the coding and nudge state for joining. -/
  | sync (t : Nat) (m : TwinMsg)
  /-- SYNC_REQ_RETRY (R249): A JOINING device whose set differs sends SYNC_REQ again every 1 s. -/
  | syncReqRetry (t : Nat)
  /-- SYNC_APPLY (R249): At FJ the joining device racks alone with the synchronised state and enters SILENCED with cause JOIN. -/
  | syncApply (t : Nat)
  /-- PAIRING_LISTEN_END (R249): The 20 ms twin listen after canvas lock ends and the device agrees the boot rack, joins or racks alone. -/
  | pairingListenEnd (t : Nat)
  /-- TWIN_OK_IN_CHANGE (R247): TWIN_OK_IN changes after its 20 µs filter and partner presence is concluded, possibly entering SOLO. -/
  | twinOkInChange (t : Nat) (high : Bool)
  /-- TWN_SILENCE_SET (R244): Writing 1 to TWN_SILENCE silences the device with cause MANUAL. -/
  | twnSilenceSet (t : Nat) (who : Path)
  /-- TWN_SILENCE_CLEAR (R245): Writing 0 to TWN_SILENCE removes the MANUAL cause. -/
  | twnSilenceClear (t : Nat) (who : Path)
  /-- TWN_KEY (R422): Writes the wrapped twin key, unwrapped with the session pad. -/
  | twnKey (t : Nat) (who : Path) (seq : Nat) (data : Bytes)
  /-- DECODE_PACKET_RX (R256): An RTP packet of a decode stream is merged, reordered and depacketised into the coded picture buffer. -/
  | decodePacketRx (t : Nat) (stream : Nat) (pathB : Bool) (seq pt ts : Nat) (marker : Bool) (payload : Bytes)
  /-- REORDER_TIMEOUT (R256): Missing sequence numbers are declared lost after FIN_REORDER_US and later packets are released. -/
  | reorderTimeout (t : Nat) (stream : Nat)
  /-- DECODE_ITEM_ASSIGN (R261): A ready decode work item is assigned to a Tun within the decode tickets. -/
  | decodeItemAssign (t : Nat)
  /-- COMPLETION_ITEM (R261): After the last item of a picture commits, concealment, filtering, the dirty map and picture release run. -/
  | completionItem (t : Nat) (stream : Nat)
  /-- LNK_PORT_WRITE (R278): A port table write takes effect at once, restarting the port when EN, MODE, FEC, MEDIUM or TWIN change. -/
  | lnkPortWrite (t : Nat) (who : Path) (row word v : Nat)
  /-- AN_COMPLETE (R281): The Clause 73 exchange ends with matching abilities, starting training, or goes down with cause 4. -/
  | anComplete (t : Nat) (port : Nat) (partner : Option Nat)
  /-- TRAINING_DONE (R281): Link training ends, starting the PCS or going down with cause 5. -/
  | trainingDone (t : Nat) (port : Nat) (failed : Option Nat)
  /-- ALIGN_LOCK (R281): Block, alignment-marker, deskew and FEC lock are reached and the port enters HOLD. -/
  | alignLock (t : Nat) (port : Nat)
  /-- ALIGN_TIMEOUT (R281): Alignment is not achieved within 500 ms and the port goes DOWN. -/
  | alignTimeout (t : Nat) (port : Nat) (why : AlignFailure)
  /-- HOLD_EXPIRY (R281): HOLD passes without fault, the port goes UP, logs LINK_UP and fails back. -/
  | holdExpiry (t : Nat) (port : Nat)
  /-- PORT_FAULT (R282): A port-down cause is detected, the port goes DOWN, reports LANE_DOWN and fails over. -/
  | portFault (t : Nat) (port cause lane : Nat)
  /-- PORT_RETRY (R281): LNK_RETRY_MS passes and a DOWN port restarts bring-up. -/
  | portRetry (t : Nat) (port : Nat)
  /-- FEC_WINDOW (R283): At the end of each 1 s window the RS-FEC reports degradation and uncorrectable codewords. -/
  | fecWindow (t : Nat) (port corrected received uncorrectable : Nat)
  /-- PRBS_STOP (R280): LNK_LANE_PRBS 0 stops a lane test. -/
  | prbsStop (t : Nat) (who : Path) (lane errors : Nat)
  /-- PRBS_START (R280): LNK_LANE_PRBS 1 sends and checks PRBS31 on a lane. -/
  | prbsStart (t : Nat) (who : Path) (lane : Nat)
  /-- PRBS_LOOPBACK (R280): LNK_LANE_PRBS 2 runs PRBS31 through near-end PMA loopback. -/
  | prbsLoopback (t : Nat) (who : Path) (lane : Nat)
  /-- RX_FRAME (R287): A received frame is timestamped, classified, policed and passed to its unit or discarded. -/
  | rxFrame (t : Nat) (port : Nat) (fcsGood : Bool) (frame : Bytes)
  /-- PUNT_FRAME (R289): The Maltster answers a punted ARP, neighbour discovery, ICMP or IGMP/MLD frame. -/
  | puntFrame (t : Nat)
  /-- NEXT_HOP_RESOLVE (R290): Next hops of unicast tap paths are resolved every LNK_RESOLVE_S seconds. -/
  | nextHopResolve (t : Nat) (replies : List (Nat × Nat × Nat))
  /-- TAP_OFFER (R309): A producer offers a packet to a tap class queue, taken, held by credit, dropped or flushed. -/
  | tapOffer (t : Nat) (tap : Nat)
  /-- WHEEL_SLOT (R313): A calendar wheel slot is reached and its paths become eligible on their ports. -/
  | wheelSlot (t : Nat)
  /-- WHEEL_SCAN (R313): Every 65,536 ns heads more than a rotation ahead are placed on the wheel once in range. -/
  | wheelScan (t : Nat)
  /-- PACKET_DEPART (R314): A packet chosen by the port scheduler starts on the wire, is sent or discarded by Table 13-2 and retained. -/
  | packetDepart (t : Nat) (port : Nat)
  /-- MONITOR_DISCARD (R316): A MONITOR packet waiting longer than 1 ms on a hierarchical port is discarded. -/
  | monitorDiscard (t : Nat) (port : Nat)
  /-- WINDOW_AGE (R317): The rewind mark of a retransmission window advances past packets older than TAP_WIN_AGE_US. -/
  | windowAge (t : Nat) (tap : Nat)
  /-- RTCP_NACK (R318): A received RTCP packet is parsed and each NACKed number is repaired, ignored or unserved with a nudge request. -/
  | rtcpNack (t : Nat) (data : Bytes)
  /-- SENDER_REPORT (R320): At ⟨F:0⟩ of every TAP_SR_FRAMES-th frame a tap sends an RTCP sender report. -/
  | senderReport (t : Nat) (tap : Nat)
  /-- TAP_FLUSH (R312): Sets or clears the flush of a tap, discarding its queued and offered packets. -/
  | tapFlush (t : Nat) (who : Path) (row v : Nat)
  /-- QDR_SCRUB (R328): The QDR patrol scrub reads the next word, correcting or reporting errors. -/
  | qdrScrub (t : Nat) (channel result : Nat)
  /-- DDR_SCRUB (R331): The DDR patrol scrub reads the next burst, correcting or reporting errors. -/
  | ddrScrub (t : Nat) (channel result lane part : Nat)
  /-- QDR_MARGIN_LOW (R329): A QDR channel's tracked margin falls below the limit and it is queued for retraining. -/
  | qdrMarginLow (t : Nat) (channel : Nat)
  /-- QDR_IMMEDIATE_RETRAIN (R329): Sixteen uncorrectable words in 1 ms start an immediate 6 µs QDR retraining. -/
  | qdrImmediateRetrain (t : Nat) (channel : Nat)
  /-- QDR_RETRAIN_DONE (R329): A QDR retraining ends, applying settings or entering SAFE on TRAIN_FAIL. -/
  | qdrRetrainDone (t : Nat) (channel : Nat) (trained : Bool)
  /-- RETRAIN_PAUSE (R343): A retraining pause takes one channel through the emergency requester and posts its writes. -/
  | retrainPause (t : Nat)
  /-- RETRAIN_DONE (R343): A DDR retraining pause ends, applying better settings and draining posted writes, or retiring the channel. -/
  | retrainDone (t : Nat) (trained : Bool)
  /-- MEM_RETRAIN (R344): Queues a QDR or DDR channel for retraining in the next pause. -/
  | memRetrain (t : Nat) (who : Path) (v : Nat)
  /-- SELF_REFRESH_ENTRY (R341): An idle DDR channel enters self-refresh and stops its clocks. -/
  | selfRefreshEntry (t : Nat) (channel : Nat)
  /-- SELF_REFRESH_EXIT (R341): A request restarts a self-refreshing channel's clocks, retraining if the temperature moved. -/
  | selfRefreshExit (t : Nat) (channel : Nat)
  /-- DDR_REFRESH (R340): A same-bank refresh falls due, pulled in, postponed or made an emergency. -/
  | ddrRefresh (t : Nat) (channel bank choice : Nat)
  /-- DRAM_TEMP_READ (R340): Every 32 ms the DRAM temperature register is read and the refresh interval set. -/
  | dramTempRead (t : Nat) (channel : Nat) (hot : Bool)
  /-- PAGE_CLOSE (R337): An open page idle for MEM_DD_PAGE_IDLE_NS is closed. -/
  | pageClose (t : Nat) (channel bank : Nat)
  /-- ARBITRATION (R353): In the last beat of a grant the arbiter chooses the next requester by priority, age, panic and fairness. -/
  | arbitration (t : Nat) (channel : Nat) (requests : List Nat) (panic emergency : Bool) (beat : ChannelBeat)
  /-- MEM_ARB_PRIO (R356): Changes a requester's base priority from the next arbitration. -/
  | memArbPrio (t : Nat) (who : Path) (row v : Nat)
  /-- MEM_GR_SELFTEST (R352): Requests a test of a Grist bank, which stops placing staging lines there. -/
  | memGrSelftest (t : Nat) (who : Path) (v : Nat)
  /-- GRIST_TEST_START (R352): Once no staging line remains in the bank it is invalidated, redirected and tested. -/
  | gristTestStart (t : Nat) (bank : Nat)
  /-- GRIST_TEST_DONE (R352): A Grist bank test completes and the bank returns to service or is retired. -/
  | gristTestDone (t : Nat) (bank : Nat) (passed : Bool)
  /-- DESCRIPTOR_POST (R363): A Sparge descriptor is posted to a channel and checked before its first access. -/
  | descriptorPost (t : Nat) (channel : Nat) (words : List Nat)
  /-- REQ_ASSERT (R366): A request source asserts and a channel in WAIT_REQ issues its burst. -/
  | reqAssert (t : Nat) (source : Nat)
  /-- BURST_ISSUE (R365): The issue stage issues one burst from the chosen channel. -/
  | burstIssue (t : Nat) (asserted : List Nat)
  /-- BURST_FAIL (R367): A burst returns an error tag or times out, and is retried or the channel halts with BUS_ERR. -/
  | burstFail (t : Nat) (channel : Nat) (timeout : Bool)
  /-- BURST_RETRY (R367): 1 µs after a failure the burst is reissued. -/
  | burstRetry (t : Nat) (channel : Nat)
  /-- DESCRIPTOR_DONE (R368): A descriptor completes after its writes and optional read-back, raising its interrupt and fetching the next. -/
  | descriptorDone (t : Nat) (channel : Nat)
  /-- CHANNEL_RESUME (R367): The firmware resumes a halted channel, reissuing the failed burst. -/
  | channelResume (t : Nat) (channel : Nat)
  /-- CHANNEL_ABORT (R368): An abort ends a descriptor after the burst in flight with status ABORTED. -/
  | channelAbort (t : Nat) (channel : Nat)
  /-- SPG_DIAG_DESC (R360): Runs a diagnostic descriptor on channel 31 within its SRAM window. -/
  | spgDiagDesc (t : Nat) (who : Path) (data : Bytes)
  /-- ALLOCATE (R371): A Keg allocation request is granted the lowest free buffer or answered DRY. -/
  | allocate (t : Nat) (port size : Nat) (spill : Bool) (cycle : KegCycle)
  /-- ALLOCATE_SPILL (R372): A spilled allocation competes in the next larger pool in the following cycle. -/
  | allocateSpill (t : Nat) (port pool ecc : Nat)
  /-- FREE (R374): A holder frees a Keg buffer, decrementing its use count. -/
  | freeKeg (t : Nat) (port handle ecc : Nat)
  /-- TAKE (R374): A unit takes a Keg buffer, incrementing its use count. -/
  | take (t : Nat) (port handle ecc : Nat)
  /-- PUSH (R377): A producer pushes a whole message onto a wort line, in credit or drop mode. -/
  | push (t : Nat) (line : Nat) (words : List Nat)
  /-- POP (R376): A consumer pops a word from a wort line, correcting or flagging errors. -/
  | pop (t : Nat) (line ecc : Nat)
  /-- WRT_FLUSH_SET (R379): Writing 1 to WRT_FLUSH discards the unstarted messages of a drop-mode line. -/
  | wrtFlushSet (t : Nat) (who : Path) (line : Nat)
  /-- WRT_FLUSH_CLEAR (R379): Writing 0 to WRT_FLUSH places a marker and accepts messages again. -/
  | wrtFlushClear (t : Nat) (who : Path) (line : Nat)
  /-- FAULT_MESSAGE (R386): The collector accepts a fault message, checks, stamps, latches, logs, notifies and applies its reaction. -/
  | faultMessage (t : Nat) (damaged parity : Bool)
  /-- COLLECTOR_SELFTEST (R393): Every CWT_SELFTEST_S seconds a known message is passed through the collector and checked. -/
  | collectorSelftest (t : Nat) (passed : Bool)
  /-- SAFE_ENTRY (R395): The SAFE signal stops taps and lanes, releases HEALTHY, revokes tickets and records the cause. -/
  | safeEntry (t : Nat)
  /-- CWT_SAFE_ENTER (R395): Writing 1 reports SAFE_COMMANDED and drives the device into SAFE. -/
  | cwtSafeEnter (t : Nat) (who : Path) (v : Nat)
  /-- CLEAR_REAL_LATCH (R391): CWT_CLEAR bit 0 empties the real first-error latch and logs LATCH_CLEARED. -/
  | clearRealLatch (t : Nat) (who : Path)
  /-- CLEAR_INJECTED_LATCH (R391): CWT_CLEAR bit 1 empties the injected latch and logs LATCH_CLEARED. -/
  | clearInjectedLatch (t : Nat) (who : Path)
  /-- ACK_CLASS (R399): A CWT_ACK class bit acknowledges the faults of that class for interrupt sources 8 to 15. -/
  | ackClass (t : Nat) (who : Path) (cls : Nat)
  /-- ACK_COLLECTOR_SELF (R399): CWT_ACK bit 7 acknowledges the COLLECTOR_SELF interrupt source. -/
  | ackCollectorSelf (t : Nat) (who : Path)
  /-- INJECT_COLLECT (R396): CWT_INJECT with AT 0 enters an injected message into the collector only. -/
  | injectCollect (t : Nat) (who : Path) (data : Bytes)
  /-- INJECT_ACT (R396): CWT_INJECT with AT 1 enters an injected message and the named unit acts as on its own detection. -/
  | injectAct (t : Nat) (who : Path) (data : Bytes)
  /-- FORCE_TUN_FAULT (R397): CWT_FORCE code 1 poisons a Tun's task at its next yield, or acts on the idle Tun at once. -/
  | forceTunFault (t : Nat) (who : Path) (target : Nat)
  /-- FORCE_LANE_LOSS (R397): CWT_FORCE code 2 takes a lane's port DOWN with cause 1. -/
  | forceLaneLoss (t : Nat) (who : Path) (target : Nat)
  /-- FORCE_TASTER_MISMATCH (R397): CWT_FORCE code 3 makes the lane's next verdict FAIL with check code 3. -/
  | forceTasterMismatch (t : Nat) (who : Path) (target : Nat)
  /-- FORCE_TWIN_DIGEST (R397): CWT_FORCE code 4 inverts a bit of the next digest record sent. -/
  | forceTwinDigest (t : Nat) (who : Path)
  /-- FORCE_DEADLINE_MISS (R397): CWT_FORCE code 5 treats the next segment reaching its deadline as at its hard limit. -/
  | forceDeadlineMiss (t : Nat) (who : Path)
  /-- ICU_SRC (R400): Configures the priority and target of a routable interrupt source. -/
  | icuSrc (t : Nat) (who : Path) (row v : Nat)
  /-- ICU_EXT_CLAIM (R401): A claim read of EXTERNAL returns the best candidate, pushes its priority and may storm-mask it. -/
  | icuExtClaim (t : Nat) (who : Path)
  /-- ICU_EXT_EOI (R402): An EOI pops the running priority and clears the claim, or is counted as an error. -/
  | icuExtEoi (t : Nat) (who : Path) (v : Nat)
  /-- ICU_EXT_MASK (R405): Replaces a 32-bit mask word of the EXTERNAL target. -/
  | icuExtMask (t : Nat) (who : Path) (row v : Nat)
  /-- ICU_EXT_STORM (R405): Replaces a 32-bit storm word of the EXTERNAL target. -/
  | icuExtStorm (t : Nat) (who : Path) (row v : Nat)
  /-- STORM_CLEAR (R405): After 10 ms the firmware clears storm masks for the Maltster targets. -/
  | stormClear (t : Nat)
  /-- EXTERNAL_POLL (R400): Every 1 ms the firmware polls the conditions of sources routed to EXTERNAL. -/
  | externalPoll (t : Nat)
  /-- LOG_WRITE (R409): The Brew Log writer pops a record or marker, assigns SEQ and writes it or a GAP record to the ring. -/
  | logWrite (t : Nat)
  /-- LOG_MARK (R408): Writes a USER_MARK record with the given value. -/
  | logMark (t : Nat) (who : Path) (v : Nat)
  /-- LOG_CHECKPOINT (R411): Records written since the last checkpoint are copied to the Cask checkpoint ring. -/
  | logCheckpoint (t : Nat) (written : Bool)
  /-- SEC_IMAGE (R418): Starts the check of a signed image of types 2 to 6. -/
  | secImage (t : Nat) (who : Path) (image : Bytes)
  /-- IMAGE_CHECK_DONE (R418): A signed image check completes, accepting it or reporting SIG_FAIL with its status. -/
  | imageCheckDone (t : Nat) (stored : Bool)
  /-- FIRMWARE_PATCH (R420): An accepted firmware patch image is stored as the staged patch for the next reset. -/
  | firmwarePatch (t : Nat)
  /-- KEY_REVOKE (R415): An accepted KEY_REVOKE image blows the revocation fuse of a vendor key entry. -/
  | keyRevoke (t : Nat)
  /-- KEY_RESET (R424): An accepted KEY_RESET image empties every slot, restores the claim key and clears locks. -/
  | keyReset (t : Nat)
  /-- VENDOR_GRANT (R425): An accepted VENDOR_GRANT image installs a timed VENDOR key in Maltster SRAM. -/
  | vendorGrant (t : Nat)
  /-- VENDOR_GRANT_EXPIRY (R425): A VENDOR key is erased when its VALID_S seconds of running time pass. -/
  | vendorGrantExpiry (t : Nat) (slot : Nat)
  /-- IDENTITY (R426): An accepted IDENTITY image records Birentari's endorsement of the device keys. -/
  | identity (t : Nat)
  /-- SEC_LIFECYCLE_ADVANCE (R413): Moves MANUFACTURE to DEPLOYED, erasing keys and installing the claim key. -/
  | secLifecycleAdvance (t : Nat) (who : Path) (v : Nat)
  /-- SEC_RETIRE (R413): Moves DEPLOYED to RETIRED, erasing keys and set slots and entering SAFE. -/
  | secRetire (t : Nat) (who : Path) (v : Nat)
  /-- SEC_ROLLBACK_COMMIT (R416): Raises an anti-rollback counter to the SVN of the image in force. -/
  | secRollbackCommit (t : Nat) (who : Path) (v : Nat)
  /-- SEC_KEY_INSTALL (R422): Installs an unwrapped access key in a slot and clears its lock. -/
  | secKeyInstall (t : Nat) (who : Path) (seq : Nat) (data : Bytes)
  /-- SEC_KEY_ERASE (R423): Empties an access key slot unless no BREWER slot would remain. -/
  | secKeyErase (t : Nat) (who : Path) (v : Nat)
  /-- SEC_FW_PATCH_REMOVE (R420): Marks the stored firmware patch for removal at the next reset. -/
  | secFwPatchRemove (t : Nat) (who : Path) (v : Nat)
  /-- SEC_ATT_NONCE (R428): Stores the session's attestation nonce. -/
  | secAttNonce (t : Nat) (who : Path) (data : Bytes)
  /-- SEC_ATT_REPORT (R428): A read at offset 0 signs a new attestation report using the next HSS leaf. -/
  | secAttReport (t : Nat) (who : Path) (offset : Nat)
  /-- BOTTOM_TREE_DONE (R429): Generation of the next attestation bottom tree completes and reports are allowed again. -/
  | bottomTreeDone (t : Nat)
  /-- CASK_SCRUB (R433): The Cask patrol scrub reads and corrects the next word, reporting CASK_ERR. -/
  | caskScrub (t : Nat) (offset result : Nat)
  /-- PORST_N_ASSERT (R451): PORST_N low for 10 µs resets the whole device. -/
  | porstNAssert (t : Nat)
  /-- PORST_N_RELEASE (R452): PORST_N release samples the straps and starts ROM boot. -/
  | porstNRelease (t : Nat) (nodeId twinRole bootSel : Nat)
  /-- BROWNOUT (R443): A rail below its brownout level for 2 µs holds the device in reset. -/
  | brownout (t : Nat) (rail mv : Nat)
  /-- PWR_RESET (R451): Writing the serial number schedules a device reset 10 ms after the response. -/
  | pwrReset (t : Nat) (who : Path) (v : Nat)
  /-- PWR_RESET_DELAY (R451): 10 ms after the PWR_RESET response the device resets. -/
  | pwrResetDelay (t : Nat)
  /-- MALTSTER_WATCHDOG (R451): A Maltster core's watchdog unserviced for 2 s resets the device. -/
  | maltsterWatchdog (t : Nat) (core : Nat)
  /-- SENSOR_READ (R449): Every 1 ms the sixteen sensors are read, Tj computed, life accumulated and warning, critical or trip applied. -/
  | sensorRead (t : Nat) (readings : List Int)
  /-- LIFE_SAVE (R450): Once per hour the equivalent life hours are written to the Cask. -/
  | lifeSave (t : Nat)
  /-- AVS_RAMP_STEP (R445): After ROM boot VOUT_COMMAND is stepped 5 mV each 1 ms towards the target. -/
  | avsRampStep (t : Nat) (acked : Bool)
  /-- AVS_TICK (R445): Every 100 ms the path monitors adjust the core voltage command and read it back. -/
  | avsTick (t : Nat) (slack : Int) (acked : Bool) (readMv readDa : Nat)
  /-- ROM_BOOT_DONE (R452): ROM boot completes and BIST begins, or the Maltster halts on failure. -/
  | romBootDone (t : Nat) (passed osc : Bool)
  /-- BIST_PHASE_DONE (R452): The start-up BIST step completes and the Cask load begins. -/
  | bistPhaseDone (t : Nat) (failedTuns failedBanks failedLanes : List Nat) (othersGood : Bool)
  /-- CASK_LOAD_DONE (R452): The Cask load completes with the set slot in green, and QDR training begins. -/
  | caskLoadDone (t : Nat)
  /-- QDR_TRAINING_DONE (R452): Start-up QDR training completes, or SAFE follows. -/
  | qdrTrainingDone (t : Nat) (failed : List Nat)
  /-- DDR_TRAINING_DONE (R345): Start-up DDR training completes cold or cached, retiring a failed channel or entering SAFE. -/
  | ddrTrainingDone (t : Nat) (verified : Bool) (failed : List Nat)
  /-- LANES_DONE (R298): The lanes step ends when each enabled port is UP or DOWN, or after 300 ms. -/
  | lanesDone (t : Nat)
  /-- PATCH_AGREE_TIMEOUT (R246): A patch switch not agreed with the partner before ⟨F−2:0⟩ ends with TUN_PATCH_RESULT TWIN_TIMEOUT. -/
  | patchAgreeTimeout (t : Nat)
  /-- LINE_BOUNDARY (R6): At the next line boundary a pending RW write takes effect and a pending SET_SAVE takes its snapshot of the bright set. -/
  | lineBoundary (t : Nat)
  /-- RETRAIN_DUE (R342): Every MEM_DD_RETRAIN_S seconds, staggered per channel, a DDR channel falls due and the firmware arms the RETRAIN_PAUSE calendar entry. -/
  | retrainDue (t : Nat) (channel : Nat)
  /-- CAL_NONE_FIRE (R82): An armed calendar entry with ACTION NONE reaches its instant and fires, setting FIRED and clearing EN or advancing FRAME by PERIOD. -/
  | calNoneFire (t : Nat) (row : Nat)
  /-- MANAGEMENT_LINK_CHANGE (R297): The management port's RGMII link goes up or down, updating LNK_MG_LINK, the management MAC interrupt and ARP and DAD announcements. -/
  | managementLinkChange (t : Nat) (speed : Nat)
  /-- DAD_TIMER_EXPIRY (R289): Duplicate address detection for a port address ends without a conflicting reply, and the address comes into use. -/
  | dadTimerExpiry (t : Nat) (port : Nat)
  /-- UNSOLICITED_REPORT_INTERVAL (R289): An IGMPv3 or MLDv2 report timer expires and the firmware sends a repeated unsolicited or delayed query-response report. -/
  | unsolicitedReportInterval (t : Nat)
  /-- CLASS_SHAPER_REFILL (R316): On an idle hierarchical port a class shaper gains enough tokens for its head packet and the port resumes serving. -/
  | classShaperRefill (t : Nat) (port : Nat)
  /-- ROLLBACK_FUSE_BLOWN (R416): The 100 µs blowing of an anti-rollback or revocation fuse bit completes and the counter value rises. -/
  | rollbackFuseBlown (t : Nat)
  /-- BLANK_TO_MANUFACTURE (R413): The Birentari tester moves a BLANK part to MANUFACTURE over JTAG and the device secret is generated and blown. -/
  | blankToManufacture (t : Nat)
  /-- BROWNOUT_RECOVERY (R443): A rail that caused a brownout returns above its level and the device leaves reset and runs the whole start-up sequence. -/
  | brownoutRecovery (t : Nat) (rail mv : Nat)
  /-- REFCLK_SYS_LOSS (R447): REFCLK_SYS stops and the device is held in reset. -/
  | refclkSysLoss (t : Nat)
  /-- REFCLK_SYS_RETURN (R447): REFCLK_SYS runs again and the device leaves the reset it held. -/
  | refclkSysReturn (t : Nat)
  deriving DecidableEq, Repr

end Sys2Proof
end

