-- ==== Sys2Proof/Machine/Crypto.lean ====
section
/-! DEFINITION. The hash and key functions the manual names: SHA-256, SHA-384 (FIPS 180-4), HMAC-SHA-384 (RFC 2104)
and HKDF-SHA-384 (RFC 5869), on byte strings. The manual names these functions and does not restate them; their
constants and rounds are those of the standards it names. -/
set_option Elab.async false
namespace Sys2Proof.Machine

/-- The round constants of SHA-384. -/
def sha384K : List Nat :=
  [0x428a2f98d728ae22, 0x7137449123ef65cd, 0xb5c0fbcfec4d3b2f, 0xe9b5dba58189dbbc] ++
  [0x3956c25bf348b538, 0x59f111f1b605d019, 0x923f82a4af194f9b, 0xab1c5ed5da6d8118] ++
  [0xd807aa98a3030242, 0x12835b0145706fbe, 0x243185be4ee4b28c, 0x550c7dc3d5ffb4e2] ++
  [0x72be5d74f27b896f, 0x80deb1fe3b1696b1, 0x9bdc06a725c71235, 0xc19bf174cf692694] ++
  [0xe49b69c19ef14ad2, 0xefbe4786384f25e3, 0x0fc19dc68b8cd5b5, 0x240ca1cc77ac9c65] ++
  [0x2de92c6f592b0275, 0x4a7484aa6ea6e483, 0x5cb0a9dcbd41fbd4, 0x76f988da831153b5] ++
  [0x983e5152ee66dfab, 0xa831c66d2db43210, 0xb00327c898fb213f, 0xbf597fc7beef0ee4] ++
  [0xc6e00bf33da88fc2, 0xd5a79147930aa725, 0x06ca6351e003826f, 0x142929670a0e6e70] ++
  [0x27b70a8546d22ffc, 0x2e1b21385c26c926, 0x4d2c6dfc5ac42aed, 0x53380d139d95b3df] ++
  [0x650a73548baf63de, 0x766a0abb3c77b2a8, 0x81c2c92e47edaee6, 0x92722c851482353b] ++
  [0xa2bfe8a14cf10364, 0xa81a664bbc423001, 0xc24b8b70d0f89791, 0xc76c51a30654be30] ++
  [0xd192e819d6ef5218, 0xd69906245565a910, 0xf40e35855771202a, 0x106aa07032bbd1b8] ++
  [0x19a4c116b8d2d0c8, 0x1e376c085141ab53, 0x2748774cdf8eeb99, 0x34b0bcb5e19b48a8] ++
  [0x391c0cb3c5c95a63, 0x4ed8aa4ae3418acb, 0x5b9cca4f7763e373, 0x682e6ff3d6b2b8a3] ++
  [0x748f82ee5defb2fc, 0x78a5636f43172f60, 0x84c87814a1f0ab72, 0x8cc702081a6439ec] ++
  [0x90befffa23631e28, 0xa4506cebde82bde9, 0xbef9a3f7b2c67915, 0xc67178f2e372532b] ++
  [0xca273eceea26619c, 0xd186b8c721c0c207, 0xeada7dd6cde0eb1e, 0xf57d4f7fee6ed178] ++
  [0x06f067aa72176fba, 0x0a637dc5a2c898a6, 0x113f9804bef90dae, 0x1b710b35131c471b] ++
  [0x28db77f523047d84, 0x32caab7b40c72493, 0x3c9ebe0a15c9bebc, 0x431d67c49c100d4c] ++
  [0x4cc5d4becb3e42b6, 0x597f299cfc657e2a, 0x5fcb6fab3ad6faec, 0x6c44198c4a475817]

/-- The initial hash value of SHA-384. -/
def sha384H : List Nat :=
  [0xcbbb9d5dc1059ed8, 0x629a292a367cd507, 0x9159015a3070dd17, 0x152fecd8f70e5939] ++
  [0x67332667ffc00b31, 0x8eb44a8768581511, 0xdb0c2e0d64f98fa7, 0x47b5481dbefa4fa4]

/-- The round constants of SHA-256. -/
def sha256K : List Nat :=
  [0x428a2f98, 0x71374491, 0xb5c0fbcf, 0xe9b5dba5] ++
  [0x3956c25b, 0x59f111f1, 0x923f82a4, 0xab1c5ed5] ++
  [0xd807aa98, 0x12835b01, 0x243185be, 0x550c7dc3] ++
  [0x72be5d74, 0x80deb1fe, 0x9bdc06a7, 0xc19bf174] ++
  [0xe49b69c1, 0xefbe4786, 0x0fc19dc6, 0x240ca1cc] ++
  [0x2de92c6f, 0x4a7484aa, 0x5cb0a9dc, 0x76f988da] ++
  [0x983e5152, 0xa831c66d, 0xb00327c8, 0xbf597fc7] ++
  [0xc6e00bf3, 0xd5a79147, 0x06ca6351, 0x14292967] ++
  [0x27b70a85, 0x2e1b2138, 0x4d2c6dfc, 0x53380d13] ++
  [0x650a7354, 0x766a0abb, 0x81c2c92e, 0x92722c85] ++
  [0xa2bfe8a1, 0xa81a664b, 0xc24b8b70, 0xc76c51a3] ++
  [0xd192e819, 0xd6990624, 0xf40e3585, 0x106aa070] ++
  [0x19a4c116, 0x1e376c08, 0x2748774c, 0x34b0bcb5] ++
  [0x391c0cb3, 0x4ed8aa4a, 0x5b9cca4f, 0x682e6ff3] ++
  [0x748f82ee, 0x78a5636f, 0x84c87814, 0x8cc70208] ++
  [0x90befffa, 0xa4506ceb, 0xbef9a3f7, 0xc67178f2]

/-- The initial hash value of SHA-256. -/
def sha256H : List Nat :=
  [0x6a09e667, 0xbb67ae85, 0x3c6ef372, 0xa54ff53a] ++
  [0x510e527f, 0x9b05688c, 0x1f83d9ab, 0x5be0cd19]

/-- What tells SHA-256 and SHA-384 apart: the word width, the rotation counts and the constants. -/
structure ShaParams where
  width : Nat
  bigA : List Nat
  bigE : List Nat
  smallA : List Nat
  smallAShift : Nat
  smallB : List Nat
  smallBShift : Nat
  k : List Nat
  h : List Nat
  out : Nat
  deriving DecidableEq, Repr

/-- SHA-384. -/
def sha384Params : ShaParams :=
  { width := 64, bigA := [28, 34, 39], bigE := [14, 18, 41], smallA := [1, 8], smallAShift := 7,
    smallB := [19, 61], smallBShift := 6, k := sha384K, h := sha384H, out := 48 }

/-- SHA-256. -/
def sha256Params : ShaParams :=
  { width := 32, bigA := [2, 13, 22], bigE := [6, 11, 25], smallA := [7, 18], smallAShift := 3,
    smallB := [17, 19], smallBShift := 10, k := sha256K, h := sha256H, out := 32 }

/-- Rotation right by `n` in a word of `w` bits. -/
def rotr (w x n : Nat) : Nat := (x >>> n) ||| ((x <<< (w - n)) % 2 ^ w)

/-- The exclusive or of the rotations of `x` by the counts of `rs`. -/
def rotXor (w x : Nat) (rs : List Nat) : Nat := rs.foldl (fun acc n => acc ^^^ rotr w x n) 0

/-- The message schedule: `n` more words after the ones in `ws`, which holds the newest word first. -/
def shaSchedule (p : ShaParams) : Nat → List Nat → List Nat
  | 0, ws => ws.reverse
  | n + 1, ws =>
    let w2 := ws.getD 1 0
    let w7 := ws.getD 6 0
    let w15 := ws.getD 14 0
    let w16 := ws.getD 15 0
    let s0 := rotXor p.width w15 p.smallA ^^^ (w15 >>> p.smallAShift)
    let s1 := rotXor p.width w2 p.smallB ^^^ (w2 >>> p.smallBShift)
    shaSchedule p n (((w16 + s0 + w7 + s1) % 2 ^ p.width) :: ws)

/-- The eight working variables. -/
structure ShaVars where
  a : Nat
  b : Nat
  c : Nat
  d : Nat
  e : Nat
  f : Nat
  g : Nat
  h : Nat
  deriving DecidableEq, Repr

/-- One round. -/
def shaRound (p : ShaParams) (v : ShaVars) (kw : Nat × Nat) : ShaVars :=
  let m := 2 ^ p.width
  let ch := (v.e &&& v.f) ^^^ ((m - 1 - v.e) &&& v.g)
  let t1 := v.h + rotXor p.width v.e p.bigE + ch + kw.1 + kw.2
  let maj := (v.a &&& v.b) ^^^ (v.a &&& v.c) ^^^ (v.b &&& v.c)
  let t2 := rotXor p.width v.a p.bigA + maj
  { a := (t1 + t2) % m, b := v.a, c := v.b, d := v.c, e := (v.d + t1) % m, f := v.e, g := v.f, h := v.g }

/-- The working variables as a list. -/
def ShaVars.list (v : ShaVars) : List Nat := [v.a, v.b, v.c, v.d, v.e, v.f, v.g, v.h]

/-- Working variables from a hash value. -/
def ShaVars.ofList (l : List Nat) : ShaVars :=
  { a := l.getD 0 0, b := l.getD 1 0, c := l.getD 2 0, d := l.getD 3 0,
    e := l.getD 4 0, f := l.getD 5 0, g := l.getD 6 0, h := l.getD 7 0 }

/-- The `n` words of `w` bytes each that a block spells. -/
def shaWords (w : Nat) : Nat → Bytes → List Nat
  | 0, _ => []
  | n + 1, b => ofBytesBE (b.take w) :: shaWords w n (b.drop w)

/-- One block into the hash value. -/
def shaBlock (p : ShaParams) (h : List Nat) (block : Bytes) : List Nat :=
  let ws := shaSchedule p (p.k.length - 16) (shaWords (p.width / 8) 16 block).reverse
  let v := (p.k.zip ws).foldl (shaRound p) (ShaVars.ofList h)
  (h.zip v.list).map fun x => (x.1 + x.2) % 2 ^ p.width

/-- The blocks of a padded message into the hash value, at most `n` of them. -/
def shaBlocks (p : ShaParams) : Nat → List Nat → Bytes → List Nat
  | 0, h, _ => h
  | n + 1, h, b =>
    if b.isEmpty then h else shaBlocks p n (shaBlock p h (b.take (2 * p.width))) (b.drop (2 * p.width))

/-- The padded message: one bit 1, zeros, and the length in bits in the last eighth of a block. -/
def shaPad (p : ShaParams) (msg : Bytes) : Bytes :=
  let block := 2 * p.width
  let lenBytes := p.width / 4
  let fill := (2 * block - (msg.length + 1 + lenBytes) % block) % block
  msg ++ [0x80] ++ zeros fill ++ bytesBE lenBytes (8 * msg.length)

/-- The digest of a message. -/
def sha (p : ShaParams) (msg : Bytes) : Bytes :=
  let padded := shaPad p msg
  let h := shaBlocks p (padded.length / (2 * p.width)) p.h padded
  (h.flatMap (bytesBE (p.width / 8))).take p.out

/-- SHA-384 of a message. -/
def sha384 (msg : Bytes) : Bytes := sha sha384Params msg

/-- SHA-256 of a message. -/
def sha256 (msg : Bytes) : Bytes := sha sha256Params msg

/-- The key of an HMAC brought to one block of 128 bytes. -/
def hmacKey (key : Bytes) : Bytes :=
  let k := if key.length ≤ 128 then key else sha384 key
  k ++ zeros (128 - k.length)

/-- HMAC-SHA-384. -/
def hmac384 (key msg : Bytes) : Bytes :=
  let k := hmacKey key
  sha384 ((k.map (· ^^^ 0x5c)) ++ sha384 ((k.map (· ^^^ 0x36)) ++ msg))

/-- HKDF's output blocks: `n` blocks after `prev`, numbered from `i`. -/
def hkdfExpand (prk info : Bytes) : Nat → Nat → Bytes → Bytes
  | 0, _, _ => []
  | n + 1, i, prev =>
    let t := hmac384 prk (prev ++ info ++ [BitVec.ofNat 8 i])
    t ++ hkdfExpand prk info n (i + 1) t

/-- HKDF-SHA-384 with an output of `len` bytes. -/
def hkdf384 (salt ikm info : Bytes) (len : Nat) : Bytes :=
  (hkdfExpand (hmac384 salt ikm) info (ceilDiv len 48) 1 []).take len

end Sys2Proof.Machine
end

