-- ==== Sys2Proof/Config.lean ====
section
/-! DEFINITION. What one part fixes (its serial number, its ROM, its fuses) and the free values: results the manual
leaves open. None has a body, so no proof can see a value. A free value drawn afresh at each use takes the draw number
from `State.draws`, a counter of the model's own. -/
set_option Elab.async false
namespace Sys2Proof.Machine

/-! ### What a Tun's recipe evaluates (R138)

The ROM recipes are Birentari's, and the syntax of slice data is that of H.266: what a recipe finds when it tries a way of
coding is a free value, a function of the inputs of R138 and of what the segment's CTUs before it became. The choice among the
ways, and the bounds on their bits, are the manual's. -/

/-- Where a mode decision's motion search starts (Table 6-3): a coarse point by its rank, the AMVP predictor, zero. -/
inductive Seed where
  | coarse (rank : Nat)
  | predictor
  | zero
  deriving DecidableEq, Repr

/-- What a candidate of a mode decision is. `split`: SPLIT code of R148 from 1 on. `intra`: mode (0 planar, 1 DC, 2 to 66
angular), rank of its SATD, place in the MPM list (6: none), CCLM for chroma, and for a mode of the ±1 refinement the rank of the mode
that it refines. `merge`: index, as skip or not. `inter`: AMVP with
the reference picture, predictor index, AMVR precision (0 quarter, 1 integer, 2 four-pel), motion in quarter samples, seed of
its search and distance from it in samples. `ibc`: CTUs between its block and the CTU, to the left; merge index (AMVP where
none). `palette`: entries. -/
inductive CandKind where
  | split (code : Nat)
  | intra (mode rank mpm : Nat) (cclm : Bool) (refines : Option Nat)
  | merge (index : Nat) (skip : Bool)
  | inter (picture index amvr : Nat) (mvx mvy : Int) (seed : Seed) (distance : Nat)
  | ibc (left : Nat) (merge : Option Nat)
  | palette (entries : Nat)
  deriving DecidableEq, Repr, Inhabited

/-- A position of a merge or predictor list (R193): whether it derives from a temporal candidate, and the last luma column, from
the left edge of the subpicture, of the CU or the collocated block that it derives from. -/
structure ListPos where
  temporal : Bool
  last : Nat
  deriving DecidableEq, Repr

/-- A candidate: kind, size and multi-type depth of its block, the last column it reads of each (picture, component), from the
left edge of the subpicture and after padding (pictures 0 and 1: the references, 2: the current one), the positions of its merge
or predictor list (none: derived from no block), D, Rf, and its coded block flags (Y, Cb, Cr from bit 0). -/
structure Candidate where
  kind : CandKind
  width : Nat
  height : Nat
  depth : Nat
  reads : List (Nat × Nat × Nat)
  positions : List (Option ListPos)
  dist : Nat
  rate : Nat
  cbf : Nat
  deriving DecidableEq, Repr, Inhabited

/-- The form a CTU took: one 32 × 32 skip CU with a merge index (R19, R174, R194), one 32 × 32 intra CU in planar mode without
residual (R194), coded by the candidates chosen in turn, trimmed at level `m` (R197), or the planar form of a trimmed CTU,
without SAO (R197). -/
inductive CtuForm where
  | skip (merge : Nat)
  | planar
  | coded (choices : List Nat)
  | trimmed (choices : List Nat) (m : Nat)
  | floor
  deriving DecidableEq, Repr

/-- A transform block as the quantiser sees it, in coding order: component, width and height in coefficients, the coefficients by
rows in 1/1,024 of the quantiser step, and the levels that RDOQ finds for them. -/
structure TransformBlock where
  component : Nat
  width : Nat
  height : Nat
  scaled : List Int
  rdoq : List Int
  deriving DecidableEq, Repr, Inhabited

/-- A quantised transform block: component, width, height, levels by rows. -/
structure LevelBlock where
  component : Nat
  width : Nat
  height : Nat
  levels : List Int
  deriving DecidableEq, Repr, Inhabited

/-- What a CTU of a slice carries beside its form: its transform blocks, cu_qp_delta, the QP of deblocking (R187) and whether SAO
applies to it (R197). -/
structure CtuCode where
  blocks : List LevelBlock
  delta : Int
  qp : Int
  sao : Bool
  deriving DecidableEq, Repr, Inhabited

/-- What the segment's inputs say of one CTU: effort (R22), HINT, whether R19 or R20 codes it as skip, whether it is a refresh
CTU, whether a sweep constrains it and whether it lies in a clean area (R192), q(k), qr(k) and W(qr(k)) (R185, R195, R196), its
cost (R199), in luma columns from the left edge of the subpicture the end of the allowed current area and of the allowed
area of each reference (R192), and MASK of its Floor Map word. -/
structure CtuIn where
  effort : Nat
  hint : Nat
  skip : Bool
  refresh : Bool
  constrained : Bool
  clean : Bool
  q : Int
  qr : Int
  allowance : Nat
  cost : Nat
  current : Nat
  areas : List Nat
  mask : Bool
  deriving DecidableEq, Repr, Inhabited

/-- A reference picture as a Tun reads it: samples of the subpicture (Y, Cb, Cr, each by rows), how its CTUs were coded (by
rows, the metadata of R156), and whether it may be referenced (R347). -/
structure RefIn where
  samples : List (List Nat)
  forms : List (List CtuForm)
  usable : Bool
  deriving DecidableEq, Repr, Inhabited

/-- R138: what the bits of a segment depend on: entry and row, place and size of the subpicture in CTUs, chroma format and
the offsets of the PPS, picture type, slice QP, recipe store (digest of the patch bank), fallback, avail, later and spent of
Gravity, its CTUs, its source samples, the references, and the reconstruction of the segment above with its metadata. -/
structure SegInput where
  s : Nat
  y : Nat
  x0 : Nat
  y0 : Nat
  w : Nat
  h : Nat
  chroma : Nat
  offsets : List Int
  gdr : Bool
  qs : Int
  recipe : Bytes
  fallback : Bool
  avail : Int
  later : Nat
  spent : Bool
  ctus : List CtuIn
  source : List (List Nat)
  refs : List RefIn
  above : List (List Nat)
  aboveForms : List CtuForm
  deriving DecidableEq, Repr, Inhabited

/-- The inputs of a task that codes no segment. -/
def SegInput.blank : SegInput :=
  { s := 0, y := 0, x0 := 0, y0 := 0, w := 0, h := 0, chroma := 0, offsets := [], gdr := false, qs := 0, recipe := [],
    fallback := false, avail := 0, later := 0, spent := false, ctus := [], source := [], refs := [],
    above := [], aboveForms := [] }

/-! ### What a decode reads (R254 to R269) -/

/-- The motion of an 8 × 8 block of a decoded picture: the vector of the first entry of list 0, and the rest of what the standard
keeps of it. -/
structure BlockMotion where
  mvx : Int
  mvy : Int
  rest : List Int
  deriving DecidableEq, Repr

/-- A picture as a decode reads it: POC, the samples of its planes by row × 65,536 + column, and its motion by block. -/
structure DecRef where
  poc : Int
  y : Table Nat
  cb : Table Nat
  cr : Table Nat
  motion : List (Nat × BlockMotion)
  deriving DecidableEq, Repr

/-- What the samples of a decoded picture depend on (R261, R273): its NAL units with their parameter sets, its references, the CTUs that
are concealed, and the blocks that read an uncorrectable word (R259). -/
structure DecInput where
  units : List Bytes
  refs : List DecRef
  lost : List Nat
  zeroed : List Nat
  deriving DecidableEq, Repr

end Sys2Proof.Machine

namespace Sys2Proof.Config

/-- Serial number of the device, a UNSIGNED32 (`0x1018:04`, per device). -/
opaque serialNumber : BitVec 32

/-- The same as a number. -/
def serial : Nat := serialNumber.toNat

/-- Silicon and ROM revision, `0x1018:03` (per device). -/
opaque revision : Nat
/-- Manufacturer hardware version, `0x1009` (silicon revision). -/
opaque hardwareVersion : Bytes
/-- Manufacturer software version, `0x100A` (ROM firmware version). -/
opaque softwareVersion : Bytes
/-- LNK_BASE_MAC (per device). -/
opaque baseMac : Nat
/-- TUN_ROM_VERSION (per ROM). -/
opaque romVersion : Nat
/-- PWR_VFUSE_MV (per die). -/
opaque vfuse : Nat
/-- SHA-384 hashes of the four vendor keys in OTP, R415. -/
opaque vendorKeyHash : Nat → Bytes
/-- The 256-bit device secret in OTP, R413. -/
opaque deviceSecret : Bytes
/-- The device secret the tester's random source gives at BLANK to MANUFACTURE, R413. -/
opaque newSecret : Nat → Bytes
/-- The oscillator's own frequency error in 2^-16 ppb, part of TBS_FREQ_PPB (Table 3-5). -/
opaque oscError : Int

/-- Bytes of the on-die random source: draw number, length (R53, R63). -/
opaque random : Nat → Nat → Bytes
/-- A fresh Strel session ID: draw number (R53 states no rule for its value). -/
opaque sessionId : Nat → Nat
/-- The frequency, in 2^-16 ppb, that the servo asks for from the measured offset and the frequency in force. R66
limits it and states no control law. -/
opaque servo : Int → Int → Int
/-- Whether an ECDSA P-384 signature verifies: public key, message digest, signature (R417). -/
opaque ecdsaVerify : Bytes → Bytes → Bytes → Bool
/-- Whether an HSS/LMS signature verifies: public key, message, signature (R417). -/
opaque hssVerify : Bytes → Bytes → Bytes → Bool
/-- An ECDSA P-384 signature: the 48-byte key material of Table 17-2, message digest, draw number (R414, R427). -/
opaque ecdsaSign : Bytes → Bytes → Nat → Bytes
/-- An HSS/LMS signature: seed and identifier of Table 17-2, message, leaf number (R414, R427, R429). -/
opaque hssSign : Bytes → Bytes → Nat → Bytes
/-- The ECDSA public key derived from the device secret (R426). -/
opaque ecdsaPublic : Bytes → Bytes
/-- The HSS public key derived from the device secret (R426). -/
opaque hssPublic : Bytes → Bytes
/-- The RBSP of a non-VCL unit as H.266 serialises it, by its nal_unit_type and the elements of it that are present, with their
values: the manual gives the values (Tables 5-4 to 5-7, 5-10), H.266 the syntax. -/
opaque rbsp : Nat → List (String × Int) → Bytes
/-- The hash of one component of a decoded picture as H.274 defines it (R134): dph_sei_hash_type, width, samples by rows. -/
opaque planeHash : Nat → Nat → List Nat → Bytes
/-- A work item of an access unit (R260): the NAL units it is coded in, by their place, and its CTUs by raster address in decoding
order. -/
structure ItemInfo where
  units : List Nat
  ctus : List Nat
  deriving DecidableEq, Repr, Inhabited

/-- What the standards (H.266, H.265) let a decoder read from an access unit with its parameter sets: kind (0 other, 1 IRAP,
2 GDR or recovery point), whether it begins a coded video sequence wherever it stands, error class of Table 11-3 (0, 5 or 6), the
profile word of FIN_STR_PTL, PicOrderCntVal, and whether later units derive theirs from it, coded luma
size, crop, 8-bit samples, G, B, R planes, general_tier_flag, more than one layer, field coding, chroma format as in Table 11-1,
size of the decoded picture buffer, output size, pictures referenced by POC, pictures that stay in the buffer by POC, its work
items, whether they are CTU rows of WPP, RASL, the POC of the recovery point, and NAL units that do not parse. -/
structure AuInfo where
  rap : Nat
  begins : Bool
  cls : Nat
  ptl : Nat
  poc : Int
  anchor : Bool
  width : Nat
  height : Nat
  cropL : Nat
  cropT : Nat
  depth8 : Bool
  rgb : Bool
  tier : Nat
  layered : Bool
  field : Bool
  chroma : Nat
  dpb : Nat
  outW : Nat
  outH : Nat
  refs : List Int
  held : List Int
  items : List ItemInfo
  wpp : Bool
  rasl : Bool
  recovery : Option Int
  badUnits : Nat
  deriving DecidableEq, Repr, Inhabited

/-- Parses an access unit: codec (0 VVC, 1 HEVC), the PicOrderCntVal of the picture that its own derives from, parameter sets and
NAL units. -/
opaque auInfo : Nat → Int → List Bytes → AuInfo
/-- The CTU of a work item, counted in the item, in which its decode detects class 2, if it does: NAL units, item (R266). -/
opaque itemError : List Bytes → Nat → Option Nat
/-- The cells, by POC and number, that the decode of a CTU reads (R269). -/
opaque ctuReads : Machine.DecInput → Nat → List (Int × Nat)
/-- A sample of a decoded picture in its coded depth, filtered as R261 and R267 say: component, column and row of its plane. -/
opaque decodedSample : Machine.DecInput → Nat → Nat → Nat → Nat
/-- The motion of a decoded 8 × 8 block, by × 65,536 + bx; none of an intra block. -/
opaque blockMotion : Machine.DecInput → Nat → Option Machine.BlockMotion
/-! ### What a Tun's recipe finds -/

/-- The candidates of the next mode decision of a CTU in the order of the ROM recipe, by the inputs, the forms of the CTUs before
it and the choices made in it so far; none when the CTU is complete. -/
opaque candidates : Machine.SegInput → List Machine.CtuForm → List Nat → List Machine.Candidate
/-- The merge candidates of the next CTU as one 32 × 32 skip CU, by merge index. -/
opaque skipCandidates : Machine.SegInput → List Machine.CtuForm → List Machine.Candidate
/-- The next transform block of a CTU that is coded by the given choices, against the reconstruction of the quantised blocks
before it in the CTU; none when the CTU has no further one. -/
opaque nextBlock : Machine.SegInput → List Machine.CtuForm → List Nat → List Machine.LevelBlock → Option Machine.TransformBlock
/-- The rise of R199's running count over the next CTU in a form with these transform blocks; bits of the slice header, and of
what terminates the slice. -/
opaque ctuBits : Machine.SegInput → List Machine.CtuForm → Machine.CtuForm → List Machine.LevelBlock → Nat
/-- See `ctuBits`. -/
opaque headBits : Machine.SegInput → Nat
/-- See `ctuBits`. -/
opaque tailBits : Machine.SegInput → List Machine.CtuForm → Nat
/-- The SAO types that the recipe chooses for the slice: luma, chroma (0 off, 1 edge, 2 band and edge). -/
opaque saoChoice : Machine.SegInput → List Machine.CtuForm → Nat × Nat
/-- The slice NAL unit after its 2-byte header as H.266 serialises it: elements of the slice header by name, the inputs, the
forms of the CTUs, and what each carries. -/
opaque slicePayload : List (String × Int) → Machine.SegInput → List Machine.CtuForm → List Machine.CtuCode → Bytes
/-- What a Taster lane parses from the bytes of a slice NAL unit (R227, R228): the slice header where it was reached, the bins of each CTU
decoded, end_of_slice_one_bit after each, whether trailing bits and emulation prevention are as H.266 says. -/
structure SliceParse where
  header : Option (List (String × Int))
  bins : List (List (Nat × Nat × Nat))
  ends : List Bool
  trailing : Bool
  deriving DecidableEq, Repr, Inhabited

/-- See `SliceParse`: the segment that the lane tastes, the bytes decoded. -/
opaque parseSlice : Machine.SegInput → Bytes → SliceParse
/-- The bins of a CTU in coding order (R227): kind, context index, value. -/
opaque ctuBins : Machine.SegInput → List Machine.CtuForm → List Machine.CtuCode → Nat → List (Nat × Nat × Nat)
/-- A reconstructed sample, filtered as R141 says as far as the segment itself and the one above allow: component, column from
the left edge and row from the top of the subpicture. -/
opaque reconSample : Machine.SegInput → List Machine.CtuForm → List Machine.CtuCode → Nat → Nat → Nat → Nat
/-- R350: the identity of an 8 × 8 block (component, column, row) of a reference slot; the spec gives no order of the blocks within
a slot (DESIGN CHOICE: free; log entry 85). -/
opaque blockLine : Nat → Nat → Nat → Nat → Nat
/-- R350, R160: the identities of the lines that a CTU of a stream's picture writes: stream, picture, CTU (free; log entry 85). -/
opaque itemLines : Nat → Nat → Nat → List Nat
/-- A ROM step and a ROM grain by address (R145, R147): Birentari's, not given; also what a fetch beyond the store finds. -/
opaque romStep : Nat → Nat
/-- See `romStep`. -/
opaque romGrain : Nat → Nat
/-- The serial number of the twin partner, which decides between equal acting roles. -/
opaque partnerSerial : Nat
/-- PATCH_ID of a firmware patch payload: its format is internal to the ROM (R420). -/
opaque fwPatchId : Bytes → Nat
/-- The largest length of a DOMAIN object for which the manual states none, by the object's code. -/
opaque domainLimit : Nat → Nat
/-- The calendar's action code of a patch switch, within 0x25 to 0x3F: R79 gives it an internal entry, Table 3-4 no code. -/
opaque patchAction : Nat
/-- A value the manual leaves open, drawn afresh: draw number. -/
opaque freeValue : Nat → Nat
/-- R279: the taps c(−1), main and c(+1) that link training sets on a lane, in 64ths, by draw. -/
opaque trainedTaps : Nat → Int × Int × Int
/-- R280: bit errors that a lane test has found: lane, running time of its start and of the reading. -/
opaque prbsErrors : Nat → Nat → Nat → Nat
/-- The TTL or hop limit of a PTP message over UDP, of which the manual states nothing. -/
opaque ptpTtl : Nat

end Sys2Proof.Config
end

