-- ==== Sys2Proof/Machine/Filters.lean ====
section
/-! DEFINITION. The built-in filter banks of R456: the windowed-sinc coefficients of banks 0 to 3, computed from their
definition (each row sums to 1,024), and bank 4. -/
set_option Elab.async false
namespace Sys2Proof.Machine

/-- Bank 0, horizontal taps, phases 0 to 15. -/
def bank0HPart0 : List (List Int) :=
  [[0, 0, 0, 1024, 0, 0, 0, 0],
   [-2, 5, -14, 1023, 15, -5, 2, 0],
   [-3, 10, -28, 1022, 30, -10, 3, 0],
   [-4, 15, -41, 1019, 46, -16, 5, 0],
   [-6, 19, -53, 1017, 62, -22, 7, 0],
   [-7, 23, -65, 1012, 79, -27, 9, 0],
   [-8, 27, -76, 1008, 96, -33, 11, -1],
   [-9, 31, -87, 1003, 113, -39, 13, -1],
   [-10, 35, -97, 995, 132, -45, 15, -1],
   [-11, 38, -106, 988, 150, -51, 17, -1],
   [-12, 42, -115, 980, 169, -57, 19, -2],
   [-13, 45, -124, 972, 188, -63, 21, -2],
   [-14, 48, -131, 961, 208, -69, 23, -2],
   [-14, 50, -138, 951, 228, -76, 26, -3],
   [-15, 53, -145, 940, 248, -82, 28, -3],
   [-15, 55, -151, 928, 269, -88, 30, -4]]

/-- Bank 0, horizontal taps, phases 16 to 31. -/
def bank0HPart1 : List (List Int) :=
  [[-15, 57, -156, 915, 289, -94, 32, -4],
   [-16, 59, -161, 903, 310, -100, 34, -5],
   [-16, 60, -165, 887, 332, -106, 37, -5],
   [-16, 61, -168, 873, 353, -112, 39, -6],
   [-16, 62, -172, 857, 375, -117, 41, -6],
   [-16, 63, -174, 842, 396, -123, 43, -7],
   [-16, 64, -176, 824, 418, -128, 45, -7],
   [-16, 65, -178, 808, 440, -134, 47, -8],
   [-16, 65, -178, 789, 462, -139, 49, -8],
   [-16, 65, -179, 772, 484, -144, 51, -9],
   [-15, 65, -179, 753, 505, -148, 53, -10],
   [-15, 65, -179, 735, 527, -153, 54, -10],
   [-15, 64, -178, 716, 549, -157, 56, -11],
   [-14, 64, -176, 694, 570, -160, 57, -11],
   [-14, 63, -175, 675, 592, -164, 59, -12],
   [-13, 62, -172, 653, 613, -167, 60, -12]]

/-- Bank 0, horizontal taps, phases 32 to 47. -/
def bank0HPart2 : List (List Int) :=
  [[-13, 61, -170, 634, 634, -170, 61, -13],
   [-12, 60, -167, 613, 653, -172, 62, -13],
   [-12, 59, -164, 592, 675, -175, 63, -14],
   [-11, 57, -160, 570, 694, -176, 64, -14],
   [-11, 56, -157, 549, 716, -178, 64, -15],
   [-10, 54, -153, 527, 735, -179, 65, -15],
   [-10, 53, -148, 505, 753, -179, 65, -15],
   [-9, 51, -144, 484, 772, -179, 65, -16],
   [-8, 49, -139, 462, 789, -178, 65, -16],
   [-8, 47, -134, 440, 808, -178, 65, -16],
   [-7, 45, -128, 418, 824, -176, 64, -16],
   [-7, 43, -123, 396, 842, -174, 63, -16],
   [-6, 41, -117, 375, 857, -172, 62, -16],
   [-6, 39, -112, 353, 873, -168, 61, -16],
   [-5, 37, -106, 332, 887, -165, 60, -16],
   [-5, 34, -100, 310, 903, -161, 59, -16]]

/-- Bank 0, horizontal taps, phases 48 to 63. -/
def bank0HPart3 : List (List Int) :=
  [[-4, 32, -94, 289, 915, -156, 57, -15],
   [-4, 30, -88, 269, 928, -151, 55, -15],
   [-3, 28, -82, 248, 940, -145, 53, -15],
   [-3, 26, -76, 228, 951, -138, 50, -14],
   [-2, 23, -69, 208, 961, -131, 48, -14],
   [-2, 21, -63, 188, 972, -124, 45, -13],
   [-2, 19, -57, 169, 980, -115, 42, -12],
   [-1, 17, -51, 150, 988, -106, 38, -11],
   [-1, 15, -45, 132, 995, -97, 35, -10],
   [-1, 13, -39, 113, 1003, -87, 31, -9],
   [-1, 11, -33, 96, 1008, -76, 27, -8],
   [0, 9, -27, 79, 1012, -65, 23, -7],
   [0, 7, -22, 62, 1017, -53, 19, -6],
   [0, 5, -16, 46, 1019, -41, 15, -4],
   [0, 3, -10, 30, 1022, -28, 10, -3],
   [0, 2, -5, 15, 1023, -14, 5, -2]]

/-- Bank 0, horizontal taps, by phase. -/
def bank0H : List (List Int) := bank0HPart0 ++ bank0HPart1 ++ bank0HPart2 ++ bank0HPart3

/-- Bank 0, vertical taps, phases 0 to 15. -/
def bank0VPart0 : List (List Int) :=
  [[0, 0, 1024, 0, 0, 0],
   [3, -13, 1023, 14, -3, 0],
   [6, -25, 1022, 28, -7, 0],
   [9, -37, 1021, 42, -11, 0],
   [12, -48, 1018, 57, -15, 0],
   [14, -59, 1014, 73, -19, 1],
   [17, -69, 1009, 89, -23, 1],
   [19, -78, 1003, 106, -27, 1],
   [21, -87, 995, 124, -31, 2],
   [23, -95, 989, 141, -36, 2],
   [24, -103, 980, 160, -40, 3],
   [26, -110, 971, 178, -45, 4],
   [27, -116, 962, 197, -50, 4],
   [28, -122, 951, 217, -55, 5],
   [29, -128, 940, 237, -60, 6],
   [30, -132, 927, 257, -65, 7]]

/-- Bank 0, vertical taps, phases 16 to 31. -/
def bank0VPart1 : List (List Int) :=
  [[31, -136, 913, 278, -70, 8],
   [31, -140, 902, 298, -75, 8],
   [32, -143, 886, 320, -80, 9],
   [32, -146, 871, 341, -85, 11],
   [32, -148, 855, 363, -90, 12],
   [32, -150, 839, 384, -94, 13],
   [32, -151, 822, 406, -99, 14],
   [32, -151, 804, 428, -104, 15],
   [31, -152, 788, 450, -109, 16],
   [31, -151, 767, 473, -113, 17],
   [30, -151, 749, 495, -117, 18],
   [29, -150, 729, 517, -121, 20],
   [29, -148, 708, 539, -125, 21],
   [28, -146, 688, 561, -129, 22],
   [27, -144, 668, 583, -133, 23],
   [26, -142, 647, 605, -136, 24]]

/-- Bank 0, vertical taps, phases 32 to 47. -/
def bank0VPart2 : List (List Int) :=
  [[25, -139, 626, 626, -139, 25],
   [24, -136, 605, 647, -142, 26],
   [23, -133, 583, 668, -144, 27],
   [22, -129, 561, 688, -146, 28],
   [21, -125, 539, 708, -148, 29],
   [20, -121, 517, 729, -150, 29],
   [18, -117, 495, 749, -151, 30],
   [17, -113, 473, 767, -151, 31],
   [16, -109, 450, 788, -152, 31],
   [15, -104, 428, 804, -151, 32],
   [14, -99, 406, 822, -151, 32],
   [13, -94, 384, 839, -150, 32],
   [12, -90, 363, 855, -148, 32],
   [11, -85, 341, 871, -146, 32],
   [9, -80, 320, 886, -143, 32],
   [8, -75, 298, 902, -140, 31]]

/-- Bank 0, vertical taps, phases 48 to 63. -/
def bank0VPart3 : List (List Int) :=
  [[8, -70, 278, 913, -136, 31],
   [7, -65, 257, 927, -132, 30],
   [6, -60, 237, 940, -128, 29],
   [5, -55, 217, 951, -122, 28],
   [4, -50, 197, 962, -116, 27],
   [4, -45, 178, 971, -110, 26],
   [3, -40, 160, 980, -103, 24],
   [2, -36, 141, 989, -95, 23],
   [2, -31, 124, 995, -87, 21],
   [1, -27, 106, 1003, -78, 19],
   [1, -23, 89, 1009, -69, 17],
   [1, -19, 73, 1014, -59, 14],
   [0, -15, 57, 1018, -48, 12],
   [0, -11, 42, 1021, -37, 9],
   [0, -7, 28, 1022, -25, 6],
   [0, -3, 14, 1023, -13, 3]]

/-- Bank 0, vertical taps, by phase. -/
def bank0V : List (List Int) := bank0VPart0 ++ bank0VPart1 ++ bank0VPart2 ++ bank0VPart3

/-- Bank 1, horizontal taps, phases 0 to 15. -/
def bank1HPart0 : List (List Int) :=
  [[0, -91, 257, 692, 257, -91, 0, 0],
   [1, -91, 248, 691, 267, -91, -1, 0],
   [2, -91, 238, 689, 277, -90, -2, 1],
   [3, -91, 228, 688, 287, -89, -3, 1],
   [4, -91, 219, 689, 296, -89, -5, 1],
   [5, -91, 209, 687, 306, -88, -6, 2],
   [6, -90, 200, 684, 316, -87, -7, 2],
   [6, -90, 190, 684, 326, -85, -9, 2],
   [7, -89, 181, 680, 336, -84, -10, 3],
   [8, -89, 172, 679, 345, -82, -12, 3],
   [8, -88, 163, 677, 355, -81, -13, 3],
   [9, -87, 154, 673, 365, -79, -15, 4],
   [9, -86, 145, 670, 375, -77, -16, 4],
   [10, -85, 137, 665, 385, -75, -18, 5],
   [10, -84, 128, 663, 394, -72, -20, 5],
   [11, -82, 120, 657, 404, -70, -21, 5]]

/-- Bank 1, horizontal taps, phases 16 to 31. -/
def bank1HPart1 : List (List Int) :=
  [[11, -81, 111, 653, 414, -67, -23, 6],
   [11, -80, 103, 650, 423, -64, -25, 6],
   [12, -78, 95, 643, 433, -61, -27, 7],
   [12, -77, 87, 639, 442, -58, -28, 7],
   [12, -75, 80, 634, 451, -55, -30, 7],
   [12, -74, 72, 629, 460, -51, -32, 8],
   [12, -72, 65, 622, 470, -47, -34, 8],
   [12, -70, 58, 615, 479, -43, -36, 9],
   [12, -69, 50, 611, 488, -39, -38, 9],
   [12, -67, 44, 605, 496, -35, -40, 9],
   [12, -65, 37, 597, 505, -30, -42, 10],
   [12, -63, 30, 591, 514, -26, -44, 10],
   [12, -61, 24, 584, 522, -21, -46, 10],
   [12, -59, 18, 576, 530, -16, -48, 11],
   [12, -57, 12, 569, 538, -11, -50, 11],
   [12, -55, 6, 562, 546, -6, -52, 11]]

/-- Bank 1, horizontal taps, phases 32 to 47. -/
def bank1HPart2 : List (List Int) :=
  [[11, -54, 0, 556, 554, 0, -54, 11],
   [11, -52, -6, 546, 562, 6, -55, 12],
   [11, -50, -11, 538, 569, 12, -57, 12],
   [11, -48, -16, 530, 576, 18, -59, 12],
   [10, -46, -21, 522, 584, 24, -61, 12],
   [10, -44, -26, 514, 591, 30, -63, 12],
   [10, -42, -30, 505, 597, 37, -65, 12],
   [9, -40, -35, 496, 605, 44, -67, 12],
   [9, -38, -39, 488, 611, 50, -69, 12],
   [9, -36, -43, 479, 615, 58, -70, 12],
   [8, -34, -47, 470, 622, 65, -72, 12],
   [8, -32, -51, 460, 629, 72, -74, 12],
   [7, -30, -55, 451, 634, 80, -75, 12],
   [7, -28, -58, 442, 639, 87, -77, 12],
   [7, -27, -61, 433, 643, 95, -78, 12],
   [6, -25, -64, 423, 650, 103, -80, 11]]

/-- Bank 1, horizontal taps, phases 48 to 63. -/
def bank1HPart3 : List (List Int) :=
  [[6, -23, -67, 414, 653, 111, -81, 11],
   [5, -21, -70, 404, 657, 120, -82, 11],
   [5, -20, -72, 394, 663, 128, -84, 10],
   [5, -18, -75, 385, 665, 137, -85, 10],
   [4, -16, -77, 375, 670, 145, -86, 9],
   [4, -15, -79, 365, 673, 154, -87, 9],
   [3, -13, -81, 355, 677, 163, -88, 8],
   [3, -12, -82, 345, 679, 172, -89, 8],
   [3, -10, -84, 336, 680, 181, -89, 7],
   [2, -9, -85, 326, 684, 190, -90, 6],
   [2, -7, -87, 316, 684, 200, -90, 6],
   [2, -6, -88, 306, 687, 209, -91, 5],
   [1, -5, -89, 296, 689, 219, -91, 4],
   [1, -3, -89, 287, 688, 228, -91, 3],
   [1, -2, -90, 277, 689, 238, -91, 2],
   [0, -1, -91, 267, 691, 248, -91, 1]]

/-- Bank 1, horizontal taps, by phase. -/
def bank1H : List (List Int) := bank1HPart0 ++ bank1HPart1 ++ bank1HPart2 ++ bank1HPart3

/-- Bank 1, vertical taps, phases 0 to 15. -/
def bank1VPart0 : List (List Int) :=
  [[-58, 231, 678, 231, -58, 0],
   [-57, 222, 676, 241, -58, 0],
   [-57, 213, 676, 250, -58, 0],
   [-56, 204, 674, 260, -58, 0],
   [-56, 194, 674, 270, -58, 0],
   [-55, 185, 673, 279, -58, 0],
   [-54, 177, 671, 289, -58, -1],
   [-53, 168, 669, 299, -58, -1],
   [-52, 159, 666, 309, -57, -1],
   [-51, 151, 664, 319, -57, -2],
   [-50, 142, 662, 328, -56, -2],
   [-49, 134, 658, 338, -55, -2],
   [-48, 126, 655, 348, -54, -3],
   [-47, 118, 651, 358, -53, -3],
   [-46, 110, 648, 368, -52, -4],
   [-44, 103, 642, 378, -50, -5]]

/-- Bank 1, vertical taps, phases 16 to 31. -/
def bank1VPart1 : List (List Int) :=
  [[-43, 95, 639, 387, -49, -5],
   [-42, 88, 634, 397, -47, -6],
   [-40, 81, 628, 407, -45, -7],
   [-39, 74, 623, 417, -43, -8],
   [-38, 67, 618, 426, -41, -8],
   [-36, 61, 610, 436, -38, -9],
   [-35, 54, 606, 445, -36, -10],
   [-34, 48, 600, 454, -33, -11],
   [-32, 42, 592, 464, -30, -12],
   [-31, 36, 586, 473, -27, -13],
   [-29, 30, 579, 482, -24, -14],
   [-28, 25, 571, 491, -20, -15],
   [-27, 19, 564, 500, -16, -16],
   [-25, 14, 558, 508, -13, -18],
   [-24, 9, 550, 517, -9, -19],
   [-23, 5, 541, 525, -4, -20]]

/-- Bank 1, vertical taps, phases 32 to 47. -/
def bank1VPart2 : List (List Int) :=
  [[-21, 0, 533, 533, 0, -21],
   [-20, -4, 525, 541, 5, -23],
   [-19, -9, 517, 550, 9, -24],
   [-18, -13, 508, 558, 14, -25],
   [-16, -16, 500, 564, 19, -27],
   [-15, -20, 491, 571, 25, -28],
   [-14, -24, 482, 579, 30, -29],
   [-13, -27, 473, 586, 36, -31],
   [-12, -30, 464, 592, 42, -32],
   [-11, -33, 454, 600, 48, -34],
   [-10, -36, 445, 606, 54, -35],
   [-9, -38, 436, 610, 61, -36],
   [-8, -41, 426, 618, 67, -38],
   [-8, -43, 417, 623, 74, -39],
   [-7, -45, 407, 628, 81, -40],
   [-6, -47, 397, 634, 88, -42]]

/-- Bank 1, vertical taps, phases 48 to 63. -/
def bank1VPart3 : List (List Int) :=
  [[-5, -49, 387, 639, 95, -43],
   [-5, -50, 378, 642, 103, -44],
   [-4, -52, 368, 648, 110, -46],
   [-3, -53, 358, 651, 118, -47],
   [-3, -54, 348, 655, 126, -48],
   [-2, -55, 338, 658, 134, -49],
   [-2, -56, 328, 662, 142, -50],
   [-2, -57, 319, 664, 151, -51],
   [-1, -57, 309, 666, 159, -52],
   [-1, -58, 299, 669, 168, -53],
   [-1, -58, 289, 671, 177, -54],
   [0, -58, 279, 673, 185, -55],
   [0, -58, 270, 674, 194, -56],
   [0, -58, 260, 674, 204, -56],
   [0, -58, 250, 676, 213, -57],
   [0, -58, 241, 676, 222, -57]]

/-- Bank 1, vertical taps, by phase. -/
def bank1V : List (List Int) := bank1VPart0 ++ bank1VPart1 ++ bank1VPart2 ++ bank1VPart3

/-- Bank 2, horizontal taps, phases 0 to 15. -/
def bank2HPart0 : List (List Int) :=
  [[-32, 0, 291, 506, 291, 0, -32, 0],
   [-32, -2, 285, 507, 296, 3, -33, 0],
   [-31, -5, 280, 507, 302, 5, -34, 0],
   [-30, -7, 274, 506, 307, 8, -34, 0],
   [-29, -9, 269, 504, 313, 11, -35, 0],
   [-29, -12, 263, 506, 318, 14, -36, 0],
   [-28, -14, 257, 505, 323, 17, -36, 0],
   [-27, -16, 252, 503, 329, 20, -37, 0],
   [-26, -18, 246, 504, 334, 23, -38, -1],
   [-25, -20, 241, 502, 339, 26, -38, -1],
   [-25, -21, 235, 501, 345, 29, -39, -1],
   [-24, -23, 230, 498, 350, 33, -39, -1],
   [-23, -25, 224, 498, 355, 36, -40, -1],
   [-22, -26, 219, 495, 360, 39, -40, -1],
   [-22, -28, 213, 496, 365, 43, -41, -2],
   [-21, -29, 208, 492, 370, 47, -41, -2]]

/-- Bank 2, horizontal taps, phases 16 to 31. -/
def bank2HPart1 : List (List Int) :=
  [[-20, -30, 202, 491, 375, 50, -42, -2],
   [-19, -32, 197, 488, 380, 54, -42, -2],
   [-18, -33, 191, 486, 385, 58, -42, -3],
   [-18, -34, 186, 485, 389, 62, -43, -3],
   [-17, -35, 180, 482, 394, 66, -43, -3],
   [-16, -36, 175, 479, 399, 70, -43, -4],
   [-16, -37, 170, 477, 403, 74, -43, -4],
   [-15, -38, 165, 475, 408, 78, -44, -5],
   [-14, -39, 159, 472, 412, 83, -44, -5],
   [-13, -39, 154, 467, 417, 87, -44, -5],
   [-13, -40, 149, 465, 421, 92, -44, -6],
   [-12, -41, 144, 462, 425, 96, -44, -6],
   [-11, -41, 139, 458, 429, 101, -44, -7],
   [-11, -42, 134, 456, 433, 105, -44, -7],
   [-10, -42, 129, 451, 437, 110, -43, -8],
   [-10, -43, 124, 449, 441, 115, -43, -9]]

/-- Bank 2, horizontal taps, phases 32 to 47. -/
def bank2HPart2 : List (List Int) :=
  [[-9, -43, 119, 445, 445, 119, -43, -9],
   [-9, -43, 115, 441, 449, 124, -43, -10],
   [-8, -43, 110, 437, 451, 129, -42, -10],
   [-7, -44, 105, 433, 456, 134, -42, -11],
   [-7, -44, 101, 429, 458, 139, -41, -11],
   [-6, -44, 96, 425, 462, 144, -41, -12],
   [-6, -44, 92, 421, 465, 149, -40, -13],
   [-5, -44, 87, 417, 467, 154, -39, -13],
   [-5, -44, 83, 412, 472, 159, -39, -14],
   [-5, -44, 78, 408, 475, 165, -38, -15],
   [-4, -43, 74, 403, 477, 170, -37, -16],
   [-4, -43, 70, 399, 479, 175, -36, -16],
   [-3, -43, 66, 394, 482, 180, -35, -17],
   [-3, -43, 62, 389, 485, 186, -34, -18],
   [-3, -42, 58, 385, 486, 191, -33, -18],
   [-2, -42, 54, 380, 488, 197, -32, -19]]

/-- Bank 2, horizontal taps, phases 48 to 63. -/
def bank2HPart3 : List (List Int) :=
  [[-2, -42, 50, 375, 491, 202, -30, -20],
   [-2, -41, 47, 370, 492, 208, -29, -21],
   [-2, -41, 43, 365, 496, 213, -28, -22],
   [-1, -40, 39, 360, 495, 219, -26, -22],
   [-1, -40, 36, 355, 498, 224, -25, -23],
   [-1, -39, 33, 350, 498, 230, -23, -24],
   [-1, -39, 29, 345, 501, 235, -21, -25],
   [-1, -38, 26, 339, 502, 241, -20, -25],
   [-1, -38, 23, 334, 504, 246, -18, -26],
   [0, -37, 20, 329, 503, 252, -16, -27],
   [0, -36, 17, 323, 505, 257, -14, -28],
   [0, -36, 14, 318, 506, 263, -12, -29],
   [0, -35, 11, 313, 504, 269, -9, -29],
   [0, -34, 8, 307, 506, 274, -7, -30],
   [0, -34, 5, 302, 507, 280, -5, -31],
   [0, -33, 3, 296, 507, 285, -2, -32]]

/-- Bank 2, horizontal taps, by phase. -/
def bank2H : List (List Int) := bank2HPart0 ++ bank2HPart1 ++ bank2HPart2 ++ bank2HPart3

/-- Bank 2, vertical taps, phases 0 to 15. -/
def bank2VPart0 : List (List Int) :=
  [[0, 263, 498, 263, 0, 0],
   [-2, 257, 500, 268, 2, -1],
   [-3, 251, 500, 274, 3, -1],
   [-4, 246, 499, 280, 5, -2],
   [-6, 240, 499, 286, 7, -2],
   [-7, 235, 498, 292, 9, -3],
   [-8, 229, 497, 298, 11, -3],
   [-9, 224, 496, 304, 13, -4],
   [-10, 218, 496, 309, 16, -5],
   [-11, 212, 495, 315, 18, -5],
   [-12, 207, 494, 321, 20, -6],
   [-13, 201, 493, 327, 23, -7],
   [-14, 196, 491, 332, 26, -7],
   [-15, 191, 490, 338, 28, -8],
   [-15, 185, 487, 344, 31, -8],
   [-16, 180, 486, 349, 34, -9]]

/-- Bank 2, vertical taps, phases 16 to 31. -/
def bank2VPart1 : List (List Int) :=
  [[-16, 174, 484, 355, 37, -10],
   [-17, 169, 482, 360, 40, -10],
   [-17, 164, 479, 366, 43, -11],
   [-17, 159, 476, 371, 46, -11],
   [-18, 154, 474, 376, 50, -12],
   [-18, 148, 473, 381, 53, -13],
   [-18, 143, 468, 387, 57, -13],
   [-18, 138, 466, 392, 60, -14],
   [-18, 133, 462, 397, 64, -14],
   [-18, 129, 459, 401, 68, -15],
   [-18, 124, 456, 406, 71, -15],
   [-18, 119, 453, 411, 75, -16],
   [-18, 114, 449, 416, 79, -16],
   [-18, 110, 445, 420, 83, -16],
   [-18, 105, 441, 425, 88, -17],
   [-18, 101, 437, 429, 92, -17]]

/-- Bank 2, vertical taps, phases 32 to 47. -/
def bank2VPart2 : List (List Int) :=
  [[-17, 96, 433, 433, 96, -17],
   [-17, 92, 429, 437, 101, -18],
   [-17, 88, 425, 441, 105, -18],
   [-16, 83, 420, 445, 110, -18],
   [-16, 79, 416, 449, 114, -18],
   [-16, 75, 411, 453, 119, -18],
   [-15, 71, 406, 456, 124, -18],
   [-15, 68, 401, 459, 129, -18],
   [-14, 64, 397, 462, 133, -18],
   [-14, 60, 392, 466, 138, -18],
   [-13, 57, 387, 468, 143, -18],
   [-13, 53, 381, 473, 148, -18],
   [-12, 50, 376, 474, 154, -18],
   [-11, 46, 371, 476, 159, -17],
   [-11, 43, 366, 479, 164, -17],
   [-10, 40, 360, 482, 169, -17]]

/-- Bank 2, vertical taps, phases 48 to 63. -/
def bank2VPart3 : List (List Int) :=
  [[-10, 37, 355, 484, 174, -16],
   [-9, 34, 349, 486, 180, -16],
   [-8, 31, 344, 487, 185, -15],
   [-8, 28, 338, 490, 191, -15],
   [-7, 26, 332, 491, 196, -14],
   [-7, 23, 327, 493, 201, -13],
   [-6, 20, 321, 494, 207, -12],
   [-5, 18, 315, 495, 212, -11],
   [-5, 16, 309, 496, 218, -10],
   [-4, 13, 304, 496, 224, -9],
   [-3, 11, 298, 497, 229, -8],
   [-3, 9, 292, 498, 235, -7],
   [-2, 7, 286, 499, 240, -6],
   [-2, 5, 280, 499, 246, -4],
   [-1, 3, 274, 500, 251, -3],
   [-1, 2, 268, 500, 257, -2]]

/-- Bank 2, vertical taps, by phase. -/
def bank2V : List (List Int) := bank2VPart0 ++ bank2VPart1 ++ bank2VPart2 ++ bank2VPart3

/-- Bank 3, horizontal taps, phases 0 to 15. -/
def bank3HPart0 : List (List Int) :=
  [[-12, 72, 265, 374, 265, 72, -12, 0],
   [-12, 69, 262, 375, 268, 74, -12, 0],
   [-13, 67, 259, 376, 271, 77, -12, -1],
   [-13, 65, 256, 375, 274, 79, -11, -1],
   [-13, 62, 253, 375, 277, 82, -11, -1],
   [-13, 60, 250, 376, 280, 84, -11, -2],
   [-13, 58, 247, 374, 283, 87, -10, -2],
   [-13, 56, 244, 373, 286, 90, -10, -2],
   [-14, 53, 241, 375, 289, 92, -9, -3],
   [-14, 51, 238, 374, 292, 95, -9, -3],
   [-14, 49, 235, 372, 295, 98, -8, -3],
   [-14, 47, 231, 374, 297, 101, -8, -4],
   [-14, 45, 228, 373, 300, 103, -7, -4],
   [-14, 43, 225, 371, 303, 106, -6, -4],
   [-14, 41, 222, 371, 306, 109, -6, -5],
   [-14, 39, 219, 370, 308, 112, -5, -5]]

/-- Bank 3, horizontal taps, phases 16 to 31. -/
def bank3HPart1 : List (List Int) :=
  [[-14, 37, 216, 368, 311, 115, -4, -5],
   [-14, 35, 212, 370, 313, 118, -4, -6],
   [-13, 33, 209, 367, 316, 121, -3, -6],
   [-13, 32, 206, 365, 318, 124, -2, -6],
   [-13, 30, 203, 364, 321, 127, -1, -7],
   [-13, 28, 200, 363, 323, 130, 0, -7],
   [-13, 27, 196, 361, 326, 133, 1, -7],
   [-13, 25, 193, 361, 328, 136, 2, -8],
   [-12, 23, 190, 359, 330, 139, 3, -8],
   [-12, 22, 187, 357, 332, 142, 4, -8],
   [-12, 20, 183, 357, 335, 145, 5, -9],
   [-12, 19, 180, 355, 337, 148, 6, -9],
   [-12, 17, 177, 353, 339, 152, 7, -9],
   [-11, 16, 174, 351, 341, 155, 8, -10],
   [-11, 14, 171, 350, 343, 158, 9, -10],
   [-11, 13, 167, 349, 345, 161, 10, -10]]

/-- Bank 3, horizontal taps, phases 32 to 47. -/
def bank3HPart2 : List (List Int) :=
  [[-11, 12, 164, 347, 347, 164, 12, -11],
   [-10, 10, 161, 345, 349, 167, 13, -11],
   [-10, 9, 158, 343, 350, 171, 14, -11],
   [-10, 8, 155, 341, 351, 174, 16, -11],
   [-9, 7, 152, 339, 353, 177, 17, -12],
   [-9, 6, 148, 337, 355, 180, 19, -12],
   [-9, 5, 145, 335, 357, 183, 20, -12],
   [-8, 4, 142, 332, 357, 187, 22, -12],
   [-8, 3, 139, 330, 359, 190, 23, -12],
   [-8, 2, 136, 328, 361, 193, 25, -13],
   [-7, 1, 133, 326, 361, 196, 27, -13],
   [-7, 0, 130, 323, 363, 200, 28, -13],
   [-7, -1, 127, 321, 364, 203, 30, -13],
   [-6, -2, 124, 318, 365, 206, 32, -13],
   [-6, -3, 121, 316, 367, 209, 33, -13],
   [-6, -4, 118, 313, 370, 212, 35, -14]]

/-- Bank 3, horizontal taps, phases 48 to 63. -/
def bank3HPart3 : List (List Int) :=
  [[-5, -4, 115, 311, 368, 216, 37, -14],
   [-5, -5, 112, 308, 370, 219, 39, -14],
   [-5, -6, 109, 306, 371, 222, 41, -14],
   [-4, -6, 106, 303, 371, 225, 43, -14],
   [-4, -7, 103, 300, 373, 228, 45, -14],
   [-4, -8, 101, 297, 374, 231, 47, -14],
   [-3, -8, 98, 295, 372, 235, 49, -14],
   [-3, -9, 95, 292, 374, 238, 51, -14],
   [-3, -9, 92, 289, 375, 241, 53, -14],
   [-2, -10, 90, 286, 373, 244, 56, -13],
   [-2, -10, 87, 283, 374, 247, 58, -13],
   [-2, -11, 84, 280, 376, 250, 60, -13],
   [-1, -11, 82, 277, 375, 253, 62, -13],
   [-1, -11, 79, 274, 375, 256, 65, -13],
   [-1, -12, 77, 271, 376, 259, 67, -13],
   [0, -12, 74, 268, 375, 262, 69, -12]]

/-- Bank 3, horizontal taps, by phase. -/
def bank3H : List (List Int) := bank3HPart0 ++ bank3HPart1 ++ bank3HPart2 ++ bank3HPart3

/-- Bank 3, vertical taps, phases 0 to 15. -/
def bank3VPart0 : List (List Int) :=
  [[50, 261, 402, 261, 50, 0],
   [48, 257, 402, 265, 52, 0],
   [46, 254, 402, 268, 54, 0],
   [44, 250, 402, 272, 57, -1],
   [42, 246, 402, 276, 59, -1],
   [40, 243, 402, 279, 61, -1],
   [38, 239, 401, 283, 64, -1],
   [36, 235, 401, 287, 66, -1],
   [34, 231, 401, 290, 69, -1],
   [32, 228, 399, 294, 72, -1],
   [31, 224, 399, 297, 74, -1],
   [29, 220, 398, 301, 77, -1],
   [27, 216, 398, 304, 80, -1],
   [26, 213, 396, 308, 82, -1],
   [24, 209, 396, 311, 85, -1],
   [23, 205, 394, 315, 88, -1]]

/-- Bank 3, vertical taps, phases 16 to 31. -/
def bank3VPart1 : List (List Int) :=
  [[22, 201, 393, 318, 91, -1],
   [20, 198, 392, 321, 94, -1],
   [19, 194, 391, 324, 97, -1],
   [18, 190, 389, 328, 100, -1],
   [16, 186, 388, 331, 103, 0],
   [15, 183, 386, 334, 106, 0],
   [14, 179, 385, 337, 109, 0],
   [13, 175, 382, 340, 113, 1],
   [12, 172, 380, 343, 116, 1],
   [11, 168, 379, 346, 119, 1],
   [10, 164, 378, 348, 122, 2],
   [9, 161, 375, 351, 126, 2],
   [8, 157, 373, 354, 129, 3],
   [7, 153, 372, 357, 132, 3],
   [7, 150, 368, 359, 136, 4],
   [6, 146, 367, 362, 139, 4]]

/-- Bank 3, vertical taps, phases 32 to 47. -/
def bank3VPart2 : List (List Int) :=
  [[5, 143, 364, 364, 143, 5],
   [4, 139, 362, 367, 146, 6],
   [4, 136, 359, 368, 150, 7],
   [3, 132, 357, 372, 153, 7],
   [3, 129, 354, 373, 157, 8],
   [2, 126, 351, 375, 161, 9],
   [2, 122, 348, 378, 164, 10],
   [1, 119, 346, 379, 168, 11],
   [1, 116, 343, 380, 172, 12],
   [1, 113, 340, 382, 175, 13],
   [0, 109, 337, 385, 179, 14],
   [0, 106, 334, 386, 183, 15],
   [0, 103, 331, 388, 186, 16],
   [-1, 100, 328, 389, 190, 18],
   [-1, 97, 324, 391, 194, 19],
   [-1, 94, 321, 392, 198, 20]]

/-- Bank 3, vertical taps, phases 48 to 63. -/
def bank3VPart3 : List (List Int) :=
  [[-1, 91, 318, 393, 201, 22],
   [-1, 88, 315, 394, 205, 23],
   [-1, 85, 311, 396, 209, 24],
   [-1, 82, 308, 396, 213, 26],
   [-1, 80, 304, 398, 216, 27],
   [-1, 77, 301, 398, 220, 29],
   [-1, 74, 297, 399, 224, 31],
   [-1, 72, 294, 399, 228, 32],
   [-1, 69, 290, 401, 231, 34],
   [-1, 66, 287, 401, 235, 36],
   [-1, 64, 283, 401, 239, 38],
   [-1, 61, 279, 402, 243, 40],
   [-1, 59, 276, 402, 246, 42],
   [-1, 57, 272, 402, 250, 44],
   [0, 54, 268, 402, 254, 46],
   [0, 52, 265, 402, 257, 48]]

/-- Bank 3, vertical taps, by phase. -/
def bank3V : List (List Int) := bank3VPart0 ++ bank3VPart1 ++ bank3VPart2 ++ bank3VPart3

/-- R456: tap `t` of phase `p` of a built-in bank, horizontal (8 taps) or vertical (6 taps). -/
def bankTap (bank : Nat) (horizontal : Bool) (p t : Nat) : Int :=
  if bank = 4 then
    let first := if horizontal then 3 else 2
    if t = first then 1024 - 16 * p else if t = first + 1 then 16 * p else 0
  else
    let rows := match bank, horizontal with
      | 0, true => bank0H | 0, false => bank0V | 1, true => bank1H | 1, false => bank1V
      | 2, true => bank2H | 2, false => bank2V | _, true => bank3H | _, false => bank3V
    (rows.getD p []).getD t 0

/-- CMP_FILTER_BANK: the 1,792 bytes of a bank, 64 phases of 8 horizontal taps, then of 6 vertical ones. -/
def bankBytes (bank : Nat) : Bytes :=
  let side (h : Bool) (n : Nat) : Bytes := (List.range 64).flatMap fun p =>
    (List.range n).flatMap fun t => bytesBE 2 (unsigned 16 (bankTap bank h p t))
  side true 8 ++ side false 6

end Sys2Proof.Machine
end

