-- ==== Sys2Proof/Machine/Objects.lean ====
section
/-! DEFINITION. Every object of the dictionary, one definition each, from the chapters' object tables: index, subindex,
type, access class, role, rows, default, range, field bounds, reserved bits, size and whether it is kept in the Cask.
Fields of an `Obj`, in order: index, sub, ty, access, role, rows, deflt, range, fields, reservedMask, size, cask, name.
Where a table gives a row-dependent default, the default of the row is in `rowDefault` (`Machine/Dictionary.lean`). -/
set_option Elab.async false
namespace Sys2Proof.Machine

/-- Device type, 0x1000:00. -/
def Obj.deviceType : Obj :=
  ⟨0x1000, 0x00, .u32, .const, .viewer, 0, .num 0, [], [], 0x0, 0, false, "Device type"⟩

/-- Error register, 0x1001:00. -/
def Obj.errorRegister : Obj :=
  ⟨0x1001, 0x00, .u8, .ro, .viewer, 0, .num 0, [], [], 0x0, 0, false, "Error register"⟩

/-- Manufacturer device name, 0x1008:00. -/
def Obj.deviceName : Obj :=
  ⟨0x1008, 0x00, (.str 16), .const, .viewer, 0, .bytes (ascii "NG-6496"), [], [], 0x0, 0, false, "Manufacturer device name"⟩

/-- Manufacturer hardware version, 0x1009:00. -/
def Obj.hardwareVersion : Obj :=
  ⟨0x1009, 0x00, (.str 8), .const, .viewer, 0, .bytes [], [], [], 0x0, 0, false, "Manufacturer hardware version"⟩

/-- Manufacturer software version, 0x100A:00. -/
def Obj.softwareVersion : Obj :=
  ⟨0x100A, 0x00, (.str 32), .const, .viewer, 0, .bytes [], [], [], 0x0, 0, false, "Manufacturer software version"⟩

/-- COB-ID EMCY, 0x1014:00. -/
def Obj.cobIdEmcy : Obj :=
  ⟨0x1014, 0x00, .u32, .ro, .viewer, 0, .num 0x80, [], [], 0x0, 0, false, "COB-ID EMCY"⟩

/-- Inhibit time EMCY, 0x1015:00. -/
def Obj.inhibitTimeEmcy : Obj :=
  ⟨0x1015, 0x00, .u16, .rw, .operator, 0, .num 100, [], [], 0x0, 0, false, "Inhibit time EMCY"⟩

/-- Producer heartbeat time, 0x1017:00. -/
def Obj.heartbeatTime : Obj :=
  ⟨0x1017, 0x00, .u16, .rw, .operator, 0, .num 1000, [], [], 0x0, 0, false, "Producer heartbeat time"⟩

/-- Vendor-ID, 0x1018:01. -/
def Obj.vendorId : Obj :=
  ⟨0x1018, 0x01, .u32, .const, .viewer, 0, .num 4352370, [], [], 0x0, 0, false, "Vendor-ID"⟩

/-- Product code, 0x1018:02. -/
def Obj.productCode : Obj :=
  ⟨0x1018, 0x02, .u32, .const, .viewer, 0, .num 25750, [], [], 0x0, 0, false, "Product code"⟩

/-- Revision number, 0x1018:03. -/
def Obj.revisionNumber : Obj :=
  ⟨0x1018, 0x03, .u32, .const, .viewer, 0, .num 0, [], [], 0x0, 0, false, "Revision number"⟩

/-- Serial number, 0x1018:04. -/
def Obj.serialNumber : Obj :=
  ⟨0x1018, 0x04, .u32, .const, .viewer, 0, .num 0, [], [], 0x0, 0, false, "Serial number"⟩

/-- SET_RACK, 0x2000:01. -/
def Obj.setRack : Obj :=
  ⟨0x2000, 0x01, .u32, .ex, .brewer, 0, .num 0, [], [], 0x0, 0, false, "SET_RACK"⟩

/-- SET_RACK_CANCEL, 0x2000:02. -/
def Obj.setRackCancel : Obj :=
  ⟨0x2000, 0x02, .u8, .ex, .brewer, 0, .num 0, [(1, 1)], [], 0x0, 0, false, "SET_RACK_CANCEL"⟩

/-- SET_RACK_STATE, 0x2000:03. -/
def Obj.setRackState : Obj :=
  ⟨0x2000, 0x03, .u8, .ro, .viewer, 0, .num 0, [], [], 0x0, 0, false, "SET_RACK_STATE"⟩

/-- SET_RACK_RESULT, 0x2000:04. -/
def Obj.setRackResult : Obj :=
  ⟨0x2000, 0x04, .u8, .ro, .viewer, 0, .num 0, [], [], 0x0, 0, false, "SET_RACK_RESULT"⟩

/-- SET_RACK_FRAME, 0x2000:05. -/
def Obj.setRackFrame : Obj :=
  ⟨0x2000, 0x05, .u32, .ro, .viewer, 0, .num 0, [], [], 0x0, 0, false, "SET_RACK_FRAME"⟩

/-- SET_RACK_COUNT, 0x2000:06. -/
def Obj.setRackCount : Obj :=
  ⟨0x2000, 0x06, .u32, .ro, .viewer, 0, .num 0, [], [], 0x0, 0, false, "SET_RACK_COUNT"⟩

/-- SET_RACK_LEAD, 0x2000:07. -/
def Obj.setRackLead : Obj :=
  ⟨0x2000, 0x07, .u8, .rw, .brewer, 0, .num 2, [(2, 60)], [], 0x0, 0, true, "SET_RACK_LEAD"⟩

/-- SET_DISCARD, 0x2000:08. -/
def Obj.setDiscard : Obj :=
  ⟨0x2000, 0x08, .u8, .ex, .brewer, 0, .num 0, [(1, 1)], [], 0x0, 0, false, "SET_DISCARD"⟩

/-- SET_GREEN_DIGEST, 0x2000:09. -/
def Obj.setGreenDigest : Obj :=
  ⟨0x2000, 0x09, .domain, .ro, .viewer, 0, .bytes (zeros 48), [], [], 0x0, 48, false, "SET_GREEN_DIGEST"⟩

/-- SET_BRIGHT_DIGEST, 0x2000:0A. -/
def Obj.setBrightDigest : Obj :=
  ⟨0x2000, 0x0A, .domain, .ro, .viewer, 0, .bytes (zeros 48), [], [], 0x0, 48, false, "SET_BRIGHT_DIGEST"⟩

/-- SET_VALIDATE, 0x2000:0B. -/
def Obj.setValidate : Obj :=
  ⟨0x2000, 0x0B, .u8, .ex, .brewer, 0, .num 0, [(1, 1)], [], 0x0, 0, false, "SET_VALIDATE"⟩

/-- SET_VALID_STATUS, 0x2000:0C. -/
def Obj.setValidStatus : Obj :=
  ⟨0x2000, 0x0C, .u8, .ro, .viewer, 0, .num 0, [], [], 0x0, 0, false, "SET_VALID_STATUS"⟩

/-- SET_VALID_CODE, 0x2000:0D. -/
def Obj.setValidCode : Obj :=
  ⟨0x2000, 0x0D, .u8, .ro, .viewer, 0, .num 0, [], [], 0x0, 0, false, "SET_VALID_CODE"⟩

/-- SET_VALID_OBJECT, 0x2000:0E. -/
def Obj.setValidObject : Obj :=
  ⟨0x2000, 0x0E, .u32, .ro, .viewer, 0, .num 0, [], [], 0x0, 0, false, "SET_VALID_OBJECT"⟩

/-- SET_VALID_ROW, 0x2000:0F. -/
def Obj.setValidRow : Obj :=
  ⟨0x2000, 0x0F, .u32, .ro, .viewer, 0, .num 0, [], [], 0x0, 0, false, "SET_VALID_ROW"⟩

/-- SET_BOOT_RACK, 0x2000:10. -/
def Obj.setBootRack : Obj :=
  ⟨0x2000, 0x10, .bool, .rw, .brewer, 0, .num 1, [], [], 0x0, 0, true, "SET_BOOT_RACK"⟩

/-- SET_READ_BRIGHT, 0x2000:11. -/
def Obj.setReadBright : Obj :=
  ⟨0x2000, 0x11, .bool, .rw, .viewer, 0, .num 0, [], [], 0x0, 0, false, "SET_READ_BRIGHT"⟩

/-- SET_SAVE, 0x2010:01. -/
def Obj.setSave : Obj :=
  ⟨0x2010, 0x01, .u8, .ex, .brewer, 0, .num 0, [(0, 1)], [], 0x0, 0, false, "SET_SAVE"⟩

/-- SET_LOAD, 0x2010:02. -/
def Obj.setLoad : Obj :=
  ⟨0x2010, 0x02, .u8, .ex, .brewer, 0, .num 0, [(0, 1)], [], 0x0, 0, false, "SET_LOAD"⟩

/-- SET_BOOT_SLOT, 0x2010:03. -/
def Obj.setBootSlot : Obj :=
  ⟨0x2010, 0x03, .u8, .rw, .brewer, 0, .num 0, [(0, 1)], [], 0x0, 0, true, "SET_BOOT_SLOT"⟩

/-- SET_SLOT_STATE_A, 0x2010:04. -/
def Obj.setSlotStateA : Obj :=
  ⟨0x2010, 0x04, .u8, .ro, .viewer, 0, .num 0, [], [], 0x0, 0, false, "SET_SLOT_STATE_A"⟩

/-- SET_SLOT_STATE_B, 0x2010:05. -/
def Obj.setSlotStateB : Obj :=
  ⟨0x2010, 0x05, .u8, .ro, .viewer, 0, .num 0, [], [], 0x0, 0, false, "SET_SLOT_STATE_B"⟩

/-- SET_SAVE_STATUS, 0x2010:06. -/
def Obj.setSaveStatus : Obj :=
  ⟨0x2010, 0x06, .u8, .ro, .viewer, 0, .num 0, [], [], 0x0, 0, false, "SET_SAVE_STATUS"⟩

/-- SET_STREL_PORT, 0x2020:01. -/
def Obj.setStrelPort : Obj :=
  ⟨0x2020, 0x01, .u16, .rw, .brewer, 0, .num 42117, [(1024, 65535)], [], 0x0, 0, true, "SET_STREL_PORT"⟩

/-- SET_STREL_MAX_MSG, 0x2020:02. -/
def Obj.setStrelMaxMsg : Obj :=
  ⟨0x2020, 0x02, .u16, .rw, .brewer, 0, .num 1472, [(512, 8960)], [], 0x0, 0, false, "SET_STREL_MAX_MSG"⟩

/-- SET_SESSIONS_OPEN, 0x2020:03. -/
def Obj.setSessionsOpen : Obj :=
  ⟨0x2020, 0x03, .u8, .ro, .viewer, 0, .num 0, [], [], 0x0, 0, false, "SET_SESSIONS_OPEN"⟩

/-- SET_SESSION_ROW_SELECT, 0x2020:04. -/
def Obj.setSessionRowSelect : Obj :=
  ⟨0x2020, 0x04, .u32, .rw, .viewer, 0, .num 0, [(0, 15)], [], 0x0, 0, false, "SET_SESSION_ROW_SELECT"⟩

/-- SET_SESSION_INFO, 0x2020:05. -/
def Obj.setSessionInfo : Obj :=
  ⟨0x2020, 0x05, .domain, .ro, .viewer, 16, .bytes (zeros 32), [], [], 0x0, 32, false, "SET_SESSION_INFO"⟩

/-- SET_SESSION_KILL, 0x2020:06. -/
def Obj.setSessionKill : Obj :=
  ⟨0x2020, 0x06, .u32, .ex, .brewer, 0, .num 0, [], [], 0x0, 0, false, "SET_SESSION_KILL"⟩

/-- SET_AUTH_FAILS, 0x2020:07. -/
def Obj.setAuthFails : Obj :=
  ⟨0x2020, 0x07, .u32, .ro, .viewer, 0, .num 0, [], [], 0x0, 0, false, "SET_AUTH_FAILS"⟩

/-- SET_IDLE_TIMEOUT, 0x2020:08. -/
def Obj.setIdleTimeout : Obj :=
  ⟨0x2020, 0x08, .u16, .const, .viewer, 0, .num 60, [], [], 0x0, 0, false, "SET_IDLE_TIMEOUT"⟩

/-- SET_CAN_DATA_RATE, 0x2030:01. -/
def Obj.setCanDataRate : Obj :=
  ⟨0x2030, 0x01, .u8, .rw, .brewer, 0, .num 2, [(1, 2), (4, 5)], [], 0x0, 0, true, "SET_CAN_DATA_RATE"⟩

/-- SET_CAN_MAX_ROLE, 0x2030:02. -/
def Obj.setCanMaxRole : Obj :=
  ⟨0x2030, 0x02, .u8, .rw, .vendor, 0, .num 2, [(0, 2)], [], 0x0, 0, true, "SET_CAN_MAX_ROLE"⟩

/-- SET_CAN_ROLE, 0x2030:03. -/
def Obj.setCanRole : Obj :=
  ⟨0x2030, 0x03, .u8, .ro, .viewer, 0, .num 0, [], [], 0x0, 0, false, "SET_CAN_ROLE"⟩

/-- SET_CAN_NONCE, 0x2030:04. -/
def Obj.setCanNonce : Obj :=
  ⟨0x2030, 0x04, .domain, .ro, .viewer, 0, .bytes (zeros 32), [], [], 0x0, 32, false, "SET_CAN_NONCE"⟩

/-- SET_CAN_PROOF, 0x2030:05. -/
def Obj.setCanProof : Obj :=
  ⟨0x2030, 0x05, .domain, .wo, .viewer, 0, .bytes (zeros 84), [], [], 0x0, 84, false, "SET_CAN_PROOF"⟩

/-- SET_CAN_LOCK, 0x2030:06. -/
def Obj.setCanLock : Obj :=
  ⟨0x2030, 0x06, .u8, .ex, .viewer, 0, .num 0, [(1, 1)], [], 0x0, 0, false, "SET_CAN_LOCK"⟩

/-- TBS_SOURCE, 0x2100:01. -/
def Obj.tbsSource : Obj :=
  ⟨0x2100, 0x01, .u8, .rw, .brewer, 0, .num 0, [(0, 3)], [], 0x0, 0, true, "TBS_SOURCE"⟩

/-- TBS_STATE, 0x2100:02. -/
def Obj.tbsState : Obj :=
  ⟨0x2100, 0x02, .u8, .ro, .viewer, 0, .num 0, [], [], 0x0, 0, false, "TBS_STATE"⟩

/-- TBS_CANVAS_LOCK, 0x2100:03. -/
def Obj.tbsCanvasLock : Obj :=
  ⟨0x2100, 0x03, .bool, .ro, .viewer, 0, .num 0, [], [], 0x0, 0, false, "TBS_CANVAS_LOCK"⟩

/-- TBS_NOW_CTIME, 0x2100:04. -/
def Obj.tbsNowCtime : Obj :=
  ⟨0x2100, 0x04, .ctime, .ro, .viewer, 0, .bytes (zeros 6), [], [], 0x0, 0, false, "TBS_NOW_CTIME"⟩

/-- TBS_NOW_TIME80, 0x2100:05. -/
def Obj.tbsNowTime80 : Obj :=
  ⟨0x2100, 0x05, .time80, .ro, .viewer, 0, .bytes (zeros 10), [], [], 0x0, 0, false, "TBS_NOW_TIME80"⟩

/-- TBS_OFFSET_NS, 0x2100:06. -/
def Obj.tbsOffsetNs : Obj :=
  ⟨0x2100, 0x06, .i64, .ro, .viewer, 0, .num 0, [], [], 0x0, 0, false, "TBS_OFFSET_NS"⟩

/-- TBS_FREQ_PPB, 0x2100:07. -/
def Obj.tbsFreqPpb : Obj :=
  ⟨0x2100, 0x07, .i64, .ro, .viewer, 0, .num 0, [], [], 0x0, 0, false, "TBS_FREQ_PPB"⟩

/-- TBS_STEP_POLICY, 0x2100:08. -/
def Obj.tbsStepPolicy : Obj :=
  ⟨0x2100, 0x08, .u8, .rw, .brewer, 0, .num 0, [(0, 2)], [], 0x0, 0, true, "TBS_STEP_POLICY"⟩

/-- TBS_STEP_NS, 0x2100:09. -/
def Obj.tbsStepNs : Obj :=
  ⟨0x2100, 0x09, .u32, .rw, .brewer, 0, .num 1000000, [(1000, 1000000000)], [], 0x0, 0, false, "TBS_STEP_NS"⟩

/-- TBS_SLEW_PPB, 0x2100:0A. -/
def Obj.tbsSlewPpb : Obj :=
  ⟨0x2100, 0x0A, .u32, .rw, .brewer, 0, .num 10000, [(100, 100000)], [], 0x0, 0, false, "TBS_SLEW_PPB"⟩

/-- TBS_HOLDOVER_LIMIT, 0x2100:0B. -/
def Obj.tbsHoldoverLimit : Obj :=
  ⟨0x2100, 0x0B, .u32, .rw, .operator, 0, .num 3600, [], [], 0x0, 0, false, "TBS_HOLDOVER_LIMIT"⟩

/-- TBS_HOLDOVER_S, 0x2100:0C. -/
def Obj.tbsHoldoverS : Obj :=
  ⟨0x2100, 0x0C, .u32, .ro, .viewer, 0, .num 0, [], [], 0x0, 0, false, "TBS_HOLDOVER_S"⟩

/-- TBS_STEP_COUNT, 0x2100:0D. -/
def Obj.tbsStepCount : Obj :=
  ⟨0x2100, 0x0D, .u32, .ro, .viewer, 0, .num 0, [], [], 0x0, 0, false, "TBS_STEP_COUNT"⟩

/-- TBS_LAST_STEP_NS, 0x2100:0E. -/
def Obj.tbsLastStepNs : Obj :=
  ⟨0x2100, 0x0E, .i64, .ro, .viewer, 0, .num 0, [], [], 0x0, 0, false, "TBS_LAST_STEP_NS"⟩

/-- TBS_OSC_PRESENT, 0x2100:0F. -/
def Obj.tbsOscPresent : Obj :=
  ⟨0x2100, 0x0F, .bool, .ro, .viewer, 0, .num 0, [], [], 0x0, 0, false, "TBS_OSC_PRESENT"⟩

/-- TBS_TOD_SET, 0x2100:10. -/
def Obj.tbsTodSet : Obj :=
  ⟨0x2100, 0x10, .time80, .wo, .brewer, 0, .bytes (zeros 10), [], [], 0x0, 0, false, "TBS_TOD_SET"⟩

/-- TBS_FRAME_DIV, 0x2100:11. -/
def Obj.tbsFrameDiv : Obj :=
  ⟨0x2100, 0x11, .u8, .rw, .brewer, 0, .num 1, [(1, 16)], [], 0x0, 0, false, "TBS_FRAME_DIV"⟩

/-- TBS_TOD_WAIT_S, 0x2100:12. -/
def Obj.tbsTodWaitS : Obj :=
  ⟨0x2100, 0x12, .u16, .rw, .brewer, 0, .num 30, [(0, 3600)], [], 0x0, 0, true, "TBS_TOD_WAIT_S"⟩

/-- TBS_PTP_PROFILE, 0x2110:01. -/
def Obj.tbsPtpProfile : Obj :=
  ⟨0x2110, 0x01, .u8, .rw, .brewer, 0, .num 0, [(0, 1)], [], 0x0, 0, false, "TBS_PTP_PROFILE"⟩

/-- TBS_PTP_DOMAIN, 0x2110:02. -/
def Obj.tbsPtpDomain : Obj :=
  ⟨0x2110, 0x02, .u8, .rw, .brewer, 0, .num 127, [(0, 127)], [], 0x0, 0, false, "TBS_PTP_DOMAIN"⟩

/-- TBS_PTP_TRANSPORT, 0x2110:03. -/
def Obj.tbsPtpTransport : Obj :=
  ⟨0x2110, 0x03, .u8, .rw, .brewer, 0, .num 0, [(0, 2)], [], 0x0, 0, false, "TBS_PTP_TRANSPORT"⟩

/-- TBS_PTP_PORT_A, 0x2110:04. -/
def Obj.tbsPtpPortA : Obj :=
  ⟨0x2110, 0x04, .u8, .rw, .brewer, 0, .num 0, [(0, 95)], [], 0x0, 0, false, "TBS_PTP_PORT_A"⟩

/-- TBS_PTP_PORT_B, 0x2110:05. -/
def Obj.tbsPtpPortB : Obj :=
  ⟨0x2110, 0x05, .u8, .rw, .brewer, 0, .num 255, [(0, 95), (255, 255)], [], 0x0, 0, false, "TBS_PTP_PORT_B"⟩

/-- TBS_PTP_DELAY_MODE, 0x2110:06. -/
def Obj.tbsPtpDelayMode : Obj :=
  ⟨0x2110, 0x06, .u8, .rw, .brewer, 0, .num 0, [(0, 1)], [], 0x0, 0, false, "TBS_PTP_DELAY_MODE"⟩

/-- TBS_PTP_ASYM_NS, 0x2110:07. -/
def Obj.tbsPtpAsymNs : Obj :=
  ⟨0x2110, 0x07, .i32, .rw, .brewer, 0, .num 0, [], [], 0x0, 0, false, "TBS_PTP_ASYM_NS"⟩

/-- TBS_PTP_MASTER, 0x2110:08. -/
def Obj.tbsPtpMaster : Obj :=
  ⟨0x2110, 0x08, .domain, .ro, .viewer, 0, .bytes (zeros 10), [], [], 0x0, 10, false, "TBS_PTP_MASTER"⟩

/-- TBS_PTP_MEAN_DELAY_NS, 0x2110:09. -/
def Obj.tbsPtpMeanDelayNs : Obj :=
  ⟨0x2110, 0x09, .u32, .ro, .viewer, 0, .num 0, [], [], 0x0, 0, false, "TBS_PTP_MEAN_DELAY_NS"⟩

/-- TBS_PTP_SM_TLV, 0x2110:0A. -/
def Obj.tbsPtpSmTlv : Obj :=
  ⟨0x2110, 0x0A, .domain, .ro, .viewer, 0, .bytes [], [], [], 0x0, 0, false, "TBS_PTP_SM_TLV"⟩

/-- TBS_PTP_UTC_OFFSET, 0x2110:0B. -/
def Obj.tbsPtpUtcOffset : Obj :=
  ⟨0x2110, 0x0B, .i16, .ro, .viewer, 0, .num 0, [], [], 0x0, 0, false, "TBS_PTP_UTC_OFFSET"⟩

/-- TBS_CAL_ROW_SELECT, 0x2120:01. -/
def Obj.tbsCalRowSelect : Obj :=
  ⟨0x2120, 0x01, .u32, .rw, .viewer, 0, .num 0, [(0, 4095)], [], 0x0, 0, false, "TBS_CAL_ROW_SELECT"⟩

/-- TBS_CAL_W0, 0x2120:02. -/
def Obj.tbsCalW0 : Obj :=
  ⟨0x2120, 0x02, .u64, .rw, .operator, 4096, .num 0, [], [], 0x0, 0, false, "TBS_CAL_W0"⟩

/-- TBS_CAL_W1, 0x2120:03. -/
def Obj.tbsCalW1 : Obj :=
  ⟨0x2120, 0x03, .u64, .rw, .operator, 4096, .num 0, [], [⟨27, 20, [(0, 4)]⟩], 0xff00000000000000, 0, false, "TBS_CAL_W1"⟩

/-- TBS_CAL_USED, 0x2120:04. -/
def Obj.tbsCalUsed : Obj :=
  ⟨0x2120, 0x04, .u16, .ro, .viewer, 0, .num 0, [], [], 0x0, 0, false, "TBS_CAL_USED"⟩

/-- TBS_CAL_MISSED, 0x2120:05. -/
def Obj.tbsCalMissed : Obj :=
  ⟨0x2120, 0x05, .u32, .ro, .viewer, 0, .num 0, [], [], 0x0, 0, false, "TBS_CAL_MISSED"⟩

/-- LNK_LANES, 0x2200:01. -/
def Obj.lnkLanes : Obj :=
  ⟨0x2200, 0x01, .u8, .const, .viewer, 0, .num 96, [], [], 0x0, 0, false, "LNK_LANES"⟩

/-- LNK_BASE_MAC, 0x2200:02. -/
def Obj.lnkBaseMac : Obj :=
  ⟨0x2200, 0x02, .u64, .const, .viewer, 0, .num 0, [], [], 0x0, 0, false, "LNK_BASE_MAC"⟩

/-- LNK_UP_HOLD_MS, 0x2200:03. -/
def Obj.lnkUpHoldMs : Obj :=
  ⟨0x2200, 0x03, .u16, .rw, .brewer, 0, .num 100, [(10, 10000)], [], 0x0, 0, true, "LNK_UP_HOLD_MS"⟩

/-- LNK_RETRY_MS, 0x2200:04. -/
def Obj.lnkRetryMs : Obj :=
  ⟨0x2200, 0x04, .u16, .rw, .brewer, 0, .num 1000, [(100, 60000)], [], 0x0, 0, true, "LNK_RETRY_MS"⟩

/-- LNK_FEC_DEGRADE, 0x2200:05. -/
def Obj.lnkFecDegrade : Obj :=
  ⟨0x2200, 0x05, .u8, .rw, .brewer, 0, .num 5, [(3, 12)], [], 0x0, 0, false, "LNK_FEC_DEGRADE"⟩

/-- LNK_PUNT_LIMIT, 0x2200:06. -/
def Obj.lnkPuntLimit : Obj :=
  ⟨0x2200, 0x06, .u16, .rw, .brewer, 0, .num 2000, [(100, 20000)], [], 0x0, 0, false, "LNK_PUNT_LIMIT"⟩

/-- LNK_RESOLVE_S, 0x2200:07. -/
def Obj.lnkResolveS : Obj :=
  ⟨0x2200, 0x07, .u16, .rw, .brewer, 0, .num 60, [(10, 3600)], [], 0x0, 0, false, "LNK_RESOLVE_S"⟩

/-- LNK_MGMT_DSCP, 0x2200:08. -/
def Obj.lnkMgmtDscp : Obj :=
  ⟨0x2200, 0x08, .u8, .rw, .brewer, 0, .num 16, [(0, 63)], [], 0x0, 0, false, "LNK_MGMT_DSCP"⟩

/-- LNK_PCP_COLOUR, 0x2200:09. -/
def Obj.lnkPcpColour : Obj :=
  ⟨0x2200, 0x09, .u16, .rg, .brewer, 0, .num 0, [],
    [⟨1, 0, [(0, 2)]⟩, ⟨3, 2, [(0, 2)]⟩, ⟨5, 4, [(0, 2)]⟩, ⟨7, 6, [(0, 2)]⟩, ⟨9, 8, [(0, 2)]⟩, ⟨11, 10, [(0, 2)]⟩, ⟨13, 12, [(0, 2)]⟩, ⟨15, 14, [(0, 2)]⟩], 0x0, 0, false, "LNK_PCP_COLOUR"⟩

/-- LNK_DSCP_COLOUR, 0x2200:0A. -/
def Obj.lnkDscpColour : Obj :=
  ⟨0x2200, 0x0A, .domain, .rg, .brewer, 0, .bytes (zeros 16), [], [], 0x0, 16, false, "LNK_DSCP_COLOUR"⟩

/-- LNK_UNRESOLVED, 0x2200:0B. -/
def Obj.lnkUnresolved : Obj :=
  ⟨0x2200, 0x0B, .u64, .ro, .viewer, 0, .num 0, [], [], 0x0, 0, false, "LNK_UNRESOLVED"⟩

/-- LNK_PUNT_DROPS, 0x2200:0C. -/
def Obj.lnkPuntDrops : Obj :=
  ⟨0x2200, 0x0C, .u64, .ro, .viewer, 0, .num 0, [], [], 0x0, 0, false, "LNK_PUNT_DROPS"⟩

/-- LNK_PORT_ROW_SELECT, 0x2210:01. -/
def Obj.lnkPortRowSelect : Obj :=
  ⟨0x2210, 0x01, .u32, .rw, .viewer, 0, .num 0, [(0, 95)], [], 0x0, 0, false, "LNK_PORT_ROW_SELECT"⟩

/-- LNK_PORT_W0, 0x2210:02. -/
def Obj.lnkPortW0 : Obj :=
  ⟨0x2210, 0x02, .u64, .rw, .brewer, 96, .num 0xff177000, [], [⟨3, 1, [(0, 6)]⟩, ⟨5, 4, [(0, 2)]⟩, ⟨23, 10, [(1280, 9216)]⟩, ⟨31, 24, [(0, 95), (255, 255)]⟩], 0xfff8700000000200, 0, true, "LNK_PORT_W0"⟩

/-- LNK_PORT_W1, 0x2210:03. -/
def Obj.lnkPortW1 : Obj :=
  ⟨0x2210, 0x03, .u64, .rw, .brewer, 96, .num 0, [], [], 0xffff000000000000, 0, true, "LNK_PORT_W1"⟩

/-- LNK_PORT_W2, 0x2210:04. -/
def Obj.lnkPortW2 : Obj :=
  ⟨0x2210, 0x04, .u64, .rw, .brewer, 96, .num 0, [], [], 0x0, 0, true, "LNK_PORT_W2"⟩

/-- LNK_PORT_W3, 0x2210:05. -/
def Obj.lnkPortW3 : Obj :=
  ⟨0x2210, 0x05, .u64, .rw, .brewer, 96, .num 0, [], [], 0xffffffffffff0000, 0, true, "LNK_PORT_W3"⟩

/-- LNK_PORT_W4, 0x2210:06. -/
def Obj.lnkPortW4 : Obj :=
  ⟨0x2210, 0x06, .u64, .rw, .brewer, 96, .num 0, [], [], 0x0, 0, true, "LNK_PORT_W4"⟩

/-- LNK_PORT_W5, 0x2210:07. -/
def Obj.lnkPortW5 : Obj :=
  ⟨0x2210, 0x07, .u64, .rw, .brewer, 96, .num 0, [], [], 0x0, 0, true, "LNK_PORT_W5"⟩

/-- LNK_PORT_STATE, 0x2210:08. -/
def Obj.lnkPortState : Obj :=
  ⟨0x2210, 0x08, .u8, .ro, .viewer, 96, .num 0, [], [], 0x0, 0, false, "LNK_PORT_STATE"⟩

/-- LNK_PORT_CAUSE, 0x2210:09. -/
def Obj.lnkPortCause : Obj :=
  ⟨0x2210, 0x09, .u8, .ro, .viewer, 96, .num 0, [], [], 0x0, 0, false, "LNK_PORT_CAUSE"⟩

/-- LNK_PORT_FAILED_OVER, 0x2210:0A. -/
def Obj.lnkPortFailedOver : Obj :=
  ⟨0x2210, 0x0A, .bool, .ro, .viewer, 96, .num 0, [], [], 0x0, 0, false, "LNK_PORT_FAILED_OVER"⟩

/-- LNK_PORT_DOWNS, 0x2210:0B. -/
def Obj.lnkPortDowns : Obj :=
  ⟨0x2210, 0x0B, .u32, .ro, .viewer, 96, .num 0, [], [], 0x0, 0, false, "LNK_PORT_DOWNS"⟩

/-- LNK_PORT_RX_FRAMES, 0x2210:0C. -/
def Obj.lnkPortRxFrames : Obj :=
  ⟨0x2210, 0x0C, .u64, .ro, .viewer, 96, .num 0, [], [], 0x0, 0, false, "LNK_PORT_RX_FRAMES"⟩

/-- LNK_PORT_RX_DISCARDS, 0x2210:0D. -/
def Obj.lnkPortRxDiscards : Obj :=
  ⟨0x2210, 0x0D, .u64, .ro, .viewer, 96, .num 0, [], [], 0x0, 0, false, "LNK_PORT_RX_DISCARDS"⟩

/-- LNK_PORT_RX_FCS, 0x2210:0E. -/
def Obj.lnkPortRxFcs : Obj :=
  ⟨0x2210, 0x0E, .u64, .ro, .viewer, 96, .num 0, [], [], 0x0, 0, false, "LNK_PORT_RX_FCS"⟩

/-- LNK_PORT_TX_FRAMES, 0x2210:0F. -/
def Obj.lnkPortTxFrames : Obj :=
  ⟨0x2210, 0x0F, .u64, .ro, .viewer, 96, .num 0, [], [], 0x0, 0, false, "LNK_PORT_TX_FRAMES"⟩

/-- LNK_PORT_FEC_CORR, 0x2210:10. -/
def Obj.lnkPortFecCorr : Obj :=
  ⟨0x2210, 0x10, .u64, .ro, .viewer, 96, .num 0, [], [], 0x0, 0, false, "LNK_PORT_FEC_CORR"⟩

/-- LNK_PORT_FEC_UNCORR, 0x2210:11. -/
def Obj.lnkPortFecUncorr : Obj :=
  ⟨0x2210, 0x11, .u64, .ro, .viewer, 96, .num 0, [], [], 0x0, 0, false, "LNK_PORT_FEC_UNCORR"⟩

/-- LNK_PORT_DAD, 0x2210:12. -/
def Obj.lnkPortDad : Obj :=
  ⟨0x2210, 0x12, .u8, .ro, .viewer, 96, .num 0, [], [], 0x0, 0, false, "LNK_PORT_DAD"⟩

/-- LNK_PORT_PUNT_DROPS, 0x2210:13. -/
def Obj.lnkPortPuntDrops : Obj :=
  ⟨0x2210, 0x13, .u64, .ro, .viewer, 96, .num 0, [], [], 0x0, 0, false, "LNK_PORT_PUNT_DROPS"⟩

/-- LNK_LANE_ROW_SELECT, 0x2230:01. -/
def Obj.lnkLaneRowSelect : Obj :=
  ⟨0x2230, 0x01, .u32, .rw, .viewer, 0, .num 0, [(0, 95)], [], 0x0, 0, false, "LNK_LANE_ROW_SELECT"⟩

/-- LNK_LANE_CFG, 0x2230:02. -/
def Obj.lnkLaneCfg : Obj :=
  ⟨0x2230, 0x02, .u32, .rw, .brewer, 96, .num 0x4000, [], [], 0xffff8000, 0, true, "LNK_LANE_CFG"⟩

/-- LNK_LANE_PRBS, 0x2230:03. -/
def Obj.lnkLanePrbs : Obj :=
  ⟨0x2230, 0x03, .u8, .ex, .brewer, 96, .num 0, [(0, 2)], [], 0x0, 0, false, "LNK_LANE_PRBS"⟩

/-- LNK_LANE_PRBS_ERR, 0x2230:04. -/
def Obj.lnkLanePrbsErr : Obj :=
  ⟨0x2230, 0x04, .u64, .ro, .viewer, 96, .num 0, [], [], 0x0, 0, false, "LNK_LANE_PRBS_ERR"⟩

/-- LNK_LANE_LOCK, 0x2230:05. -/
def Obj.lnkLaneLock : Obj :=
  ⟨0x2230, 0x05, .bool, .ro, .viewer, 96, .num 0, [], [], 0x0, 0, false, "LNK_LANE_LOCK"⟩

/-- LNK_FLOW_ROW_SELECT, 0x2240:01. -/
def Obj.lnkFlowRowSelect : Obj :=
  ⟨0x2240, 0x01, .u32, .rw, .viewer, 0, .num 0, [(0, 8191)], [], 0x0, 0, false, "LNK_FLOW_ROW_SELECT"⟩

/-- LNK_FLOW_W0, 0x2240:02. -/
def Obj.lnkFlowW0 : Obj :=
  ⟨0x2240, 0x02, .u64, .rg, .brewer, 8192, .num 0, [], [⟨15, 4, [(0, 4094)]⟩, ⟨22, 16, [(0, 95), (127, 127)]⟩, ⟨43, 40, [(0, 3)]⟩], 0xf000000000800000, 0, false, "LNK_FLOW_W0"⟩

/-- LNK_FLOW_W1, 0x2240:03. -/
def Obj.lnkFlowW1 : Obj :=
  ⟨0x2240, 0x03, .u64, .rg, .brewer, 8192, .num 0, [], [], 0xfffffffffffff000, 0, false, "LNK_FLOW_W1"⟩

/-- LNK_FLOW_W2, 0x2240:04. -/
def Obj.lnkFlowW2 : Obj :=
  ⟨0x2240, 0x04, .u64, .rg, .brewer, 8192, .num 0, [], [], 0x0, 0, false, "LNK_FLOW_W2"⟩

/-- LNK_FLOW_W3, 0x2240:05. -/
def Obj.lnkFlowW3 : Obj :=
  ⟨0x2240, 0x05, .u64, .rg, .brewer, 8192, .num 0, [], [], 0x0, 0, false, "LNK_FLOW_W3"⟩

/-- LNK_FLOW_W4, 0x2240:06. -/
def Obj.lnkFlowW4 : Obj :=
  ⟨0x2240, 0x06, .u64, .rg, .brewer, 8192, .num 0, [], [], 0x0, 0, false, "LNK_FLOW_W4"⟩

/-- LNK_FLOW_W5, 0x2240:07. -/
def Obj.lnkFlowW5 : Obj :=
  ⟨0x2240, 0x07, .u64, .rg, .brewer, 8192, .num 0, [], [], 0x0, 0, false, "LNK_FLOW_W5"⟩

/-- LNK_FLOW_LIVE, 0x2240:08. -/
def Obj.lnkFlowLive : Obj :=
  ⟨0x2240, 0x08, .domain, .ro, .viewer, 8192, .bytes (zeros 48), [], [], 0x0, 48, false, "LNK_FLOW_LIVE"⟩

/-- LNK_FLOW_HITS, 0x2240:09. -/
def Obj.lnkFlowHits : Obj :=
  ⟨0x2240, 0x09, .u64, .ro, .viewer, 8192, .num 0, [], [], 0x0, 0, false, "LNK_FLOW_HITS"⟩

/-- LNK_POL_ROW_SELECT, 0x2250:01. -/
def Obj.lnkPolRowSelect : Obj :=
  ⟨0x2250, 0x01, .u32, .rw, .viewer, 0, .num 0, [(0, 4095)], [], 0x0, 0, false, "LNK_POL_ROW_SELECT"⟩

/-- LNK_POL_W0, 0x2250:02. -/
def Obj.lnkPolW0 : Obj :=
  ⟨0x2250, 0x02, .u64, .rg, .brewer, 4096, .num 0, [], [], 0x0, 0, false, "LNK_POL_W0"⟩

/-- LNK_POL_W1, 0x2250:03. -/
def Obj.lnkPolW1 : Obj :=
  ⟨0x2250, 0x03, .u64, .rg, .brewer, 4096, .num 0, [], [], 0xfff0000000000000, 0, false, "LNK_POL_W1"⟩

/-- LNK_POL_LIVE, 0x2250:04. -/
def Obj.lnkPolLive : Obj :=
  ⟨0x2250, 0x04, .domain, .ro, .viewer, 4096, .bytes (zeros 16), [], [], 0x0, 16, false, "LNK_POL_LIVE"⟩

/-- LNK_POL_GREEN, 0x2250:05. -/
def Obj.lnkPolGreen : Obj :=
  ⟨0x2250, 0x05, .u64, .ro, .viewer, 4096, .num 0, [], [], 0x0, 0, false, "LNK_POL_GREEN"⟩

/-- LNK_POL_YELLOW, 0x2250:06. -/
def Obj.lnkPolYellow : Obj :=
  ⟨0x2250, 0x06, .u64, .ro, .viewer, 4096, .num 0, [], [], 0x0, 0, false, "LNK_POL_YELLOW"⟩

/-- LNK_POL_RED, 0x2250:07. -/
def Obj.lnkPolRed : Obj :=
  ⟨0x2250, 0x07, .u64, .ro, .viewer, 4096, .num 0, [], [], 0x0, 0, false, "LNK_POL_RED"⟩

/-- LNK_MG_IPV4, 0x2260:01. -/
def Obj.lnkMgIpv4 : Obj :=
  ⟨0x2260, 0x01, .u32, .rw, .brewer, 0, .num 0, [], [], 0x0, 0, true, "LNK_MG_IPV4"⟩

/-- LNK_MG_PFX4, 0x2260:02. -/
def Obj.lnkMgPfx4 : Obj :=
  ⟨0x2260, 0x02, .u8, .rw, .brewer, 0, .num 24, [(8, 32)], [], 0x0, 0, true, "LNK_MG_PFX4"⟩

/-- LNK_MG_GW4, 0x2260:03. -/
def Obj.lnkMgGw4 : Obj :=
  ⟨0x2260, 0x03, .u32, .rw, .brewer, 0, .num 0, [], [], 0x0, 0, true, "LNK_MG_GW4"⟩

/-- LNK_MG_IPV6, 0x2260:04. -/
def Obj.lnkMgIpv6 : Obj :=
  ⟨0x2260, 0x04, .domain, .rw, .brewer, 0, .bytes (zeros 16), [], [], 0x0, 16, true, "LNK_MG_IPV6"⟩

/-- LNK_MG_PFX6, 0x2260:05. -/
def Obj.lnkMgPfx6 : Obj :=
  ⟨0x2260, 0x05, .u8, .rw, .brewer, 0, .num 64, [(16, 128)], [], 0x0, 0, true, "LNK_MG_PFX6"⟩

/-- LNK_MG_VID, 0x2260:06. -/
def Obj.lnkMgVid : Obj :=
  ⟨0x2260, 0x06, .u16, .rw, .brewer, 0, .num 0, [(0, 4094)], [], 0x0, 0, true, "LNK_MG_VID"⟩

/-- LNK_MG_LINK, 0x2260:07. -/
def Obj.lnkMgLink : Obj :=
  ⟨0x2260, 0x07, .u8, .ro, .viewer, 0, .num 0, [], [], 0x0, 0, false, "LNK_MG_LINK"⟩

/-- CMP_STEEP_SIZE, 0x2400:01. -/
def Obj.cmpSteepSize : Obj :=
  ⟨0x2400, 0x01, .u32, .const, .viewer, 0, .num 25165824, [], [], 0x0, 0, false, "CMP_STEEP_SIZE"⟩

/-- CMP_STEEP_GREEN, 0x2400:02. -/
def Obj.cmpSteepGreen : Obj :=
  ⟨0x2400, 0x02, .u32, .ro, .viewer, 0, .num 0, [], [], 0x0, 0, false, "CMP_STEEP_GREEN"⟩

/-- CMP_STEEP_BRIGHT, 0x2400:03. -/
def Obj.cmpSteepBright : Obj :=
  ⟨0x2400, 0x03, .u32, .ro, .viewer, 0, .num 0, [], [], 0x0, 0, false, "CMP_STEEP_BRIGHT"⟩

/-- CMP_ROW_BUDGET, 0x2400:04. -/
def Obj.cmpRowBudget : Obj :=
  ⟨0x2400, 0x04, .u32, .ro, .viewer, 0, .num 0, [], [], 0x0, 0, false, "CMP_ROW_BUDGET"⟩

/-- CMP_LATE_ROWS, 0x2400:05. -/
def Obj.cmpLateRows : Obj :=
  ⟨0x2400, 0x05, .u32, .ro, .viewer, 0, .num 0, [], [], 0x0, 0, false, "CMP_LATE_ROWS"⟩

/-- CMP_LOST_CTUS, 0x2400:06. -/
def Obj.cmpLostCtus : Obj :=
  ⟨0x2400, 0x06, .u64, .ro, .viewer, 0, .num 0, [], [], 0x0, 0, false, "CMP_LOST_CTUS"⟩

/-- CMP_AREA_MIB, 0x2400:07. -/
def Obj.cmpAreaMib : Obj :=
  ⟨0x2400, 0x07, .u32, .rw, .brewer, 0, .num 2048, [(0, 65536)], [], 0x0, 0, true, "CMP_AREA_MIB"⟩

/-- CMP_AREA_FREE_MIB, 0x2400:08. -/
def Obj.cmpAreaFreeMib : Obj :=
  ⟨0x2400, 0x08, .u32, .ro, .viewer, 0, .num 0, [], [], 0x0, 0, false, "CMP_AREA_FREE_MIB"⟩

/-- CMP_RAW_DRY, 0x2400:09. -/
def Obj.cmpRawDry : Obj :=
  ⟨0x2400, 0x09, .u64, .ro, .viewer, 0, .num 0, [], [], 0x0, 0, false, "CMP_RAW_DRY"⟩

/-- CMP_FLOW_ROW_SELECT, 0x2410:01. -/
def Obj.cmpFlowRowSelect : Obj :=
  ⟨0x2410, 0x01, .u32, .rw, .viewer, 0, .num 0, [(0, 63)], [], 0x0, 0, false, "CMP_FLOW_ROW_SELECT"⟩

/-- CMP_FLOW_W0, 0x2410:02. -/
def Obj.cmpFlowW0 : Obj :=
  ⟨0x2410, 0x02, .u64, .rg, .brewer, 64, .num 0, [], [⟨3, 1, [(0, 4)]⟩], 0xffe0000000000000, 0, false, "CMP_FLOW_W0"⟩

/-- CMP_FLOW_W1, 0x2410:03. -/
def Obj.cmpFlowW1 : Obj :=
  ⟨0x2410, 0x03, .u64, .rg, .brewer, 64, .num 0, [], [], 0xfc00000000000000, 0, false, "CMP_FLOW_W1"⟩

/-- CMP_FLOW_W0_LIVE, 0x2410:04. -/
def Obj.cmpFlowW0Live : Obj :=
  ⟨0x2410, 0x04, .u64, .ro, .viewer, 64, .num 0, [], [], 0x0, 0, false, "CMP_FLOW_W0_LIVE"⟩

/-- CMP_FLOW_W1_LIVE, 0x2410:05. -/
def Obj.cmpFlowW1Live : Obj :=
  ⟨0x2410, 0x05, .u64, .ro, .viewer, 64, .num 0, [], [], 0x0, 0, false, "CMP_FLOW_W1_LIVE"⟩

/-- CMP_FLOW_STATUS, 0x2410:06. -/
def Obj.cmpFlowStatus : Obj :=
  ⟨0x2410, 0x06, .u8, .ro, .viewer, 64, .num 0, [], [], 0x0, 0, false, "CMP_FLOW_STATUS"⟩

/-- CMP_FLOW_PKTS_A, 0x2410:07. -/
def Obj.cmpFlowPktsA : Obj :=
  ⟨0x2410, 0x07, .u64, .ro, .viewer, 64, .num 0, [], [], 0x0, 0, false, "CMP_FLOW_PKTS_A"⟩

/-- CMP_FLOW_PKTS_B, 0x2410:08. -/
def Obj.cmpFlowPktsB : Obj :=
  ⟨0x2410, 0x08, .u64, .ro, .viewer, 64, .num 0, [], [], 0x0, 0, false, "CMP_FLOW_PKTS_B"⟩

/-- CMP_FLOW_DUP, 0x2410:09. -/
def Obj.cmpFlowDup : Obj :=
  ⟨0x2410, 0x09, .u64, .ro, .viewer, 64, .num 0, [], [], 0x0, 0, false, "CMP_FLOW_DUP"⟩

/-- CMP_FLOW_LATE, 0x2410:0A. -/
def Obj.cmpFlowLate : Obj :=
  ⟨0x2410, 0x0A, .u32, .ro, .viewer, 64, .num 0, [], [], 0x0, 0, false, "CMP_FLOW_LATE"⟩

/-- CMP_FLOW_EARLY, 0x2410:0B. -/
def Obj.cmpFlowEarly : Obj :=
  ⟨0x2410, 0x0B, .u32, .ro, .viewer, 64, .num 0, [], [], 0x0, 0, false, "CMP_FLOW_EARLY"⟩

/-- CMP_FLOW_OVERRUN, 0x2410:0C. -/
def Obj.cmpFlowOverrun : Obj :=
  ⟨0x2410, 0x0C, .u32, .ro, .viewer, 64, .num 0, [], [], 0x0, 0, false, "CMP_FLOW_OVERRUN"⟩

/-- CMP_FLOW_BAD, 0x2410:0D. -/
def Obj.cmpFlowBad : Obj :=
  ⟨0x2410, 0x0D, .u32, .ro, .viewer, 64, .num 0, [], [], 0x0, 0, false, "CMP_FLOW_BAD"⟩

/-- CMP_SLOT_ROW_SELECT, 0x2420:01. -/
def Obj.cmpSlotRowSelect : Obj :=
  ⟨0x2420, 0x01, .u32, .rw, .viewer, 0, .num 0, [(0, 15)], [], 0x0, 0, false, "CMP_SLOT_ROW_SELECT"⟩

/-- CMP_SLOT_W0, 0x2420:02. -/
def Obj.cmpSlotW0 : Obj :=
  ⟨0x2420, 0x02, .u64, .rg, .brewer, 16, .num 0, [], [], 0xfff8000000000000, 0, false, "CMP_SLOT_W0"⟩

/-- CMP_SLOT_W1, 0x2420:03. -/
def Obj.cmpSlotW1 : Obj :=
  ⟨0x2420, 0x03, .u64, .rg, .brewer, 16, .num 0, [], [], 0xf800000000000000, 0, false, "CMP_SLOT_W1"⟩

/-- CMP_SLOT_W2, 0x2420:04. -/
def Obj.cmpSlotW2 : Obj :=
  ⟨0x2420, 0x04, .u64, .rg, .brewer, 16, .num 0, [], [], 0xc000000080000000, 0, false, "CMP_SLOT_W2"⟩

/-- CMP_SLOT_W0_LIVE, 0x2420:05. -/
def Obj.cmpSlotW0Live : Obj :=
  ⟨0x2420, 0x05, .u64, .ro, .viewer, 16, .num 0, [], [], 0x0, 0, false, "CMP_SLOT_W0_LIVE"⟩

/-- CMP_SLOT_W1_LIVE, 0x2420:06. -/
def Obj.cmpSlotW1Live : Obj :=
  ⟨0x2420, 0x06, .u64, .ro, .viewer, 16, .num 0, [], [], 0x0, 0, false, "CMP_SLOT_W1_LIVE"⟩

/-- CMP_SLOT_W2_LIVE, 0x2420:07. -/
def Obj.cmpSlotW2Live : Obj :=
  ⟨0x2420, 0x07, .u64, .ro, .viewer, 16, .num 0, [], [], 0x0, 0, false, "CMP_SLOT_W2_LIVE"⟩

/-- CMP_SLOT_LB_NEED, 0x2420:08. -/
def Obj.cmpSlotLbNeed : Obj :=
  ⟨0x2420, 0x08, .u32, .ro, .viewer, 16, .num 0, [], [], 0x0, 0, false, "CMP_SLOT_LB_NEED"⟩

/-- CMP_FILTER_ROW_SELECT, 0x2428:01. -/
def Obj.cmpFilterRowSelect : Obj :=
  ⟨0x2428, 0x01, .u32, .rw, .viewer, 0, .num 0, [(0, 4)], [], 0x0, 0, false, "CMP_FILTER_ROW_SELECT"⟩

/-- CMP_FILTER_BANK, 0x2428:02. -/
def Obj.cmpFilterBank : Obj :=
  ⟨0x2428, 0x02, .domain, .ro, .viewer, 5, .bytes (zeros 1792), [], [], 0x0, 1792, false, "CMP_FILTER_BANK"⟩

/-- CMP_FILTER_USER, 0x2428:03. -/
def Obj.cmpFilterUser : Obj :=
  ⟨0x2428, 0x03, .domain, .rg, .brewer, 0, .bytes [], [], [], 0x0, 1792, false, "CMP_FILTER_USER"⟩

/-- CMP_STACK_ROW_SELECT, 0x2430:01. -/
def Obj.cmpStackRowSelect : Obj :=
  ⟨0x2430, 0x01, .u32, .rw, .viewer, 0, .num 0, [(0, 4095)], [], 0x0, 0, false, "CMP_STACK_ROW_SELECT"⟩

/-- CMP_STACK_W0, 0x2430:02. -/
def Obj.cmpStackW0 : Obj :=
  ⟨0x2430, 0x02, .u64, .rg, .brewer, 4096, .num 0, [], [⟨39, 36, [(0, 8)]⟩], 0xfffffe0000000000, 0, false, "CMP_STACK_W0"⟩

/-- CMP_STACK_W1, 0x2430:03. -/
def Obj.cmpStackW1 : Obj :=
  ⟨0x2430, 0x03, .u64, .rg, .brewer, 4096, .num 0, [], [], 0xc0c0c0c0c0c0c0c0, 0, false, "CMP_STACK_W1"⟩

/-- CMP_STACK_W0_LIVE, 0x2430:04. -/
def Obj.cmpStackW0Live : Obj :=
  ⟨0x2430, 0x04, .u64, .ro, .viewer, 4096, .num 0, [], [], 0x0, 0, false, "CMP_STACK_W0_LIVE"⟩

/-- CMP_STACK_W1_LIVE, 0x2430:05. -/
def Obj.cmpStackW1Live : Obj :=
  ⟨0x2430, 0x05, .u64, .ro, .viewer, 4096, .num 0, [], [], 0x0, 0, false, "CMP_STACK_W1_LIVE"⟩

/-- CMP_RAW_ROW_SELECT, 0x2440:01. -/
def Obj.cmpRawRowSelect : Obj :=
  ⟨0x2440, 0x01, .u32, .rw, .viewer, 0, .num 0, [(0, 16383)], [], 0x0, 0, false, "CMP_RAW_ROW_SELECT"⟩

/-- CMP_RAW_W0, 0x2440:02. -/
def Obj.cmpRawW0 : Obj :=
  ⟨0x2440, 0x02, .u64, .rg, .brewer, 16384, .num 0, [], [⟨2, 1, [(0, 2)]⟩], 0xfc00000000000000, 0, false, "CMP_RAW_W0"⟩

/-- CMP_RAW_W1, 0x2440:03. -/
def Obj.cmpRawW1 : Obj :=
  ⟨0x2440, 0x03, .u64, .rg, .brewer, 16384, .num 0, [], [], 0xffe00000, 0, false, "CMP_RAW_W1"⟩

/-- CMP_RAW_W0_LIVE, 0x2440:04. -/
def Obj.cmpRawW0Live : Obj :=
  ⟨0x2440, 0x04, .u64, .ro, .viewer, 16384, .num 0, [], [], 0x0, 0, false, "CMP_RAW_W0_LIVE"⟩

/-- CMP_RAW_W1_LIVE, 0x2440:05. -/
def Obj.cmpRawW1Live : Obj :=
  ⟨0x2440, 0x05, .u64, .ro, .viewer, 16384, .num 0, [], [], 0x0, 0, false, "CMP_RAW_W1_LIVE"⟩

/-- CMP_STILL_ROW_SELECT, 0x2450:01. -/
def Obj.cmpStillRowSelect : Obj :=
  ⟨0x2450, 0x01, .u32, .rw, .viewer, 0, .num 0, [(0, 255)], [], 0x0, 0, false, "CMP_STILL_ROW_SELECT"⟩

/-- CMP_STILL_DESC, 0x2450:02. -/
def Obj.cmpStillDesc : Obj :=
  ⟨0x2450, 0x02, .u64, .rw, .brewer, 256, .num 0, [], [], 0xffffffffc0000000, 0, false, "CMP_STILL_DESC"⟩

/-- CMP_STILL_DATA, 0x2450:03. -/
def Obj.cmpStillData : Obj :=
  ⟨0x2450, 0x03, .domain, .ex, .brewer, 256, .bytes [], [], [], 0x0, 0, false, "CMP_STILL_DATA"⟩

/-- FLR_CANVAS_W, 0x2600:01. -/
def Obj.flrCanvasW : Obj :=
  ⟨0x2600, 0x01, .u16, .rg, .brewer, 0, .num 0, [(0, 0), (4, 2048)], [], 0x0, 0, false, "FLR_CANVAS_W"⟩

/-- FLR_CANVAS_H, 0x2600:02. -/
def Obj.flrCanvasH : Obj :=
  ⟨0x2600, 0x02, .u16, .rg, .brewer, 0, .num 0, [(0, 0), (2, 1024)], [], 0x0, 0, false, "FLR_CANVAS_H"⟩

/-- FLR_RATE_NUM, 0x2600:03. -/
def Obj.flrRateNum : Obj :=
  ⟨0x2600, 0x03, .u32, .rg, .brewer, 0, .num 60, [], [], 0x0, 0, false, "FLR_RATE_NUM"⟩

/-- FLR_RATE_DEN, 0x2600:04. -/
def Obj.flrRateDen : Obj :=
  ⟨0x2600, 0x04, .u32, .rg, .brewer, 0, .num 1, [(1, 65535)], [], 0x0, 0, false, "FLR_RATE_DEN"⟩

/-- FLR_TOTAL_LINES, 0x2600:05. -/
def Obj.flrTotalLines : Obj :=
  ⟨0x2600, 0x05, .u16, .rg, .brewer, 0, .num 0, [], [], 0x0, 0, false, "FLR_TOTAL_LINES"⟩

/-- FLR_PIXEL_W, 0x2600:06. -/
def Obj.flrPixelW : Obj :=
  ⟨0x2600, 0x06, .u32, .ro, .viewer, 0, .num 0, [], [], 0x0, 0, false, "FLR_PIXEL_W"⟩

/-- FLR_PIXEL_H, 0x2600:07. -/
def Obj.flrPixelH : Obj :=
  ⟨0x2600, 0x07, .u32, .ro, .viewer, 0, .num 0, [], [], 0x0, 0, false, "FLR_PIXEL_H"⟩

/-- FLR_LOAD_PERMILLE, 0x2600:08. -/
def Obj.flrLoadPermille : Obj :=
  ⟨0x2600, 0x08, .u16, .ro, .viewer, 0, .num 0, [], [], 0x0, 0, false, "FLR_LOAD_PERMILLE"⟩

/-- FLR_LOAD_LIVE, 0x2600:09. -/
def Obj.flrLoadLive : Obj :=
  ⟨0x2600, 0x09, .u16, .ro, .viewer, 0, .num 0, [], [], 0x0, 0, false, "FLR_LOAD_LIVE"⟩

/-- FLR_MAP_ROW_SELECT, 0x2610:01. -/
def Obj.flrMapRowSelect : Obj :=
  ⟨0x2610, 0x01, .u32, .rw, .viewer, 0, .num 0, [], [], 0x0, 0, false, "FLR_MAP_ROW_SELECT"⟩

/-- FLR_MAP, 0x2610:02. -/
def Obj.flrMap : Obj :=
  ⟨0x2610, 0x02, .u64, .rg, .brewer, 2097152, .num 0, [], [⟨19, 18, [(0, 2)]⟩, ⟨49, 46, [(0, 2)]⟩], 0xfff8000000000000, 0, false, "FLR_MAP"⟩

/-- FLR_MAP_LIVE, 0x2610:03. -/
def Obj.flrMapLive : Obj :=
  ⟨0x2610, 0x03, .u64, .ro, .viewer, 2097152, .num 0, [], [], 0x0, 0, false, "FLR_MAP_LIVE"⟩

/-- FLR_FILL, 0x2610:04. -/
def Obj.flrFill : Obj :=
  ⟨0x2610, 0x04, .u64, .ex, .brewer, 0, .num 0, [], [⟨19, 18, [(0, 2)]⟩, ⟨49, 46, [(0, 2)]⟩], 0xfff8000000000000, 0, false, "FLR_FILL"⟩

/-- FLR_REGIONS, 0x2610:05. -/
def Obj.flrRegions : Obj :=
  ⟨0x2610, 0x05, .domain, .ex, .brewer, 0, .bytes [], [], [], 0x0, 0, false, "FLR_REGIONS"⟩

/-- FLR_REGIONS_LIVE, 0x2610:06. -/
def Obj.flrRegionsLive : Obj :=
  ⟨0x2610, 0x06, .domain, .ro, .viewer, 0, .bytes [], [], [], 0x0, 0, false, "FLR_REGIONS_LIVE"⟩

/-- FLR_REGION_COUNT, 0x2610:07. -/
def Obj.flrRegionCount : Obj :=
  ⟨0x2610, 0x07, .u32, .ro, .viewer, 0, .num 0, [], [], 0x0, 0, false, "FLR_REGION_COUNT"⟩

/-- FLR_LOAD_STATUS, 0x2610:08. -/
def Obj.flrLoadStatus : Obj :=
  ⟨0x2610, 0x08, .u8, .ro, .viewer, 0, .num 0, [], [], 0x0, 0, false, "FLR_LOAD_STATUS"⟩

/-- FLR_SUB_ROW_SELECT, 0x2620:01. -/
def Obj.flrSubRowSelect : Obj :=
  ⟨0x2620, 0x01, .u32, .rw, .viewer, 0, .num 0, [(0, 4095)], [], 0x0, 0, false, "FLR_SUB_ROW_SELECT"⟩

/-- FLR_SUB_W0, 0x2620:02. -/
def Obj.flrSubW0 : Obj :=
  ⟨0x2620, 0x02, .u64, .rg, .brewer, 4096, .num 0, [], [], 0xfff0000000000000, 0, false, "FLR_SUB_W0"⟩

/-- FLR_SUB_W1, 0x2620:03. -/
def Obj.flrSubW1 : Obj :=
  ⟨0x2620, 0x03, .u64, .rg, .brewer, 4096, .num 0, [], [], 0xffffffff00000000, 0, false, "FLR_SUB_W1"⟩

/-- FLR_SUB_W0_LIVE, 0x2620:04. -/
def Obj.flrSubW0Live : Obj :=
  ⟨0x2620, 0x04, .u64, .ro, .viewer, 4096, .num 0, [], [], 0x0, 0, false, "FLR_SUB_W0_LIVE"⟩

/-- FLR_SUB_W1_LIVE, 0x2620:05. -/
def Obj.flrSubW1Live : Obj :=
  ⟨0x2620, 0x05, .u64, .ro, .viewer, 4096, .num 0, [], [], 0x0, 0, false, "FLR_SUB_W1_LIVE"⟩

/-- FLR_SUB_COUNT, 0x2620:06. -/
def Obj.flrSubCount : Obj :=
  ⟨0x2620, 0x06, .u16, .ro, .viewer, 0, .num 0, [], [], 0x0, 0, false, "FLR_SUB_COUNT"⟩

/-- FLR_SUB_FILL_COUNT, 0x2620:07. -/
def Obj.flrSubFillCount : Obj :=
  ⟨0x2620, 0x07, .u16, .ro, .viewer, 0, .num 0, [], [], 0x0, 0, false, "FLR_SUB_FILL_COUNT"⟩

/-- FLR_CHECK, 0x2630:01. -/
def Obj.flrCheck : Obj :=
  ⟨0x2630, 0x01, .u8, .ex, .brewer, 0, .num 0, [(1, 1)], [], 0x0, 0, false, "FLR_CHECK"⟩

/-- FLR_CHECK_STATUS, 0x2630:02. -/
def Obj.flrCheckStatus : Obj :=
  ⟨0x2630, 0x02, .u8, .ro, .viewer, 0, .num 0, [], [], 0x0, 0, false, "FLR_CHECK_STATUS"⟩

/-- FLR_CHECK_RULE, 0x2630:03. -/
def Obj.flrCheckRule : Obj :=
  ⟨0x2630, 0x03, .u8, .ro, .viewer, 0, .num 0, [], [], 0x0, 0, false, "FLR_CHECK_RULE"⟩

/-- FLR_CHECK_WHERE, 0x2630:04. -/
def Obj.flrCheckWhere : Obj :=
  ⟨0x2630, 0x04, .u32, .ro, .viewer, 0, .num 0, [], [], 0x0, 0, false, "FLR_CHECK_WHERE"⟩

/-- FLR_PERSIST_STATUS, 0x2630:05. -/
def Obj.flrPersistStatus : Obj :=
  ⟨0x2630, 0x05, .u8, .ro, .viewer, 0, .num 2, [], [], 0x0, 0, false, "FLR_PERSIST_STATUS"⟩

/-- FLR_PERSIST_BYTES, 0x2630:06. -/
def Obj.flrPersistBytes : Obj :=
  ⟨0x2630, 0x06, .u32, .ro, .viewer, 0, .num 0, [], [], 0x0, 0, false, "FLR_PERSIST_BYTES"⟩

/-- FLR_PERSIST_LIMIT, 0x2630:07. -/
def Obj.flrPersistLimit : Obj :=
  ⟨0x2630, 0x07, .u32, .const, .viewer, 0, .num 4194304, [], [], 0x0, 0, false, "FLR_PERSIST_LIMIT"⟩

/-- CSP_CHROMA, 0x2700:01. -/
def Obj.cspChroma : Obj :=
  ⟨0x2700, 0x01, .u8, .rg, .brewer, 0, .num 0, [(0, 2)], [], 0x0, 0, false, "CSP_CHROMA"⟩

/-- CSP_COLOUR, 0x2700:02. -/
def Obj.cspColour : Obj :=
  ⟨0x2700, 0x02, .u8, .rg, .brewer, 0, .num 0, [(0, 3)], [], 0x0, 0, false, "CSP_COLOUR"⟩

/-- CSP_DITHER, 0x2700:03. -/
def Obj.cspDither : Obj :=
  ⟨0x2700, 0x03, .u8, .rg, .brewer, 0, .num 1, [(0, 1)], [], 0x0, 0, false, "CSP_DITHER"⟩

/-- CSP_RECORDER_TAP, 0x2700:04. -/
def Obj.cspRecorderTap : Obj :=
  ⟨0x2700, 0x04, .u16, .rg, .brewer, 0, .num 65535, [(0, 16383), (65535, 65535)], [], 0x0, 0, false, "CSP_RECORDER_TAP"⟩

/-- CSP_PS_EVERY_AU, 0x2700:05. -/
def Obj.cspPsEveryAu : Obj :=
  ⟨0x2700, 0x05, .bool, .rg, .brewer, 0, .num 1, [], [], 0x0, 0, false, "CSP_PS_EVERY_AU"⟩

/-- CSP_PLACEMENT_SEI, 0x2700:06. -/
def Obj.cspPlacementSei : Obj :=
  ⟨0x2700, 0x06, .bool, .rg, .brewer, 0, .num 1, [], [], 0x0, 0, false, "CSP_PLACEMENT_SEI"⟩

/-- CSP_DPH, 0x2700:07. -/
def Obj.cspDph : Obj :=
  ⟨0x2700, 0x07, .u8, .rg, .brewer, 0, .num 0, [(0, 3)], [], 0x0, 0, false, "CSP_DPH"⟩

/-- CSP_CB_QP_OFFSET, 0x2700:08. -/
def Obj.cspCbQpOffset : Obj :=
  ⟨0x2700, 0x08, .i8, .rg, .brewer, 0, .num 0, [(-12, 12)], [], 0x0, 0, false, "CSP_CB_QP_OFFSET"⟩

/-- CSP_CR_QP_OFFSET, 0x2700:09. -/
def Obj.cspCrQpOffset : Obj :=
  ⟨0x2700, 0x09, .i8, .rg, .brewer, 0, .num 0, [(-12, 12)], [], 0x0, 0, false, "CSP_CR_QP_OFFSET"⟩

/-- CSP_DBK_BETA, 0x2700:0A. -/
def Obj.cspDbkBeta : Obj :=
  ⟨0x2700, 0x0A, .i8, .rg, .brewer, 0, .num 0, [(-12, 12)], [], 0x0, 0, false, "CSP_DBK_BETA"⟩

/-- CSP_DBK_TC, 0x2700:0B. -/
def Obj.cspDbkTc : Obj :=
  ⟨0x2700, 0x0B, .i8, .rg, .brewer, 0, .num 0, [(-12, 12)], [], 0x0, 0, false, "CSP_DBK_TC"⟩

/-- CSP_MDCV, 0x2700:0C. -/
def Obj.cspMdcv : Obj :=
  ⟨0x2700, 0x0C, .domain, .rg, .brewer, 0, .bytes (zeros 24), [], [], 0x0, 24, false, "CSP_MDCV"⟩

/-- CSP_CLL, 0x2700:0D. -/
def Obj.cspCll : Obj :=
  ⟨0x2700, 0x0D, .domain, .rg, .brewer, 0, .bytes (zeros 4), [], [], 0x0, 4, false, "CSP_CLL"⟩

/-- CSP_PIC_COUNT, 0x2700:0E. -/
def Obj.cspPicCount : Obj :=
  ⟨0x2700, 0x0E, .u64, .ro, .viewer, 0, .num 0, [], [], 0x0, 0, false, "CSP_PIC_COUNT"⟩

/-- CSP_CVS_ENDS, 0x2700:0F. -/
def Obj.cspCvsEnds : Obj :=
  ⟨0x2700, 0x0F, .u32, .ro, .viewer, 0, .num 0, [], [], 0x0, 0, false, "CSP_CVS_ENDS"⟩

/-- CSP_CANVAS_PS_BYTES, 0x2700:10. -/
def Obj.cspCanvasPsBytes : Obj :=
  ⟨0x2700, 0x10, .u32, .ro, .viewer, 0, .num 0, [], [], 0x0, 0, false, "CSP_CANVAS_PS_BYTES"⟩

/-- CSP_SUB_ROW_SELECT, 0x2710:01. -/
def Obj.cspSubRowSelect : Obj :=
  ⟨0x2710, 0x01, .u32, .rw, .viewer, 0, .num 0, [(0, 4095)], [], 0x0, 0, false, "CSP_SUB_ROW_SELECT"⟩

/-- CSP_SUB_LEVEL_FLOOR, 0x2710:02. -/
def Obj.cspSubLevelFloor : Obj :=
  ⟨0x2710, 0x02, .u8, .rg, .brewer, 4096, .num 0, [(0, 0), (16, 16), (32, 32), (35, 35), (48, 48), (51, 51), (64, 64), (67, 67), (80, 80), (83, 83), (86, 86), (96, 96), (99, 99), (102, 102)], [], 0x0, 0, false, "CSP_SUB_LEVEL_FLOOR"⟩

/-- CSP_SUB_LEVEL, 0x2710:03. -/
def Obj.cspSubLevel : Obj :=
  ⟨0x2710, 0x03, .u8, .ro, .viewer, 4096, .num 0, [], [], 0x0, 0, false, "CSP_SUB_LEVEL"⟩

/-- CSP_SUB_LEVEL_LIVE, 0x2710:04. -/
def Obj.cspSubLevelLive : Obj :=
  ⟨0x2710, 0x04, .u8, .ro, .viewer, 4096, .num 0, [], [], 0x0, 0, false, "CSP_SUB_LEVEL_LIVE"⟩

/-- CSP_SUB_PS_BYTES, 0x2710:05. -/
def Obj.cspSubPsBytes : Obj :=
  ⟨0x2710, 0x05, .u16, .ro, .viewer, 4096, .num 0, [], [], 0x0, 0, false, "CSP_SUB_PS_BYTES"⟩

/-- CSP_SUB_STATE, 0x2710:06. -/
def Obj.cspSubState : Obj :=
  ⟨0x2710, 0x06, .u8, .ro, .viewer, 4096, .num 0, [], [], 0x0, 0, false, "CSP_SUB_STATE"⟩

/-- TUN_COUNT, 0x2800:01. -/
def Obj.tunCount : Obj :=
  ⟨0x2800, 0x01, .u8, .const, .viewer, 0, .num 64, [], [], 0x0, 0, false, "TUN_COUNT"⟩

/-- TUN_CLOCK_MHZ, 0x2800:02. -/
def Obj.tunClockMhz : Obj :=
  ⟨0x2800, 0x02, .u16, .const, .viewer, 0, .num 1600, [], [], 0x0, 0, false, "TUN_CLOCK_MHZ"⟩

/-- TUN_ROM_VERSION, 0x2800:03. -/
def Obj.tunRomVersion : Obj :=
  ⟨0x2800, 0x03, .u32, .const, .viewer, 0, .num 0, [], [], 0x0, 0, false, "TUN_ROM_VERSION"⟩

/-- TUN_ROM_CRC, 0x2800:04. -/
def Obj.tunRomCrc : Obj :=
  ⟨0x2800, 0x04, .u32, .const, .viewer, 0, .num 0, [], [], 0x0, 0, false, "TUN_ROM_CRC"⟩

/-- TUN_PATCH_IMAGE, 0x2800:05. -/
def Obj.tunPatchImage : Obj :=
  ⟨0x2800, 0x05, .domain, .ex, .brewer, 0, .bytes [], [], [], 0x0, 0, false, "TUN_PATCH_IMAGE"⟩

/-- TUN_PATCH_STATUS, 0x2800:06. -/
def Obj.tunPatchStatus : Obj :=
  ⟨0x2800, 0x06, .u8, .ro, .viewer, 0, .num 0, [], [], 0x0, 0, false, "TUN_PATCH_STATUS"⟩

/-- TUN_PATCH_APPLY, 0x2800:07. -/
def Obj.tunPatchApply : Obj :=
  ⟨0x2800, 0x07, .u32, .ex, .brewer, 0, .num 0, [], [], 0x0, 0, false, "TUN_PATCH_APPLY"⟩

/-- TUN_PATCH_REMOVE, 0x2800:08. -/
def Obj.tunPatchRemove : Obj :=
  ⟨0x2800, 0x08, .u8, .ex, .brewer, 0, .num 0, [(1, 1)], [], 0x0, 0, false, "TUN_PATCH_REMOVE"⟩

/-- TUN_PATCH_RESULT, 0x2800:09. -/
def Obj.tunPatchResult : Obj :=
  ⟨0x2800, 0x09, .u8, .ro, .viewer, 0, .num 0, [], [], 0x0, 0, false, "TUN_PATCH_RESULT"⟩

/-- TUN_PATCH_FRAME, 0x2800:0A. -/
def Obj.tunPatchFrame : Obj :=
  ⟨0x2800, 0x0A, .u32, .ro, .viewer, 0, .num 0, [], [], 0x0, 0, false, "TUN_PATCH_FRAME"⟩

/-- TUN_PATCH_ACTIVE, 0x2800:0B. -/
def Obj.tunPatchActive : Obj :=
  ⟨0x2800, 0x0B, .domain, .ro, .viewer, 0, .bytes (zeros 52), [], [], 0x0, 52, false, "TUN_PATCH_ACTIVE"⟩

/-- TUN_LAMBDA, 0x2800:0C. -/
def Obj.tunLambda : Obj :=
  ⟨0x2800, 0x0C, .domain, .const, .viewer, 0, .bytes (zeros 304), [], [], 0x0, 304, false, "TUN_LAMBDA"⟩

/-- TUN_PATCH_PERSIST, 0x2800:0D. -/
def Obj.tunPatchPersist : Obj :=
  ⟨0x2800, 0x0D, .bool, .rw, .brewer, 0, .num 1, [], [], 0x0, 0, true, "TUN_PATCH_PERSIST"⟩

/-- TUN_YIELD_LIMIT, 0x2800:0E. -/
def Obj.tunYieldLimit : Obj :=
  ⟨0x2800, 0x0E, .u16, .const, .viewer, 0, .num 2048, [], [], 0x0, 0, false, "TUN_YIELD_LIMIT"⟩

/-- TUN_ROW_SELECT, 0x2810:01. -/
def Obj.tunRowSelect : Obj :=
  ⟨0x2810, 0x01, .u32, .rw, .viewer, 0, .num 0, [(0, 63)], [], 0x0, 0, false, "TUN_ROW_SELECT"⟩

/-- TUN_STATE, 0x2810:02. -/
def Obj.tunState : Obj :=
  ⟨0x2810, 0x02, .u8, .ro, .viewer, 64, .num 0, [], [], 0x0, 0, false, "TUN_STATE"⟩

/-- TUN_SEGMENTS, 0x2810:03. -/
def Obj.tunSegments : Obj :=
  ⟨0x2810, 0x03, .u64, .ro, .viewer, 64, .num 0, [], [], 0x0, 0, false, "TUN_SEGMENTS"⟩

/-- TUN_CTUS, 0x2810:04. -/
def Obj.tunCtus : Obj :=
  ⟨0x2810, 0x04, .u64, .ro, .viewer, 64, .num 0, [], [], 0x0, 0, false, "TUN_CTUS"⟩

/-- TUN_DISCARDS, 0x2810:05. -/
def Obj.tunDiscards : Obj :=
  ⟨0x2810, 0x05, .u32, .ro, .viewer, 64, .num 0, [], [], 0x0, 0, false, "TUN_DISCARDS"⟩

/-- TUN_ECC_CORR, 0x2810:06. -/
def Obj.tunEccCorr : Obj :=
  ⟨0x2810, 0x06, .u32, .ro, .viewer, 64, .num 0, [], [], 0x0, 0, false, "TUN_ECC_CORR"⟩

/-- TUN_FAULTS, 0x2810:07. -/
def Obj.tunFaults : Obj :=
  ⟨0x2810, 0x07, .u32, .ro, .viewer, 64, .num 0, [], [], 0x0, 0, false, "TUN_FAULTS"⟩

/-- TUN_BIST_RESULT, 0x2810:08. -/
def Obj.tunBistResult : Obj :=
  ⟨0x2810, 0x08, .u8, .ro, .viewer, 64, .num 0, [], [], 0x0, 0, false, "TUN_BIST_RESULT"⟩

/-- TUN_BIST_PHASE, 0x2810:09. -/
def Obj.tunBistPhase : Obj :=
  ⟨0x2810, 0x09, .u8, .ro, .viewer, 64, .num 0, [], [], 0x0, 0, false, "TUN_BIST_PHASE"⟩

/-- TUN_BIST_TIME, 0x2810:0A. -/
def Obj.tunBistTime : Obj :=
  ⟨0x2810, 0x0A, .time80, .ro, .viewer, 64, .bytes (zeros 10), [], [], 0x0, 0, false, "TUN_BIST_TIME"⟩

/-- TUN_BIST_PENDING, 0x2810:0B. -/
def Obj.tunBistPending : Obj :=
  ⟨0x2810, 0x0B, .bool, .ro, .viewer, 64, .num 0, [], [], 0x0, 0, false, "TUN_BIST_PENDING"⟩

/-- TUN_MAX_YIELD_GAP, 0x2810:0C. -/
def Obj.tunMaxYieldGap : Obj :=
  ⟨0x2810, 0x0C, .u16, .ro, .viewer, 64, .num 0, [], [], 0x0, 0, false, "TUN_MAX_YIELD_GAP"⟩

/-- TUN_SELFTEST, 0x2820:01. -/
def Obj.tunSelftest : Obj :=
  ⟨0x2820, 0x01, .u8, .ex, .operator, 0, .num 0, [(0, 63)], [], 0x0, 0, false, "TUN_SELFTEST"⟩

/-- TUN_REINSTATE, 0x2820:02. -/
def Obj.tunReinstate : Obj :=
  ⟨0x2820, 0x02, .u8, .ex, .brewer, 0, .num 0, [(0, 63)], [], 0x0, 0, false, "TUN_REINSTATE"⟩

/-- DSP_SPARES, 0x2900:01. -/
def Obj.dspSpares : Obj :=
  ⟨0x2900, 0x01, .u8, .rg, .brewer, 0, .num 4, [(0, 8)], [], 0x0, 0, false, "DSP_SPARES"⟩

/-- DSP_DECODE_TUNS, 0x2900:02. -/
def Obj.dspDecodeTuns : Obj :=
  ⟨0x2900, 0x02, .u8, .rg, .brewer, 0, .num 0, [(0, 32)], [], 0x0, 0, false, "DSP_DECODE_TUNS"⟩

/-- DSP_LATE_LINES, 0x2900:03. -/
def Obj.dspLateLines : Obj :=
  ⟨0x2900, 0x03, .u8, .rg, .brewer, 0, .num 16, [(0, 64)], [], 0x0, 0, false, "DSP_LATE_LINES"⟩

/-- DSP_RESPARE_MAX, 0x2900:04. -/
def Obj.dspRespareMax : Obj :=
  ⟨0x2900, 0x04, .u8, .rg, .brewer, 0, .num 3, [(1, 7)], [], 0x0, 0, false, "DSP_RESPARE_MAX"⟩

/-- DSP_ROTATE_S, 0x2900:05. -/
def Obj.dspRotateS : Obj :=
  ⟨0x2900, 0x05, .u16, .rw, .operator, 0, .num 10, [(0, 3600)], [], 0x0, 0, true, "DSP_ROTATE_S"⟩

/-- DSP_ROTATE_NEXT, 0x2900:06. -/
def Obj.dspRotateNext : Obj :=
  ⟨0x2900, 0x06, .u8, .ro, .viewer, 0, .num 0, [], [], 0x0, 0, false, "DSP_ROTATE_NEXT"⟩

/-- DSP_ACTIVE_NOW, 0x2900:07. -/
def Obj.dspActiveNow : Obj :=
  ⟨0x2900, 0x07, .u8, .ro, .viewer, 0, .num 0, [], [], 0x0, 0, false, "DSP_ACTIVE_NOW"⟩

/-- DSP_SPARES_NOW, 0x2900:08. -/
def Obj.dspSparesNow : Obj :=
  ⟨0x2900, 0x08, .u8, .ro, .viewer, 0, .num 0, [], [], 0x0, 0, false, "DSP_SPARES_NOW"⟩

/-- DSP_SEGS_LATE, 0x2900:09. -/
def Obj.dspSegsLate : Obj :=
  ⟨0x2900, 0x09, .u32, .ro, .viewer, 0, .num 0, [], [], 0x0, 0, false, "DSP_SEGS_LATE"⟩

/-- DSP_SEGS_FALLBACK, 0x2900:0A. -/
def Obj.dspSegsFallback : Obj :=
  ⟨0x2900, 0x0A, .u32, .ro, .viewer, 0, .num 0, [], [], 0x0, 0, false, "DSP_SEGS_FALLBACK"⟩

/-- DSP_RESPARES, 0x2900:0B. -/
def Obj.dspRespares : Obj :=
  ⟨0x2900, 0x0B, .u32, .ro, .viewer, 0, .num 0, [], [], 0x0, 0, false, "DSP_RESPARES"⟩

/-- DSP_MIN_SLACK_LINES, 0x2900:0C. -/
def Obj.dspMinSlackLines : Obj :=
  ⟨0x2900, 0x0C, .i32, .ro, .viewer, 0, .num 0, [], [], 0x0, 0, false, "DSP_MIN_SLACK_LINES"⟩

/-- DSP_ROW_LOAD_PERMILLE, 0x2900:0D. -/
def Obj.dspRowLoadPermille : Obj :=
  ⟨0x2900, 0x0D, .u16, .ro, .viewer, 0, .num 0, [], [], 0x0, 0, false, "DSP_ROW_LOAD_PERMILLE"⟩

/-- DSP_ROW_WORST, 0x2900:0E. -/
def Obj.dspRowWorst : Obj :=
  ⟨0x2900, 0x0E, .u16, .ro, .viewer, 0, .num 0, [], [], 0x0, 0, false, "DSP_ROW_WORST"⟩

/-- DSP_EFFORT_NOW, 0x2910:01. -/
def Obj.dspEffortNow : Obj :=
  ⟨0x2910, 0x01, .u8, .ro, .viewer, 0, .num 0, [], [], 0x0, 0, false, "DSP_EFFORT_NOW"⟩

/-- DSP_EFFORT_PENDING, 0x2910:02. -/
def Obj.dspEffortPending : Obj :=
  ⟨0x2910, 0x02, .u8, .ro, .viewer, 0, .num 255, [], [], 0x0, 0, false, "DSP_EFFORT_PENDING"⟩

/-- DSP_EFFORT_FRAME, 0x2910:03. -/
def Obj.dspEffortFrame : Obj :=
  ⟨0x2910, 0x03, .u32, .ro, .viewer, 0, .num 0, [], [], 0x0, 0, false, "DSP_EFFORT_FRAME"⟩

/-- DSP_EFFORT_CAP, 0x2910:04. -/
def Obj.dspEffortCap : Obj :=
  ⟨0x2910, 0x04, .u8, .ex, .operator, 0, .num 0, [(0, 2)], [], 0x0, 0, false, "DSP_EFFORT_CAP"⟩

/-- DSP_EFFORT_LEAD, 0x2910:05. -/
def Obj.dspEffortLead : Obj :=
  ⟨0x2910, 0x05, .u8, .rw, .brewer, 0, .num 2, [(2, 60)], [], 0x0, 0, true, "DSP_EFFORT_LEAD"⟩

/-- DSP_GOV_STATE, 0x2910:06. -/
def Obj.dspGovState : Obj :=
  ⟨0x2910, 0x06, .u8, .ro, .viewer, 0, .num 0, [], [], 0x0, 0, false, "DSP_GOV_STATE"⟩

/-- DSP_THERM_LEAN_C, 0x2910:07. -/
def Obj.dspThermLeanC : Obj :=
  ⟨0x2910, 0x07, .i8, .rw, .brewer, 0, .num 100, [(80, 100)], [], 0x0, 0, true, "DSP_THERM_LEAN_C"⟩

/-- DSP_THERM_MIN_C, 0x2910:08. -/
def Obj.dspThermMinC : Obj :=
  ⟨0x2910, 0x08, .i8, .rw, .brewer, 0, .num 105, [(85, 105)], [], 0x0, 0, true, "DSP_THERM_MIN_C"⟩

/-- DSP_THERM_HYST_C, 0x2910:09. -/
def Obj.dspThermHystC : Obj :=
  ⟨0x2910, 0x09, .u8, .rw, .brewer, 0, .num 5, [(2, 15)], [], 0x0, 0, false, "DSP_THERM_HYST_C"⟩

/-- DSP_THERM_HOLD_S, 0x2910:0A. -/
def Obj.dspThermHoldS : Obj :=
  ⟨0x2910, 0x0A, .u16, .rw, .brewer, 0, .num 10, [(1, 600)], [], 0x0, 0, false, "DSP_THERM_HOLD_S"⟩

/-- DSP_EFFORT_CHANGES, 0x2910:0B. -/
def Obj.dspEffortChanges : Obj :=
  ⟨0x2910, 0x0B, .u32, .ro, .viewer, 0, .num 0, [], [], 0x0, 0, false, "DSP_EFFORT_CHANGES"⟩

/-- GRV_QP_BASE, 0x2A00:01. -/
def Obj.grvQpBase : Obj :=
  ⟨0x2A00, 0x01, .i8, .rg, .brewer, 0, .num 32, [(-12, 63)], [], 0x0, 0, false, "GRV_QP_BASE"⟩

/-- GRV_QP_MIN, 0x2A00:02. -/
def Obj.grvQpMin : Obj :=
  ⟨0x2A00, 0x02, .i8, .rg, .brewer, 0, .num 12, [(-12, 63)], [], 0x0, 0, false, "GRV_QP_MIN"⟩

/-- GRV_QP_MAX, 0x2A00:03. -/
def Obj.grvQpMax : Obj :=
  ⟨0x2A00, 0x03, .i8, .rg, .brewer, 0, .num 51, [(-12, 63)], [], 0x0, 0, false, "GRV_QP_MAX"⟩

/-- GRV_ACT_STRENGTH, 0x2A00:04. -/
def Obj.grvActStrength : Obj :=
  ⟨0x2A00, 0x04, .u8, .rg, .brewer, 0, .num 4, [(0, 8)], [], 0x0, 0, false, "GRV_ACT_STRENGTH"⟩

/-- GRV_ACT_PIVOT, 0x2A00:05. -/
def Obj.grvActPivot : Obj :=
  ⟨0x2A00, 0x05, .u8, .rg, .brewer, 0, .num 6, [(0, 20)], [], 0x0, 0, false, "GRV_ACT_PIVOT"⟩

/-- GRV_ACT_RANGE, 0x2A00:06. -/
def Obj.grvActRange : Obj :=
  ⟨0x2A00, 0x06, .u8, .rg, .brewer, 0, .num 4, [(0, 12)], [], 0x0, 0, false, "GRV_ACT_RANGE"⟩

/-- GRV_KSKIP, 0x2A00:07. -/
def Obj.grvKskip : Obj :=
  ⟨0x2A00, 0x07, .u16, .const, .viewer, 0, .num 48, [], [], 0x0, 0, false, "GRV_KSKIP"⟩

/-- GRV_KSLICE, 0x2A00:08. -/
def Obj.grvKslice : Obj :=
  ⟨0x2A00, 0x08, .u16, .const, .viewer, 0, .num 160, [], [], 0x0, 0, false, "GRV_KSLICE"⟩

/-- GRV_KTAIL, 0x2A00:09. -/
def Obj.grvKtail : Obj :=
  ⟨0x2A00, 0x09, .u16, .const, .viewer, 0, .num 24, [], [], 0x0, 0, false, "GRV_KTAIL"⟩

/-- GRV_SPENT_TOTAL, 0x2A00:0A. -/
def Obj.grvSpentTotal : Obj :=
  ⟨0x2A00, 0x0A, .u64, .ro, .viewer, 0, .num 0, [], [], 0x0, 0, false, "GRV_SPENT_TOTAL"⟩

/-- GRV_TRIMS, 0x2A00:0B. -/
def Obj.grvTrims : Obj :=
  ⟨0x2A00, 0x0B, .u64, .ro, .viewer, 0, .num 0, [], [], 0x0, 0, false, "GRV_TRIMS"⟩

/-- GRV_TRIM_FLOOR, 0x2A00:0C. -/
def Obj.grvTrimFloor : Obj :=
  ⟨0x2A00, 0x0C, .u64, .ro, .viewer, 0, .num 0, [], [], 0x0, 0, false, "GRV_TRIM_FLOOR"⟩

/-- GRV_SUB_ROW_SELECT, 0x2A10:01. -/
def Obj.grvSubRowSelect : Obj :=
  ⟨0x2A10, 0x01, .u32, .rw, .viewer, 0, .num 0, [(0, 4095)], [], 0x0, 0, false, "GRV_SUB_ROW_SELECT"⟩

/-- GRV_SUB_QP_OFFSET, 0x2A10:02. -/
def Obj.grvSubQpOffset : Obj :=
  ⟨0x2A10, 0x02, .i8, .rg, .brewer, 4096, .num 0, [(-24, 24)], [], 0x0, 0, false, "GRV_SUB_QP_OFFSET"⟩

/-- GRV_CAP_BITS, 0x2A10:03. -/
def Obj.grvCapBits : Obj :=
  ⟨0x2A10, 0x03, .u32, .ro, .viewer, 4096, .num 0, [], [], 0x0, 0, false, "GRV_CAP_BITS"⟩

/-- GRV_CAP_BITS_LIVE, 0x2A10:04. -/
def Obj.grvCapBitsLive : Obj :=
  ⟨0x2A10, 0x04, .u32, .ro, .viewer, 4096, .num 0, [], [], 0x0, 0, false, "GRV_CAP_BITS_LIVE"⟩

/-- GRV_OH_BITS, 0x2A10:05. -/
def Obj.grvOhBits : Obj :=
  ⟨0x2A10, 0x05, .u32, .ro, .viewer, 4096, .num 0, [], [], 0x0, 0, false, "GRV_OH_BITS"⟩

/-- GRV_RESERVE_MAX, 0x2A10:06. -/
def Obj.grvReserveMax : Obj :=
  ⟨0x2A10, 0x06, .u32, .ro, .viewer, 4096, .num 0, [], [], 0x0, 0, false, "GRV_RESERVE_MAX"⟩

/-- GRV_LAST_BITS, 0x2A10:07. -/
def Obj.grvLastBits : Obj :=
  ⟨0x2A10, 0x07, .u32, .ro, .viewer, 4096, .num 0, [], [], 0x0, 0, false, "GRV_LAST_BITS"⟩

/-- GRV_SUB_SPENT, 0x2A10:08. -/
def Obj.grvSubSpent : Obj :=
  ⟨0x2A10, 0x08, .u32, .ro, .viewer, 4096, .num 0, [], [], 0x0, 0, false, "GRV_SUB_SPENT"⟩

/-- GRV_PEAK_PERMILLE, 0x2A10:09. -/
def Obj.grvPeakPermille : Obj :=
  ⟨0x2A10, 0x09, .u16, .ro, .viewer, 4096, .num 0, [], [], 0x0, 0, false, "GRV_PEAK_PERMILLE"⟩

/-- GRV_QPD_ROW_SELECT, 0x2A20:01. -/
def Obj.grvQpdRowSelect : Obj :=
  ⟨0x2A20, 0x01, .u32, .rw, .viewer, 0, .num 0, [(0, 63)], [], 0x0, 0, false, "GRV_QPD_ROW_SELECT"⟩

/-- GRV_QPD, 0x2A20:02. -/
def Obj.grvQpd : Obj :=
  ⟨0x2A20, 0x02, .i8, .rg, .brewer, 64, .num 0, [(-24, 24)], [], 0x0, 0, false, "GRV_QPD"⟩

/-- GRV_QPD_LIVE, 0x2A20:03. -/
def Obj.grvQpdLive : Obj :=
  ⟨0x2A20, 0x03, .i8, .ro, .viewer, 64, .num 0, [], [], 0x0, 0, false, "GRV_QPD_LIVE"⟩

/-- RAK_PERIOD, 0x2B00:01. -/
def Obj.rakPeriod : Obj :=
  ⟨0x2B00, 0x01, .u32, .rg, .brewer, 0, .num 60, [(1, 65536)], [], 0x0, 0, false, "RAK_PERIOD"⟩

/-- RAK_QP_OFFSET, 0x2B00:02. -/
def Obj.rakQpOffset : Obj :=
  ⟨0x2B00, 0x02, .i8, .rg, .brewer, 0, .num 0, [(-12, 12)], [], 0x0, 0, false, "RAK_QP_OFFSET"⟩

/-- RAK_K, 0x2B00:03. -/
def Obj.rakK : Obj :=
  ⟨0x2B00, 0x03, .u32, .ro, .viewer, 0, .num 0, [], [], 0x0, 0, false, "RAK_K"⟩

/-- RAK_PERIOD_NOW, 0x2B00:04. -/
def Obj.rakPeriodNow : Obj :=
  ⟨0x2B00, 0x04, .u32, .ro, .viewer, 0, .num 0, [], [], 0x0, 0, false, "RAK_PERIOD_NOW"⟩

/-- RAK_PERIOD_START, 0x2B00:05. -/
def Obj.rakPeriodStart : Obj :=
  ⟨0x2B00, 0x05, .u32, .ro, .viewer, 0, .num 0, [], [], 0x0, 0, false, "RAK_PERIOD_START"⟩

/-- RAK_NUDGE, 0x2B00:06. -/
def Obj.rakNudge : Obj :=
  ⟨0x2B00, 0x06, .u16, .ex, .operator, 0, .num 0, [(0, 4094)], [], 0x0, 0, false, "RAK_NUDGE"⟩

/-- RAK_NUDGE_LEAD, 0x2B00:07. -/
def Obj.rakNudgeLead : Obj :=
  ⟨0x2B00, 0x07, .u8, .const, .viewer, 0, .num 3, [], [], 0x0, 0, false, "RAK_NUDGE_LEAD"⟩

/-- RAK_NUDGES, 0x2B00:08. -/
def Obj.rakNudges : Obj :=
  ⟨0x2B00, 0x08, .u32, .ro, .viewer, 0, .num 0, [], [], 0x0, 0, false, "RAK_NUDGES"⟩

/-- RAK_NUDGE_ABSORBED, 0x2B00:09. -/
def Obj.rakNudgeAbsorbed : Obj :=
  ⟨0x2B00, 0x09, .u32, .ro, .viewer, 0, .num 0, [], [], 0x0, 0, false, "RAK_NUDGE_ABSORBED"⟩

/-- RAK_MISSED, 0x2B00:0A. -/
def Obj.rakMissed : Obj :=
  ⟨0x2B00, 0x0A, .u32, .ro, .viewer, 0, .num 0, [], [], 0x0, 0, false, "RAK_MISSED"⟩

/-- RAK_SUB_ROW_SELECT, 0x2B10:01. -/
def Obj.rakSubRowSelect : Obj :=
  ⟨0x2B10, 0x01, .u32, .rw, .viewer, 0, .num 0, [(0, 4095)], [], 0x0, 0, false, "RAK_SUB_ROW_SELECT"⟩

/-- RAK_SUB_NUDGE_STATE, 0x2B10:02. -/
def Obj.rakSubNudgeState : Obj :=
  ⟨0x2B10, 0x02, .u8, .ro, .viewer, 4096, .num 0, [], [], 0x0, 0, false, "RAK_SUB_NUDGE_STATE"⟩

/-- RAK_SUB_NUDGE_FRAME, 0x2B10:03. -/
def Obj.rakSubNudgeFrame : Obj :=
  ⟨0x2B10, 0x03, .u32, .ro, .viewer, 4096, .num 0, [], [], 0x0, 0, false, "RAK_SUB_NUDGE_FRAME"⟩

/-- RAK_SUB_CLEAN, 0x2B10:04. -/
def Obj.rakSubClean : Obj :=
  ⟨0x2B10, 0x04, .u16, .ro, .viewer, 4096, .num 0, [], [], 0x0, 0, false, "RAK_SUB_CLEAN"⟩

/-- RAK_SUB_INEXACT, 0x2B10:05. -/
def Obj.rakSubInexact : Obj :=
  ⟨0x2B10, 0x05, .bool, .ro, .viewer, 4096, .num 0, [], [], 0x0, 0, false, "RAK_SUB_INEXACT"⟩

/-- ASM_EXT_ID_CT, 0x2C00:01. -/
def Obj.asmExtIdCt : Obj :=
  ⟨0x2C00, 0x01, .u8, .rg, .brewer, 0, .num 1, [(1, 14)], [], 0x0, 0, false, "ASM_EXT_ID_CT"⟩

/-- ASM_EXT_ID_SG, 0x2C00:02. -/
def Obj.asmExtIdSg : Obj :=
  ⟨0x2C00, 0x02, .u8, .rg, .brewer, 0, .num 2, [(1, 14)], [], 0x0, 0, false, "ASM_EXT_ID_SG"⟩

/-- ASM_EXT_ID_GM, 0x2C00:03. -/
def Obj.asmExtIdGm : Obj :=
  ⟨0x2C00, 0x03, .u8, .rg, .brewer, 0, .num 3, [(1, 14)], [], 0x0, 0, false, "ASM_EXT_ID_GM"⟩

/-- ASM_SSRC_BASE, 0x2C00:04. -/
def Obj.asmSsrcBase : Obj :=
  ⟨0x2C00, 0x04, .u32, .rg, .brewer, 0, .num 1313275904, [], [], 0x0, 0, false, "ASM_SSRC_BASE"⟩

/-- ASM_GAP_MARKERS, 0x2C00:05. -/
def Obj.asmGapMarkers : Obj :=
  ⟨0x2C00, 0x05, .bool, .rg, .brewer, 0, .num 1, [], [], 0x0, 0, false, "ASM_GAP_MARKERS"⟩

/-- ASM_RECORDER_PT, 0x2C00:06. -/
def Obj.asmRecorderPt : Obj :=
  ⟨0x2C00, 0x06, .u8, .rg, .brewer, 0, .num 96, [(96, 127)], [], 0x0, 0, false, "ASM_RECORDER_PT"⟩

/-- ASM_RECORDER_SSRC, 0x2C00:07. -/
def Obj.asmRecorderSsrc : Obj :=
  ⟨0x2C00, 0x07, .u32, .rg, .brewer, 0, .num 0, [], [], 0x0, 0, false, "ASM_RECORDER_SSRC"⟩

/-- ASM_RECORDER_PP, 0x2C00:08. -/
def Obj.asmRecorderPp : Obj :=
  ⟨0x2C00, 0x08, .u16, .rg, .brewer, 0, .num 8900, [(256, 9135)], [], 0x0, 0, false, "ASM_RECORDER_PP"⟩

/-- ASM_DRY_LIMIT_NS, 0x2C00:09. -/
def Obj.asmDryLimitNs : Obj :=
  ⟨0x2C00, 0x09, .u16, .rw, .brewer, 0, .num 2000, [(200, 20000)], [], 0x0, 0, false, "ASM_DRY_LIMIT_NS"⟩

/-- ASM_DRY_DROPS, 0x2C00:0A. -/
def Obj.asmDryDrops : Obj :=
  ⟨0x2C00, 0x0A, .u64, .ro, .viewer, 0, .num 0, [], [], 0x0, 0, false, "ASM_DRY_DROPS"⟩

/-- ASM_GAPS_SENT, 0x2C00:0B. -/
def Obj.asmGapsSent : Obj :=
  ⟨0x2C00, 0x0B, .u64, .ro, .viewer, 0, .num 0, [], [], 0x0, 0, false, "ASM_GAPS_SENT"⟩

/-- ASM_PKTS, 0x2C00:0C. -/
def Obj.asmPkts : Obj :=
  ⟨0x2C00, 0x0C, .u64, .ro, .viewer, 0, .num 0, [], [], 0x0, 0, false, "ASM_PKTS"⟩

/-- ASM_SUB_ROW_SELECT, 0x2C10:01. -/
def Obj.asmSubRowSelect : Obj :=
  ⟨0x2C10, 0x01, .u32, .rw, .viewer, 0, .num 0, [(0, 4095)], [], 0x0, 0, false, "ASM_SUB_ROW_SELECT"⟩

/-- ASM_SUB_PT, 0x2C10:02. -/
def Obj.asmSubPt : Obj :=
  ⟨0x2C10, 0x02, .u8, .rg, .brewer, 4096, .num 96, [(96, 127)], [], 0x0, 0, false, "ASM_SUB_PT"⟩

/-- ASM_SUB_SSRC, 0x2C10:03. -/
def Obj.asmSubSsrc : Obj :=
  ⟨0x2C10, 0x03, .u32, .rg, .brewer, 4096, .num 0, [], [], 0x0, 0, false, "ASM_SUB_SSRC"⟩

/-- ASM_SUB_PP, 0x2C10:04. -/
def Obj.asmSubPp : Obj :=
  ⟨0x2C10, 0x04, .u16, .rg, .brewer, 4096, .num 1400, [(256, 9135)], [], 0x0, 0, false, "ASM_SUB_PP"⟩

/-- ASM_SUB_HP, 0x2C10:05. -/
def Obj.asmSubHp : Obj :=
  ⟨0x2C10, 0x05, .u16, .ro, .viewer, 4096, .num 0, [], [], 0x0, 0, false, "ASM_SUB_HP"⟩

/-- ASM_SUB_SEQ, 0x2C10:06. -/
def Obj.asmSubSeq : Obj :=
  ⟨0x2C10, 0x06, .u32, .ro, .viewer, 4096, .num 0, [], [], 0x0, 0, false, "ASM_SUB_SEQ"⟩

/-- ASM_SUB_PKTS, 0x2C10:07. -/
def Obj.asmSubPkts : Obj :=
  ⟨0x2C10, 0x07, .u64, .ro, .viewer, 4096, .num 0, [], [], 0x0, 0, false, "ASM_SUB_PKTS"⟩

/-- ASM_TASTE_WINDOW_NS, 0x2C20:01. -/
def Obj.asmTasteWindowNs : Obj :=
  ⟨0x2C20, 0x01, .u16, .rw, .brewer, 0, .num 2000, [(500, 8000)], [], 0x0, 0, false, "ASM_TASTE_WINDOW_NS"⟩

/-- ASM_LANES_OK, 0x2C20:02. -/
def Obj.asmLanesOk : Obj :=
  ⟨0x2C20, 0x02, .u8, .ro, .viewer, 0, .num 48, [], [], 0x0, 0, false, "ASM_LANES_OK"⟩

/-- ASM_TASTED_BITS, 0x2C20:03. -/
def Obj.asmTastedBits : Obj :=
  ⟨0x2C20, 0x03, .u64, .ro, .viewer, 0, .num 0, [], [], 0x0, 0, false, "ASM_TASTED_BITS"⟩

/-- ASM_UNTASTED_BITS, 0x2C20:04. -/
def Obj.asmUntastedBits : Obj :=
  ⟨0x2C20, 0x04, .u64, .ro, .viewer, 0, .num 0, [], [], 0x0, 0, false, "ASM_UNTASTED_BITS"⟩

/-- ASM_COVERAGE_PERMILLE, 0x2C20:05. -/
def Obj.asmCoveragePermille : Obj :=
  ⟨0x2C20, 0x05, .u16, .ro, .viewer, 0, .num 1000, [], [], 0x0, 0, false, "ASM_COVERAGE_PERMILLE"⟩

/-- ASM_TASTE_FAILS, 0x2C20:06. -/
def Obj.asmTasteFails : Obj :=
  ⟨0x2C20, 0x06, .u32, .ro, .viewer, 0, .num 0, [], [], 0x0, 0, false, "ASM_TASTE_FAILS"⟩

/-- ASM_LANE_ROW_SELECT, 0x2C20:07. -/
def Obj.asmLaneRowSelect : Obj :=
  ⟨0x2C20, 0x07, .u32, .rw, .viewer, 0, .num 0, [(0, 47)], [], 0x0, 0, false, "ASM_LANE_ROW_SELECT"⟩

/-- ASM_LANE_STATE, 0x2C20:08. -/
def Obj.asmLaneState : Obj :=
  ⟨0x2C20, 0x08, .u8, .ro, .viewer, 48, .num 0, [], [], 0x0, 0, false, "ASM_LANE_STATE"⟩

/-- ASM_LANE_FAILS, 0x2C20:09. -/
def Obj.asmLaneFails : Obj :=
  ⟨0x2C20, 0x09, .u32, .ro, .viewer, 48, .num 0, [], [], 0x0, 0, false, "ASM_LANE_FAILS"⟩

/-- TWN_MODE, 0x2D00:01. -/
def Obj.twnMode : Obj :=
  ⟨0x2D00, 0x01, .u8, .rg, .brewer, 0, .num 0, [(0, 2)], [], 0x0, 0, false, "TWN_MODE"⟩

/-- TWN_ROLE, 0x2D00:02. -/
def Obj.twnRole : Obj :=
  ⟨0x2D00, 0x02, .u8, .ro, .viewer, 0, .num 0, [], [], 0x0, 0, false, "TWN_ROLE"⟩

/-- TWN_STATE, 0x2D00:03. -/
def Obj.twnState : Obj :=
  ⟨0x2D00, 0x03, .u8, .ro, .viewer, 0, .num 0, [], [], 0x0, 0, false, "TWN_STATE"⟩

/-- TWN_SILENCE_CAUSE, 0x2D00:04. -/
def Obj.twnSilenceCause : Obj :=
  ⟨0x2D00, 0x04, .u8, .ro, .viewer, 0, .num 0, [], [], 0x0, 0, false, "TWN_SILENCE_CAUSE"⟩

/-- TWN_TAKEOVER, 0x2D00:05. -/
def Obj.twnTakeover : Obj :=
  ⟨0x2D00, 0x05, .bool, .rw, .brewer, 0, .num 1, [], [], 0x0, 0, true, "TWN_TAKEOVER"⟩

/-- TWN_HOLD_NS, 0x2D00:06. -/
def Obj.twnHoldNs : Obj :=
  ⟨0x2D00, 0x06, .u32, .rw, .brewer, 0, .num 12000, [(2000, 100000)], [], 0x0, 0, false, "TWN_HOLD_NS"⟩

/-- TWN_PORT_A, 0x2D00:07. -/
def Obj.twnPortA : Obj :=
  ⟨0x2D00, 0x07, .u8, .rw, .brewer, 0, .num 255, [(0, 95), (255, 255)], [], 0x0, 0, true, "TWN_PORT_A"⟩

/-- TWN_PORT_B, 0x2D00:08. -/
def Obj.twnPortB : Obj :=
  ⟨0x2D00, 0x08, .u8, .rw, .brewer, 0, .num 255, [(0, 95), (255, 255)], [], 0x0, 0, true, "TWN_PORT_B"⟩

/-- TWN_KEY, 0x2D00:09. -/
def Obj.twnKey : Obj :=
  ⟨0x2D00, 0x09, .domain, .wo, .brewer, 0, .bytes (zeros 48), [], [], 0x0, 48, true, "TWN_KEY"⟩

/-- TWN_SILENCE, 0x2D00:0A. -/
def Obj.twnSilence : Obj :=
  ⟨0x2D00, 0x0A, .u8, .ex, .operator, 0, .num 0, [(0, 1)], [], 0x0, 0, false, "TWN_SILENCE"⟩

/-- TWN_LINK_UP, 0x2D00:0B. -/
def Obj.twnLinkUp : Obj :=
  ⟨0x2D00, 0x0B, .bool, .ro, .viewer, 0, .num 0, [], [], 0x0, 0, false, "TWN_LINK_UP"⟩

/-- TWN_PARTNER_OK, 0x2D00:0C. -/
def Obj.twnPartnerOk : Obj :=
  ⟨0x2D00, 0x0C, .bool, .ro, .viewer, 0, .num 0, [], [], 0x0, 0, false, "TWN_PARTNER_OK"⟩

/-- TWN_MATCH_RUN, 0x2D00:0D. -/
def Obj.twnMatchRun : Obj :=
  ⟨0x2D00, 0x0D, .u32, .ro, .viewer, 0, .num 0, [], [], 0x0, 0, false, "TWN_MATCH_RUN"⟩

/-- TWN_MISMATCHES, 0x2D00:0E. -/
def Obj.twnMismatches : Obj :=
  ⟨0x2D00, 0x0E, .u64, .ro, .viewer, 0, .num 0, [], [], 0x0, 0, false, "TWN_MISMATCHES"⟩

/-- TWN_MISSING, 0x2D00:0F. -/
def Obj.twnMissing : Obj :=
  ⟨0x2D00, 0x0F, .u64, .ro, .viewer, 0, .num 0, [], [], 0x0, 0, false, "TWN_MISSING"⟩

/-- TWN_UNVERIFIED, 0x2D00:10. -/
def Obj.twnUnverified : Obj :=
  ⟨0x2D00, 0x10, .u64, .ro, .viewer, 0, .num 0, [], [], 0x0, 0, false, "TWN_UNVERIFIED"⟩

/-- TWN_REJOINS, 0x2D00:11. -/
def Obj.twnRejoins : Obj :=
  ⟨0x2D00, 0x11, .u32, .ro, .viewer, 0, .num 0, [], [], 0x0, 0, false, "TWN_REJOINS"⟩

/-- TWN_LAST_MISMATCH, 0x2D00:12. -/
def Obj.twnLastMismatch : Obj :=
  ⟨0x2D00, 0x12, .domain, .ro, .viewer, 0, .bytes (zeros 64), [], [], 0x0, 64, false, "TWN_LAST_MISMATCH"⟩

/-- TWN_PAIR_FAIL, 0x2D00:13. -/
def Obj.twnPairFail : Obj :=
  ⟨0x2D00, 0x13, .u8, .ro, .viewer, 0, .num 0, [], [], 0x0, 0, false, "TWN_PAIR_FAIL"⟩

/-- TWN_LINK_LOSSES, 0x2D00:14. -/
def Obj.twnLinkLosses : Obj :=
  ⟨0x2D00, 0x14, .u32, .ro, .viewer, 0, .num 0, [], [], 0x0, 0, false, "TWN_LINK_LOSSES"⟩

/-- FIN_AREA_MIB, 0x2E00:01. -/
def Obj.finAreaMib : Obj :=
  ⟨0x2E00, 0x01, .u32, .rw, .brewer, 0, .num 4096, [(0, 65536)], [], 0x0, 0, true, "FIN_AREA_MIB"⟩

/-- FIN_AREA_FREE_MIB, 0x2E00:02. -/
def Obj.finAreaFreeMib : Obj :=
  ⟨0x2E00, 0x02, .u32, .ro, .viewer, 0, .num 0, [], [], 0x0, 0, false, "FIN_AREA_FREE_MIB"⟩

/-- FIN_REORDER_US, 0x2E00:03. -/
def Obj.finReorderUs : Obj :=
  ⟨0x2E00, 0x03, .u16, .rw, .brewer, 0, .num 2000, [(100, 50000)], [], 0x0, 0, false, "FIN_REORDER_US"⟩

/-- FIN_BACKOFF_CTUS, 0x2E00:04. -/
def Obj.finBackoffCtus : Obj :=
  ⟨0x2E00, 0x04, .u8, .rw, .brewer, 0, .num 2, [(0, 16)], [], 0x0, 0, false, "FIN_BACKOFF_CTUS"⟩

/-- FIN_LOAD_PERMILLE, 0x2E00:05. -/
def Obj.finLoadPermille : Obj :=
  ⟨0x2E00, 0x05, .u16, .ro, .viewer, 0, .num 0, [], [], 0x0, 0, false, "FIN_LOAD_PERMILLE"⟩

/-- FIN_STR_ROW_SELECT, 0x2E10:01. -/
def Obj.finStrRowSelect : Obj :=
  ⟨0x2E10, 0x01, .u32, .rw, .viewer, 0, .num 0, [(0, 31)], [], 0x0, 0, false, "FIN_STR_ROW_SELECT"⟩

/-- FIN_STR_W0, 0x2E10:02. -/
def Obj.finStrW0 : Obj :=
  ⟨0x2E10, 0x02, .u64, .rg, .brewer, 32, .num 0, [], [⟨3, 2, [(0, 2)]⟩, ⟨52, 46, [(0, 0), (96, 127)]⟩], 0xe000000000000000, 0, false, "FIN_STR_W0"⟩

/-- FIN_STR_W1, 0x2E10:03. -/
def Obj.finStrW1 : Obj :=
  ⟨0x2E10, 0x03, .u64, .rg, .brewer, 32, .num 0, [], [], 0xfc00000000000000, 0, false, "FIN_STR_W1"⟩

/-- FIN_STR_W0_LIVE, 0x2E10:04. -/
def Obj.finStrW0Live : Obj :=
  ⟨0x2E10, 0x04, .u64, .ro, .viewer, 32, .num 0, [], [], 0x0, 0, false, "FIN_STR_W0_LIVE"⟩

/-- FIN_STR_W1_LIVE, 0x2E10:05. -/
def Obj.finStrW1Live : Obj :=
  ⟨0x2E10, 0x05, .u64, .ro, .viewer, 32, .num 0, [], [], 0x0, 0, false, "FIN_STR_W1_LIVE"⟩

/-- FIN_STR_SPROP, 0x2E10:06. -/
def Obj.finStrSprop : Obj :=
  ⟨0x2E10, 0x06, .domain, .rg, .brewer, 32, .bytes [], [], [], 0x0, 0, false, "FIN_STR_SPROP"⟩

/-- FIN_STR_STATE, 0x2E10:07. -/
def Obj.finStrState : Obj :=
  ⟨0x2E10, 0x07, .u8, .ro, .viewer, 32, .num 0, [], [], 0x0, 0, false, "FIN_STR_STATE"⟩

/-- FIN_STR_OUT, 0x2E10:08. -/
def Obj.finStrOut : Obj :=
  ⟨0x2E10, 0x08, .u8, .ro, .viewer, 32, .num 0, [], [], 0x0, 0, false, "FIN_STR_OUT"⟩

/-- FIN_STR_PTL, 0x2E10:09. -/
def Obj.finStrPtl : Obj :=
  ⟨0x2E10, 0x09, .u32, .ro, .viewer, 32, .num 0, [], [], 0x0, 0, false, "FIN_STR_PTL"⟩

/-- FIN_STAT_ROW_SELECT, 0x2E20:01. -/
def Obj.finStatRowSelect : Obj :=
  ⟨0x2E20, 0x01, .u32, .rw, .viewer, 0, .num 0, [(0, 31)], [], 0x0, 0, false, "FIN_STAT_ROW_SELECT"⟩

/-- FIN_PKTS, 0x2E20:02. -/
def Obj.finPkts : Obj :=
  ⟨0x2E20, 0x02, .u64, .ro, .viewer, 32, .num 0, [], [], 0x0, 0, false, "FIN_PKTS"⟩

/-- FIN_PKTS_LOST, 0x2E20:03. -/
def Obj.finPktsLost : Obj :=
  ⟨0x2E20, 0x03, .u64, .ro, .viewer, 32, .num 0, [], [], 0x0, 0, false, "FIN_PKTS_LOST"⟩

/-- FIN_PKTS_BAD, 0x2E20:04. -/
def Obj.finPktsBad : Obj :=
  ⟨0x2E20, 0x04, .u64, .ro, .viewer, 32, .num 0, [], [], 0x0, 0, false, "FIN_PKTS_BAD"⟩

/-- FIN_NAL_DISCARDS, 0x2E20:05. -/
def Obj.finNalDiscards : Obj :=
  ⟨0x2E20, 0x05, .u32, .ro, .viewer, 32, .num 0, [], [], 0x0, 0, false, "FIN_NAL_DISCARDS"⟩

/-- FIN_SYNTAX_ERRS, 0x2E20:06. -/
def Obj.finSyntaxErrs : Obj :=
  ⟨0x2E20, 0x06, .u32, .ro, .viewer, 32, .num 0, [], [], 0x0, 0, false, "FIN_SYNTAX_ERRS"⟩

/-- FIN_SLICES_MISSING, 0x2E20:07. -/
def Obj.finSlicesMissing : Obj :=
  ⟨0x2E20, 0x07, .u32, .ro, .viewer, 32, .num 0, [], [], 0x0, 0, false, "FIN_SLICES_MISSING"⟩

/-- FIN_REFS_MISSING, 0x2E20:08. -/
def Obj.finRefsMissing : Obj :=
  ⟨0x2E20, 0x08, .u32, .ro, .viewer, 32, .num 0, [], [], 0x0, 0, false, "FIN_REFS_MISSING"⟩

/-- FIN_CTUS_CONCEALED, 0x2E20:09. -/
def Obj.finCtusConcealed : Obj :=
  ⟨0x2E20, 0x09, .u64, .ro, .viewer, 32, .num 0, [], [], 0x0, 0, false, "FIN_CTUS_CONCEALED"⟩

/-- FIN_PICS_OUT, 0x2E20:0A. -/
def Obj.finPicsOut : Obj :=
  ⟨0x2E20, 0x0A, .u64, .ro, .viewer, 32, .num 0, [], [], 0x0, 0, false, "FIN_PICS_OUT"⟩

/-- FIN_PICS_LATE, 0x2E20:0B. -/
def Obj.finPicsLate : Obj :=
  ⟨0x2E20, 0x0B, .u32, .ro, .viewer, 32, .num 0, [], [], 0x0, 0, false, "FIN_PICS_LATE"⟩

/-- FIN_AUS_SKIPPED, 0x2E20:0C. -/
def Obj.finAusSkipped : Obj :=
  ⟨0x2E20, 0x0C, .u32, .ro, .viewer, 32, .num 0, [], [], 0x0, 0, false, "FIN_AUS_SKIPPED"⟩

/-- FIN_LAST_GOOD_TS, 0x2E20:0D. -/
def Obj.finLastGoodTs : Obj :=
  ⟨0x2E20, 0x0D, .u32, .ro, .viewer, 32, .num 0, [], [], 0x0, 0, false, "FIN_LAST_GOOD_TS"⟩

/-- FIN_MAP_ROW_SELECT, 0x2E30:01. -/
def Obj.finMapRowSelect : Obj :=
  ⟨0x2E30, 0x01, .u32, .rw, .viewer, 0, .num 0, [(0, 31)], [], 0x0, 0, false, "FIN_MAP_ROW_SELECT"⟩

/-- FIN_MAP, 0x2E30:02. -/
def Obj.finMap : Obj :=
  ⟨0x2E30, 0x02, .domain, .ro, .viewer, 32, .bytes [], [], [], 0x0, 0, false, "FIN_MAP"⟩

/-- TAP_COUNT, 0x3000:01. -/
def Obj.tapCount : Obj :=
  ⟨0x3000, 0x01, .u16, .const, .viewer, 0, .num 16384, [], [], 0x0, 0, false, "TAP_COUNT"⟩

/-- TAP_LAUNCH_LINES, 0x3000:02. -/
def Obj.tapLaunchLines : Obj :=
  ⟨0x3000, 0x02, .u8, .rg, .brewer, 0, .num 40, [(0, 64)], [], 0x0, 0, false, "TAP_LAUNCH_LINES"⟩

/-- TAP_WIN_AGE_US, 0x3000:03. -/
def Obj.tapWinAgeUs : Obj :=
  ⟨0x3000, 0x03, .u32, .rw, .brewer, 0, .num 10000, [(1000, 100000)], [], 0x0, 0, false, "TAP_WIN_AGE_US"⟩

/-- TAP_RTX_HOLDOFF_US, 0x3000:04. -/
def Obj.tapRtxHoldoffUs : Obj :=
  ⟨0x3000, 0x04, .u32, .rw, .brewer, 0, .num 2000, [(100, 100000)], [], 0x0, 0, false, "TAP_RTX_HOLDOFF_US"⟩

/-- TAP_SHED_PKTS, 0x3000:05. -/
def Obj.tapShedPkts : Obj :=
  ⟨0x3000, 0x05, .u16, .rw, .brewer, 0, .num 64, [(1, 1024)], [], 0x0, 0, false, "TAP_SHED_PKTS"⟩

/-- TAP_SR_FRAMES, 0x3000:06. -/
def Obj.tapSrFrames : Obj :=
  ⟨0x3000, 0x06, .u16, .rg, .brewer, 0, .num 120, [(1, 65535)], [], 0x0, 0, false, "TAP_SR_FRAMES"⟩

/-- TAP_CNAME, 0x3000:07. -/
def Obj.tapCname : Obj :=
  ⟨0x3000, 0x07, (.str 32), .rg, .brewer, 0, .bytes (ascii "ng6496"), [], [], 0x0, 0, false, "TAP_CNAME"⟩

/-- TAP_REPAIRS, 0x3000:08. -/
def Obj.tapRepairs : Obj :=
  ⟨0x3000, 0x08, .u64, .ro, .viewer, 0, .num 0, [], [], 0x0, 0, false, "TAP_REPAIRS"⟩

/-- TAP_NACK_UNSERVED, 0x3000:09. -/
def Obj.tapNackUnserved : Obj :=
  ⟨0x3000, 0x09, .u64, .ro, .viewer, 0, .num 0, [], [], 0x0, 0, false, "TAP_NACK_UNSERVED"⟩

/-- TAP_NACK_EARLY, 0x3000:0A. -/
def Obj.tapNackEarly : Obj :=
  ⟨0x3000, 0x0A, .u64, .ro, .viewer, 0, .num 0, [], [], 0x0, 0, false, "TAP_NACK_EARLY"⟩

/-- TAP_NACK_DUP, 0x3000:0B. -/
def Obj.tapNackDup : Obj :=
  ⟨0x3000, 0x0B, .u64, .ro, .viewer, 0, .num 0, [], [], 0x0, 0, false, "TAP_NACK_DUP"⟩

/-- TAP_SHED, 0x3000:0C. -/
def Obj.tapShed : Obj :=
  ⟨0x3000, 0x0C, .u64, .ro, .viewer, 0, .num 0, [], [], 0x0, 0, false, "TAP_SHED"⟩

/-- TAP_RTCP_BAD, 0x3000:0D. -/
def Obj.tapRtcpBad : Obj :=
  ⟨0x3000, 0x0D, .u64, .ro, .viewer, 0, .num 0, [], [], 0x0, 0, false, "TAP_RTCP_BAD"⟩

/-- TAP_RTCP_OTHER, 0x3000:0E. -/
def Obj.tapRtcpOther : Obj :=
  ⟨0x3000, 0x0E, .u64, .ro, .viewer, 0, .num 0, [], [], 0x0, 0, false, "TAP_RTCP_OTHER"⟩

/-- TAP_GAPS_SENT, 0x3000:0F. -/
def Obj.tapGapsSent : Obj :=
  ⟨0x3000, 0x0F, .u64, .ro, .viewer, 0, .num 0, [], [], 0x0, 0, false, "TAP_GAPS_SENT"⟩

/-- TAP_ROW_SELECT, 0x3010:01. -/
def Obj.tapRowSelect : Obj :=
  ⟨0x3010, 0x01, .u32, .rw, .viewer, 0, .num 0, [(0, 16383)], [], 0x0, 0, false, "TAP_ROW_SELECT"⟩

/-- TAP_W0, 0x3010:02. -/
def Obj.tapW0 : Obj :=
  ⟨0x3010, 0x02, .u64, .rg, .brewer, 16384, .num 0, [], [⟨14, 8, [(0, 95)]⟩, ⟨21, 15, [(0, 95)]⟩, ⟨28, 22, [(0, 95)]⟩], 0xfc00000000000000, 0, false, "TAP_W0"⟩

/-- TAP_W1, 0x3010:03. -/
def Obj.tapW1 : Obj :=
  ⟨0x3010, 0x03, .u64, .rg, .brewer, 16384, .num 0, [], [], 0x0, 0, false, "TAP_W1"⟩

/-- TAP_W2, 0x3010:04. -/
def Obj.tapW2 : Obj :=
  ⟨0x3010, 0x04, .u64, .rg, .brewer, 16384, .num 0, [], [], 0x0, 0, false, "TAP_W2"⟩

/-- TAP_W3, 0x3010:05. -/
def Obj.tapW3 : Obj :=
  ⟨0x3010, 0x05, .u64, .rg, .brewer, 16384, .num 0, [], [⟨45, 36, [(0, 1000)]⟩], 0xffffc00000000000, 0, false, "TAP_W3"⟩

/-- TAP_W4, 0x3010:06. -/
def Obj.tapW4 : Obj :=
  ⟨0x3010, 0x06, .u64, .rg, .brewer, 16384, .num 0, [], [], 0x0, 0, false, "TAP_W4"⟩

/-- TAP_W5, 0x3010:07. -/
def Obj.tapW5 : Obj :=
  ⟨0x3010, 0x07, .u64, .rg, .brewer, 16384, .num 0, [], [], 0x0, 0, false, "TAP_W5"⟩

/-- TAP_W6, 0x3010:08. -/
def Obj.tapW6 : Obj :=
  ⟨0x3010, 0x08, .u64, .rg, .brewer, 16384, .num 0, [], [], 0x0, 0, false, "TAP_W6"⟩

/-- TAP_W7, 0x3010:09. -/
def Obj.tapW7 : Obj :=
  ⟨0x3010, 0x09, .u64, .rg, .brewer, 16384, .num 0, [], [], 0x0, 0, false, "TAP_W7"⟩

/-- TAP_W8, 0x3010:0A. -/
def Obj.tapW8 : Obj :=
  ⟨0x3010, 0x0A, .u64, .rg, .brewer, 16384, .num 0, [], [], 0x0, 0, false, "TAP_W8"⟩

/-- TAP_W9, 0x3010:0B. -/
def Obj.tapW9 : Obj :=
  ⟨0x3010, 0x0B, .u64, .rg, .brewer, 16384, .num 0, [], [], 0x0, 0, false, "TAP_W9"⟩

/-- TAP_LIVE, 0x3010:0C. -/
def Obj.tapLive : Obj :=
  ⟨0x3010, 0x0C, .domain, .ro, .viewer, 16384, .bytes (zeros 80), [], [], 0x0, 80, false, "TAP_LIVE"⟩

/-- TAP_FLUSH, 0x3020:01. -/
def Obj.tapFlush : Obj :=
  ⟨0x3020, 0x01, .bool, .rw, .operator, 16384, .num 0, [], [], 0x0, 0, false, "TAP_FLUSH"⟩

/-- TAP_Q_DEPTH, 0x3020:02. -/
def Obj.tapQDepth : Obj :=
  ⟨0x3020, 0x02, .u32, .ro, .viewer, 16384, .num 0, [], [], 0x0, 0, false, "TAP_Q_DEPTH"⟩

/-- TAP_PKTS, 0x3020:03. -/
def Obj.tapPkts : Obj :=
  ⟨0x3020, 0x03, .u64, .ro, .viewer, 16384, .num 0, [], [], 0x0, 0, false, "TAP_PKTS"⟩

/-- TAP_DROPS, 0x3020:04. -/
def Obj.tapDrops : Obj :=
  ⟨0x3020, 0x04, .u64, .ro, .viewer, 16384, .num 0, [], [], 0x0, 0, false, "TAP_DROPS"⟩

/-- TAP_FLUSHED, 0x3020:05. -/
def Obj.tapFlushed : Obj :=
  ⟨0x3020, 0x05, .u64, .ro, .viewer, 16384, .num 0, [], [], 0x0, 0, false, "TAP_FLUSHED"⟩

/-- TAP_WIN_FILL, 0x3020:06. -/
def Obj.tapWinFill : Obj :=
  ⟨0x3020, 0x06, .u32, .ro, .viewer, 16384, .num 0, [], [], 0x0, 0, false, "TAP_WIN_FILL"⟩

/-- TAP_REWIND_ES, 0x3020:07. -/
def Obj.tapRewindEs : Obj :=
  ⟨0x3020, 0x07, .u32, .ro, .viewer, 16384, .num 0, [], [], 0x0, 0, false, "TAP_REWIND_ES"⟩

/-- TAP_LATE_PKTS, 0x3020:08. -/
def Obj.tapLatePkts : Obj :=
  ⟨0x3020, 0x08, .u32, .ro, .viewer, 16384, .num 0, [], [], 0x0, 0, false, "TAP_LATE_PKTS"⟩

/-- TAP_LAT_BYTES, 0x3020:09. -/
def Obj.tapLatBytes : Obj :=
  ⟨0x3020, 0x09, .u32, .ro, .viewer, 16384, .num 0, [], [], 0x0, 0, false, "TAP_LAT_BYTES"⟩

/-- TAP_PORT_ROW_SELECT, 0x3100:01. -/
def Obj.tapPortRowSelect : Obj :=
  ⟨0x3100, 0x01, .u32, .rw, .viewer, 0, .num 0, [(0, 95)], [], 0x0, 0, false, "TAP_PORT_ROW_SELECT"⟩

/-- TAP_PORT_W0, 0x3100:02. -/
def Obj.tapPortW0 : Obj :=
  ⟨0x3100, 0x02, .u64, .rg, .brewer, 96, .num 0, [], [], 0xfffffffffffffffe, 0, false, "TAP_PORT_W0"⟩

/-- TAP_PORT_W1, 0x3100:03. -/
def Obj.tapPortW1 : Obj :=
  ⟨0x3100, 0x03, .u64, .rg, .brewer, 96, .num 0, [], [], 0x0, 0, false, "TAP_PORT_W1"⟩

/-- TAP_PORT_W2, 0x3100:04. -/
def Obj.tapPortW2 : Obj :=
  ⟨0x3100, 0x04, .u64, .rg, .brewer, 96, .num 0, [], [], 0x0, 0, false, "TAP_PORT_W2"⟩

/-- TAP_PORT_W3, 0x3100:05. -/
def Obj.tapPortW3 : Obj :=
  ⟨0x3100, 0x05, .u64, .rg, .brewer, 96, .num 0, [], [], 0xffffffffff000000, 0, false, "TAP_PORT_W3"⟩

/-- TAP_PORT_LOAD_PERMILLE, 0x3100:06. -/
def Obj.tapPortLoadPermille : Obj :=
  ⟨0x3100, 0x06, .u16, .ro, .viewer, 96, .num 0, [], [], 0x0, 0, false, "TAP_PORT_LOAD_PERMILLE"⟩

/-- TAP_PORT_ACTIVE_MAX, 0x3100:07. -/
def Obj.tapPortActiveMax : Obj :=
  ⟨0x3100, 0x07, .u16, .ro, .viewer, 96, .num 0, [], [], 0x0, 0, false, "TAP_PORT_ACTIVE_MAX"⟩

/-- TAP_PORT_WAITING, 0x3100:08. -/
def Obj.tapPortWaiting : Obj :=
  ⟨0x3100, 0x08, .u32, .ro, .viewer, 96, .num 0, [], [], 0x0, 0, false, "TAP_PORT_WAITING"⟩

/-- MEM_QD_SCRUB_S, 0x3200:01. -/
def Obj.memQdScrubS : Obj :=
  ⟨0x3200, 0x01, .u16, .rw, .brewer, 0, .num 10, [(1, 3600)], [], 0x0, 0, true, "MEM_QD_SCRUB_S"⟩

/-- MEM_RETRAIN, 0x3200:02. -/
def Obj.memRetrain : Obj :=
  ⟨0x3200, 0x02, .u8, .ex, .operator, 0, .num 0, [(0, 11), (16, 23)], [], 0x0, 0, false, "MEM_RETRAIN"⟩

/-- MEM_QD_ROW_SELECT, 0x3210:01. -/
def Obj.memQdRowSelect : Obj :=
  ⟨0x3210, 0x01, .u32, .rw, .viewer, 0, .num 0, [(0, 11)], [], 0x0, 0, false, "MEM_QD_ROW_SELECT"⟩

/-- MEM_QD_STATE, 0x3210:02. -/
def Obj.memQdState : Obj :=
  ⟨0x3210, 0x02, .u8, .ro, .viewer, 12, .num 0, [], [], 0x0, 0, false, "MEM_QD_STATE"⟩

/-- MEM_QD_ECC_CORR, 0x3210:03. -/
def Obj.memQdEccCorr : Obj :=
  ⟨0x3210, 0x03, .u64, .ro, .viewer, 12, .num 0, [], [], 0x0, 0, false, "MEM_QD_ECC_CORR"⟩

/-- MEM_QD_ECC_UNCORR, 0x3210:04. -/
def Obj.memQdEccUncorr : Obj :=
  ⟨0x3210, 0x04, .u32, .ro, .viewer, 12, .num 0, [], [], 0x0, 0, false, "MEM_QD_ECC_UNCORR"⟩

/-- MEM_QD_RETRAINS, 0x3210:05. -/
def Obj.memQdRetrains : Obj :=
  ⟨0x3210, 0x05, .u32, .ro, .viewer, 12, .num 0, [], [], 0x0, 0, false, "MEM_QD_RETRAINS"⟩

/-- MEM_QD_PENDING, 0x3210:06. -/
def Obj.memQdPending : Obj :=
  ⟨0x3210, 0x06, .bool, .ro, .viewer, 12, .num 0, [], [], 0x0, 0, false, "MEM_QD_PENDING"⟩

/-- MEM_DD_CONFIG, 0x3220:01. -/
def Obj.memDdConfig : Obj :=
  ⟨0x3220, 0x01, .u32, .rw, .brewer, 0, .num 2, [], [⟨1, 0, [(0, 2)]⟩, ⟨4, 2, [(0, 3)]⟩, ⟨8, 6, [(0, 3)]⟩], 0xfffffe00, 0, true, "MEM_DD_CONFIG"⟩

/-- MEM_DD_CAPACITY_GIB, 0x3220:02. -/
def Obj.memDdCapacityGib : Obj :=
  ⟨0x3220, 0x02, .u16, .ro, .viewer, 0, .num 0, [], [], 0x0, 0, false, "MEM_DD_CAPACITY_GIB"⟩

/-- MEM_DD_FIT_PERMILLE, 0x3220:03. -/
def Obj.memDdFitPermille : Obj :=
  ⟨0x3220, 0x03, .u16, .ro, .viewer, 0, .num 0, [], [], 0x0, 0, false, "MEM_DD_FIT_PERMILLE"⟩

/-- MEM_DD_RETRAIN_S, 0x3220:04. -/
def Obj.memDdRetrainS : Obj :=
  ⟨0x3220, 0x04, .u32, .rw, .brewer, 0, .num 480, [(0, 0), (80, 86400)], [], 0x0, 0, true, "MEM_DD_RETRAIN_S"⟩

/-- MEM_DD_PAUSE_US, 0x3220:05. -/
def Obj.memDdPauseUs : Obj :=
  ⟨0x3220, 0x05, .u8, .const, .viewer, 0, .num 24, [], [], 0x0, 0, false, "MEM_DD_PAUSE_US"⟩

/-- MEM_DD_PAGE_IDLE_NS, 0x3220:06. -/
def Obj.memDdPageIdleNs : Obj :=
  ⟨0x3220, 0x06, .u16, .rw, .brewer, 0, .num 100, [(20, 2000)], [], 0x0, 0, false, "MEM_DD_PAGE_IDLE_NS"⟩

/-- MEM_DD_WQ_HIGH, 0x3220:07. -/
def Obj.memDdWqHigh : Obj :=
  ⟨0x3220, 0x07, .u8, .rw, .brewer, 0, .num 48, [(8, 63)], [], 0x0, 0, false, "MEM_DD_WQ_HIGH"⟩

/-- MEM_DD_WQ_LOW, 0x3220:08. -/
def Obj.memDdWqLow : Obj :=
  ⟨0x3220, 0x08, .u8, .rw, .brewer, 0, .num 16, [(0, 56)], [], 0x0, 0, false, "MEM_DD_WQ_LOW"⟩

/-- MEM_DD_AGE_NS, 0x3220:09. -/
def Obj.memDdAgeNs : Obj :=
  ⟨0x3220, 0x09, .u16, .rw, .brewer, 0, .num 2000, [(200, 20000)], [], 0x0, 0, false, "MEM_DD_AGE_NS"⟩

/-- MEM_DD_SR_IDLE_US, 0x3220:0A. -/
def Obj.memDdSrIdleUs : Obj :=
  ⟨0x3220, 0x0A, .u32, .rw, .brewer, 0, .num 1000, [(10, 1000000)], [], 0x0, 0, false, "MEM_DD_SR_IDLE_US"⟩

/-- MEM_DD_SCRUB_H, 0x3220:0B. -/
def Obj.memDdScrubH : Obj :=
  ⟨0x3220, 0x0B, .u16, .rw, .brewer, 0, .num 24, [(1, 720)], [], 0x0, 0, false, "MEM_DD_SCRUB_H"⟩

/-- MEM_DD_DEGRADED, 0x3220:0C. -/
def Obj.memDdDegraded : Obj :=
  ⟨0x3220, 0x0C, .bool, .ro, .viewer, 0, .num 0, [], [], 0x0, 0, false, "MEM_DD_DEGRADED"⟩

/-- MEM_DD_SRM, 0x3220:0D. -/
def Obj.memDdSrm : Obj :=
  ⟨0x3220, 0x0D, .bool, .ro, .viewer, 0, .num 0, [], [], 0x0, 0, false, "MEM_DD_SRM"⟩

/-- MEM_DD_EMPTY_BURSTS, 0x3220:0E. -/
def Obj.memDdEmptyBursts : Obj :=
  ⟨0x3220, 0x0E, .u64, .ro, .viewer, 0, .num 0, [], [], 0x0, 0, false, "MEM_DD_EMPTY_BURSTS"⟩

/-- MEM_REF_RATIO, 0x3220:0F. -/
def Obj.memRefRatio : Obj :=
  ⟨0x3220, 0x0F, .u16, .ro, .viewer, 0, .num 0, [], [], 0x0, 0, false, "MEM_REF_RATIO"⟩

/-- MEM_TRAIN_CACHED, 0x3220:10. -/
def Obj.memTrainCached : Obj :=
  ⟨0x3220, 0x10, .bool, .ro, .viewer, 0, .num 0, [], [], 0x0, 0, false, "MEM_TRAIN_CACHED"⟩

/-- MEM_DD_ROW_SELECT, 0x3230:01. -/
def Obj.memDdRowSelect : Obj :=
  ⟨0x3230, 0x01, .u32, .rw, .viewer, 0, .num 0, [(0, 7)], [], 0x0, 0, false, "MEM_DD_ROW_SELECT"⟩

/-- MEM_DD_STATE, 0x3230:02. -/
def Obj.memDdState : Obj :=
  ⟨0x3230, 0x02, .u8, .ro, .viewer, 8, .num 0, [], [], 0x0, 0, false, "MEM_DD_STATE"⟩

/-- MEM_DD_ECC_CORR, 0x3230:03. -/
def Obj.memDdEccCorr : Obj :=
  ⟨0x3230, 0x03, .u64, .ro, .viewer, 8, .num 0, [], [], 0x0, 0, false, "MEM_DD_ECC_CORR"⟩

/-- MEM_DD_ECC_UNCORR, 0x3230:04. -/
def Obj.memDdEccUncorr : Obj :=
  ⟨0x3230, 0x04, .u32, .ro, .viewer, 8, .num 0, [], [], 0x0, 0, false, "MEM_DD_ECC_UNCORR"⟩

/-- MEM_DD_RETRAINS, 0x3230:05. -/
def Obj.memDdRetrains : Obj :=
  ⟨0x3230, 0x05, .u32, .ro, .viewer, 8, .num 0, [], [], 0x0, 0, false, "MEM_DD_RETRAINS"⟩

/-- MEM_DD_LAST_RETRAIN, 0x3230:06. -/
def Obj.memDdLastRetrain : Obj :=
  ⟨0x3230, 0x06, .time80, .ro, .viewer, 8, .bytes (zeros 10), [], [], 0x0, 0, false, "MEM_DD_LAST_RETRAIN"⟩

/-- MEM_DD_PENDING, 0x3230:07. -/
def Obj.memDdPending : Obj :=
  ⟨0x3230, 0x07, .bool, .ro, .viewer, 8, .num 0, [], [], 0x0, 0, false, "MEM_DD_PENDING"⟩

/-- MEM_DD_PANIC_US, 0x3230:08. -/
def Obj.memDdPanicUs : Obj :=
  ⟨0x3230, 0x08, .u64, .ro, .viewer, 8, .num 0, [], [], 0x0, 0, false, "MEM_DD_PANIC_US"⟩

/-- MEM_GR_BANKS_OK, 0x3240:01. -/
def Obj.memGrBanksOk : Obj :=
  ⟨0x3240, 0x01, .u8, .ro, .viewer, 0, .num 32, [], [], 0x0, 0, false, "MEM_GR_BANKS_OK"⟩

/-- MEM_GR_SELFTEST, 0x3240:02. -/
def Obj.memGrSelftest : Obj :=
  ⟨0x3240, 0x02, .u8, .ex, .operator, 0, .num 0, [(0, 31)], [], 0x0, 0, false, "MEM_GR_SELFTEST"⟩

/-- MEM_GR_HIT_PERMILLE, 0x3240:03. -/
def Obj.memGrHitPermille : Obj :=
  ⟨0x3240, 0x03, .u16, .ro, .viewer, 0, .num 0, [], [], 0x0, 0, false, "MEM_GR_HIT_PERMILLE"⟩

/-- MEM_GR_STAGE_SPILLS, 0x3240:04. -/
def Obj.memGrStageSpills : Obj :=
  ⟨0x3240, 0x04, .u64, .ro, .viewer, 0, .num 0, [], [], 0x0, 0, false, "MEM_GR_STAGE_SPILLS"⟩

/-- MEM_GR_ECC_UNCORR, 0x3240:05. -/
def Obj.memGrEccUncorr : Obj :=
  ⟨0x3240, 0x05, .u32, .ro, .viewer, 0, .num 0, [], [], 0x0, 0, false, "MEM_GR_ECC_UNCORR"⟩

/-- MEM_ARB_ROW_SELECT, 0x3300:01. -/
def Obj.memArbRowSelect : Obj :=
  ⟨0x3300, 0x01, .u32, .rw, .viewer, 0, .num 0, [(0, 15)], [], 0x0, 0, false, "MEM_ARB_ROW_SELECT"⟩

/-- MEM_ARB_PRIO, 0x3300:02. -/
def Obj.memArbPrio : Obj :=
  ⟨0x3300, 0x02, .u8, .rw, .brewer, 16, .num 0, [(0, 15)], [], 0x0, 0, true, "MEM_ARB_PRIO"⟩

/-- MEM_ARB_BURST, 0x3300:03. -/
def Obj.memArbBurst : Obj :=
  ⟨0x3300, 0x03, .u8, .rw, .brewer, 0, .num 16, [(1, 64)], [], 0x0, 0, false, "MEM_ARB_BURST"⟩

/-- MEM_ARB_FAIR_N, 0x3300:04. -/
def Obj.memArbFairN : Obj :=
  ⟨0x3300, 0x04, .u8, .rw, .brewer, 0, .num 8, [(2, 64)], [], 0x0, 0, false, "MEM_ARB_FAIR_N"⟩

/-- MEM_ARB_MAX_WAIT, 0x3300:05. -/
def Obj.memArbMaxWait : Obj :=
  ⟨0x3300, 0x05, .u32, .ro, .viewer, 16, .num 0, [], [], 0x0, 0, false, "MEM_ARB_MAX_WAIT"⟩

/-- SPG_CHANNELS, 0x3400:01. -/
def Obj.spgChannels : Obj :=
  ⟨0x3400, 0x01, .u8, .const, .viewer, 0, .num 32, [], [], 0x0, 0, false, "SPG_CHANNELS"⟩

/-- SPG_BYTES, 0x3400:02. -/
def Obj.spgBytes : Obj :=
  ⟨0x3400, 0x02, .u64, .ro, .viewer, 0, .num 0, [], [], 0x0, 0, false, "SPG_BYTES"⟩

/-- SPG_BUS_ERRS, 0x3400:03. -/
def Obj.spgBusErrs : Obj :=
  ⟨0x3400, 0x03, .u32, .ro, .viewer, 0, .num 0, [], [], 0x0, 0, false, "SPG_BUS_ERRS"⟩

/-- SPG_DIAG_DESC, 0x3400:04. -/
def Obj.spgDiagDesc : Obj :=
  ⟨0x3400, 0x04, .domain, .ex, .vendor, 0, .bytes (zeros 64), [], [], 0x0, 64, false, "SPG_DIAG_DESC"⟩

/-- SPG_DIAG_STATUS, 0x3400:05. -/
def Obj.spgDiagStatus : Obj :=
  ⟨0x3400, 0x05, .u8, .ro, .viewer, 0, .num 0, [], [], 0x0, 0, false, "SPG_DIAG_STATUS"⟩

/-- SPG_CH_ROW_SELECT, 0x3410:01. -/
def Obj.spgChRowSelect : Obj :=
  ⟨0x3410, 0x01, .u32, .rw, .viewer, 0, .num 0, [(0, 31)], [], 0x0, 0, false, "SPG_CH_ROW_SELECT"⟩

/-- SPG_CH_STATE, 0x3410:02. -/
def Obj.spgChState : Obj :=
  ⟨0x3410, 0x02, .u8, .ro, .viewer, 32, .num 0, [], [], 0x0, 0, false, "SPG_CH_STATE"⟩

/-- SPG_CH_PRIO, 0x3410:03. -/
def Obj.spgChPrio : Obj :=
  ⟨0x3410, 0x03, .u8, .ro, .viewer, 32, .num 0, [], [], 0x0, 0, false, "SPG_CH_PRIO"⟩

/-- SPG_CH_DONE_BYTES, 0x3410:04. -/
def Obj.spgChDoneBytes : Obj :=
  ⟨0x3410, 0x04, .u64, .ro, .viewer, 32, .num 0, [], [], 0x0, 0, false, "SPG_CH_DONE_BYTES"⟩

/-- SPG_CH_RETRIES, 0x3410:05. -/
def Obj.spgChRetries : Obj :=
  ⟨0x3410, 0x05, .u32, .ro, .viewer, 32, .num 0, [], [], 0x0, 0, false, "SPG_CH_RETRIES"⟩

/-- SPG_CH_LAST_ERR, 0x3410:06. -/
def Obj.spgChLastErr : Obj :=
  ⟨0x3410, 0x06, .u64, .ro, .viewer, 32, .num 0, [], [], 0x0, 0, false, "SPG_CH_LAST_ERR"⟩

/-- KEG_DRY_HOLDOFF_US, 0x3420:01. -/
def Obj.kegDryHoldoffUs : Obj :=
  ⟨0x3420, 0x01, .u16, .rw, .brewer, 0, .num 10, [(1, 1000)], [], 0x0, 0, false, "KEG_DRY_HOLDOFF_US"⟩

/-- KEG_DOUBLE_FREES, 0x3420:02. -/
def Obj.kegDoubleFrees : Obj :=
  ⟨0x3420, 0x02, .u32, .ro, .viewer, 0, .num 0, [], [], 0x0, 0, false, "KEG_DOUBLE_FREES"⟩

/-- KEG_BAD_HANDLES, 0x3420:03. -/
def Obj.kegBadHandles : Obj :=
  ⟨0x3420, 0x03, .u32, .ro, .viewer, 0, .num 0, [], [], 0x0, 0, false, "KEG_BAD_HANDLES"⟩

/-- KEG_LOST, 0x3420:04. -/
def Obj.kegLost : Obj :=
  ⟨0x3420, 0x04, .u32, .ro, .viewer, 0, .num 0, [], [], 0x0, 0, false, "KEG_LOST"⟩

/-- KEG_POOL_ROW_SELECT, 0x3430:01. -/
def Obj.kegPoolRowSelect : Obj :=
  ⟨0x3430, 0x01, .u32, .rw, .viewer, 0, .num 0, [(0, 4)], [], 0x0, 0, false, "KEG_POOL_ROW_SELECT"⟩

/-- KEG_POOL_COUNT, 0x3430:02. -/
def Obj.kegPoolCount : Obj :=
  ⟨0x3430, 0x02, .u32, .rw, .brewer, 5, .num 0, [], [], 0x0, 0, true, "KEG_POOL_COUNT"⟩

/-- KEG_POOL_SIZE, 0x3430:03. -/
def Obj.kegPoolSize : Obj :=
  ⟨0x3430, 0x03, .u32, .const, .viewer, 5, .num 0, [], [], 0x0, 0, false, "KEG_POOL_SIZE"⟩

/-- KEG_POOL_BASE, 0x3430:04. -/
def Obj.kegPoolBase : Obj :=
  ⟨0x3430, 0x04, .u32, .ro, .viewer, 5, .num 0, [], [], 0x0, 0, false, "KEG_POOL_BASE"⟩

/-- KEG_POOL_FREE, 0x3430:05. -/
def Obj.kegPoolFree : Obj :=
  ⟨0x3430, 0x05, .u32, .ro, .viewer, 5, .num 0, [], [], 0x0, 0, false, "KEG_POOL_FREE"⟩

/-- KEG_POOL_LOW, 0x3430:06. -/
def Obj.kegPoolLow : Obj :=
  ⟨0x3430, 0x06, .u32, .ro, .viewer, 5, .num 0, [], [], 0x0, 0, false, "KEG_POOL_LOW"⟩

/-- KEG_POOL_DRY, 0x3430:07. -/
def Obj.kegPoolDry : Obj :=
  ⟨0x3430, 0x07, .u64, .ro, .viewer, 5, .num 0, [], [], 0x0, 0, false, "KEG_POOL_DRY"⟩

/-- KEG_POOL_SPILLS_IN, 0x3430:08. -/
def Obj.kegPoolSpillsIn : Obj :=
  ⟨0x3430, 0x08, .u64, .ro, .viewer, 5, .num 0, [], [], 0x0, 0, false, "KEG_POOL_SPILLS_IN"⟩

/-- KEG_POOL_COUNT_NOW, 0x3430:09. -/
def Obj.kegPoolCountNow : Obj :=
  ⟨0x3430, 0x09, .u32, .ro, .viewer, 5, .num 0, [], [], 0x0, 0, false, "KEG_POOL_COUNT_NOW"⟩

/-- WRT_ROW_SELECT, 0x3440:01. -/
def Obj.wrtRowSelect : Obj :=
  ⟨0x3440, 0x01, .u32, .rw, .viewer, 0, .num 0, [(0, 127)], [], 0x0, 0, false, "WRT_ROW_SELECT"⟩

/-- WRT_MODE, 0x3440:02. -/
def Obj.wrtMode : Obj :=
  ⟨0x3440, 0x02, .u8, .const, .viewer, 128, .num 0, [], [], 0x0, 0, false, "WRT_MODE"⟩

/-- WRT_DEPTH, 0x3440:03. -/
def Obj.wrtDepth : Obj :=
  ⟨0x3440, 0x03, .u16, .const, .viewer, 128, .num 0, [], [], 0x0, 0, false, "WRT_DEPTH"⟩

/-- WRT_FILL, 0x3440:04. -/
def Obj.wrtFill : Obj :=
  ⟨0x3440, 0x04, .u16, .ro, .viewer, 128, .num 0, [], [], 0x0, 0, false, "WRT_FILL"⟩

/-- WRT_HIGH_WATER, 0x3440:05. -/
def Obj.wrtHighWater : Obj :=
  ⟨0x3440, 0x05, .u16, .ro, .viewer, 128, .num 0, [], [], 0x0, 0, false, "WRT_HIGH_WATER"⟩

/-- WRT_DROPS, 0x3440:06. -/
def Obj.wrtDrops : Obj :=
  ⟨0x3440, 0x06, .u64, .ro, .viewer, 128, .num 0, [], [], 0x0, 0, false, "WRT_DROPS"⟩

/-- WRT_MARKERS, 0x3440:07. -/
def Obj.wrtMarkers : Obj :=
  ⟨0x3440, 0x07, .u64, .ro, .viewer, 128, .num 0, [], [], 0x0, 0, false, "WRT_MARKERS"⟩

/-- WRT_ECC_CORR, 0x3440:08. -/
def Obj.wrtEccCorr : Obj :=
  ⟨0x3440, 0x08, .u32, .ro, .viewer, 128, .num 0, [], [], 0x0, 0, false, "WRT_ECC_CORR"⟩

/-- WRT_ECC_UNCORR, 0x3440:09. -/
def Obj.wrtEccUncorr : Obj :=
  ⟨0x3440, 0x09, .u32, .ro, .viewer, 128, .num 0, [], [], 0x0, 0, false, "WRT_ECC_UNCORR"⟩

/-- WRT_FLUSH, 0x3440:0A. -/
def Obj.wrtFlush : Obj :=
  ⟨0x3440, 0x0A, .bool, .rw, .vendor, 128, .num 0, [], [], 0x0, 0, false, "WRT_FLUSH"⟩

/-- WRT_FLUSHED, 0x3440:0B. -/
def Obj.wrtFlushed : Obj :=
  ⟨0x3440, 0x0B, .u64, .ro, .viewer, 128, .num 0, [], [], 0x0, 0, false, "WRT_FLUSHED"⟩

/-- CWT_LATCH_CLASS, 0x3500:01. -/
def Obj.cwtLatchClass : Obj :=
  ⟨0x3500, 0x01, .u8, .rw, .brewer, 0, .num 2, [(0, 6)], [], 0x0, 0, true, "CWT_LATCH_CLASS"⟩

/-- CWT_REAL_LATCH, 0x3500:02. -/
def Obj.cwtRealLatch : Obj :=
  ⟨0x3500, 0x02, .domain, .ro, .viewer, 0, .bytes (zeros 20), [], [], 0x0, 20, false, "CWT_REAL_LATCH"⟩

/-- CWT_REAL_OVF, 0x3500:03. -/
def Obj.cwtRealOvf : Obj :=
  ⟨0x3500, 0x03, .bool, .ro, .viewer, 0, .num 0, [], [], 0x0, 0, false, "CWT_REAL_OVF"⟩

/-- CWT_INJ_LATCH, 0x3500:04. -/
def Obj.cwtInjLatch : Obj :=
  ⟨0x3500, 0x04, .domain, .ro, .viewer, 0, .bytes (zeros 20), [], [], 0x0, 20, false, "CWT_INJ_LATCH"⟩

/-- CWT_INJ_OVF, 0x3500:05. -/
def Obj.cwtInjOvf : Obj :=
  ⟨0x3500, 0x05, .bool, .ro, .viewer, 0, .num 0, [], [], 0x0, 0, false, "CWT_INJ_OVF"⟩

/-- CWT_CLEAR, 0x3500:06.
R391 leaves [7:2] unnamed: treated as reserved (DESIGN CHOICE; log entry 89). -/
def Obj.cwtClear : Obj :=
  ⟨0x3500, 0x06, .u8, .ex, .operator, 0, .num 0, [], [], 0xfc, 0, false, "CWT_CLEAR"⟩

/-- CWT_ACK, 0x3500:07. -/
def Obj.cwtAck : Obj :=
  ⟨0x3500, 0x07, .u8, .ex, .operator, 0, .num 0, [], [], 0x0, 0, false, "CWT_ACK"⟩

/-- CWT_SAFE, 0x3500:08. -/
def Obj.cwtSafe : Obj :=
  ⟨0x3500, 0x08, .bool, .ro, .viewer, 0, .num 0, [], [], 0x0, 0, false, "CWT_SAFE"⟩

/-- CWT_SAFE_CAUSE, 0x3500:09. -/
def Obj.cwtSafeCause : Obj :=
  ⟨0x3500, 0x09, .domain, .ro, .viewer, 0, .bytes (zeros 20), [], [], 0x0, 20, false, "CWT_SAFE_CAUSE"⟩

/-- CWT_SAFE_ENTER, 0x3500:0A. -/
def Obj.cwtSafeEnter : Obj :=
  ⟨0x3500, 0x0A, .u8, .ex, .brewer, 0, .num 0, [(1, 1)], [], 0x0, 0, false, "CWT_SAFE_ENTER"⟩

/-- CWT_HOLDOFF_US, 0x3500:0B. -/
def Obj.cwtHoldoffUs : Obj :=
  ⟨0x3500, 0x0B, .u16, .rw, .brewer, 0, .num 100, [(0, 10000)], [], 0x0, 0, false, "CWT_HOLDOFF_US"⟩

/-- CWT_COALESCED, 0x3500:0C. -/
def Obj.cwtCoalesced : Obj :=
  ⟨0x3500, 0x0C, .u64, .ro, .viewer, 0, .num 0, [], [], 0x0, 0, false, "CWT_COALESCED"⟩

/-- CWT_FAULTS, 0x3500:0D. -/
def Obj.cwtFaults : Obj :=
  ⟨0x3500, 0x0D, .u64, .ro, .viewer, 0, .num 0, [], [], 0x0, 0, false, "CWT_FAULTS"⟩

/-- CWT_SELFTEST_S, 0x3500:0E. -/
def Obj.cwtSelftestS : Obj :=
  ⟨0x3500, 0x0E, .u8, .rw, .brewer, 0, .num 1, [(1, 60)], [], 0x0, 0, false, "CWT_SELFTEST_S"⟩

/-- CWT_KIND_ROW_SELECT, 0x3510:01. -/
def Obj.cwtKindRowSelect : Obj :=
  ⟨0x3510, 0x01, .u32, .rw, .viewer, 0, .num 0, [(0, 255)], [], 0x0, 0, false, "CWT_KIND_ROW_SELECT"⟩

/-- CWT_REACT, 0x3510:02. -/
def Obj.cwtReact : Obj :=
  ⟨0x3510, 0x02, .u8, .rw, .brewer, 256, .num 0, [(0, 5)], [], 0x0, 0, true, "CWT_REACT"⟩

/-- CWT_KIND_CLASS, 0x3510:03. -/
def Obj.cwtKindClass : Obj :=
  ⟨0x3510, 0x03, .u8, .const, .viewer, 256, .num 7, [], [], 0x0, 0, false, "CWT_KIND_CLASS"⟩

/-- CWT_KIND_COUNT, 0x3510:04. -/
def Obj.cwtKindCount : Obj :=
  ⟨0x3510, 0x04, .u64, .ro, .viewer, 256, .num 0, [], [], 0x0, 0, false, "CWT_KIND_COUNT"⟩

/-- CWT_REHEARSE, 0x3510:05. -/
def Obj.cwtRehearse : Obj :=
  ⟨0x3510, 0x05, .u8, .rw, .brewer, 256, .num 1, [(0, 5)], [], 0x0, 0, true, "CWT_REHEARSE"⟩

/-- CWT_EXC_ROW_SELECT, 0x3518:01. -/
def Obj.cwtExcRowSelect : Obj :=
  ⟨0x3518, 0x01, .u32, .rw, .viewer, 0, .num 0, [(0, 31)], [], 0x0, 0, false, "CWT_EXC_ROW_SELECT"⟩

/-- CWT_EXC, 0x3518:02. -/
def Obj.cwtExc : Obj :=
  ⟨0x3518, 0x02, .u64, .rw, .brewer, 32, .num 0, [], [⟨31, 24, [(0, 25)]⟩, ⟨34, 32, [(0, 5)]⟩], 0xfffffff000000000, 0, true, "CWT_EXC"⟩

/-- CWT_INJECT, 0x3530:01. -/
def Obj.cwtInject : Obj :=
  ⟨0x3530, 0x01, .domain, .ex, .vendor, 0, .bytes (zeros 13), [], [], 0x0, 13, false, "CWT_INJECT"⟩

/-- CWT_FORCE, 0x3530:02. -/
def Obj.cwtForce : Obj :=
  ⟨0x3530, 0x02, .u32, .ex, .brewer, 0, .num 0, [], [⟨7, 0, [(1, 5)]⟩], 0xffff0000, 0, false, "CWT_FORCE"⟩

/-- CWT_FORCE_COUNT, 0x3530:03. -/
def Obj.cwtForceCount : Obj :=
  ⟨0x3530, 0x03, .u32, .ro, .viewer, 0, .num 0, [], [], 0x0, 0, false, "CWT_FORCE_COUNT"⟩

/-- ICU_SRC_ROW_SELECT, 0x3540:01. -/
def Obj.icuSrcRowSelect : Obj :=
  ⟨0x3540, 0x01, .u32, .rw, .viewer, 0, .num 0, [(0, 255)], [], 0x0, 0, false, "ICU_SRC_ROW_SELECT"⟩

/-- ICU_SRC, 0x3540:02. -/
def Obj.icuSrc : Obj :=
  ⟨0x3540, 0x02, .u8, .rw, .brewer, 256, .num 1, [], [⟨5, 4, [(0, 2)]⟩], 0xc0, 0, false, "ICU_SRC"⟩

/-- ICU_SRC_LEVEL, 0x3540:03. -/
def Obj.icuSrcLevel : Obj :=
  ⟨0x3540, 0x03, .bool, .ro, .viewer, 256, .num 0, [], [], 0x0, 0, false, "ICU_SRC_LEVEL"⟩

/-- ICU_CLAIMS, 0x3540:04. -/
def Obj.icuClaims : Obj :=
  ⟨0x3540, 0x04, .u64, .ro, .viewer, 256, .num 0, [], [], 0x0, 0, false, "ICU_CLAIMS"⟩

/-- ICU_EXT_CLAIM, 0x3540:05. -/
def Obj.icuExtClaim : Obj :=
  ⟨0x3540, 0x05, .u16, .ro, .operator, 0, .num 0, [], [], 0x0, 0, false, "ICU_EXT_CLAIM"⟩

/-- ICU_EXT_EOI, 0x3540:06. -/
def Obj.icuExtEoi : Obj :=
  ⟨0x3540, 0x06, .u16, .wo, .operator, 0, .num 0, [], [], 0x0, 0, false, "ICU_EXT_EOI"⟩

/-- ICU_EXT_RUNNING, 0x3540:07. -/
def Obj.icuExtRunning : Obj :=
  ⟨0x3540, 0x07, .u8, .ro, .viewer, 0, .num 0, [], [], 0x0, 0, false, "ICU_EXT_RUNNING"⟩

/-- ICU_SPURIOUS, 0x3540:08. -/
def Obj.icuSpurious : Obj :=
  ⟨0x3540, 0x08, .u32, .ro, .viewer, 0, .num 0, [], [], 0x0, 0, false, "ICU_SPURIOUS"⟩

/-- ICU_EOI_ERRS, 0x3540:09. -/
def Obj.icuEoiErrs : Obj :=
  ⟨0x3540, 0x09, .u32, .ro, .viewer, 0, .num 0, [], [], 0x0, 0, false, "ICU_EOI_ERRS"⟩

/-- ICU_STORM_LIMIT, 0x3540:0A. -/
def Obj.icuStormLimit : Obj :=
  ⟨0x3540, 0x0A, .u16, .rw, .brewer, 0, .num 1000, [(10, 65535)], [], 0x0, 0, false, "ICU_STORM_LIMIT"⟩

/-- ICU_STORM_WINDOW_US, 0x3540:0B. -/
def Obj.icuStormWindowUs : Obj :=
  ⟨0x3540, 0x0B, .u32, .rw, .brewer, 0, .num 10000, [(100, 1000000)], [], 0x0, 0, false, "ICU_STORM_WINDOW_US"⟩

/-- ICU_EXT_ROW_SELECT, 0x3548:01. -/
def Obj.icuExtRowSelect : Obj :=
  ⟨0x3548, 0x01, .u32, .rw, .viewer, 0, .num 0, [(0, 7)], [], 0x0, 0, false, "ICU_EXT_ROW_SELECT"⟩

/-- ICU_EXT_MASK, 0x3548:02. -/
def Obj.icuExtMask : Obj :=
  ⟨0x3548, 0x02, .u32, .rw, .operator, 8, .num 4294967295, [], [], 0x0, 0, false, "ICU_EXT_MASK"⟩

/-- ICU_EXT_STORM, 0x3549:02. -/
def Obj.icuExtStorm : Obj :=
  ⟨0x3549, 0x02, .u32, .rw, .operator, 8, .num 0, [], [], 0x0, 0, false, "ICU_EXT_STORM"⟩

/-- ICU_EXT_PENDING, 0x3549:03. -/
def Obj.icuExtPending : Obj :=
  ⟨0x3549, 0x03, .u32, .ro, .viewer, 8, .num 0, [], [], 0x0, 0, false, "ICU_EXT_PENDING"⟩

/-- LOG_HEAD_SEQ, 0x3560:01. -/
def Obj.logHeadSeq : Obj :=
  ⟨0x3560, 0x01, .u32, .ro, .viewer, 0, .num 1, [], [], 0x0, 0, false, "LOG_HEAD_SEQ"⟩

/-- LOG_OLDEST_SEQ, 0x3560:02. -/
def Obj.logOldestSeq : Obj :=
  ⟨0x3560, 0x02, .u32, .ro, .viewer, 0, .num 1, [], [], 0x0, 0, false, "LOG_OLDEST_SEQ"⟩

/-- LOG_RING, 0x3560:03. -/
def Obj.logRing : Obj :=
  ⟨0x3560, 0x03, .domain, .ro, .viewer, 0, .bytes [], [], [], 0x0, 0, false, "LOG_RING"⟩

/-- LOG_ROW_SELECT, 0x3560:04. -/
def Obj.logRowSelect : Obj :=
  ⟨0x3560, 0x04, .u32, .rw, .viewer, 0, .num 0, [(0, 524287)], [], 0x0, 0, false, "LOG_ROW_SELECT"⟩

/-- LOG_REC, 0x3560:05. -/
def Obj.logRec : Obj :=
  ⟨0x3560, 0x05, .domain, .ro, .viewer, 524288, .bytes (zeros 32), [], [], 0x0, 32, false, "LOG_REC"⟩

/-- LOG_MARK, 0x3560:06. -/
def Obj.logMark : Obj :=
  ⟨0x3560, 0x06, .u64, .ex, .operator, 0, .num 0, [], [], 0x0, 0, false, "LOG_MARK"⟩

/-- LOG_CKPT_S, 0x3560:07. -/
def Obj.logCkptS : Obj :=
  ⟨0x3560, 0x07, .u8, .rw, .brewer, 0, .num 1, [(1, 60)], [], 0x0, 0, true, "LOG_CKPT_S"⟩

/-- LOG_CKPT, 0x3560:08. -/
def Obj.logCkpt : Obj :=
  ⟨0x3560, 0x08, .domain, .ro, .viewer, 0, .bytes [], [], [], 0x0, 0, false, "LOG_CKPT"⟩

/-- LOG_CKPT_LAST_SEQ, 0x3560:09. -/
def Obj.logCkptLastSeq : Obj :=
  ⟨0x3560, 0x09, .u32, .ro, .viewer, 0, .num 0, [], [], 0x0, 0, false, "LOG_CKPT_LAST_SEQ"⟩

/-- LOG_BOOT_COUNT, 0x3560:0A. -/
def Obj.logBootCount : Obj :=
  ⟨0x3560, 0x0A, .u32, .ro, .viewer, 0, .num 0, [], [], 0x0, 0, false, "LOG_BOOT_COUNT"⟩

/-- LOG_GAP_RECORDS, 0x3560:0B. -/
def Obj.logGapRecords : Obj :=
  ⟨0x3560, 0x0B, .u64, .ro, .viewer, 0, .num 0, [], [], 0x0, 0, false, "LOG_GAP_RECORDS"⟩

/-- LOG_BAD_READS, 0x3560:0C. -/
def Obj.logBadReads : Obj :=
  ⟨0x3560, 0x0C, .u32, .ro, .viewer, 0, .num 0, [], [], 0x0, 0, false, "LOG_BAD_READS"⟩

/-- SEC_LIFECYCLE, 0x3600:01. -/
def Obj.secLifecycle : Obj :=
  ⟨0x3600, 0x01, .u8, .ro, .viewer, 0, .num 0, [], [], 0x0, 0, false, "SEC_LIFECYCLE"⟩

/-- SEC_LIFECYCLE_ADVANCE, 0x3600:02. -/
def Obj.secLifecycleAdvance : Obj :=
  ⟨0x3600, 0x02, .u8, .ex, .vendor, 0, .num 0, [(2, 2)], [], 0x0, 0, false, "SEC_LIFECYCLE_ADVANCE"⟩

/-- SEC_RETIRE, 0x3600:03. -/
def Obj.secRetire : Obj :=
  ⟨0x3600, 0x03, .u32, .ex, .brewer, 0, .num 0, [], [], 0x0, 0, false, "SEC_RETIRE"⟩

/-- SEC_DEV_CERT, 0x3600:04. -/
def Obj.secDevCert : Obj :=
  ⟨0x3600, 0x04, .domain, .ro, .viewer, 0, .bytes [], [], [], 0x0, 0, false, "SEC_DEV_CERT"⟩

/-- SEC_ID_ECDSA_PUB, 0x3600:05. -/
def Obj.secIdEcdsaPub : Obj :=
  ⟨0x3600, 0x05, .domain, .ro, .viewer, 0, .bytes (zeros 97), [], [], 0x0, 97, false, "SEC_ID_ECDSA_PUB"⟩

/-- SEC_ID_HSS_PUB, 0x3600:06. -/
def Obj.secIdHssPub : Obj :=
  ⟨0x3600, 0x06, .domain, .ro, .viewer, 0, .bytes (zeros 60), [], [], 0x0, 60, false, "SEC_ID_HSS_PUB"⟩

/-- SEC_FACTORY_EXPORT, 0x3600:07. -/
def Obj.secFactoryExport : Obj :=
  ⟨0x3600, 0x07, .domain, .ro, .vendor, 0, .bytes (zeros 96), [], [], 0x0, 96, false, "SEC_FACTORY_EXPORT"⟩

/-- SEC_KEY_HASH, 0x3600:08. -/
def Obj.secKeyHash : Obj :=
  ⟨0x3600, 0x08, .domain, .ro, .viewer, 0, .bytes (zeros 192), [], [], 0x0, 192, false, "SEC_KEY_HASH"⟩

/-- SEC_KEY_REVOKED, 0x3600:09. -/
def Obj.secKeyRevoked : Obj :=
  ⟨0x3600, 0x09, .u8, .ro, .viewer, 0, .num 0, [], [], 0x0, 0, false, "SEC_KEY_REVOKED"⟩

/-- SEC_IMAGE, 0x3610:01. -/
def Obj.secImage : Obj :=
  ⟨0x3610, 0x01, .domain, .ex, .viewer, 0, .bytes [], [], [], 0x0, 0, false, "SEC_IMAGE"⟩

/-- SEC_IMAGE_STATUS, 0x3610:02. -/
def Obj.secImageStatus : Obj :=
  ⟨0x3610, 0x02, .u8, .ro, .viewer, 0, .num 0, [], [], 0x0, 0, false, "SEC_IMAGE_STATUS"⟩

/-- SEC_IMAGE_TYPE, 0x3610:03. -/
def Obj.secImageType : Obj :=
  ⟨0x3610, 0x03, .u8, .ro, .viewer, 0, .num 0, [], [], 0x0, 0, false, "SEC_IMAGE_TYPE"⟩

/-- SEC_FW_PATCH_ACTIVE, 0x3610:04. -/
def Obj.secFwPatchActive : Obj :=
  ⟨0x3610, 0x04, .domain, .ro, .viewer, 0, .bytes (zeros 52), [], [], 0x0, 52, false, "SEC_FW_PATCH_ACTIVE"⟩

/-- SEC_FW_PATCH_STAGED, 0x3610:05. -/
def Obj.secFwPatchStaged : Obj :=
  ⟨0x3610, 0x05, .domain, .ro, .viewer, 0, .bytes (zeros 52), [], [], 0x0, 52, false, "SEC_FW_PATCH_STAGED"⟩

/-- SEC_FW_PATCH_REMOVE, 0x3610:06. -/
def Obj.secFwPatchRemove : Obj :=
  ⟨0x3610, 0x06, .u8, .ex, .brewer, 0, .num 0, [(1, 1)], [], 0x0, 0, false, "SEC_FW_PATCH_REMOVE"⟩

/-- SEC_SIG_FAILS, 0x3610:07. -/
def Obj.secSigFails : Obj :=
  ⟨0x3610, 0x07, .u32, .ro, .viewer, 0, .num 0, [], [], 0x0, 0, false, "SEC_SIG_FAILS"⟩

/-- SEC_RB_ROW_SELECT, 0x3620:01. -/
def Obj.secRbRowSelect : Obj :=
  ⟨0x3620, 0x01, .u32, .rw, .viewer, 0, .num 0, [(0, 63)], [], 0x0, 0, false, "SEC_RB_ROW_SELECT"⟩

/-- SEC_ROLLBACK, 0x3620:02. -/
def Obj.secRollback : Obj :=
  ⟨0x3620, 0x02, .u8, .ro, .viewer, 64, .num 0, [], [], 0x0, 0, false, "SEC_ROLLBACK"⟩

/-- SEC_ROLLBACK_COMMIT, 0x3620:03. -/
def Obj.secRollbackCommit : Obj :=
  ⟨0x3620, 0x03, .u8, .ex, .brewer, 0, .num 0, [(0, 63)], [], 0x0, 0, false, "SEC_ROLLBACK_COMMIT"⟩

/-- SEC_KEY_INSTALL, 0x3630:01. -/
def Obj.secKeyInstall : Obj :=
  ⟨0x3630, 0x01, .domain, .ex, .brewer, 0, .bytes (zeros 52), [], [], 0x0, 52, false, "SEC_KEY_INSTALL"⟩

/-- SEC_KEY_ERASE, 0x3630:02. -/
def Obj.secKeyErase : Obj :=
  ⟨0x3630, 0x02, .u16, .ex, .brewer, 0, .num 0, [], [], 0x0, 0, false, "SEC_KEY_ERASE"⟩

/-- SEC_KEY_SLOTS, 0x3630:03. -/
def Obj.secKeySlots : Obj :=
  ⟨0x3630, 0x03, .u16, .ro, .viewer, 0, .num 256, [], [], 0x0, 0, false, "SEC_KEY_SLOTS"⟩

/-- SEC_VENDOR_EXPIRY, 0x3630:04. -/
def Obj.secVendorExpiry : Obj :=
  ⟨0x3630, 0x04, .u32, .ro, .viewer, 0, .num 0, [], [], 0x0, 0, false, "SEC_VENDOR_EXPIRY"⟩

/-- SEC_ATT_NONCE, 0x3640:01. -/
def Obj.secAttNonce : Obj :=
  ⟨0x3640, 0x01, .domain, .wo, .operator, 0, .bytes (zeros 32), [], [], 0x0, 32, false, "SEC_ATT_NONCE"⟩

/-- SEC_ATT_REPORT, 0x3640:02. -/
def Obj.secAttReport : Obj :=
  ⟨0x3640, 0x02, .domain, .ro, .operator, 0, .bytes [], [], [], 0x0, 0, false, "SEC_ATT_REPORT"⟩

/-- SEC_ATT_STATE, 0x3640:03. -/
def Obj.secAttState : Obj :=
  ⟨0x3640, 0x03, .u8, .ro, .viewer, 0, .num 0, [], [], 0x0, 0, false, "SEC_ATT_STATE"⟩

/-- SEC_ATT_REMAINING, 0x3640:04. -/
def Obj.secAttRemaining : Obj :=
  ⟨0x3640, 0x04, .u32, .ro, .viewer, 0, .num 0, [], [], 0x0, 0, false, "SEC_ATT_REMAINING"⟩

/-- CSK_SIZE, 0x3650:01. -/
def Obj.cskSize : Obj :=
  ⟨0x3650, 0x01, .u32, .const, .viewer, 0, .num 16777216, [], [], 0x0, 0, false, "CSK_SIZE"⟩

/-- CSK_ECC_CORR, 0x3650:02. -/
def Obj.cskEccCorr : Obj :=
  ⟨0x3650, 0x02, .u32, .ro, .viewer, 0, .num 0, [], [], 0x0, 0, false, "CSK_ECC_CORR"⟩

/-- CSK_ECC_UNCORR, 0x3650:03. -/
def Obj.cskEccUncorr : Obj :=
  ⟨0x3650, 0x03, .u32, .ro, .viewer, 0, .num 0, [], [], 0x0, 0, false, "CSK_ECC_UNCORR"⟩

/-- CSK_REGION_ROW_SELECT, 0x3650:04. -/
def Obj.cskRegionRowSelect : Obj :=
  ⟨0x3650, 0x04, .u32, .rw, .viewer, 0, .num 0, [(1, 8)], [], 0x0, 0, false, "CSK_REGION_ROW_SELECT"⟩

/-- CSK_REGION_STATE, 0x3650:05. -/
def Obj.cskRegionState : Obj :=
  ⟨0x3650, 0x05, .u8, .ro, .viewer, 9, .num 0, [], [], 0x0, 0, false, "CSK_REGION_STATE"⟩

/-- CSK_SCRUB_H, 0x3650:06. -/
def Obj.cskScrubH : Obj :=
  ⟨0x3650, 0x06, .u16, .rw, .brewer, 0, .num 24, [(1, 720)], [], 0x0, 0, true, "CSK_SCRUB_H"⟩

/-- PWR_TJ, 0x3700:01. -/
def Obj.pwrTj : Obj :=
  ⟨0x3700, 0x01, .i16, .ro, .viewer, 0, .num 250, [], [], 0x0, 0, false, "PWR_TJ"⟩

/-- PWR_TJ_MAX, 0x3700:02. -/
def Obj.pwrTjMax : Obj :=
  ⟨0x3700, 0x02, .i16, .ro, .viewer, 0, .num 250, [], [], 0x0, 0, false, "PWR_TJ_MAX"⟩

/-- PWR_WARN_C, 0x3700:03. -/
def Obj.pwrWarnC : Obj :=
  ⟨0x3700, 0x03, .i8, .rw, .brewer, 0, .num 95, [(80, 100)], [], 0x0, 0, true, "PWR_WARN_C"⟩

/-- PWR_CRIT_C, 0x3700:04. -/
def Obj.pwrCritC : Obj :=
  ⟨0x3700, 0x04, .i8, .const, .viewer, 0, .num 110, [], [], 0x0, 0, false, "PWR_CRIT_C"⟩

/-- PWR_TRIP_C, 0x3700:05. -/
def Obj.pwrTripC : Obj :=
  ⟨0x3700, 0x05, .i8, .const, .viewer, 0, .num 125, [], [], 0x0, 0, false, "PWR_TRIP_C"⟩

/-- PWR_POWER, 0x3700:06. -/
def Obj.pwrPower : Obj :=
  ⟨0x3700, 0x06, .u16, .ro, .viewer, 0, .num 0, [], [], 0x0, 0, false, "PWR_POWER"⟩

/-- PWR_LIFE_HOURS, 0x3700:07. -/
def Obj.pwrLifeHours : Obj :=
  ⟨0x3700, 0x07, .u32, .ro, .viewer, 0, .num 0, [], [], 0x0, 0, false, "PWR_LIFE_HOURS"⟩

/-- PWR_LIFE_PERMILLE, 0x3700:08. -/
def Obj.pwrLifePermille : Obj :=
  ⟨0x3700, 0x08, .u16, .ro, .viewer, 0, .num 0, [], [], 0x0, 0, false, "PWR_LIFE_PERMILLE"⟩

/-- PWR_RESET, 0x3700:09. -/
def Obj.pwrReset : Obj :=
  ⟨0x3700, 0x09, .u32, .ex, .brewer, 0, .num 0, [], [], 0x0, 0, false, "PWR_RESET"⟩

/-- PWR_RESET_CAUSE, 0x3700:0A. -/
def Obj.pwrResetCause : Obj :=
  ⟨0x3700, 0x0A, .u8, .ro, .viewer, 0, .num 0, [], [], 0x0, 0, false, "PWR_RESET_CAUSE"⟩

/-- PWR_BOOT_PHASE, 0x3700:0B. -/
def Obj.pwrBootPhase : Obj :=
  ⟨0x3700, 0x0B, .u8, .ro, .viewer, 0, .num 1, [], [], 0x0, 0, false, "PWR_BOOT_PHASE"⟩

/-- PWR_BOOT_MS, 0x3700:0C. -/
def Obj.pwrBootMs : Obj :=
  ⟨0x3700, 0x0C, .u32, .ro, .viewer, 0, .num 0, [], [], 0x0, 0, false, "PWR_BOOT_MS"⟩

/-- PWR_STRAPS, 0x3700:0D. -/
def Obj.pwrStraps : Obj :=
  ⟨0x3700, 0x0D, .u16, .ro, .viewer, 0, .num 0, [], [], 0x0, 0, false, "PWR_STRAPS"⟩

/-- PWR_HEALTHY, 0x3700:0E. -/
def Obj.pwrHealthy : Obj :=
  ⟨0x3700, 0x0E, .bool, .ro, .viewer, 0, .num 0, [], [], 0x0, 0, false, "PWR_HEALTHY"⟩

/-- PWR_AVS_EN, 0x3710:01. -/
def Obj.pwrAvsEn : Obj :=
  ⟨0x3710, 0x01, .bool, .rw, .brewer, 0, .num 1, [], [], 0x0, 0, true, "PWR_AVS_EN"⟩

/-- PWR_AVS_ADDR, 0x3710:02. -/
def Obj.pwrAvsAddr : Obj :=
  ⟨0x3710, 0x02, .u8, .rw, .brewer, 0, .num 64, [(8, 119)], [], 0x0, 0, true, "PWR_AVS_ADDR"⟩

/-- PWR_VFUSE_MV, 0x3710:03. -/
def Obj.pwrVfuseMv : Obj :=
  ⟨0x3710, 0x03, .u16, .const, .viewer, 0, .num 0, [], [], 0x0, 0, false, "PWR_VFUSE_MV"⟩

/-- PWR_VCORE_MV, 0x3710:04. -/
def Obj.pwrVcoreMv : Obj :=
  ⟨0x3710, 0x04, .u16, .ro, .viewer, 0, .num 750, [], [], 0x0, 0, false, "PWR_VCORE_MV"⟩

/-- PWR_VCORE_READ_MV, 0x3710:05. -/
def Obj.pwrVcoreReadMv : Obj :=
  ⟨0x3710, 0x05, .u16, .ro, .viewer, 0, .num 0, [], [], 0x0, 0, false, "PWR_VCORE_READ_MV"⟩

/-- PWR_ICORE, 0x3710:06. -/
def Obj.pwrIcore : Obj :=
  ⟨0x3710, 0x06, .u16, .ro, .viewer, 0, .num 0, [], [], 0x0, 0, false, "PWR_ICORE"⟩

/-- PWR_AVS_ERRS, 0x3710:07. -/
def Obj.pwrAvsErrs : Obj :=
  ⟨0x3710, 0x07, .u32, .ro, .viewer, 0, .num 0, [], [], 0x0, 0, false, "PWR_AVS_ERRS"⟩

/-- PWR_RAIL_ROW_SELECT, 0x3720:01. -/
def Obj.pwrRailRowSelect : Obj :=
  ⟨0x3720, 0x01, .u32, .rw, .viewer, 0, .num 0, [(0, 8)], [], 0x0, 0, false, "PWR_RAIL_ROW_SELECT"⟩

/-- PWR_RAIL_MV, 0x3720:02. -/
def Obj.pwrRailMv : Obj :=
  ⟨0x3720, 0x02, .u16, .ro, .viewer, 9, .num 0, [], [], 0x0, 0, false, "PWR_RAIL_MV"⟩

/-- PWR_RAIL_MIN_MV, 0x3720:03. -/
def Obj.pwrRailMinMv : Obj :=
  ⟨0x3720, 0x03, .u16, .ro, .viewer, 9, .num 0, [], [], 0x0, 0, false, "PWR_RAIL_MIN_MV"⟩

/-- PWR_RAIL_MAX_MV, 0x3720:04. -/
def Obj.pwrRailMaxMv : Obj :=
  ⟨0x3720, 0x04, .u16, .ro, .viewer, 9, .num 0, [], [], 0x0, 0, false, "PWR_RAIL_MAX_MV"⟩

/-- PWR_GPIO_DIR, 0x3730:01. -/
def Obj.pwrGpioDir : Obj :=
  ⟨0x3730, 0x01, .u16, .rw, .operator, 0, .num 0, [], [], 0x0, 0, true, "PWR_GPIO_DIR"⟩

/-- PWR_GPIO_OUT, 0x3730:02. -/
def Obj.pwrGpioOut : Obj :=
  ⟨0x3730, 0x02, .u16, .rw, .operator, 0, .num 0, [], [], 0x0, 0, false, "PWR_GPIO_OUT"⟩

/-- PWR_GPIO_IN, 0x3730:03. -/
def Obj.pwrGpioIn : Obj :=
  ⟨0x3730, 0x03, .u16, .ro, .viewer, 0, .num 0, [], [], 0x0, 0, false, "PWR_GPIO_IN"⟩

/-- PWR_TALLY_EN, 0x3730:04. -/
def Obj.pwrTallyEn : Obj :=
  ⟨0x3730, 0x04, .bool, .rw, .operator, 0, .num 0, [], [], 0x0, 0, true, "PWR_TALLY_EN"⟩

/-- PWR_TALLY, 0x3730:05.
Table 18-12 leaves [7:4] unnamed: treated as reserved (DESIGN CHOICE; log entry 89). -/
def Obj.pwrTally : Obj :=
  ⟨0x3730, 0x05, .u8, .rw, .operator, 0, .num 0, [], [], 0xf0, 0, false, "PWR_TALLY"⟩

/-- PWR_SENSOR_ROW_SELECT, 0x3740:01. -/
def Obj.pwrSensorRowSelect : Obj :=
  ⟨0x3740, 0x01, .u32, .rw, .viewer, 0, .num 0, [(0, 15)], [], 0x0, 0, false, "PWR_SENSOR_ROW_SELECT"⟩

/-- PWR_SENSOR, 0x3740:02. -/
def Obj.pwrSensor : Obj :=
  ⟨0x3740, 0x02, .i16, .ro, .viewer, 16, .num 250, [], [], 0x0, 0, false, "PWR_SENSOR"⟩

/-- PWR_SENSOR_OK, 0x3740:03. -/
def Obj.pwrSensorOk : Obj :=
  ⟨0x3740, 0x03, .bool, .ro, .viewer, 16, .num 1, [], [], 0x0, 0, false, "PWR_SENSOR_OK"⟩

end Sys2Proof.Machine
end

