-- ==== Sys2Proof/Machine/Dictionary.lean ====
section
/-! DEFINITION. The dictionary as a whole: lookup by index and subindex (R32), the reset value of each row, and the
stores that hold object values. A store lists only the rows that differ from their reset value. -/
set_option Elab.async false
namespace Sys2Proof.Machine

/-- The objects at index 0x1000, subindices ascending. -/
def dict1000 : List Obj :=
  [Obj.deviceType]

/-- The objects at index 0x1001, subindices ascending. -/
def dict1001 : List Obj :=
  [Obj.errorRegister]

/-- The objects at index 0x1008, subindices ascending. -/
def dict1008 : List Obj :=
  [Obj.deviceName]

/-- The objects at index 0x1009, subindices ascending. -/
def dict1009 : List Obj :=
  [Obj.hardwareVersion]

/-- The objects at index 0x100A, subindices ascending. -/
def dict100A : List Obj :=
  [Obj.softwareVersion]

/-- The objects at index 0x1014, subindices ascending. -/
def dict1014 : List Obj :=
  [Obj.cobIdEmcy]

/-- The objects at index 0x1015, subindices ascending. -/
def dict1015 : List Obj :=
  [Obj.inhibitTimeEmcy]

/-- The objects at index 0x1017, subindices ascending. -/
def dict1017 : List Obj :=
  [Obj.heartbeatTime]

/-- The objects at index 0x1018, subindices ascending. -/
def dict1018 : List Obj :=
  [Obj.vendorId, Obj.productCode, Obj.revisionNumber, Obj.serialNumber]

/-- The objects at index 0x2000, subindices ascending. -/
def dict2000 : List Obj :=
  [Obj.setRack, Obj.setRackCancel, Obj.setRackState, Obj.setRackResult, Obj.setRackFrame, Obj.setRackCount,
   Obj.setRackLead, Obj.setDiscard, Obj.setGreenDigest, Obj.setBrightDigest, Obj.setValidate,
   Obj.setValidStatus, Obj.setValidCode, Obj.setValidObject, Obj.setValidRow, Obj.setBootRack,
   Obj.setReadBright]

/-- The objects at index 0x2010, subindices ascending. -/
def dict2010 : List Obj :=
  [Obj.setSave, Obj.setLoad, Obj.setBootSlot, Obj.setSlotStateA, Obj.setSlotStateB, Obj.setSaveStatus]

/-- The objects at index 0x2020, subindices ascending. -/
def dict2020 : List Obj :=
  [Obj.setStrelPort, Obj.setStrelMaxMsg, Obj.setSessionsOpen, Obj.setSessionRowSelect, Obj.setSessionInfo,
   Obj.setSessionKill, Obj.setAuthFails, Obj.setIdleTimeout]

/-- The objects at index 0x2030, subindices ascending. -/
def dict2030 : List Obj :=
  [Obj.setCanDataRate, Obj.setCanMaxRole, Obj.setCanRole, Obj.setCanNonce, Obj.setCanProof, Obj.setCanLock]

/-- The objects at index 0x2100, subindices ascending. -/
def dict2100 : List Obj :=
  [Obj.tbsSource, Obj.tbsState, Obj.tbsCanvasLock, Obj.tbsNowCtime, Obj.tbsNowTime80, Obj.tbsOffsetNs,
   Obj.tbsFreqPpb, Obj.tbsStepPolicy, Obj.tbsStepNs, Obj.tbsSlewPpb, Obj.tbsHoldoverLimit, Obj.tbsHoldoverS,
   Obj.tbsStepCount, Obj.tbsLastStepNs, Obj.tbsOscPresent, Obj.tbsTodSet, Obj.tbsFrameDiv, Obj.tbsTodWaitS]

/-- The objects at index 0x2110, subindices ascending. -/
def dict2110 : List Obj :=
  [Obj.tbsPtpProfile, Obj.tbsPtpDomain, Obj.tbsPtpTransport, Obj.tbsPtpPortA, Obj.tbsPtpPortB,
   Obj.tbsPtpDelayMode, Obj.tbsPtpAsymNs, Obj.tbsPtpMaster, Obj.tbsPtpMeanDelayNs, Obj.tbsPtpSmTlv,
   Obj.tbsPtpUtcOffset]

/-- The objects at index 0x2120, subindices ascending. -/
def dict2120 : List Obj :=
  [Obj.tbsCalRowSelect, Obj.tbsCalW0, Obj.tbsCalW1, Obj.tbsCalUsed, Obj.tbsCalMissed]

/-- The objects at index 0x2200, subindices ascending. -/
def dict2200 : List Obj :=
  [Obj.lnkLanes, Obj.lnkBaseMac, Obj.lnkUpHoldMs, Obj.lnkRetryMs, Obj.lnkFecDegrade, Obj.lnkPuntLimit,
   Obj.lnkResolveS, Obj.lnkMgmtDscp, Obj.lnkPcpColour, Obj.lnkDscpColour, Obj.lnkUnresolved, Obj.lnkPuntDrops]

/-- The objects at index 0x2210, subindices ascending. -/
def dict2210 : List Obj :=
  [Obj.lnkPortRowSelect, Obj.lnkPortW0, Obj.lnkPortW1, Obj.lnkPortW2, Obj.lnkPortW3, Obj.lnkPortW4,
   Obj.lnkPortW5, Obj.lnkPortState, Obj.lnkPortCause, Obj.lnkPortFailedOver, Obj.lnkPortDowns,
   Obj.lnkPortRxFrames, Obj.lnkPortRxDiscards, Obj.lnkPortRxFcs, Obj.lnkPortTxFrames, Obj.lnkPortFecCorr,
   Obj.lnkPortFecUncorr, Obj.lnkPortDad, Obj.lnkPortPuntDrops]

/-- The objects at index 0x2230, subindices ascending. -/
def dict2230 : List Obj :=
  [Obj.lnkLaneRowSelect, Obj.lnkLaneCfg, Obj.lnkLanePrbs, Obj.lnkLanePrbsErr, Obj.lnkLaneLock]

/-- The objects at index 0x2240, subindices ascending. -/
def dict2240 : List Obj :=
  [Obj.lnkFlowRowSelect, Obj.lnkFlowW0, Obj.lnkFlowW1, Obj.lnkFlowW2, Obj.lnkFlowW3, Obj.lnkFlowW4,
   Obj.lnkFlowW5, Obj.lnkFlowLive, Obj.lnkFlowHits]

/-- The objects at index 0x2250, subindices ascending. -/
def dict2250 : List Obj :=
  [Obj.lnkPolRowSelect, Obj.lnkPolW0, Obj.lnkPolW1, Obj.lnkPolLive, Obj.lnkPolGreen, Obj.lnkPolYellow,
   Obj.lnkPolRed]

/-- The objects at index 0x2260, subindices ascending. -/
def dict2260 : List Obj :=
  [Obj.lnkMgIpv4, Obj.lnkMgPfx4, Obj.lnkMgGw4, Obj.lnkMgIpv6, Obj.lnkMgPfx6, Obj.lnkMgVid, Obj.lnkMgLink]

/-- The objects at index 0x2400, subindices ascending. -/
def dict2400 : List Obj :=
  [Obj.cmpSteepSize, Obj.cmpSteepGreen, Obj.cmpSteepBright, Obj.cmpRowBudget, Obj.cmpLateRows, Obj.cmpLostCtus,
   Obj.cmpAreaMib, Obj.cmpAreaFreeMib, Obj.cmpRawDry]

/-- The objects at index 0x2410, subindices ascending. -/
def dict2410 : List Obj :=
  [Obj.cmpFlowRowSelect, Obj.cmpFlowW0, Obj.cmpFlowW1, Obj.cmpFlowW0Live, Obj.cmpFlowW1Live, Obj.cmpFlowStatus,
   Obj.cmpFlowPktsA, Obj.cmpFlowPktsB, Obj.cmpFlowDup, Obj.cmpFlowLate, Obj.cmpFlowEarly, Obj.cmpFlowOverrun,
   Obj.cmpFlowBad]

/-- The objects at index 0x2420, subindices ascending. -/
def dict2420 : List Obj :=
  [Obj.cmpSlotRowSelect, Obj.cmpSlotW0, Obj.cmpSlotW1, Obj.cmpSlotW2, Obj.cmpSlotW0Live, Obj.cmpSlotW1Live,
   Obj.cmpSlotW2Live, Obj.cmpSlotLbNeed]

/-- The objects at index 0x2428, subindices ascending. -/
def dict2428 : List Obj :=
  [Obj.cmpFilterRowSelect, Obj.cmpFilterBank, Obj.cmpFilterUser]

/-- The objects at index 0x2430, subindices ascending. -/
def dict2430 : List Obj :=
  [Obj.cmpStackRowSelect, Obj.cmpStackW0, Obj.cmpStackW1, Obj.cmpStackW0Live, Obj.cmpStackW1Live]

/-- The objects at index 0x2440, subindices ascending. -/
def dict2440 : List Obj :=
  [Obj.cmpRawRowSelect, Obj.cmpRawW0, Obj.cmpRawW1, Obj.cmpRawW0Live, Obj.cmpRawW1Live]

/-- The objects at index 0x2450, subindices ascending. -/
def dict2450 : List Obj :=
  [Obj.cmpStillRowSelect, Obj.cmpStillDesc, Obj.cmpStillData]

/-- The objects at index 0x2600, subindices ascending. -/
def dict2600 : List Obj :=
  [Obj.flrCanvasW, Obj.flrCanvasH, Obj.flrRateNum, Obj.flrRateDen, Obj.flrTotalLines, Obj.flrPixelW,
   Obj.flrPixelH, Obj.flrLoadPermille, Obj.flrLoadLive]

/-- The objects at index 0x2610, subindices ascending. -/
def dict2610 : List Obj :=
  [Obj.flrMapRowSelect, Obj.flrMap, Obj.flrMapLive, Obj.flrFill, Obj.flrRegions, Obj.flrRegionsLive,
   Obj.flrRegionCount, Obj.flrLoadStatus]

/-- The objects at index 0x2620, subindices ascending. -/
def dict2620 : List Obj :=
  [Obj.flrSubRowSelect, Obj.flrSubW0, Obj.flrSubW1, Obj.flrSubW0Live, Obj.flrSubW1Live, Obj.flrSubCount,
   Obj.flrSubFillCount]

/-- The objects at index 0x2630, subindices ascending. -/
def dict2630 : List Obj :=
  [Obj.flrCheck, Obj.flrCheckStatus, Obj.flrCheckRule, Obj.flrCheckWhere, Obj.flrPersistStatus,
   Obj.flrPersistBytes, Obj.flrPersistLimit]

/-- The objects at index 0x2700, subindices ascending. -/
def dict2700 : List Obj :=
  [Obj.cspChroma, Obj.cspColour, Obj.cspDither, Obj.cspRecorderTap, Obj.cspPsEveryAu, Obj.cspPlacementSei,
   Obj.cspDph, Obj.cspCbQpOffset, Obj.cspCrQpOffset, Obj.cspDbkBeta, Obj.cspDbkTc, Obj.cspMdcv, Obj.cspCll,
   Obj.cspPicCount, Obj.cspCvsEnds, Obj.cspCanvasPsBytes]

/-- The objects at index 0x2710, subindices ascending. -/
def dict2710 : List Obj :=
  [Obj.cspSubRowSelect, Obj.cspSubLevelFloor, Obj.cspSubLevel, Obj.cspSubLevelLive, Obj.cspSubPsBytes,
   Obj.cspSubState]

/-- The objects at index 0x2800, subindices ascending. -/
def dict2800 : List Obj :=
  [Obj.tunCount, Obj.tunClockMhz, Obj.tunRomVersion, Obj.tunRomCrc, Obj.tunPatchImage, Obj.tunPatchStatus,
   Obj.tunPatchApply, Obj.tunPatchRemove, Obj.tunPatchResult, Obj.tunPatchFrame, Obj.tunPatchActive,
   Obj.tunLambda, Obj.tunPatchPersist, Obj.tunYieldLimit]

/-- The objects at index 0x2810, subindices ascending. -/
def dict2810 : List Obj :=
  [Obj.tunRowSelect, Obj.tunState, Obj.tunSegments, Obj.tunCtus, Obj.tunDiscards, Obj.tunEccCorr,
   Obj.tunFaults, Obj.tunBistResult, Obj.tunBistPhase, Obj.tunBistTime, Obj.tunBistPending, Obj.tunMaxYieldGap]

/-- The objects at index 0x2820, subindices ascending. -/
def dict2820 : List Obj :=
  [Obj.tunSelftest, Obj.tunReinstate]

/-- The objects at index 0x2900, subindices ascending. -/
def dict2900 : List Obj :=
  [Obj.dspSpares, Obj.dspDecodeTuns, Obj.dspLateLines, Obj.dspRespareMax, Obj.dspRotateS, Obj.dspRotateNext,
   Obj.dspActiveNow, Obj.dspSparesNow, Obj.dspSegsLate, Obj.dspSegsFallback, Obj.dspRespares,
   Obj.dspMinSlackLines, Obj.dspRowLoadPermille, Obj.dspRowWorst]

/-- The objects at index 0x2910, subindices ascending. -/
def dict2910 : List Obj :=
  [Obj.dspEffortNow, Obj.dspEffortPending, Obj.dspEffortFrame, Obj.dspEffortCap, Obj.dspEffortLead,
   Obj.dspGovState, Obj.dspThermLeanC, Obj.dspThermMinC, Obj.dspThermHystC, Obj.dspThermHoldS,
   Obj.dspEffortChanges]

/-- The objects at index 0x2A00, subindices ascending. -/
def dict2A00 : List Obj :=
  [Obj.grvQpBase, Obj.grvQpMin, Obj.grvQpMax, Obj.grvActStrength, Obj.grvActPivot, Obj.grvActRange,
   Obj.grvKskip, Obj.grvKslice, Obj.grvKtail, Obj.grvSpentTotal, Obj.grvTrims, Obj.grvTrimFloor]

/-- The objects at index 0x2A10, subindices ascending. -/
def dict2A10 : List Obj :=
  [Obj.grvSubRowSelect, Obj.grvSubQpOffset, Obj.grvCapBits, Obj.grvCapBitsLive, Obj.grvOhBits,
   Obj.grvReserveMax, Obj.grvLastBits, Obj.grvSubSpent, Obj.grvPeakPermille]

/-- The objects at index 0x2A20, subindices ascending. -/
def dict2A20 : List Obj :=
  [Obj.grvQpdRowSelect, Obj.grvQpd, Obj.grvQpdLive]

/-- The objects at index 0x2B00, subindices ascending. -/
def dict2B00 : List Obj :=
  [Obj.rakPeriod, Obj.rakQpOffset, Obj.rakK, Obj.rakPeriodNow, Obj.rakPeriodStart, Obj.rakNudge,
   Obj.rakNudgeLead, Obj.rakNudges, Obj.rakNudgeAbsorbed, Obj.rakMissed]

/-- The objects at index 0x2B10, subindices ascending. -/
def dict2B10 : List Obj :=
  [Obj.rakSubRowSelect, Obj.rakSubNudgeState, Obj.rakSubNudgeFrame, Obj.rakSubClean, Obj.rakSubInexact]

/-- The objects at index 0x2C00, subindices ascending. -/
def dict2C00 : List Obj :=
  [Obj.asmExtIdCt, Obj.asmExtIdSg, Obj.asmExtIdGm, Obj.asmSsrcBase, Obj.asmGapMarkers, Obj.asmRecorderPt,
   Obj.asmRecorderSsrc, Obj.asmRecorderPp, Obj.asmDryLimitNs, Obj.asmDryDrops, Obj.asmGapsSent, Obj.asmPkts]

/-- The objects at index 0x2C10, subindices ascending. -/
def dict2C10 : List Obj :=
  [Obj.asmSubRowSelect, Obj.asmSubPt, Obj.asmSubSsrc, Obj.asmSubPp, Obj.asmSubHp, Obj.asmSubSeq, Obj.asmSubPkts]

/-- The objects at index 0x2C20, subindices ascending. -/
def dict2C20 : List Obj :=
  [Obj.asmTasteWindowNs, Obj.asmLanesOk, Obj.asmTastedBits, Obj.asmUntastedBits, Obj.asmCoveragePermille,
   Obj.asmTasteFails, Obj.asmLaneRowSelect, Obj.asmLaneState, Obj.asmLaneFails]

/-- The objects at index 0x2D00, subindices ascending. -/
def dict2D00 : List Obj :=
  [Obj.twnMode, Obj.twnRole, Obj.twnState, Obj.twnSilenceCause, Obj.twnTakeover, Obj.twnHoldNs, Obj.twnPortA,
   Obj.twnPortB, Obj.twnKey, Obj.twnSilence, Obj.twnLinkUp, Obj.twnPartnerOk, Obj.twnMatchRun,
   Obj.twnMismatches, Obj.twnMissing, Obj.twnUnverified, Obj.twnRejoins, Obj.twnLastMismatch, Obj.twnPairFail,
   Obj.twnLinkLosses]

/-- The objects at index 0x2E00, subindices ascending. -/
def dict2E00 : List Obj :=
  [Obj.finAreaMib, Obj.finAreaFreeMib, Obj.finReorderUs, Obj.finBackoffCtus, Obj.finLoadPermille]

/-- The objects at index 0x2E10, subindices ascending. -/
def dict2E10 : List Obj :=
  [Obj.finStrRowSelect, Obj.finStrW0, Obj.finStrW1, Obj.finStrW0Live, Obj.finStrW1Live, Obj.finStrSprop,
   Obj.finStrState, Obj.finStrOut, Obj.finStrPtl]

/-- The objects at index 0x2E20, subindices ascending. -/
def dict2E20 : List Obj :=
  [Obj.finStatRowSelect, Obj.finPkts, Obj.finPktsLost, Obj.finPktsBad, Obj.finNalDiscards, Obj.finSyntaxErrs,
   Obj.finSlicesMissing, Obj.finRefsMissing, Obj.finCtusConcealed, Obj.finPicsOut, Obj.finPicsLate,
   Obj.finAusSkipped, Obj.finLastGoodTs]

/-- The objects at index 0x2E30, subindices ascending. -/
def dict2E30 : List Obj :=
  [Obj.finMapRowSelect, Obj.finMap]

/-- The objects at index 0x3000, subindices ascending. -/
def dict3000 : List Obj :=
  [Obj.tapCount, Obj.tapLaunchLines, Obj.tapWinAgeUs, Obj.tapRtxHoldoffUs, Obj.tapShedPkts, Obj.tapSrFrames,
   Obj.tapCname, Obj.tapRepairs, Obj.tapNackUnserved, Obj.tapNackEarly, Obj.tapNackDup, Obj.tapShed,
   Obj.tapRtcpBad, Obj.tapRtcpOther, Obj.tapGapsSent]

/-- The objects at index 0x3010, subindices ascending. -/
def dict3010 : List Obj :=
  [Obj.tapRowSelect, Obj.tapW0, Obj.tapW1, Obj.tapW2, Obj.tapW3, Obj.tapW4, Obj.tapW5, Obj.tapW6, Obj.tapW7,
   Obj.tapW8, Obj.tapW9, Obj.tapLive]

/-- The objects at index 0x3020, subindices ascending. -/
def dict3020 : List Obj :=
  [Obj.tapFlush, Obj.tapQDepth, Obj.tapPkts, Obj.tapDrops, Obj.tapFlushed, Obj.tapWinFill, Obj.tapRewindEs,
   Obj.tapLatePkts, Obj.tapLatBytes]

/-- The objects at index 0x3100, subindices ascending. -/
def dict3100 : List Obj :=
  [Obj.tapPortRowSelect, Obj.tapPortW0, Obj.tapPortW1, Obj.tapPortW2, Obj.tapPortW3, Obj.tapPortLoadPermille,
   Obj.tapPortActiveMax, Obj.tapPortWaiting]

/-- The objects at index 0x3200, subindices ascending. -/
def dict3200 : List Obj :=
  [Obj.memQdScrubS, Obj.memRetrain]

/-- The objects at index 0x3210, subindices ascending. -/
def dict3210 : List Obj :=
  [Obj.memQdRowSelect, Obj.memQdState, Obj.memQdEccCorr, Obj.memQdEccUncorr, Obj.memQdRetrains,
   Obj.memQdPending]

/-- The objects at index 0x3220, subindices ascending. -/
def dict3220 : List Obj :=
  [Obj.memDdConfig, Obj.memDdCapacityGib, Obj.memDdFitPermille, Obj.memDdRetrainS, Obj.memDdPauseUs,
   Obj.memDdPageIdleNs, Obj.memDdWqHigh, Obj.memDdWqLow, Obj.memDdAgeNs, Obj.memDdSrIdleUs, Obj.memDdScrubH,
   Obj.memDdDegraded, Obj.memDdSrm, Obj.memDdEmptyBursts, Obj.memRefRatio, Obj.memTrainCached]

/-- The objects at index 0x3230, subindices ascending. -/
def dict3230 : List Obj :=
  [Obj.memDdRowSelect, Obj.memDdState, Obj.memDdEccCorr, Obj.memDdEccUncorr, Obj.memDdRetrains,
   Obj.memDdLastRetrain, Obj.memDdPending, Obj.memDdPanicUs]

/-- The objects at index 0x3240, subindices ascending. -/
def dict3240 : List Obj :=
  [Obj.memGrBanksOk, Obj.memGrSelftest, Obj.memGrHitPermille, Obj.memGrStageSpills, Obj.memGrEccUncorr]

/-- The objects at index 0x3300, subindices ascending. -/
def dict3300 : List Obj :=
  [Obj.memArbRowSelect, Obj.memArbPrio, Obj.memArbBurst, Obj.memArbFairN, Obj.memArbMaxWait]

/-- The objects at index 0x3400, subindices ascending. -/
def dict3400 : List Obj :=
  [Obj.spgChannels, Obj.spgBytes, Obj.spgBusErrs, Obj.spgDiagDesc, Obj.spgDiagStatus]

/-- The objects at index 0x3410, subindices ascending. -/
def dict3410 : List Obj :=
  [Obj.spgChRowSelect, Obj.spgChState, Obj.spgChPrio, Obj.spgChDoneBytes, Obj.spgChRetries, Obj.spgChLastErr]

/-- The objects at index 0x3420, subindices ascending. -/
def dict3420 : List Obj :=
  [Obj.kegDryHoldoffUs, Obj.kegDoubleFrees, Obj.kegBadHandles, Obj.kegLost]

/-- The objects at index 0x3430, subindices ascending. -/
def dict3430 : List Obj :=
  [Obj.kegPoolRowSelect, Obj.kegPoolCount, Obj.kegPoolSize, Obj.kegPoolBase, Obj.kegPoolFree, Obj.kegPoolLow,
   Obj.kegPoolDry, Obj.kegPoolSpillsIn, Obj.kegPoolCountNow]

/-- The objects at index 0x3440, subindices ascending. -/
def dict3440 : List Obj :=
  [Obj.wrtRowSelect, Obj.wrtMode, Obj.wrtDepth, Obj.wrtFill, Obj.wrtHighWater, Obj.wrtDrops, Obj.wrtMarkers,
   Obj.wrtEccCorr, Obj.wrtEccUncorr, Obj.wrtFlush, Obj.wrtFlushed]

/-- The objects at index 0x3500, subindices ascending. -/
def dict3500 : List Obj :=
  [Obj.cwtLatchClass, Obj.cwtRealLatch, Obj.cwtRealOvf, Obj.cwtInjLatch, Obj.cwtInjOvf, Obj.cwtClear,
   Obj.cwtAck, Obj.cwtSafe, Obj.cwtSafeCause, Obj.cwtSafeEnter, Obj.cwtHoldoffUs, Obj.cwtCoalesced,
   Obj.cwtFaults, Obj.cwtSelftestS]

/-- The objects at index 0x3510, subindices ascending. -/
def dict3510 : List Obj :=
  [Obj.cwtKindRowSelect, Obj.cwtReact, Obj.cwtKindClass, Obj.cwtKindCount, Obj.cwtRehearse]

/-- The objects at index 0x3518, subindices ascending. -/
def dict3518 : List Obj :=
  [Obj.cwtExcRowSelect, Obj.cwtExc]

/-- The objects at index 0x3530, subindices ascending. -/
def dict3530 : List Obj :=
  [Obj.cwtInject, Obj.cwtForce, Obj.cwtForceCount]

/-- The objects at index 0x3540, subindices ascending. -/
def dict3540 : List Obj :=
  [Obj.icuSrcRowSelect, Obj.icuSrc, Obj.icuSrcLevel, Obj.icuClaims, Obj.icuExtClaim, Obj.icuExtEoi,
   Obj.icuExtRunning, Obj.icuSpurious, Obj.icuEoiErrs, Obj.icuStormLimit, Obj.icuStormWindowUs]

/-- The objects at index 0x3548, subindices ascending. -/
def dict3548 : List Obj :=
  [Obj.icuExtRowSelect, Obj.icuExtMask]

/-- The objects at index 0x3549, subindices ascending. -/
def dict3549 : List Obj :=
  [Obj.icuExtStorm, Obj.icuExtPending]

/-- The objects at index 0x3560, subindices ascending. -/
def dict3560 : List Obj :=
  [Obj.logHeadSeq, Obj.logOldestSeq, Obj.logRing, Obj.logRowSelect, Obj.logRec, Obj.logMark, Obj.logCkptS,
   Obj.logCkpt, Obj.logCkptLastSeq, Obj.logBootCount, Obj.logGapRecords, Obj.logBadReads]

/-- The objects at index 0x3600, subindices ascending. -/
def dict3600 : List Obj :=
  [Obj.secLifecycle, Obj.secLifecycleAdvance, Obj.secRetire, Obj.secDevCert, Obj.secIdEcdsaPub,
   Obj.secIdHssPub, Obj.secFactoryExport, Obj.secKeyHash, Obj.secKeyRevoked]

/-- The objects at index 0x3610, subindices ascending. -/
def dict3610 : List Obj :=
  [Obj.secImage, Obj.secImageStatus, Obj.secImageType, Obj.secFwPatchActive, Obj.secFwPatchStaged,
   Obj.secFwPatchRemove, Obj.secSigFails]

/-- The objects at index 0x3620, subindices ascending. -/
def dict3620 : List Obj :=
  [Obj.secRbRowSelect, Obj.secRollback, Obj.secRollbackCommit]

/-- The objects at index 0x3630, subindices ascending. -/
def dict3630 : List Obj :=
  [Obj.secKeyInstall, Obj.secKeyErase, Obj.secKeySlots, Obj.secVendorExpiry]

/-- The objects at index 0x3640, subindices ascending. -/
def dict3640 : List Obj :=
  [Obj.secAttNonce, Obj.secAttReport, Obj.secAttState, Obj.secAttRemaining]

/-- The objects at index 0x3650, subindices ascending. -/
def dict3650 : List Obj :=
  [Obj.cskSize, Obj.cskEccCorr, Obj.cskEccUncorr, Obj.cskRegionRowSelect, Obj.cskRegionState, Obj.cskScrubH]

/-- The objects at index 0x3700, subindices ascending. -/
def dict3700 : List Obj :=
  [Obj.pwrTj, Obj.pwrTjMax, Obj.pwrWarnC, Obj.pwrCritC, Obj.pwrTripC, Obj.pwrPower, Obj.pwrLifeHours,
   Obj.pwrLifePermille, Obj.pwrReset, Obj.pwrResetCause, Obj.pwrBootPhase, Obj.pwrBootMs, Obj.pwrStraps,
   Obj.pwrHealthy]

/-- The objects at index 0x3710, subindices ascending. -/
def dict3710 : List Obj :=
  [Obj.pwrAvsEn, Obj.pwrAvsAddr, Obj.pwrVfuseMv, Obj.pwrVcoreMv, Obj.pwrVcoreReadMv, Obj.pwrIcore,
   Obj.pwrAvsErrs]

/-- The objects at index 0x3720, subindices ascending. -/
def dict3720 : List Obj :=
  [Obj.pwrRailRowSelect, Obj.pwrRailMv, Obj.pwrRailMinMv, Obj.pwrRailMaxMv]

/-- The objects at index 0x3730, subindices ascending. -/
def dict3730 : List Obj :=
  [Obj.pwrGpioDir, Obj.pwrGpioOut, Obj.pwrGpioIn, Obj.pwrTallyEn, Obj.pwrTally]

/-- The objects at index 0x3740, subindices ascending. -/
def dict3740 : List Obj :=
  [Obj.pwrSensorRowSelect, Obj.pwrSensor, Obj.pwrSensorOk]

/-- The dictionary as (index, its objects), indices ascending. -/
def dictionaryIndices : List (Nat × List Obj) :=
  [(0x1000, dict1000), (0x1001, dict1001), (0x1008, dict1008), (0x1009, dict1009), (0x100A, dict100A), (0x1014, dict1014)] ++
  [(0x1015, dict1015), (0x1017, dict1017), (0x1018, dict1018), (0x2000, dict2000), (0x2010, dict2010), (0x2020, dict2020)] ++
  [(0x2030, dict2030), (0x2100, dict2100), (0x2110, dict2110), (0x2120, dict2120), (0x2200, dict2200), (0x2210, dict2210)] ++
  [(0x2230, dict2230), (0x2240, dict2240), (0x2250, dict2250), (0x2260, dict2260), (0x2400, dict2400), (0x2410, dict2410)] ++
  [(0x2420, dict2420), (0x2428, dict2428), (0x2430, dict2430), (0x2440, dict2440), (0x2450, dict2450), (0x2600, dict2600)] ++
  [(0x2610, dict2610), (0x2620, dict2620), (0x2630, dict2630), (0x2700, dict2700), (0x2710, dict2710), (0x2800, dict2800)] ++
  [(0x2810, dict2810), (0x2820, dict2820), (0x2900, dict2900), (0x2910, dict2910), (0x2A00, dict2A00), (0x2A10, dict2A10)] ++
  [(0x2A20, dict2A20), (0x2B00, dict2B00), (0x2B10, dict2B10), (0x2C00, dict2C00), (0x2C10, dict2C10), (0x2C20, dict2C20)] ++
  [(0x2D00, dict2D00), (0x2E00, dict2E00), (0x2E10, dict2E10), (0x2E20, dict2E20), (0x2E30, dict2E30), (0x3000, dict3000)] ++
  [(0x3010, dict3010), (0x3020, dict3020), (0x3100, dict3100), (0x3200, dict3200), (0x3210, dict3210), (0x3220, dict3220)] ++
  [(0x3230, dict3230), (0x3240, dict3240), (0x3300, dict3300), (0x3400, dict3400), (0x3410, dict3410), (0x3420, dict3420)] ++
  [(0x3430, dict3430), (0x3440, dict3440), (0x3500, dict3500), (0x3510, dict3510), (0x3518, dict3518), (0x3530, dict3530)] ++
  [(0x3540, dict3540), (0x3548, dict3548), (0x3549, dict3549), (0x3560, dict3560), (0x3600, dict3600), (0x3610, dict3610)] ++
  [(0x3620, dict3620), (0x3630, dict3630), (0x3640, dict3640), (0x3650, dict3650), (0x3700, dict3700), (0x3710, dict3710)] ++
  [(0x3720, dict3720), (0x3730, dict3730), (0x3740, dict3740)]

/-- The objects at an index; none where no object has the index. -/
def objectsAt (index : Nat) : Option (List Obj) :=
  (dictionaryIndices.find? fun p => p.1 == index).map (·.2)

/-- R32 and R454 step 1: the object at an index and subindex, or NO_OBJECT, or NO_SUBINDEX. -/
def findObj (index sub : Nat) : Except Status Obj :=
  match objectsAt index with
  | none => .error .noObject
  | some l =>
    match l.find? fun o => o.sub == sub with
    | some o => .ok o
    | none => .error .noSubindex

/-- R32: the highest subindex in use at an index. -/
def highestSub (index : Nat) : Nat :=
  match objectsAt index with
  | none => 0
  | some l => l.foldl (fun m o => max m o.sub) 0

/-- Every object of the dictionary, in ascending index then subindex. -/
def allObjects : List Obj := dictionaryIndices.flatMap (·.2)

/-- The RG objects other than the Floor Map, in the order of the set digest (R43). -/
def setObjects : List Obj := allObjects.filter fun o => o.access == .rg && o.code != Obj.flrMap.code

/-- Table 15-6: default count of a Keg pool. -/
def kegDefaultCount : Nat → Nat
  | 0 => 131072 | 1 => 32768 | 2 => 32768 | 3 => 2048 | 4 => 512 | _ => 0

/-- Table 15-6: buffer size of a Keg pool in bytes. -/
def kegSize : Nat → Nat
  | 0 => 256 | 1 => 1024 | 2 => 4096 | 3 => 16384 | 4 => 65536 | _ => 0

/-- Table 15-6: default base of a Keg pool. -/
def kegDefaultBase : Nat → Nat
  | 0 => 0x02000000 | 1 => 0x04000000 | 2 => 0x06000000 | 3 => 0x0E000000 | 4 => 0x10000000 | _ => 0

/-- Table 15-8: whether a wort line is in drop mode. -/
def wortDropMode (line : Nat) : Bool := decide (96 ≤ line) && decide (line ≤ 123)

/-- Table 15-8: the depth of a wort line in entries. -/
def wortDepth (line : Nat) : Nat :=
  if line ≤ 63 then 64 else if line ≤ 67 then 1024 else if line ≤ 71 then 1024 else if line ≤ 75 then 512
  else if line ≤ 79 then 256 else if line ≤ 95 then 64 else if line ≤ 123 then 512 else 256

/-- Table 14-5: default base priority of an arbiter row; rows 6, 7 and 15 have no requester. -/
def arbDefaultPrio : Nat → Nat
  | 0 => 12 | 1 => 10 | 2 => 8 | 3 => 6 | 4 => 4 | 5 => 0 | 8 => 12 | 9 => 11 | 10 => 10 | 11 => 6 | 12 => 6
  | 13 => 4 | 14 => 0 | _ => 0

/-- The reset value of a row of an object: the object table's default, or the row's own where the default names a
table (Tables 14-5, 15-6, 15-8, 16-2) or a rule (R400; the priority 1 is DESIGN CHOICE, log entry 12). -/
def rowDefault (o : Obj) (row : Nat) : Value :=
  if o.code = Obj.kegPoolCount.code then .num (kegDefaultCount row)
  else if o.code = Obj.kegPoolCountNow.code then .num (kegDefaultCount row)
  else if o.code = Obj.kegPoolSize.code then .num (kegSize row)
  else if o.code = Obj.kegPoolBase.code then .num (kegDefaultBase row)
  else if o.code = Obj.wrtMode.code then .num (ofBool (wortDropMode row))
  else if o.code = Obj.wrtDepth.code then .num (wortDepth row)
  else if o.code = Obj.memArbPrio.code then .num (arbDefaultPrio row)
  else if o.code = Obj.cwtReact.code then .num (kindReaction row)
  else if o.code = Obj.cwtKindClass.code then .num (kindClass row)
  else if o.code = Obj.cmpFilterUser.code then .bytes (bankBytes 0)
  else if o.code = Obj.tbsCalW1.code ∧ row < 256 then .num 0x100000000
  else if o.code = Obj.icuSrc.code then .num (if row = 236 ∨ row = 237 then 0x11 else 0x01)
  else o.deflt

/-- Object values that differ from their reset values, by `Obj.key`. -/
abbrev Store := Table Value

/-- The value of a row of an object. -/
def Store.read (st : Store) (o : Obj) (row : Nat) : Value := Table.get (rowDefault o row) st (o.key row)

/-- A row of an object as a natural number. -/
def Store.nat (st : Store) (o : Obj) (row : Nat) : Nat := (Store.read st o row).toNat

/-- A row of an object as a number. -/
def Store.int (st : Store) (o : Obj) (row : Nat) : Int := (Store.read st o row).toInt

/-- Writes a row of an object. -/
def Store.write (st : Store) (o : Obj) (row : Nat) (v : Value) : Store :=
  Table.set (rowDefault o row) st (o.key row) v

/-- The rows of an object that differ from its reset value, ascending: (row, value). -/
def Store.rows (st : Store) (o : Obj) : List (Nat × Value) :=
  (Table.within st (o.key 0) (o.key 0 + 4294967296)).map fun p => (p.1 - o.key 0, p.2)

/-- The keys of the listed values are objects' keys and strictly rise. -/
def Store.rising (st : Store) : Bool := (st.zip st.tail).all fun p => decide (p.1.1 < p.2.1)

end Sys2Proof.Machine
end

