-- ==== Sys2Proof/Machine/State.lean ====
section
/-! DEFINITION. The state of the NG-6496: every object, set, queue, timer and unit the manual gives it, as plain data,
the reasons a step can stop, and the state right after PORST_N release. -/
set_option Elab.async false
namespace Sys2Proof.Machine

/-! ### What leaves the device -/

/-- What the headers of a frame of the device's own carry beside its message (R286, R290, R297): source MAC address, source IP
address, the next hop of a unicast IP destination, tag control information of an 802.1Q tag, TTL or hop limit, DSCP. -/
structure OwnHeader where
  mac : Nat
  src : Nat
  next : Option Nat
  tci : Option Nat
  ttl : Nat
  dscp : Nat
  deriving DecidableEq, Repr

/-- The taps of a lane's transmitter in 64ths, its swing in mV peak to peak (R279). -/
structure LaneTaps where
  pre : Int
  main : Int
  post : Int
  swing : Nat
  deriving DecidableEq, Repr

/-- What the last command put on a wire of the device, or answered to whoever accessed an object (R38, R51, R58, R60
to R62). A command clears the list before it acts. -/
inductive Out where
  /-- The status of an object access by a command that is not a message, with the bytes it returned. -/
  | answer (who : Path) (status : Status) (data : Bytes)
  /-- A Strel message to a peer, Table 2-7. -/
  | strel (peer : Peer) (opcode flags status session seq : Nat) (payload mac : Bytes) (header : OwnHeader)
  /-- A Tun's acknowledgement of an attention event (R155): Tun; 0 ABORT, 1 RESPARE, 2 CONTEXT, 3 RECALL. -/
  | acknowledged (tun event : Nat)
  /-- The end of a USDO transfer: status and, for a read, the value's bytes least significant byte first. -/
  | usdo (status : Status) (abort : Nat) (data : Bytes)
  /-- A CAN boot-up message (R61) or heartbeat with its NMT state code (R60). -/
  | canBootUp
  | canHeartbeat (state : Nat)
  /-- An EMCY: error code, error register and the fault message (R62). -/
  | emcy (code register : Nat) (msg : Bytes)
  /-- A frame of a protocol the firmware or a unit sends on a port (96 is the management port): its protocol's name,
  its fields, and its headers. The MAC pads it and adds its FCS (`macFrame`). -/
  | frame (port : Nat) (proto : String) (fields : List Nat) (header : OwnHeader)
  /-- A Clause 73 base page (R281): port, the mode whose technology ability it advertises, the request for RS-FEC, next page. -/
  | basePage (port ability : Nat) (rsFec nextPage : Bool)
  /-- A twin frame sent on both twin ports: type code, and its fields (Table 10-2). -/
  | twin (ty : Nat) (m : TwinMsg)
  /-- A packet that starts on a port's wire: port, tap, class, its canvas frame and its number in the tap, and the bytes of its
  frame from destination MAC to FCS (R285, R290, R301). -/
  | packet (port tap cls frame es : Nat) (bytes : Bytes)
  /-- A packet discarded at departure, Table 13-2. -/
  | packetDiscarded (port tap cls frame es : Nat)
  /-- A descriptor or a buffer handle handed to a requester. -/
  | handle (port handle : Nat)
  /-- A word a consumer popped from a wort line, its marker bit and its message's error flag (R376, R380). -/
  | word (line word : Nat) (marker error : Bool)
  /-- A DRY answer of the Keg to a requester (R372). -/
  | dry (port pool : Nat)
  /-- The command in progress on the Maltster ends with FAILED: its Keg request stayed DRY for 10 ms (Table 15-7). -/
  | commandFailed (port : Nat)
  /-- A received frame passed to a unit (Table 12-6): port, unit, index (flow, decode stream), path, and its ingress timestamp in
  device time (R295). -/
  | passed (port : Nat) (unit : String) (index path stamp : Nat)
  /-- A PMBus command of the Maltster: command name and value (R445). -/
  | pmbus (cmd : String) (value : Nat)
  deriving DecidableEq, Repr

/-! ### The Floor Map and the sets (chapters 1 and 2) -/

/-- The Floor Map: a value that FLR_FILL gave every row, and the rows that differ from it (R23, R26). -/
structure FloorMap where
  fill : Nat
  rows : Table Nat
  deriving DecidableEq, Repr

/-- A set: the value of every RG object, and its Floor Map (R39). -/
structure CanvasSet where
  objs : Store
  map : FloorMap
  deriving DecidableEq, Repr

/-- The set every RG object of which holds its default. -/
def CanvasSet.default : CanvasSet := { objs := [], map := { fill := 0, rows := [] } }

/-- A running Floor Map check (R25) or validation (R42): the green set as it stood at the start, and whether a write
that makes the result stale has landed. -/
structure CheckRun where
  set : CanvasSet
  absent : Bool
  stale : Bool
  deriving DecidableEq, Repr

/-- Rack states, Table 2-3. -/
inductive RackState where
  | idle | validating | agreeing | scheduled | reseeding
  deriving DecidableEq, Repr

/-- SET_RACK_RESULT, Table 2-4. -/
inductive RackResult where
  | none | done | invalid | late | far | twinRefused | twinTimeout | cancelled | safe
  deriving DecidableEq, Repr

/-- The rack: state, target T, frame F, result, count (Table 2-5); whether it is the boot rack agreed in PAIRING
(R47); whether the swap is due at the end of a gap (R79); whether the reseeding copy has begun (R46). -/
structure Rack where
  state : RackState
  target : Nat
  frame : Nat
  result : RackResult
  count : Nat
  paired : Bool
  swapAtGap : Bool
  copying : Bool
  deriving DecidableEq, Repr

/-- A set image in a Cask slot (R48, R431): slot state 0 empty, 1 valid, 2 valid with the Floor Map absent,
3 damaged; and the image. -/
structure Slot where
  state : Nat
  image : CanvasSet
  deriving DecidableEq, Repr

/-- The sets unit: green, bright, the green map's absent flag (R49), checks, rack, slots, a pending or running save
(slot, and the snapshot once the line boundary took it), a running load, and whether the boot rack is still to be
requested (R40); the set whose digest SET_GREEN_DIGEST holds (R43); the sets that were bright before the last swaps, oldest
first, each with the frame F of its swap, while work of frames before F may still use it (R46). -/
structure Sets where
  green : CanvasSet
  bright : CanvasSet
  validated : Option CanvasSet
  mapAbsent : Bool
  check : Option CheckRun
  validation : Option CheckRun
  rack : Rack
  slotA : Slot
  slotB : Slot
  savePending : Option Nat
  saving : Option (Nat × CanvasSet)
  loading : Option Nat
  bootRackDue : Bool
  old : List (Nat × CanvasSet)
  deriving DecidableEq, Repr

/-! ### Strel sessions and the CAN path (chapter 2) -/

/-- A DOMAIN transfer in progress (R35). -/
structure Transfer where
  code : Nat
  row : Nat
  data : Bytes
  deriving DecidableEq, Repr

/-- A provisional session: HELLO answered, PROOF awaited (R53). -/
structure Provisional where
  id : Nat
  role : Role
  slot : Nat
  cn : Bytes
  dn : Bytes
  peer : Peer
  deadline : Nat
  deriving DecidableEq, Repr

/-- An open Strel session (R53 to R58, R422, R428). `row` is its row of SET_SESSION_INFO, `rowSelect` its ROW_SELECT values by index (R34), `lastSeq` is E of R56, `kept` the kept response (opcode, flags,
status, payload), `keys` the 96 bytes KM of R55, `ks` the access key and `salt` CN followed by DN (R422). -/
structure Session where
  id : Nat
  row : Nat
  role : Role
  slot : Nat
  peer : Peer
  lastSeq : Nat
  kept : Option (Nat × Nat × Nat × Bytes)
  keys : Bytes
  ks : Bytes
  salt : Bytes
  idleDeadline : Nat
  classes : Nat
  noticeSeq : Nat
  rowSelect : Table Nat
  transfer : Option Transfer
  attNonce : Option Bytes
  attReport : Bytes
  heldW0 : Table Nat
  heldUntil : Table Nat
  deriving DecidableEq, Repr

/-- Failures of a role's key slot within the last 60 s, and the end of its lock (R54). -/
structure AuthSlot where
  fails : List Nat
  lockedUntil : Option Nat
  deriving DecidableEq, Repr

/-- The Strel unit: whether it is open (Table 18-11), provisional and open sessions, newest last, and the key slots' failures by role code × 4 + slot. -/
structure Strel where
  listening : Bool
  provisional : List Provisional
  sessions : List Session
  auth : Table AuthSlot
  deriving DecidableEq, Repr

/-- CAN NMT states (R61); `disabled` is NODE_ID 0 (R59). -/
inductive NmtState where
  | disabled | preOperational | operational | stopped
  deriving DecidableEq, Repr

/-- The CAN path: NMT state, role, time of the last USDO request, nonce with its deadline, rows selected (by index), held calendar words, last EMCY and heartbeat, the data rate in
force, attestation nonce and last report (R59 to R63, R428). -/
structure Can where
  nmt : NmtState
  role : Role
  lastRequest : Nat
  nonce : Option (Bytes × Nat)
  rowSelect : Table Nat
  heldW0 : Table Nat
  heldUntil : Table Nat
  lastEmcy : Option Nat
  lastHeartbeat : Nat
  dataRate : Nat
  attNonce : Option Bytes
  attReport : Bytes
  deriving DecidableEq, Repr

/-! ### The Timebase (chapter 3) -/

/-- Timebase states, Table 3-1. -/
inductive TbsState where
  | free | acquiring | locked | holdover
  deriving DecidableEq, Repr

/-- A raster: rate num/den, total lines Lt, and the anchor (nk, Fk) (R72). -/
structure Raster where
  num : Nat
  den : Nat
  lt : Nat
  nk : Nat
  fk : Nat
  deriving DecidableEq, Repr

/-- A gap of the raster (R75, R76, R78): the canvas time it reads, the device time at which it ends, and the raster
that follows. -/
structure Gap where
  reads : CTime
  fromNs : Nat
  untilNs : Nat
  next : Raster
  deriving DecidableEq, Repr

/-- A raster that a re-anchoring has ended (R75): the gap after it, with the canvas time it reads, and the first frame of the next
one. -/
structure PastRaster where
  raster : Raster
  reads : CTime
  fromNs : Nat
  untilNs : Nat
  frame : Nat
  deriving DecidableEq, Repr

/-- The selected PTP master: port it is heard on, identity (10 bytes as a number), priority vector (lower is better),
announce and Sync intervals in ns, last Announce, when it was selected. -/
structure Master where
  port : Nat
  identity : Nat
  rank : Nat
  announceNs : Nat
  syncNs : Nat
  lastAnnounce : Nat
  since : Nat
  deriving DecidableEq, Repr

/-- The Timebase: state and canvas lock (Table 3-1, R68); device time as `base` at running time `baseAt` with frequency
`freq` in 2^-16 ppb (R66); the raster and a gap; the time-of-day condition of R70 (`todWritten`, `todWaitFrom`); the
reference: time of TBS_SOURCE's last write, last valid event, runs of good and bad measurements; PTP: master, a
two-step Sync waiting for its Follow_Up (sequence, receive time, sent time), a Delay_Req in flight (sequence, sent
time), last Sync's difference, next sequence, last Delay_Req; a step to apply at the frame after the aligned index beside it (R78); frequencies of
the last 64 s (R67); when holdover began; the rasters before the last anchors, oldest first (R74); the running time at which a slew of the time
of day ends and the frequency it returns to (R70); whether PTP is heard on the backup port (R65); the 8 ns tick of the last
firing of the calendar and how many entries fired on it (R82). -/
structure Timebase where
  state : TbsState
  canvasLock : Bool
  base : Nat
  baseAt : Nat
  freq : Int
  raster : Raster
  gap : Option Gap
  todWritten : Bool
  todWaitFrom : Option Nat
  sourceAt : Nat
  lastValid : Nat
  goodRun : Nat
  badRun : Nat
  master : Option Master
  syncWait : Option (Nat × Nat × Nat)
  delayWait : Option (Nat × Nat)
  syncDiff : Int
  delaySeq : Nat
  lastDelayReq : Nat
  stepPending : Option (Int × Nat)
  freqLog : List (Nat × Int)
  holdoverFrom : Nat
  prior : List PastRaster
  slewEnd : Option (Nat × Int)
  ptpBackup : Bool
  calTick : Nat × Nat
  deriving DecidableEq, Repr

/-! ### Cellar Watch (chapter 16) -/

/-- A first-error latch: the message with the low 32 bits of its TIME80 seconds and its nanoseconds, and the overflow
bit (R391). -/
structure Latch where
  held : Option (FaultMsg × Nat)
  overflow : Bool
  deriving DecidableEq, Repr

/-- One of the 64 recently recorded (SOURCE, KIND) pairs: time of its last record, and whether a message was coalesced
since (R392). -/
structure Recorded where
  source : Nat
  kind : Nat
  at_ : Nat
  coalesced : Bool
  deriving DecidableEq, Repr

/-- The collector: latches, recorded pairs newest first, the fault line served last (R385), SAFE and its cause, the
signal to the SAFE logic (R394), unacknowledged classes and COLLECTOR_SELF (R399), failed self-tests in a row, the
last self-test, and an armed force (code, target) of R397. -/
structure Cellar where
  realLatch : Latch
  injLatch : Latch
  recorded : List Recorded
  lastLine : Nat
  safe : Bool
  safeCause : Option (FaultMsg × Nat)
  safeSignal : Option FaultMsg
  unacked : List Nat
  selfUnacked : Bool
  selftestFails : Nat
  lastSelftest : Nat
  force : Option (Nat × Nat)
  deriving DecidableEq, Repr

/-- One target of the interrupt controller: priority stack, claimed sources, mask and storm words, when a storm mask
was set, and recent claims of a source (R401 to R405). -/
structure IcuTarget where
  stack : List Nat
  claimed : List Nat
  mask : Table Nat
  storm : Table Nat
  stormAt : Nat
  claims : Table (List Nat)
  deriving DecidableEq, Repr

/-- The interrupt controller: Maltster A and B and EXTERNAL, the sources routed to EXTERNAL that the firmware's last
poll found asserted (R400), and sources whose event the firmware has not served. -/
structure Icu where
  maltsterA : IcuTarget
  maltsterB : IcuTarget
  external : IcuTarget
  polled : List Nat
  deriving DecidableEq, Repr

/-- A Brew Log record, Table 16-9; `time` is its TIME80 as one number of 80 bits. -/
structure BrewRec where
  seq : Nat
  ctime : CTime
  time : Nat
  source : Nat
  event : Nat
  flags : Nat
  args : Nat
  deriving DecidableEq, Repr

/-- The record of all zeros. -/
def BrewRec.zero : BrewRec := ⟨0, ⟨0, 0⟩, 0, 0, 0, 0, 0⟩

/-- The Brew Log: ring by slot, next SEQ, log line served last, the checkpoint ring in the Cask oldest record first,
the last SEQ checkpointed in this run, the time of the last checkpoint and whether the last one failed, whether one is
due at once, and the slots that hold an uncorrectable word (R408 to R411). -/
structure BrewLog where
  ring : Table BrewRec
  nextSeq : Nat
  lastLine : Nat
  ckpt : List BrewRec
  ckptSeq : Nat
  lastCkpt : Nat
  ckptFailed : Bool
  ckptDue : Bool
  badSlots : List Nat
  bootCount : Nat
  deriving DecidableEq, Repr

/-! ### Sparge, Kegs, wort lines (chapter 15) -/

/-- Sparge channel states, Table 15-5. -/
inductive SpargeState where
  | idle | run | waitReq | retry | halted | done
  deriving DecidableEq, Repr

/-- A Sparge burst that has issued: whether it writes, its length and its bytes. -/
structure Burst where
  write : Bool
  data : Bytes
  deriving DecidableEq, Repr

/-- A Sparge channel (R360 to R368): state, the descriptor's eight words, bytes read and written, the funnel's bytes,
the burst issued last, retries left, when that burst failed, consecutive decisions that passed the channel over,
whether its completion interrupt stands, and how its last descriptor ended, by SPG_DIAG_STATUS's codes (0 none,
2 done, 3 FORMAT, 4 halted, 5 aborted). -/
structure SpargeChannel where
  state : SpargeState
  words : List Nat
  readPos : Nat
  writePos : Nat
  funnel : Bytes
  flight : Option Burst
  retriesLeft : Nat
  failedAt : Nat
  passed : Nat
  interrupt : Bool
  ended : Nat
  deriving DecidableEq, Repr

/-- The Sparge: channels, and the channel issued last. -/
structure Sparge where
  channels : Table SpargeChannel
  lastIssued : Nat
  deriving DecidableEq, Repr

/-- An allocation request at a pool: its requester (the port, and 8 times the Tun on port 0), the pool it competes for, whether it may
spill, whether it came there by a spill, and the cycle from which on it competes (R371, R372); the pool it asked first, and when it was
first made (R373). -/
structure KegReq where
  port : Nat
  pool : Nat
  spill : Bool
  spilled : Bool
  since : Nat
  first : Nat
  born : Nat
  deriving DecidableEq, Repr

/-- The Keg: use counts by handle, withdrawn groups of 16 buffers (handle / 16), the port and the Tun each pool granted last, the
time of each pool's last POOL_DRY report, the requests that compete for a pool, in the order they came, and each pool's free
buffers over the last second as (since when, free) (R371 to R375). -/
structure Keg where
  uses : Table Nat
  withdrawn : List Nat
  lastPort : Table Nat
  lastTun : Table Nat
  lastDry : Table Nat
  waiting : List KegReq
  levels : Table (List (Nat × Nat))
  deriving DecidableEq, Repr

/-- A message on a wort line: its words, whether it is a marker (MK), and whether an entry of it is uncorrectable. -/
structure WortMsg where
  words : List Nat
  marker : Bool
  bad : Bool
  deriving DecidableEq, Repr

/-- A wort line (R376 to R380): messages oldest first, messages whose producer waits for credit, words of the first
message already popped, messages dropped in the present run, WRT_FLUSH, messages discarded by the flush in force, the
time of its last GAP_DROP report, and its fills over the last second as (since when, fill). -/
structure WortLine where
  msgs : List WortMsg
  waiting : List WortMsg
  popped : Nat
  dropRun : Nat
  flushing : Bool
  flushed : Nat
  lastGapDrop : Option Nat
  levels : List (Nat × Nat)
  deriving DecidableEq, Repr

/-! ### The Compositor (chapter 4) -/

/-- An entry of a Steep ring or a line of a frame buffer: its tag (ts, j), bytes received, and the bytes by offset in
the line (R92, R95). -/
structure LineEntry where
  ts : Nat
  line : Nat
  received : Nat
  data : Table Byte
  deriving DecidableEq, Repr

/-- A flow (R91, R92, R95, R105): ring by entry, the highest accepted extended sequence number and the accepted ones of
the window, the three frame buffers (buffer × 65,536 + line), status, consecutive frames with a missing line, from which
canvas frame its slots are hidden, and for the canvas frame in progress: that frame, whether a needed line was found present,
and missing. -/
structure Flow where
  ring : Table LineEntry
  top : Option Nat
  accepted : List Nat
  buffers : Table LineEntry
  status : Nat
  missRun : Nat
  hideFrom : Option Nat
  frame : Nat
  anyPresent : Bool
  anyMissing : Bool
  deriving DecidableEq, Repr

/-- A CTU row in composition (R94, R103): frame, aligned index, row, the lines found present (flow, line), which stay
pinned, the missing ones (slot, source line), the CTU columns written so far, the slots whose line buffer reported a parity
error, the CTU columns counted as lost, and the line boundaries since the sample line. -/
structure RowWork where
  frame : Nat
  index : Nat
  row : Nat
  pinned : List (Nat × Nat)
  missing : List (Nat × Nat)
  written : Nat
  parity : List Nat
  lost : List Nat
  lines : Nat
  deriving DecidableEq, Repr

/-- A canvas in the coded format: sample values by y × 65,536 + x of each component's own grid; an unlisted sample is
black (R19). -/
structure Planes where
  y : Table Nat
  cb : Table Nat
  cr : Table Nat
  deriving DecidableEq, Repr

/-- A still (R100): its allocation in bytes (0: none), whether its data is complete, and the data. -/
structure Still where
  allocated : Nat
  valid : Bool
  data : Bytes
  deriving DecidableEq, Repr

/-- The Compositor: flows, rows in composition, the canvas being composed (with the held canvas in rows not yet composed)
and the held canvas, the frame being composed, the row whose sample point is next, bytes of raw-egress groups by g that no
packet carries yet (R108), segments (s × 65,536 + y) of it whose source-integrity flag is 0 (R106), and
those with pixels that Fining concealed (R236), the stills, CMP_AREA_MIB in force, and what a rack to the frame named empties
once the composition of earlier frames is complete: flows, decode streams with their next state, and whether the held canvas
turns black (R96, R104, R272). -/
structure Compositor where
  flows : Table Flow
  rows : List RowWork
  composing : Planes
  held : Planes
  frame : Option Nat
  nextRow : Nat
  rawTail : Table Bytes
  integrityLost : List Nat
  concealed : List Nat
  stills : Table Still
  areaMib : Nat
  rackFrame : Option Nat
  emptyFlows : List Nat
  resetStreams : List (Nat × Nat)
  blacken : Bool
  deriving DecidableEq, Repr

/-! ### Packets -/

/-- A packet that the Assembler, Compositor or Taproom built, on its way to a tap (R213 to R224): stream (s, 4,096
canvas, 4,097 + g raw), picture frame and aligned index, ES, nanoseconds after the launch line of a raw packet (R306;
none for a coded one), launch line (R305),
its bytes from the RTP header on with the canvas-time element still to be written at `ctAt` (0: none), gap count
(0: no gap marker) and cause, the lengths of the packets of a dropped run, each of which keeps its place (R305), and its
Keg handles. -/
structure Pkt where
  stream : Nat
  frame : Nat
  index : Nat
  es : Nat
  rawNs : Option Nat
  launch : Nat
  payload : Bytes
  ctAt : Nat
  gapCount : Nat
  gapCause : Nat
  chain : List Nat
  kegs : List Nat
  deriving DecidableEq, Repr

/-! ### The coded stream (chapter 5) -/

/-- An extracted or canvas stream (Table 5-9): whether it pauses until a GDR picture (R131), whether it has sent its
first access unit, whether its parameter sets, PPS or SEI are due in the next access unit, and whether its CVS ends
with the access unit of the frame named; the picture, by serial number, from which what is due is due; the first picture of the last change and
whether it was sending before. -/
structure StreamState where
  active : Bool
  paused : Bool
  spsDue : Bool
  ppsDue : Bool
  duePic : Nat
  endAfter : Option Nat
  changePic : Nat
  before : Bool
  deriving DecidableEq, Repr

/-- What a reference slot of the picture store holds (R129, R141, R156, R334): the serial number of its picture (none: nothing), its
reconstruction in the coded format, how many luma rows of each entry are final, counted from the top of the subpicture, and how
each CTU was coded, by segment (s × 65,536 + y). -/
structure Recon where
  pic : Option Nat
  planes : Planes
  rows : Table Nat
  forms : Table (List CtuForm)
  deriving DecidableEq, Repr

/-- An empty slot. -/
def Recon.empty : Recon := { pic := none, planes := { y := [], cb := [], cr := [] }, rows := [], forms := [] }

/-- An entry of reference list 0 (R128, R129, R347): the constant 512, a slot, or a picture no longer in memory. -/
inductive RefPic where
  | const
  | slot (k : Nat)
  | gone
  deriving DecidableEq, Repr

/-- Coding: whether a coding start has happened since the bright set has a canvas, the next picture's N and serial number (the
model's own, which a coding start does not begin anew), the serial number of the first picture since the coding start, N of the last committed picture, the streams by s (4,096: the canvas stream), and the reference slots by number: 0 and 1 of group 0, 2 and 3
of group 1 (R128, R131, R332, R334). -/
structure Coding where
  started : Bool
  nextN : Nat
  nextPic : Nat
  firstPic : Nat
  lastN : Nat
  streams : Table StreamState
  recon : Table Recon
  deriving DecidableEq, Repr

/-! ### Tuns (chapter 6) -/

/-- Tun states, Table 6-11. -/
inductive TunState where
  | gated | selftest | ready | encode | decode | draining | failed | retired
  deriving DecidableEq, Repr

/-- TUN_STATE's codes. -/
def TunState.code : TunState → Nat
  | .gated => 0 | .selftest => 1 | .ready => 2 | .encode => 3 | .decode => 4 | .draining => 5 | .failed => 6
  | .retired => 7

/-- Attention events, Table 6-10. -/
inductive Attn where
  | abort | respare | context | recall
  deriving DecidableEq, Repr

/-- A Tun's task and what its assignment record carries (R138, R156, R198, R200): an encode segment (s, y) of frame F and its
picture's serial number, or a
decode work item (stream s, item y, picture F); its ticket, patch bank, effort and the version of the bright set; the Rake's k
and P and the sweeps of s as (period, index); what the record and the memories give the recipe (with avail, later and spent of
Gravity); whether it is poisoned; Keg handles it holds; CTUs; when it started; CTUs whose reconstruction is staged, and slice bytes sent to
OUTQ (R156). -/
structure Task where
  isDecode : Bool
  pic : Nat
  s : Nat
  y : Nat
  frame : Nat
  ticket : Nat
  bank : Nat
  effort : Nat
  version : Nat
  k : Nat
  p : Nat
  sweeps : List (Nat × Nat)
  input : SegInput
  poisoned : Bool
  kegs : List Nat
  ctus : Nat
  startedAt : Nat
  staged : Nat
  sent : Nat
  deriving DecidableEq, Repr

/-- A commit record waiting for its verdict (R156, R227, R229): Tun, ticket, slice NAL unit as written, the length that the
recipe counted, what else it counted (spent
flag, trims, planar forms), the forms of its CTUs and their traces, the Taster lane that checks it, and when its taste window
ends. -/
structure CommitRec where
  tun : Nat
  ticket : Nat
  slice : Bytes
  length : Nat
  spent : Bool
  trims : Nat
  floors : Nat
  forms : List CtuForm
  traces : List Nat
  lane : Option Nat
  windowEnd : Nat
  deriving DecidableEq, Repr

/-- R155: what CONTEXT preloads: version of the bright set, effort, CSP_CHROMA, and the W address of the Floor Map copy (R326).
LAMBDA is a constant (TUN_LAMBDA). -/
structure TunContext where
  version : Nat
  effort : Nat
  chroma : Nat
  map : Nat
  deriving DecidableEq, Repr

/-- A Tun: state, current step, call stack, loop counters, scalar and vector registers (S by number, V from 64), task,
posted attention, running time of the last YIELD step or task start, whether the hardware stopped its sequencer; since when
it is READY; BIST: when it began, why (0 start-up, 1 rotation, 2 request, 3 fault), whether the Tun ran it from FAILED or
RETIRED, a queued request, result, failing phase, end of the last one in device time and the last PASS in running time; a
commit record whose slice bytes wait for Keg buffers, and when the last request failed (R157); the condition groups that units
set (R148), the local SRAM by 64-bit word (R140), the depth of the call stack in the attention handler (none: not in it), the BIST phase whose
registers were cleared last, and what CONTEXT preloaded (R155). -/
structure Tun where
  state : TunState
  cur : Nat
  stack : List Nat
  lc : List Nat
  regs : Table Nat
  task : Option Task
  attn : List Attn
  yieldAt : Nat
  stopped : Bool
  readyAt : Nat
  bistFrom : Option Nat
  bistWhy : Nat
  bistHeld : Bool
  bistPending : Bool
  bistResult : Nat
  bistPhase : Nat
  bistEnd : Nat
  lastPass : Option Nat
  outq : Option CommitRec
  kegWait : Option Nat
  cond : Table Nat
  sram : Table Nat
  handling : Option Nat
  bistStage : Nat
  context : TunContext
  deriving DecidableEq, Repr

/-- A patch bank: match registers, steps and grains; all empty leaves the ROM unpatched (R150, R151). -/
structure PatchBank where
  patchId : Nat
  digest : Bytes
  matches_ : List Nat
  steps : List Nat
  grains : List Nat
  svn : Nat
  auto_ : Bool
  deriving DecidableEq, Repr

/-- The empty bank. -/
def PatchBank.empty : PatchBank := ⟨0, [], [], [], [], 0, false⟩

/-- A scheduled patch switch: target T, frame F, the bank to load, agreed with the partner or still waiting. -/
structure PatchSwitch where
  frame : Nat
  bank : PatchBank
  agreed : Bool
  deriving DecidableEq, Repr

/-- The Tun Array: Tuns, the two banks of every Tun (the Maltster's copies), the bank in use, the staged image,
TUN_PATCH_STATUS, result and frame, a scheduled switch and one that waits for its old frame's last commit, and the
patch image kept in the Cask (R151 to R153). -/
structure TunArray where
  tuns : Table Tun
  bank0 : PatchBank
  bank1 : PatchBank
  inUse : Nat
  staged : Option PatchBank
  patchStatus : Nat
  patchResult : RackResult
  patchFrame : Nat
  switch : Option PatchSwitch
  switchTail : Option Nat
  persisted : Option PatchBank
  deriving DecidableEq, Repr

/-! ### The Dispatcher (chapter 7) -/

/-- A segment (s, y) of the picture of frame F, by its serial number, that has not committed (R164 to R175): its X0, width and booked cycles. With `ticket` it is CODING, or LATE
where SEGMENT_LATE was reported; without one WAITING or READY (Table 7-3). Whether the Compositor reported it composed;
fallback and respared class; line boundaries to its deadline (R165), and since it became a fallback; poisonings; ticket and
its Tun; whether its fallback has failed and been reported; source-integrity flag (R106) and ANOM (R236). -/
structure SegRec where
  pic : Nat
  s : Nat
  y : Nat
  frame : Nat
  x0 : Nat
  w : Nat
  booked : Nat
  late : Bool
  composed : Bool
  fallback : Bool
  respared : Bool
  count : Int
  sinceFallback : Nat
  poisons : Nat
  ticket : Option Nat
  tun : Nat
  failed : Bool
  si : Bool
  anom : Nat
  deriving DecidableEq, Repr

/-- A picture in coding (R128, R190, R198): its serial number, frame F, aligned index n, N, Rake index k and period P, whether GDR, effort,
patch bank, version of the bright set, the slot it is written to and its reference list 0 (R129, R334), the sweeps of its
entries as (period, index) and their refresh columns by s (R191, R204), how many segments it has and which committed
(s × 65,536 + y), Gravity's used and spent by s. -/
structure Picture where
  pic : Nat
  frame : Nat
  index : Nat
  n : Nat
  k : Nat
  p : Nat
  gdr : Bool
  effort : Nat
  bank : Nat
  version : Nat
  slot : Nat
  refs : List RefPic
  sweeps : Table (List (Nat × Nat))
  columns : Table (List Nat)
  total : Nat
  committed : List Nat
  used : Table Nat
  spent : List Nat
  deriving DecidableEq, Repr

/-- A scheduled effort change (R181): level, frame, and whether the pair agreed on it. -/
structure EffortChange where
  level : Nat
  frame : Nat
  agreed : Bool
  deriving DecidableEq, Repr

/-- The Dispatcher: segments, pictures in coding newest first, next ticket, commits under taste; rotation: the Tuns
marked, the frame of the instant before, the last Tun rotated, a Tun to choose again, the frame of the next instant; the SPARES_EXHAUSTED and CAPACITY_LOW states;
effort in force, changes pending by frame, whether a raise is held, cap, frame of the last change, the governor's state and
since when Tj has allowed a raise; slacks of the last second's commits as (running time,
lines); used / cap in permille of the last second's pictures by s; the bright Floor Map words found uncorrectable, as (frame,
row), until the frame after, from which on the rewritten word is used (R31). -/
structure Dispatcher where
  segs : List SegRec
  pictures : List Picture
  nextTicket : Nat
  commits : List CommitRec
  rotating : List Nat
  rotatedAt : Nat
  lastRotated : Nat
  retryTun : Option Nat
  rotateAt : Option Nat
  sparesExhausted : Bool
  capacityLow : Bool
  effort : Nat
  effortPending : List EffortChange
  effortHeld : Bool
  effortCap : Nat
  effortFrame : Nat
  govState : Nat
  govCoolFrom : Option Nat
  slacks : List (Nat × Int)
  peaks : Table (List (Nat × Nat))
  badWords : List (Nat × Nat)
  deriving DecidableEq, Repr

/-! ### Gravity and the Rake (chapter 8) -/

/-- Nudge states, Table 8-3. -/
inductive NudgeState where
  | idle | scheduled | active | queued
  deriving DecidableEq, Repr

/-- The nudge of an entry: state, Fn scheduled or queued, agreed with the partner, Fs and period P of the active sweep,
the index j of its present picture, whether the calendar entry of the start has fired, and the frame of picture P − 1. -/
structure Nudge where
  state : NudgeState
  fn : Nat
  agreed : Bool
  fs : Nat
  p : Nat
  j : Nat
  taken : Bool
  last : Option Nat
  deriving DecidableEq, Repr

/-- The Rake: k and P of the picture started last, F of the last GDR picture, whether a period must start, nudges by
entry, entries that have no sweep until the next period start (R207), entries left inexact (R203). -/
structure Rake where
  k : Nat
  p : Nat
  periodStart : Nat
  kCommitted : Nat
  nudges : Table Nudge
  noSweep : List Nat
  inexact : List Nat
  deriving DecidableEq, Repr

/-! ### Assembler and Taster (chapter 9) -/

/-- A stream's assembly: next ES (R219), whether ES has started and the picture, by serial number, from which on it starts anew, and the open access
unit: its picture and how many slices it holds so far, and whether its packets are dropped (R211). -/
structure AsmStream where
  es : Nat
  started : Bool
  restart : Option Nat
  auPic : Option Nat
  auSlices : Nat
  lost : Bool
  deriving DecidableEq, Repr

/-- An accepted commit on its way to packets (R210): its picture's serial number, segment, picture, slice bytes, source-integrity and fallback flags,
Keg handles; its ANOM of R236, how its templates read (R211: 1 one copy uncorrectable, 2 both), digest, until when it waits for the partner (R240, none: no wait), whether it may be emitted, and whether
the extracted stream and the canvas stream have emitted it. -/
structure AccSeg where
  pic : Nat
  s : Nat
  y : Nat
  frame : Nat
  index : Nat
  n : Nat
  gdr : Bool
  p : Nat
  slice : Bytes
  si : Bool
  fb : Bool
  kegs : List Nat
  anom : Nat
  ecc : Nat
  digest : Bytes
  holdUntil : Option Nat
  released : Bool
  subSent : Bool
  canvasSent : Bool
  deriving DecidableEq, Repr

/-- A packet to be built (R210, R225): its tap, its segment or group by a number of its own, whether its access unit's
templates are lost (R211), and the packet. -/
structure OutPkt where
  tap : Nat
  group : Nat
  lost : Bool
  pkt : Pkt
  deriving DecidableEq, Repr

/-- A Taster lane: state 0 in service, 1 testing, 2 retired; tickets bound to its contexts; segments (s, y, F) it
reported a mismatch for; since when it tests. -/
structure Lane where
  state : Nat
  bound : List Nat
  reported : List (Nat × Nat × Nat)
  testFrom : Nat
  deriving DecidableEq, Repr

/-- Assembler and Taster: streams by s (4,096 canvas), accepted commits oldest first, packets to build in order and
since when the first of them lacks a Pin, complete picture hashes as (stream, picture, hashes of the components) (R212), lanes,
bits tasted and untasted in the present second and when it began, and the coverage last logged. -/
structure Assembler where
  streams : Table AsmStream
  accepted : List AccSeg
  outbox : List OutPkt
  dry : Option Nat
  dryAt : Nat
  hashes : List (Nat × Nat × Bytes)
  lanes : Table Lane
  tasted : Nat
  untasted : Nat
  secondFrom : Nat
  coverage : Nat
  deriving DecidableEq, Repr

/-! ### The Link Fabric (chapter 12) -/

/-- Port states, Table 12-4. -/
inductive PortState where
  | disabled | an | training | align | hold | up | down
  deriving DecidableEq, Repr

/-- A port, or the management port (96), which has no lanes (R281 to R290): state, last cause, when it entered the
state; whether the present run of failures is reported; FAILOVER and RETIRE reactions in force until EN is written
again (Table 16-4); frames the punt limit still allows and since when; duplicate address detection since, and the
addresses in use ([0] link-local, [1] global); the default IPv6 router; the end of the last FEC window; until when an older
querier counts as present: IGMPv1, IGMPv2, MLDv1 (R289). -/
structure Port where
  state : PortState
  cause : Nat
  since : Nat
  reported : Bool
  forcedOver : Bool
  heldDown : Bool
  puntTokens : Nat
  puntAt : Nat
  dadFrom : Option Nat
  inUse : Nat
  router6 : Nat
  fecAt : Nat
  igmp1Until : Nat
  igmp2Until : Nat
  mld1Until : Nat
  deriving DecidableEq, Repr

/-- A port at rest. -/
def Port.idle : Port :=
  { state := .disabled, cause := 0, since := 0, reported := false, forcedOver := false, heldDown := false,
    puntTokens := 64000000000, puntAt := 0, dadFrom := none, inUse := 0, router6 := 0, fecAt := 0,
    igmp1Until := 0, igmp2Until := 0, mld1Until := 0 }

/-- A resolved next hop (R290): port, next-hop address, its MAC address, failed refreshes in a row. -/
structure Hop where
  port : Nat
  addr : Nat
  mac : Nat
  fails : Nat
  deriving DecidableEq, Repr

/-- A multicast membership the firmware reports (R289): port, IP version 6, group, INCLUDE source or none for EXCLUDE. -/
structure Membership where
  port : Nat
  v6 : Bool
  group : Nat
  source : Option Nat
  deriving DecidableEq, Repr

/-- A policer's buckets in 1/8,000,000 byte and its last instant (R293). -/
structure Policer where
  tc : Int
  tp : Int
  last : Int
  deriving DecidableEq, Repr

/-- A membership report still to be repeated (R289, robustness 2): the membership, whether it is a leave, copies left,
and when the next is due. -/
structure GroupReport where
  member : Membership
  leave : Bool
  left : Nat
  due : Nat
  deriving DecidableEq, Repr

/-- The Link Fabric: ports by number (96 the management port), lane tests by lane (0 none) and since when each runs (R280), the
taps that link training set, by lane (R279), next hops, when they were
resolved last and whether they are due at once, memberships and reports to repeat, policers, punted frames as
(port, frame), and whether the management MAC has an event the firmware has not served (interrupt source 238). -/
structure Links where
  ports : Table Port
  prbs : Table Nat
  prbsFrom : Table Nat
  taps : Table LaneTaps
  hops : List Hop
  resolvedAt : Nat
  resolveDue : Bool
  members : List Membership
  reports : List GroupReport
  policers : Table Policer
  punted : List (Nat × Bytes)
  mgEvent : Bool
  deriving DecidableEq, Repr

/-! ### Packets and the Taproom (chapters 9 and 13) -/

/-- A packet in a class queue of a tap (R308): charge, scheduled departure v, its LINE and NS, when it was offered,
which paths have passed it, whether its descriptor lies in the queue's Firkins (a marker's is the tap's reserved one, R310),
whether a path sent it, when it left its last path, and when a NACK last copied it. -/
structure TapPkt where
  pkt : Pkt
  charge : Nat
  v : Nat
  line : Nat
  ns : Nat
  offered : Nat
  doneA : Bool
  doneB : Bool
  slot : Bool
  sent : Bool
  departed : Nat
  copied : Option Nat
  deriving DecidableEq, Repr

/-- A class queue (R308): packets oldest first, the Firkins that hold their descriptors, descriptors released from the
first one and held in the last one. -/
structure TapQueue where
  pkts : List TapPkt
  firkins : List Nat
  head : Nat
  tail : Nat
  deriving DecidableEq, Repr

/-- The empty queue. -/
def TapQueue.empty : TapQueue := { pkts := [], firkins := [], head := 0, tail := 0 }

/-- One path of a tap: the pacer bucket of its actual departures (R307) and the classes whose head is eligible
(R313; 0 VIDEO, 1 REPAIR, 2 CONTROL, 3 MONITOR). -/
structure TapPath where
  tokens : Nat
  last : Nat
  eligible : List Nat
  deriving DecidableEq, Repr

/-- A tap: queues by class, window oldest first (R317), whether its pacer has started and the frame whose first packet restarts it, tk, tr and vlast of R304, its
paths (A, B, monitor), the repair bucket, (kind, frame) pairs reported and drops by frame (R322), newest ES queued, ES at its start, the ES after the last packet built, RTP payload
octets up to there (R320), and the frame of its last sender report. -/
structure Tap where
  video : TapQueue
  repair : TapQueue
  control : TapQueue
  monitor : TapQueue
  window : List TapPkt
  started : Bool
  restart : Option Nat
  tk : Int
  tr : Int
  vlast : Nat
  pathA : TapPath
  pathB : TapPath
  pathM : TapPath
  repairTk : Nat
  repairAt : Nat
  reported : List (Nat × Nat)
  drops : List (Nat × Nat)
  newest : Option Nat
  startEs : Option Nat
  builtEs : Nat
  octets : Nat
  srFrame : Option Nat
  deriving DecidableEq, Repr

/-- A path with a full bucket of 0, nothing eligible. -/
def TapPath.idle : TapPath := { tokens := 0, last := 0, eligible := [] }

/-- A tap at rest. -/
def Tap.idle : Tap :=
  { video := TapQueue.empty, repair := TapQueue.empty, control := TapQueue.empty, monitor := TapQueue.empty,
    window := [], started := false, restart := none, tk := 0, tr := 0, vlast := 0, pathA := TapPath.idle, pathB := TapPath.idle,
    pathM := TapPath.idle, repairTk := 0, repairAt := 0, reported := [], drops := [], newest := none, startEs := none,
    builtEs := 0, octets := 0, srFrame := none }

/-- A head of a path on the calendar wheel, or beyond its rotation (R313): instant, tap, path (0 A, 1 B, 2 monitor),
class, and whether it is placed. -/
structure WheelEntry where
  due : Nat
  tap : Nat
  path : Nat
  cls : Nat
  placed : Bool
  deriving DecidableEq, Repr

/-- A port's scheduler (R315, R316): active paths (tap × 4 + path) by class (4: flat mode), paths that wait to become
active by class, deficits by class × 65,536 + path, class buckets by class and when they were filled last, until
when a packet occupies the wire, the path and class whose packet starts next, whether the port idles for want of tokens, active paths over the last second. -/
structure PortSched where
  active : Table (List Nat)
  waiting : Table (List Nat)
  dc : Table Nat
  tokens : Table Nat
  filledAt : Nat
  busyUntil : Nat
  chosen : Option (Nat × Nat)
  idle : Bool
  levels : List (Nat × Nat)
  deriving DecidableEq, Repr

/-- A scheduler at rest. -/
def PortSched.empty : PortSched :=
  { active := [], waiting := [], dc := [], tokens := [], filledAt := 0, busyUntil := 0, chosen := none, idle := false, levels := [] }

/-- The Taproom: the addresses of descriptor words found uncorrectable (R308, R322), taps, packets a producer holds for a tap as (tap, packet) oldest first, the wheel, when it was scanned
last, and the ports' schedulers. -/
structure Taproom where
  badWords : List Nat
  taps : Table Tap
  offers : List (Nat × Pkt)
  wheel : List WheelEntry
  scannedAt : Nat
  ports : Table PortSched
  deriving DecidableEq, Repr

/-! ### Twin operation (chapter 10) -/

/-- Twin states, Table 10-8. -/
inductive TwinState where
  | off | pairing | joining | paired | silenced | solo
  deriving DecidableEq, Repr

/-- TWN_STATE's codes. -/
def TwinState.code : TwinState → Nat
  | .off => 0 | .pairing => 1 | .joining => 2 | .paired => 3 | .silenced => 4 | .solo => 5

/-- A digest record, R239; of a partner's record, whether the partner emitted when it arrived (R241). -/
structure DigestRec where
  frame : Nat
  s : Nat
  y : Nat
  flags : Nat
  anom : Nat
  d : Bytes
  emitted : Bool
  deriving DecidableEq, Repr

/-- A proposal (R246, Table 10-6): the sender's EPOCH, PID, kind, subject, F, ARG, digest and STILLS; when it was last sent. -/
structure Proposal where
  epoch : Nat
  pid : Nat
  kind : Nat
  subj : Nat
  f : Nat
  arg : Nat
  digest : Bytes
  stills : Bytes
  sentAt : Nat
  deriving DecidableEq, Repr

/-- An answer given to a PID of an EPOCH (R246). -/
structure Answer where
  epoch : Nat
  pid : Nat
  kind : Nat
  verdict : Nat
  reason : Nat
  f : Nat
  arg : Nat
  deriving DecidableEq, Repr

/-- The last HEARTBEAT of the partner (Table 10-3) with the sender's STATE, ROLE and frame. -/
structure Heart where
  state : Nat
  role : Nat
  frame : Nat
  picN : Nat
  bright : Bytes
  patchId : Nat
  effort : Nat
  tbs : Nat
  flags : Nat
  stills : Bytes
  deriving DecidableEq, Repr

/-- The comparison of a picture's records (R245): its frame, how many matched, whether one was unequal or missing, and
whether an unequal one has been reported (R251). -/
structure PicMatch where
  frame : Nat
  matched : Nat
  bad : Bool
  reported : Bool
  deriving DecidableEq, Repr

/-- An entry record of SYNC (R249). -/
structure SyncEntry where
  s : Nat
  stream : Nat
  nudge : Nat
  es : Nat
  f : Nat
  j : Nat
  deriving DecidableEq, Repr

/-- The 44-byte state of SYNC with FJ (R249). -/
structure SyncState where
  fj : Nat
  n : Nat
  nk : Nat
  fk : Nat
  k : Nat
  p : Nat
  effort : Nat
  effPend : Nat
  effF : Nat
  patchId : Nat
  canvasEs : Nat
  deriving DecidableEq, Repr

/-- The Twin function: state, silence cause beside MANUAL, whether MANUAL holds it silent; strap role and acting role; own EPOCH and
frame counter; the partner's EPOCH, address (broadcast before any valid frame) and last accepted SEQ; link state, last valid frame, valid heartbeats in a row while
down; the partner's last HEARTBEAT; filtered TWIN_OK_IN and the last conclusion of Table 10-7 (0 none yet); own and
partner records not yet paired, pictures compared, TWN_MATCH_RUN; failures in a row of each pair condition, since when
all have held; proposals open, held and answered, next PID; an own rejoin and the partner's (FR); last SYNC_REQ, SYNC
fragments received, whether a SYNC has been applied since the last loss; the frame from which the device transmits again (R245), the
last SEQ of an EPOCH not known (R238); when the pairing listen ends; last
HEARTBEAT sent; the segment (F, s, y) whose record a force inverted (R397); the ports of the twin link sampled at reset (255 none). -/
structure Twin where
  state : TwinState
  cause : Nat
  manual : Bool
  strap : Nat
  role : Nat
  epoch : Nat
  seq : Nat
  theirEpoch : Option Nat
  theirMac : Nat
  theirSeq : Nat
  linkUp : Bool
  lastValid : Nat
  validRun : Nat
  heart : Option Heart
  okIn : Bool
  conclusion : Nat
  own : List DigestRec
  theirs : List DigestRec
  pics : List PicMatch
  matchRun : Nat
  pairFails : Table Nat
  pairGoodFrom : Option Nat
  proposals : List Proposal
  held : List Proposal
  answered : List Answer
  nextPid : Nat
  rejoin : Option Nat
  partnerRejoin : Option Nat
  syncReqAt : Option Nat
  sync : Option SyncState
  syncEntries : List SyncEntry
  syncNext : Nat
  syncComplete : Bool
  synced : Bool
  resumeFrom : Option Nat
  otherSeq : Option (Nat × Nat)
  listenUntil : Option Nat
  lastHeartbeat : Nat
  forcedRec : Option (Nat × Nat × Nat)
  portA : Nat
  portB : Nat
  deriving DecidableEq, Repr

/-- The Twin function at reset: OFF, alone. -/
def Twin.reset : Twin :=
  { state := .off, cause := 0, manual := false, strap := 0, role := 0, epoch := 0, seq := 0, theirEpoch := none, theirMac := 0xFFFFFFFFFFFF,
    theirSeq := 0, linkUp := false, lastValid := 0, validRun := 0, heart := none, okIn := false, conclusion := 0,
    own := [], theirs := [], pics := [], matchRun := 0, pairFails := [], pairGoodFrom := none, proposals := [],
    held := [], answered := [], nextPid := 1, rejoin := none, partnerRejoin := none, syncReqAt := none, sync := none,
    syncEntries := [], syncNext := 0, syncComplete := false, synced := false, resumeFrom := none, otherSeq := none, listenUntil := none,
    lastHeartbeat := 0, forcedRec := none, portA := 255, portB := 255 }

/-! ### Contribution decode (chapter 11) -/

/-- A decoded picture: number in decoding order, how many coded video sequences began before or with it, RTP timestamp,
PicOrderCntVal, coded luma size, crop, chroma format, whether samples have 8 bits and are G, B, R planes, cell states (R269; unlisted
CLEAN), samples in their coded depth (unlisted: black), motion by 8 × 8 block, and whether it is a substitute (R268). -/
structure DecPic where
  number : Nat
  epoch : Nat
  ts : Nat
  poc : Int
  w : Nat
  h : Nat
  cropL : Nat
  cropT : Nat
  chroma : Nat
  depth8 : Bool
  rgb : Bool
  cells : Table Nat
  planes : Planes
  motion : List (Nat × BlockMotion)
  substitute : Bool
  deriving DecidableEq, Repr

/-- A work item of a picture (R260): its number, NAL units and CTUs, its Tun while assigned, CTUs it has reconstructed, whether it has
committed, CTUs lost in it by class 2 (R266), and blocks that read an uncorrectable word (R259). -/
structure DecItem where
  number : Nat
  units : List Nat
  ctus : List Nat
  tun : Option Nat
  progress : Nat
  done : Bool
  lost : List Nat
  zeroed : List Nat
  deriving DecidableEq, Repr

/-- An access unit in decode: its NAL units with the parameter sets before them, its own bytes, its picture as far as known, its kind
(0 other, 1 IRAP, 2 GDR or recovery point), the GDR picture whose recovery point it is, by number, the pictures it references and those it
keeps, by POC, whether its items are CTU rows of WPP, its concealment (0 COPY, 1 MOTION in VVC, 2 in HEVC), CTU size as log2, NAL units
that do not parse, and its items. -/
structure DecAu where
  nals : List Bytes
  bytes : Nat
  pic : DecPic
  rap : Nat
  recovers : Option Nat
  refs : List Int
  held : List Int
  wpp : Bool
  motion : Nat
  log2 : Nat
  badUnits : Nat
  items : List DecItem
  deriving DecidableEq, Repr

/-- An RTP packet that waits for an earlier sequence number (R256): extended number, when it arrived, marker,
timestamp, payload. -/
structure DecWait where
  ext : Nat
  at_ : Nat
  marker : Bool
  ts : Nat
  payload : Bytes
  deriving DecidableEq, Repr

/-- A decode stream (R254 to R273): state (0 IDLE, 1 WAIT_RAP, 2 DECODING), the next extended number to release, the
highest one accepted, accepted ones of the window, packets that wait; the fragmented NAL unit in progress, whether what follows of one
that was discarded is still to come, NAL units of the
access unit being received and its timestamp; parameter sets held; access units in decode oldest first; decoded pictures
held oldest first, what the last access unit keeps of them, next picture number, the POC that the next one derives from, coded video
sequences begun, whether RASL pictures are still skipped, the recovery point
awaited as the number of its GDR picture and a POC, and CTU cells concealed by picture number since; the last good output picture and
the last released one; for output: the
picture used last, the canvas frame that chose it, whether it was fresh, frames in a row without a fresh one, whether LOST
and from which canvas frame slots are hidden; the active stream's profile word. -/
structure DecStream where
  state : Nat
  next : Option Nat
  top : Option Nat
  accepted : List Nat
  waiting : List DecWait
  fragment : Option Bytes
  dropping : Bool
  auTs : Option Nat
  auNals : List Bytes
  sets : List Bytes
  aus : List DecAu
  pics : List DecPic
  held : List Int
  nextPic : Nat
  anchor : Int
  epoch : Nat
  skipRasl : Bool
  recovery : Option (Nat × Int)
  concealed : List (Nat × List Nat)
  lastGood : Option DecPic
  lastOut : Option DecPic
  used : Option DecPic
  usedFrame : Option Nat
  fresh : Bool
  missRun : Nat
  lost : Bool
  hideFrom : Option Nat
  ptl : Nat
  deriving DecidableEq, Repr

/-- A stream at rest. -/
def DecStream.idle : DecStream :=
  { state := 0, next := none, top := none, accepted := [], waiting := [], fragment := none, dropping := false, auTs := none,
    auNals := [], sets := [], aus := [], pics := [], held := [], nextPic := 0, anchor := 0, epoch := 0, skipRasl := false,
    recovery := none, concealed := [], lastGood := none, lastOut := none, used := none, usedFrame := none, fresh := false,
    missRun := 0, lost := false, hideFrom := none, ptl := 0 }

/-! ### The memory system (chapter 14) -/

/-- A QDR channel (R324 to R329): state (0 TRAINING, 1 SERVICE, 2 RETRAINING, 3 FAILED), queued for a pause, when
ECC_CORR was last reported, uncorrectable words of the last millisecond, when its retraining began, next word of the
scrub. -/
structure QdrCh where
  state : Nat
  pending : Bool
  corrAt : Option Nat
  uncorr : List Nat
  since : Nat
  scrub : Nat
  deriving DecidableEq, Repr

/-- A QDR channel at reset. -/
def QdrCh.idle : QdrCh := { state := 0, pending := false, corrAt := none, uncorr := [], since := 0, scrub := 0 }

/-- DDR channel states, Table 14-4. -/
inductive DdrState where
  | training | service | paused | selfRefresh | retired
  deriving DecidableEq, Repr

/-- MEM_DD_STATE's codes. -/
def DdrState.code : DdrState → Nat
  | .training => 0 | .service => 1 | .paused => 2 | .selfRefresh => 3 | .retired => 4

/-- A request in a DDR channel's queues (R338): the row of Table 14-5 that made it, its channel-local address, when it arrived. -/
structure DdrReq where
  row : Nat
  addr : Nat
  at_ : Nat
  deriving DecidableEq, Repr

/-- A DDR channel (R330 to R348): state; queued by MEM_RETRAIN, due by its interval, to be retired at its next pause by a reaction (Table 16-4); end of its last retraining in
running time; last request; die temperature at self-refresh entry in 0.1 °C; open pages as (bank key → row × 2^32 +
last access is kept beside it), last accesses; refreshes owed by bank (+4: emergency; biased by 4); whether the refresh
interval is halved; when ECC_CORR was last reported; next burst of the scrub; the requests in the pause buffer; when the
training cache was last rewritten; the read and write requests of its subchannels, oldest first, and the subchannels that drain
their writes (R338); since when the Compositor asserts panic, and nanoseconds spent in panic (R339). -/
structure DdrCh where
  state : DdrState
  pending : Bool
  due : Bool
  retiring : Bool
  lastRetrain : Nat
  lastRequest : Nat
  entryTemp : Int
  openRows : Table Nat
  accessed : Table Nat
  owed : Table Nat
  halved : Bool
  corrAt : Option Nat
  scrub : Nat
  posted : List DdrReq
  cachedAt : Option Nat
  reads : List DdrReq
  writes : List DdrReq
  draining : List Nat
  panicFrom : Option Nat
  panicNs : Nat
  deriving DecidableEq, Repr

/-- A DDR channel at reset. -/
def DdrCh.idle : DdrCh :=
  { state := .training, pending := false, due := false, retiring := false, lastRetrain := 0, lastRequest := 0, entryTemp := 0,
    openRows := [], accessed := [], owed := [], halved := false, corrAt := none, scrub := 0, posted := [],
    cachedAt := none, reads := [], writes := [], draining := [], panicFrom := none, panicNs := 0 }

/-- An arbiter (R353 to R357): ages by row, the beat since which a row waits (no entry: it does not wait), grants given, the row
that holds the grant, the beats of the grants so far. -/
structure Arbiter where
  ages : Table Nat
  since : Table Nat
  grants : Nat
  holder : Option Nat
  beats : Nat
  deriving DecidableEq, Repr

/-- An arbiter at rest. -/
def Arbiter.idle : Arbiter := { ages := [], since := [], grants := 0, holder := none, beats := 0 }

/-- Grist bank states: in service, emptied of staging lines before a test, in test, retired (R352). -/
inductive BankState where
  | service | draining | testing | retired
  deriving DecidableEq, Repr

/-- A staging line of the Grist (R351): the ticket it is pinned under, its bank and its set. -/
structure StageLine where
  ticket : Nat
  bank : Nat
  set : Nat
  deriving DecidableEq, Repr

/-- The memory system: channels, arbiters by channel (DDR channel c at 16 + c), Grist banks and when a test began; the
channel in a pause (DDR c at 16 + c) and when it began, the armed RETRAIN_PAUSE instant, the frame of the last pause;
whether the picture store is degraded, the retired channel, single-reference coding and k = 0 pictures since the
retirement, empty bursts; the Grist's staging lines (R351); each row's waits of the last second, with when they ended, in beats
(R357). -/
structure Mem where
  qdr : Table QdrCh
  ddr : Table DdrCh
  arbs : Table Arbiter
  banks : Table BankState
  testFrom : Nat
  pause : Option (Nat × Nat)
  armed : Option CTime
  pauseFrame : Option Nat
  degraded : Bool
  retired : Option Nat
  srm : Bool
  srmStarts : Nat
  emptyBursts : Nat
  staging : List StageLine
  waits : Table (List (Nat × Nat))
  deriving DecidableEq, Repr

/-- The memory system at reset. -/
def Mem.reset : Mem :=
  { qdr := [], ddr := [], arbs := [], banks := [], testFrom := 0, pause := none, armed := none, pauseFrame := none,
    degraded := false, retired := none, srm := false, srmStarts := 0, emptyBursts := 0, staging := [], waits := [] }

/-! ### Trust and the Cask (chapter 17) -/

/-- A fuse being blown (R415, R416): anti-rollback counter 0 to 63, or 64 + k for the revocation fuse of entry k; the
value to reach; when the bit in progress began. -/
structure Blow where
  fuse : Nat
  target : Nat
  since : Nat
  deriving DecidableEq, Repr

/-- A VENDOR key in Maltster SRAM (R425): key and running time at which it is erased. -/
structure VendorKey where
  key : Bytes
  expires : Nat
  deriving DecidableEq, Repr

/-- A signed image under check, or accepted (R418): its bytes, whether SEC_IMAGE (else TUN_PATCH_IMAGE) took it, the
writer's role, and when it was taken. -/
structure ImageJob where
  image : Bytes
  sec : Bool
  role : Role
  since : Nat
  deriving DecidableEq, Repr

/-- Trust: lifecycle code, revoked vendor entries, anti-rollback counters, fuses in progress, access keys by role × 4 +
slot with TWN_KEY at 16, VENDOR keys by slot, the IDENTITY image, the image under check and the accepted one, the
firmware patch stored, in force and marked for removal and skipped at start-up; attestation state (0 ready, 1 new bottom
tree, 2 disabled), next leaf and reserved limit, when the last report was signed and the last tree
begun; the device secret (R413). -/
structure Trust where
  lifecycle : Nat
  secret : Bytes
  revoked : List Nat
  counters : Table Nat
  blowing : List Blow
  keys : Table Bytes
  vendor : Table VendorKey
  identity : Option Bytes
  checking : Option ImageJob
  accepted : Option ImageJob
  fwStored : Option Bytes
  fwActive : Option Bytes
  fwRemove : Bool
  fwSkipped : Bool
  attState : Nat
  qNext : Nat
  qRes : Nat
  attAt : Option Nat
  treeFrom : Nat
  deriving DecidableEq, Repr

/-- The Cask's own state: live objects kept, region states by code (CSK_REGION_STATE), the MEM_DD_CONFIG of the
training cache, next word of the scrub, equivalent life in 2^-32 ms as saved last. -/
structure Cask where
  live : Store
  regions : Table Nat
  training : Option Nat
  scrub : Nat
  lifeSaved : Nat
  deriving DecidableEq, Repr

/-! ### Power, pins and start-up (chapter 18) -/

/-- Power, clocks, pins and start-up: reset cause and start-up phase; whether PORST_N is high, brownout rails, REFCLK
loss and the thermal trip that hold the device in reset; whether the Maltster halted; straps (node-ID, TWIN_ROLE,
BOOT_SEL); HEALTHY driven high; when start-up ended; when a requested reset follows; when the phase began, life was saved last, VOUT_COMMAND was written last, AVS checked last; SAFE to enter at the end of
phase 3; sensors in 0.1 °C, excluded ones, readings of at least 110 °C in a row, THERM_WARN, Tj and its levels of the
last second; equivalent life in 2^-32 ms; AVS: vt, the commanded voltage, whether it runs, checks above 60 ps in a row,
read-back mismatches in a row; GPIO pins in pulse as (pin, end in device time). -/
structure Power where
  cause : Nat
  phase : Nat
  porst : Bool
  brown : List Nat
  refclk : Bool
  tripped : Bool
  halted : Bool
  nodeId : Nat
  twinRole : Nat
  bootSel : Nat
  healthy : Bool
  bootMs : Nat
  resetAt : Option Nat
  phaseAt : Nat
  lifeAt : Nat
  avsAt : Nat
  avsTickAt : Nat
  safeAfterCask : Bool
  sensors : Table Int
  excluded : List Nat
  critRun : Nat
  warn : Bool
  tj : Int
  tjLevels : List (Nat × Int)
  life : Nat
  lastSensor : Nat
  vt : Nat
  vout : Nat
  avsRuns : Bool
  avsGood : Nat
  avsMiss : Nat
  pulses : List (Nat × Nat)
  deriving DecidableEq, Repr

/-- Power at PORST_N release, straps read as 0. -/
def Power.reset : Power :=
  { cause := 0, phase := 1, porst := true, brown := [], refclk := true, tripped := false, halted := false,
    nodeId := 0, twinRole := 0, bootSel := 0, healthy := false, bootMs := 0, resetAt := none, phaseAt := 0, lifeAt := 0, avsAt := 0, avsTickAt := 0,
    safeAfterCask := false,
    sensors := [], excluded := [], critRun := 0, warn := false, tj := 0, tjLevels := [], life := 0, lastSensor := 0,
    vt := 750, vout := 750, avsRuns := false, avsGood := 0, avsMiss := 0, pulses := [] }

/-- R414: a device key. -/
def deviceKey (secret : Bytes) (label : String) : Bytes := hkdf384 [] secret (ascii label) 48

/-- The claim key, Table 17-2. -/
def claimKey (secret : Bytes) : Bytes := deviceKey secret "NG-CLAIM"

/-- Trust at reset of a part in DEPLOYED with its fuses otherwise unblown: the claim key in BREWER slot 0 (R424). -/
def Trust.reset : Trust :=
  { lifecycle := 2, secret := Config.deviceSecret, revoked := [], counters := [], blowing := [],
    keys := [(8, claimKey Config.deviceSecret)], vendor := [], identity := none,
    checking := none, accepted := none, fwStored := none, fwActive := none, fwRemove := false, fwSkipped := false,
    attState := 0, qNext := 0, qRes := 0, attAt := none, treeFrom := 0 }

/-- An empty Cask. -/
def Cask.reset : Cask := { live := [], regions := [], training := none, scrub := 0, lifeSaved := 0 }

/-! ### The units right after reset -/

/-- The sets at reset: every RG object at its default in both (R40), the rack IDLE with result NONE, slots empty. -/
def Sets.reset : Sets :=
  { green := CanvasSet.default, bright := CanvasSet.default, validated := none, mapAbsent := false, check := none, validation := none,
    rack := { state := .idle, target := 0, frame := 0, result := .none, count := 0, paired := false,
              swapAtGap := false, copying := false },
    slotA := { state := 0, image := CanvasSet.default }, slotB := { state := 0, image := CanvasSet.default },
    savePending := none, saving := none, loading := none, bootRackDue := false, old := [] }

/-- The CAN path at reset: no node-ID sampled yet, role VIEWER. -/
def Can.reset : Can :=
  { nmt := .disabled, role := .viewer, lastRequest := 0, nonce := none, rowSelect := [],
    heldW0 := [], heldUntil := [], lastEmcy := none, lastHeartbeat := 0, dataRate := 2, attNonce := none, attReport := [] }

/-- The raster of a bright set without a canvas: the default rate of 60/1 and 1,000 lines (R72). -/
def Raster.boot : Raster := { num := 60, den := 1, lt := 1000, nk := 0, fk := 0 }

/-- A wort line that holds nothing. -/
def WortLine.empty : WortLine :=
  { msgs := [], waiting := [], popped := 0, dropRun := 0, flushing := false, flushed := 0, lastGapDrop := none,
    levels := [] }

/-- The Timebase at reset: FREE, counting device time from release at the nominal frequency. -/
def Timebase.reset : Timebase :=
  { state := .free, canvasLock := false, base := 0, baseAt := 0, freq := 0, raster := Raster.boot, gap := none,
    todWritten := false, todWaitFrom := none, sourceAt := 0, lastValid := 0, goodRun := 0, badRun := 0,
    master := none, syncWait := none, delayWait := none, syncDiff := 0, delaySeq := 0, lastDelayReq := 0,
    stepPending := none, freqLog := [], holdoverFrom := 0, prior := [], slewEnd := none, ptpBackup := false,
    calTick := (0, 0) }

/-- The Compositor at reset: nothing received, composed or held. -/
def Compositor.reset : Compositor :=
  { flows := [], rows := [], composing := { y := [], cb := [], cr := [] }, held := { y := [], cb := [], cr := [] },
    frame := none, nextRow := 0, rawTail := [], integrityLost := [], concealed := [], stills := [], areaMib := 0, rackFrame := none, emptyFlows := [],
    resetStreams := [], blacken := false }

/-- The Tun Array at reset: banks empty, every Tun GATED. -/
def TunArray.reset : TunArray :=
  { tuns := [], bank0 := PatchBank.empty, bank1 := PatchBank.empty, inUse := 0, staged := none, patchStatus := 0,
    patchResult := .none, patchFrame := 0, switch := none, switchTail := none, persisted := none }

/-- The Dispatcher at reset: nothing assigned, effort Full. -/
def Dispatcher.reset : Dispatcher :=
  { segs := [], pictures := [], nextTicket := 0, commits := [], rotating := [], rotatedAt := 0, lastRotated := 63,
    retryTun := none, rotateAt := none, sparesExhausted := false, capacityLow := false, effort := 0,
    effortPending := [], effortHeld := false, effortCap := 0, effortFrame := 0, govState := 0, govCoolFrom := none,
    slacks := [], peaks := [], badWords := [] }

/-- Assembler and Taster at reset: nothing in assembly, every lane in service. -/
def Assembler.reset : Assembler :=
  { streams := [], accepted := [], outbox := [], dry := none, dryAt := 0, hashes := [], lanes := [], tasted := 0, untasted := 0, secondFrom := 0,
    coverage := 1000 }

/-- The collector at reset: latches empty, not SAFE. -/
def Cellar.reset : Cellar :=
  { realLatch := { held := none, overflow := false }, injLatch := { held := none, overflow := false },
    recorded := [], lastLine := 95, safe := false, safeCause := none, safeSignal := none, unacked := [],
    selfUnacked := false, selftestFails := 0, lastSelftest := 0, force := none }

/-- A target of the interrupt controller at reset. -/
def IcuTarget.reset : IcuTarget :=
  { stack := [], claimed := [], mask := [], storm := [], stormAt := 0, claims := [] }

/-- The Brew Log at reset: next SEQ 1, ring empty. -/
def BrewLog.reset : BrewLog :=
  { ring := [], nextSeq := 1, lastLine := 123, ckpt := [], ckptSeq := 0, lastCkpt := 0, ckptFailed := false,
    ckptDue := false, badSlots := [], bootCount := 0 }

/-- A Sparge channel at rest. -/
def SpargeChannel.idle : SpargeChannel :=
  { state := .idle, words := [], readPos := 0, writePos := 0, funnel := [], flight := none, retriesLeft := 0,
    failedAt := 0, passed := 0, interrupt := false, ended := 0 }

/-- The device. -/
structure State where
  /-- Running time: nanoseconds since PORST_N release, as the last command landed. -/
  now : Nat
  /-- What the last command sent or answered. -/
  out : List Out
  /-- Draws taken so far from the free values of `Config` (the model's own field, no part of the manual). -/
  draws : Nat
  /-- The values of RW objects in force, and of RO objects that are stored as such (counters, records of the last event). -/
  live : Store
  /-- Values written to RW objects that take effect at the next line boundary (chapter 0, "Notation"). -/
  staged : Store
  /-- Working memory by W address (R325). -/
  workMem : Table Byte
  /-- Picture store by domain byte offset (R333). -/
  storeMem : Table Byte
  /-- Maltster SRAM. -/
  sramMem : Table Byte
  /-- Steep buffer, as the Sparge addresses it. -/
  steepMem : Table Byte
  /-- The sets and the rack (chapter 2). -/
  sets : Sets
  /-- Strel sessions (R50 to R58). -/
  strel : Strel
  /-- The CAN path (R59 to R63). -/
  can : Can
  /-- The Canvas Timebase (chapter 3). -/
  tbs : Timebase
  /-- The Compositor (chapter 4). -/
  cmp : Compositor
  /-- The coded stream (chapter 5). -/
  coding : Coding
  /-- The Tun Array (chapter 6). -/
  tuns : TunArray
  /-- The Dispatcher (chapter 7). -/
  dsp : Dispatcher
  /-- The Rake (chapter 8). -/
  rake : Rake
  /-- Assembler and Taster (chapter 9). -/
  asm : Assembler
  /-- The Sparge (R360 to R368). -/
  sparge : Sparge
  /-- The Keg pools (R369 to R375). -/
  keg : Keg
  /-- The wort lines (R376 to R380). -/
  wort : Table WortLine
  /-- The collector (R382 to R398). -/
  cellar : Cellar
  /-- The interrupt controller (R399 to R406). -/
  icu : Icu
  /-- The Brew Log (R407 to R411). -/
  brew : BrewLog
  /-- The Link Fabric (chapter 12). -/
  links : Links
  /-- The Taproom (chapter 13). -/
  tap : Taproom
  /-- Twin operation (chapter 10). -/
  twn : Twin
  /-- Decode streams (chapter 11). -/
  dec : Table DecStream
  /-- The memory system (chapter 14). -/
  mem : Mem
  /-- Lifecycle, keys, images, attestation (chapter 17). -/
  trust : Trust
  /-- The Cask's own state (R430 to R433). -/
  cask : Cask
  /-- Power, pins and start-up (chapter 18). -/
  pwr : Power
  /-- Commands that wait, first in, first out. -/
  pending : List Instr
  deriving DecidableEq, Repr

/-- Why a command ends in a fault. No command of this device does: every event the manual names has an effect, a status
or a fault message, which are state. Safe. -/
inductive Fault where
  /-- Raised by no command; it keeps the type inhabited. Safe. -/
  | none
  deriving DecidableEq, Repr

/-- Why a command is refused by the model. -/
inductive Refusal where
  /-- A command whose meaning is not written, by its mnemonic; raised by its arm of `exec` alone. Safe. -/
  | notModelled (mnemonic : String)
  deriving DecidableEq, Repr

/-- The device right after PORST_N release: every object at its default, every unit at rest. -/
def State.reset : State :=
  { now := 0,
    out := [],
    draws := 0,
    live := [],
    staged := [],
    workMem := [],
    storeMem := [],
    sramMem := [],
    steepMem := [],
    sets := Sets.reset,
    strel := { listening := false, provisional := [], sessions := [], auth := [] },
    can := Can.reset,
    tbs := Timebase.reset,
    cmp := Compositor.reset,
    coding := { started := false, nextN := 0, nextPic := 1, firstPic := 1, lastN := 0, streams := [], recon := [] },
    tuns := TunArray.reset,
    dsp := Dispatcher.reset,
    rake := { k := 0, p := 0, periodStart := 0, kCommitted := 0, nudges := [], noSweep := [], inexact := [] },
    asm := Assembler.reset,
    sparge := { channels := [], lastIssued := 31 },
    keg := { uses := [], withdrawn := [], lastPort := [], lastTun := [], lastDry := [], waiting := [], levels := [] },
    wort := [],
    cellar := Cellar.reset,
    icu := { maltsterA := IcuTarget.reset, maltsterB := IcuTarget.reset, external := IcuTarget.reset, polled := [] },
    brew := BrewLog.reset,
    links := { ports := [], prbs := [], prbsFrom := [], taps := [], hops := [], resolvedAt := 0, resolveDue := false, members := [], reports := [], policers := [], punted := [], mgEvent := false },
    tap := { badWords := [], taps := [], offers := [], wheel := [], scannedAt := 0, ports := [] },
    twn := Twin.reset,
    dec := [],
    mem := Mem.reset,
    trust := Trust.reset,
    cask := Cask.reset,
    pwr := Power.reset,
    pending := [] }

end Sys2Proof.Machine
end

