-- ==== Sys2Proof/Machine/Ops.lean ====
section
/-! DEFINITION. The shared operations: landing a command in time, object values in force, device and canvas time
(R66, R72 to R76), wort lines (R376 to R378), fault reports (R382 to R385, R394), Brew Log records (R407 to R409),
Strel notices (R58) and the checks every object access passes (R454). -/
set_option Elab.async false
namespace Sys2Proof.Machine

/-! ### Landing and output -/

/-- A command lands at running time `t`: time never runs backward, and what was sent before is gone. -/
def State.land (t : Nat) (s : State) : State := { s with now := max s.now t, out := [] }

/-- Whether a message leaves by a lane. -/
def Out.onLane : Out → Bool
  | .strel peer _ _ _ _ _ _ _ _ => decide (peer.via < 96)
  | .frame port _ _ _ => decide (port < 96)
  | .basePage _ _ _ _ => true
  | .twin _ _ => true
  | .packet _ _ _ _ _ _ => true
  | _ => false

/-- Sends `o`; in SAFE every lane sends only IDLE (R288). -/
def State.send (s : State) (o : Out) : State :=
  if s.cellar.safe ∧ o.onLane then s else { s with out := s.out ++ [o] }

/-- The number of the next draw from a free value. -/
def State.drawn (s : State) : State := { s with draws := s.draws + 1 }

/-- Applies `f` when `b` holds. -/
def State.when (b : Bool) (f : State → State) (s : State) : State := if b then f s else s

/-! ### Object values in force -/

/-- The value in force of row `row` of a live object, as a number. -/
def State.val (s : State) (o : Obj) (row : Nat := 0) : Nat := Store.nat s.live o row

/-- The value in force, signed. -/
def State.valInt (s : State) (o : Obj) (row : Nat := 0) : Int := Store.int s.live o row

/-- The bytes of a live DOMAIN or STR object. -/
def State.valBytes (s : State) (o : Obj) (row : Nat := 0) : Bytes := (Store.read s.live o row).toBytes

/-- Sets the stored value of an object. -/
def State.putValue (s : State) (o : Obj) (row : Nat) (v : Value) : State :=
  { s with live := Store.write s.live o row v }

/-- Sets a stored number. -/
def State.put (s : State) (o : Obj) (row : Nat) (v : Int) : State := s.putValue o row (.num v)

/-- Adds `n` to a stored count; the count stops at its type's largest value. -/
def State.count (s : State) (o : Obj) (row : Nat := 0) (n : Nat := 1) : State :=
  s.put o row (satAdd (8 * o.ty.width) (s.val o row) n : Nat)

/-- The value staged for the next line boundary, if any. -/
def State.stagedAt (s : State) (o : Obj) (row : Nat) : Option Value := (s.staged.find? fun p => p.1 == o.key row).map (·.2)

/-- The value last written to a live object: the staged one, else the one in force. -/
def State.written (s : State) (o : Obj) (row : Nat) : Value := (s.stagedAt o row).getD (Store.read s.live o row)

/-- Writes a live object for the next line boundary (chapter 0, "Notation"). -/
def State.stage (s : State) (o : Obj) (row : Nat) (v : Value) : State :=
  { s with staged := Table.insert s.staged (o.key row) v }

/-- A number of a set. -/
def CanvasSet.nat (c : CanvasSet) (o : Obj) (row : Nat := 0) : Nat := Store.nat c.objs o row

/-- A signed number of a set. -/
def CanvasSet.int (c : CanvasSet) (o : Obj) (row : Nat := 0) : Int := Store.int c.objs o row

/-- The canvas width in CTUs; 0 for no canvas (R8). -/
def CanvasSet.width (c : CanvasSet) : Nat := c.nat Obj.flrCanvasW

/-- The canvas height in CTUs; 0 for no canvas (R8). -/
def CanvasSet.height (c : CanvasSet) : Nat := c.nat Obj.flrCanvasH

/-- Whether the set has a canvas (R8). -/
def CanvasSet.hasCanvas (c : CanvasSet) : Bool := decide (c.width ≠ 0) && decide (c.height ≠ 0)

/-- The entry of CTU (cx, cy) of a map, by row cy · 2,048 + cx (R23). -/
def FloorMap.get (m : FloorMap) (row : Nat) : Nat := Table.get m.fill m.rows row

/-- Writes one entry of a map. -/
def FloorMap.set (m : FloorMap) (row v : Nat) : FloorMap := { m with rows := Table.set m.fill m.rows row v }

/-- A number of the bright set. -/
def State.bright (s : State) (o : Obj) (row : Nat := 0) : Nat := s.sets.bright.nat o row

/-- Whether `frame` is one of the 65,536 frames before frame `f`: the frames whose work may still be under way when what
changes at `f` has changed (DESIGN CHOICE; log entry 78). -/
def recentBefore (f frame : Nat) : Bool := decide (1 ≤ sub32 f frame) && decide (sub32 f frame ≤ 65536)

/-- R46: work of frames before F finishes with the set it started under, in coding, assembly and the taps alike; every other
frame uses the bright set. -/
def State.setFor (s : State) (frame : Nat) : CanvasSet :=
  ((s.sets.old.find? fun p => recentBefore p.1 frame).map (·.2)).getD s.sets.bright

/-! ### Device time and the raster -/

/-- A billion. -/
def giga : Nat := 1000000000

/-- Nanoseconds of device time that pass in `d` ns of running time at a frequency in 2^-16 ppb (R66). -/
def elapsed (d : Nat) (freq : Int) : Int := d + ((d : Int) * freq) / (65536 * giga : Nat)

/-- The frequency in force: a slew of the time of day ends at an instant of its own (R70). -/
def State.freqNow (s : State) : Int :=
  match s.tbs.slewEnd with
  | some p => if p.1 ≤ s.now then p.2 else s.tbs.freq
  | none => s.tbs.freq

/-- Device time now, in nanoseconds of the PTP timescale. -/
def State.deviceTime (s : State) : Nat :=
  match s.tbs.slewEnd with
  | some p =>
    if p.1 ≤ s.now then
      ((s.tbs.base : Int) + elapsed (p.1 - s.tbs.baseAt) s.tbs.freq + elapsed (s.now - max p.1 s.tbs.baseAt) p.2).toNat
    else ((s.tbs.base : Int) + elapsed (s.now - s.tbs.baseAt) s.tbs.freq).toNat
  | none => ((s.tbs.base : Int) + elapsed (s.now - s.tbs.baseAt) s.tbs.freq).toNat

/-- TIME80 of a device time: seconds and nanoseconds (Table 0-3). -/
def time80 (ns : Nat) : Bytes := bytesBE 6 (ns / giga) ++ bytesBE 4 (ns % giga)

/-- The nanoseconds a TIME80 spells. -/
def ofTime80 (b : Bytes) : Nat := fieldBE b 0 6 * giga + fieldBE b 6 4

/-- R72: the aligned frame index at device time `t`. -/
def Raster.index (r : Raster) (t : Nat) : Nat := t * r.num / (r.den * giga)

/-- R72: the frame number of an aligned index. -/
def Raster.frameOf (r : Raster) (n : Nat) : Nat := unsigned 32 ((r.fk : Int) + n - r.nk)

/-- R72: canvas time at device time `t`. -/
def Raster.ctime (r : Raster) (t : Nat) : CTime :=
  let n := r.index t
  { frame := r.frameOf n, line := (t * r.num - n * r.den * giga) * r.lt / (r.den * giga) }

/-- Whether the raster is in a gap (R76): one has begun and its end has not been served. -/
def State.inGap (s : State) : Bool := s.tbs.gap.any fun g => decide (g.fromNs ≤ s.deviceTime)

/-- The canvas time the raster reads; in a gap, the last line of the frame before it (R76). -/
def State.ctime (s : State) : CTime :=
  match s.tbs.gap with
  | some g => if g.fromNs ≤ s.deviceTime then g.reads else s.tbs.raster.ctime s.deviceTime
  | none => s.tbs.raster.ctime s.deviceTime

/-- R74: ceil(S(n, L)), the device time at which line L of aligned frame n starts. -/
def Raster.lineStart (r : Raster) (n l : Nat) : Nat := ceilDiv ((n * r.lt + l) * r.den * giga) (r.num * r.lt)

/-- R74: the aligned index that carries frame number `f` nearest to device time `t`. -/
def Raster.indexNear (r : Raster) (t f : Nat) : Nat :=
  let nc := r.index t
  let d := sub32 f (r.frameOf nc)
  if d ≤ 2147483647 then nc + d else (((nc + d : Nat) : Int) - 4294967296).toNat

/-- R74: the aligned index that carries frame number `f` nearest to the present. -/
def State.indexOf (s : State) (f : Nat) : Nat := s.tbs.raster.indexNear s.deviceTime f

/-- R74: the raster of a picture's frame: a frame before the last anchor belongs to the raster before it. -/
def State.rasterOf (s : State) (frame : Nat) : Raster :=
  ((s.tbs.prior.find? fun p => recentBefore p.frame frame).map (·.raster)).getD s.tbs.raster

/-- The raster that an anchor ended after device time `v`, if any. -/
def State.rasterBefore (s : State) (v : Nat) : Option PastRaster := s.tbs.prior.find? fun p => decide (v < p.untilNs)

/-- The raster in force at device time `v`: before the anchors past, and past the end of a gap that is open or still to come. -/
def State.rasterAt (s : State) (v : Nat) : Raster :=
  match s.rasterBefore v, s.tbs.gap with
  | some p, _ => p.raster
  | none, some g => if g.untilNs ≤ v then g.next else s.tbs.raster
  | none, none => s.tbs.raster

/-- R76, R86: the canvas time of device time `v`; in a gap, the last line of the frame before it. -/
def State.ctimeAt (s : State) (v : Nat) : CTime :=
  match s.rasterBefore v, s.tbs.gap with
  | some p, _ => if p.fromNs ≤ v then p.reads else (s.rasterAt v).ctime v
  | none, some g => if g.fromNs ≤ v ∧ v < g.untilNs then g.reads else (s.rasterAt v).ctime v
  | none, none => (s.rasterAt v).ctime v

/-- R305: nanoseconds from the start of the line of `s.ctimeAt v` to `v`. -/
def State.nsInLine (s : State) (v : Nat) : Nat :=
  let c := s.ctimeAt v
  let r := s.rasterAt v
  v - r.lineStart (r.indexNear v c.frame) c.line

/-- R74: the device time of ⟨F:L⟩ plus `o` nanoseconds. -/
def State.instant (s : State) (f l o : Nat) : Nat := s.tbs.raster.lineStart (s.indexOf f) l + o

/-- Whether the raster has reached ⟨F:L⟩: it is not later than the canvas time now (R4). -/
def State.reached (s : State) (c : CTime) : Bool := !(CTime.earlier s.ctime c)

/-- Table 2-3, R181, R205: line ⟨f−1:32·Hb⟩ of the bright set, at which what is scheduled for frame `f` fires. -/
def State.swapLine (s : State) (f : Nat) : CTime := { frame := sub32 f 1, line := 32 * s.sets.bright.height }

/-- R85: the RTP timestamp of aligned index `n` at rate num/den. -/
def rtpTime (num den n : Nat) : Nat := n * den * 90000 / num % 4294967296

/-! ### Wort lines -/

/-- The entries a message takes: its words, or one for a marker. -/
def WortMsg.size (m : WortMsg) : Nat := m.words.length

/-- Entries a line holds (WRT_FILL). -/
def WortLine.fill (l : WortLine) : Nat := (l.msgs.map WortMsg.size).sum - l.popped

/-- A line. -/
def State.wortLine (s : State) (line : Nat) : WortLine := Table.get WortLine.empty s.wort line

/-- The entries of the last second. -/
def lastSecond {α : Type} (now : Nat) (l : List (Nat × α)) : List (Nat × α) := l.filter fun p => decide (now < p.1 + giga)

/-- Drops the levels that ended more than a second before `now`. -/
def levelsSince (now : Nat) : List (Nat × Nat) → List (Nat × Nat)
  | a :: b :: rest => if b.1 + giga ≤ now then levelsSince now (b :: rest) else a :: b :: rest
  | l => l

/-- Records a level from `now` on; `before` is the level that held before the first record. -/
def levelsAdd (now before v : Nat) (ls : List (Nat × Nat)) : List (Nat × Nat) :=
  levelsSince now ((if ls.isEmpty then [(0, before)] else ls) ++ [(now, v)])

/-- Replaces a line, recording its fill for WRT_HIGH_WATER. -/
def State.setWort (s : State) (line : Nat) (l : WortLine) : State :=
  let before := (s.wortLine line).fill
  let l := if l.fill = before then l else { l with levels := levelsAdd s.now before l.fill l.levels }
  { s with wort := Table.set WortLine.empty s.wort line l }

/-- R377: a message enters a credit-mode line when the free entries cover it and no earlier one waits; else its
producer waits. -/
def State.pushCredit (s : State) (line : Nat) (words : List Nat) : State :=
  let l := s.wortLine line
  let m : WortMsg := { words := words, marker := false, bad := false }
  if l.waiting.isEmpty ∧ l.fill + words.length ≤ wortDepth line then s.setWort line { l with msgs := l.msgs ++ [m] }
  else s.setWort line { l with waiting := l.waiting ++ [m] }

/-- The line on which a unit reports faults: 80 + SOURCE[11:8] of lines 80 to 95. -/
def faultLine (source : Nat) : Nat := 80 + bits source 11 8

/-- A fault message as the two words of its line: the upper 64 bits, then the lower 32 in [63:32]. -/
def FaultMsg.words (m : FaultMsg) : List Nat :=
  let v := ofBytesBE m.bytes
  [v / 4294967296, v % 4294967296 * 4294967296]

/-- The fault message two words spell. -/
def FaultMsg.ofWords (ws : List Nat) : FaultMsg :=
  FaultMsg.ofBytes (bytesBE 12 (ws.getD 0 0 * 4294967296 + ws.getD 1 0 / 4294967296))

/-- A unit reports a fault: the message enters its line, and a kind with a SAFE floor also drives the dedicated signal
to the SAFE logic (R385, R394). Floors do not apply to injected messages (R390). -/
def State.reportMsg (s : State) (m : FaultMsg) : State :=
  let s := s.pushCredit (faultLine m.source) m.words
  if kindFloor m.source m.kind m.detail = 5 ∧ !m.inj ∧ !s.cellar.safe ∧ s.cellar.safeSignal.isNone then
    { s with cellar := { s.cellar with safeSignal := some m } }
  else s

/-- Reports a real fault. -/
def State.report (s : State) (source : Nat) (k : Kind) (address detail : Nat) : State :=
  s.reportMsg (faultMsg source k address detail)

/-- Whether a force of R397 is armed for `target`. -/
def State.forced (s : State) (code target : Nat) : Bool := s.cellar.force == some (code, target)

/-- R397: the armed force has acted. -/
def State.forceActed (s : State) : State :=
  let s := { s with cellar := { s.cellar with force := none } }
  s.put Obj.cwtForceCount 0 (satAdd 32 (s.val Obj.cwtForceCount) 1 : Nat)

/-- Reports a fault that is injected (R390, R397) or real. -/
def State.reportAs (s : State) (inj : Bool) (source : Nat) (k : Kind) (address detail : Nat) : State :=
  s.reportMsg { faultMsg source k address detail with inj := inj }

/-- R378: a message enters a drop-mode line when the free entries exceed its length, preceded by a marker after a run of
drops; else it is dropped whole and GAP_DROP is reported at most once per second. A flushing line discards it (R379). -/
def State.pushDrop (s : State) (line : Nat) (words : List Nat) : State :=
  let l := s.wortLine line
  if l.flushing then (s.setWort line { l with flushed := l.flushed + 1 }).count Obj.wrtFlushed line
  else
    let mark : List WortMsg :=
      if l.dropRun = 0 then [] else [{ words := [min l.dropRun 4294967295], marker := true, bad := false }]
    if l.fill + words.length < wortDepth line then
      let s := s.setWort line
        { l with msgs := l.msgs ++ mark ++ [{ words := words, marker := false, bad := false }], dropRun := 0 }
      if mark.isEmpty then s else s.count Obj.wrtMarkers line
    else
      let due := l.lastGapDrop.all fun at_ => decide (at_ + giga ≤ s.now)
      let s := (s.setWort line { l with dropRun := l.dropRun + 1,
                                        lastGapDrop := if due then some s.now else l.lastGapDrop }).count
                  Obj.wrtDrops line
      if due then s.report 0x5A0 .gapDrop 0 line else s

/-- Pushes a message by the line's mode (Table 15-8). -/
def State.push (s : State) (line : Nat) (words : List Nat) : State :=
  if wortDropMode line then s.pushDrop line words else s.pushCredit line words

/-! ### Brew Log records -/

/-- The 28 bytes of a record without SEQ, Table 16-9. -/
def BrewRec.tail (r : BrewRec) : Bytes :=
  r.ctime.bytes ++ bytesBE 10 r.time ++ bytesBE 3 (r.source % 4096 * 4096 + r.event % 4096) ++ bytesBE 1 r.flags
    ++ bytesBE 8 r.args

/-- The 32 bytes of a record. -/
def BrewRec.bytes (r : BrewRec) : Bytes := bytesBE 4 r.seq ++ r.tail

/-- A record as the four words of its line (R409): its 28 bytes, then zeros. -/
def BrewRec.words (r : BrewRec) : List Nat :=
  let b := r.tail ++ zeros 4
  [fieldBE b 0 8, fieldBE b 8 8, fieldBE b 16 8, fieldBE b 24 8]

/-- The record four words spell, SEQ 0. -/
def BrewRec.ofWords (ws : List Nat) : BrewRec :=
  let b := ws.flatMap (bytesBE 8)
  { seq := 0, ctime := { frame := fieldBE b 0 4, line := fieldBE b 4 2 }, time := fieldBE b 6 10,
    source := bits (fieldBE b 16 3) 23 12, event := bits (fieldBE b 16 3) 11 0, flags := fieldBE b 19 1,
    args := fieldBE b 20 8 }

/-- The line of lines 97 to 123 on which a unit writes its records: 97 + SOURCE[11:8]; line 96 is the collector's
(R409). -/
def brewLine (source : Nat) : Nat := 97 + bits source 11 8

/-- A unit writes a Brew Log record, stamped when it is pushed (R409). -/
def State.brewRec (s : State) (source event args : Nat) : State :=
  s.push (brewLine source)
    (BrewRec.words { seq := 0, ctime := s.ctime, time := fieldBE (time80 s.deviceTime) 0 10, source := source, event := event, flags := 0,
                     args := args })

/-! ### Ports and the headers of the device's own frames (R277, R286, R290) -/

/-- A port, 96 the management port. -/
def State.port (s : State) (n : Nat) : Port := Table.get Port.idle s.links.ports n

/-- Replaces a port. -/
def State.setPort (s : State) (n : Nat) (p : Port) : State :=
  { s with links := { s.links with ports := Table.set Port.idle s.links.ports n p } }

/-- Word `k` of a port's entry (Table 12-2). -/
def lnkPortWord : Nat → Obj
  | 0 => Obj.lnkPortW0 | 1 => Obj.lnkPortW1 | 2 => Obj.lnkPortW2 | 3 => Obj.lnkPortW3 | 4 => Obj.lnkPortW4
  | _ => Obj.lnkPortW5

/-- The port entry's word in force. -/
def State.portWord (s : State) (n k : Nat) : Nat := s.val (lnkPortWord k) n

/-- The MAC address of a port (R277). -/
def State.portMac (s : State) (n : Nat) : Nat :=
  let m := bits (s.portWord n 1) 47 0
  if n = 96 then Config.baseMac else if m = 0 then Config.baseMac + 1 + n else m

/-- The IPv4 address of a port or of the management port; 0 for none. -/
def State.portIpv4 (s : State) (n : Nat) : Nat :=
  if n = 96 then s.val Obj.lnkMgIpv4
  else if bit (s.portWord n 3) 14 then bits (s.portWord n 2) 31 0 else 0

/-- Whether a port's IPv4 interface is enabled; the management port's where it has an address. -/
def State.portV4 (s : State) (n : Nat) : Bool := if n = 96 then s.portIpv4 96 != 0 else bit (s.portWord n 3) 14

/-- The global IPv6 address of a port; 0 for none. -/
def State.portIpv6 (s : State) (n : Nat) : Nat :=
  if n = 96 then ofBytesBE (s.valBytes Obj.lnkMgIpv6)
  else if bit (s.portWord n 3) 15 then s.portWord n 4 * 2 ^ 64 + s.portWord n 5 else 0

/-- The link-local address of a port: fe80::/64 with the modified EUI-64 identifier of its MAC (R278). -/
def State.portLinkLocal (s : State) (n : Nat) : Nat :=
  if n = 96 ∨ bit (s.portWord n 3) 15 then
    let m := s.portMac n
    let hi := bits m 47 24
    let hi := if bit hi 17 then hi - 2 ^ 17 else hi + 2 ^ 17
    0xFE80 * 2 ^ 112 + hi * 2 ^ 40 + 0xFFFE * 2 ^ 24 + bits m 23 0
  else 0

/-- A port's addresses: MAC, IPv4, link-local and global IPv6. -/
def State.portAddrs (s : State) (n : Nat) : Nat × Nat × Nat × Nat := (s.portMac n, s.portIpv4 n, s.portLinkLocal n, s.portIpv6 n)

/-- Whether an IP address is multicast. -/
def isMulticast (v6 : Bool) (a : Nat) : Bool :=
  if v6 then bits a 127 120 == 0xFF else bits a 31 28 == 0xE

/-- Prefix length of the IPv4 network a port is in (Table 12-2, Table 12-12). -/
def State.portPrefix4 (s : State) (n : Nat) : Nat := if n = 96 then s.val Obj.lnkMgPfx4 else bits (s.portWord n 3) 5 0

/-- Prefix length of a port's global IPv6 address (Table 12-2, Table 12-12). -/
def State.portPrefix6 (s : State) (n : Nat) : Nat := if n = 96 then s.val Obj.lnkMgPfx6 else bits (s.portWord n 3) 13 6

/-- The IPv4 default gateway of a port; 0 for none (Table 12-2, Table 12-12). -/
def State.portGateway4 (s : State) (n : Nat) : Nat := if n = 96 then s.val Obj.lnkMgGw4 else bits (s.portWord n 2) 63 32

/-- R290: the next hop of a unicast destination on a port: itself inside the port's prefix, else the gateway; none
where there is no gateway. -/
def State.nextHop (s : State) (port : Nat) (v6 : Bool) (dst : Nat) : Option Nat :=
  if v6 then
    let pfx := s.portPrefix6 port
    let own := s.portIpv6 port
    if (own ≠ 0 ∧ dst / 2 ^ (128 - pfx) = own / 2 ^ (128 - pfx)) ∨ bits dst 127 118 = 0x3FA then some dst
    else if (s.port port).router6 = 0 then none else some (s.port port).router6
  else
    let pfx := s.portPrefix4 port
    let own := s.portIpv4 port
    if own ≠ 0 ∧ dst / 2 ^ (32 - pfx) = own / 2 ^ (32 - pfx) then some dst
    else if s.portGateway4 port = 0 then none else some (s.portGateway4 port)

/-- R286: the tag of a port's own frames: PVID with MGMT_PCP when TAGGED, LNK_MG_VID on the management port, with priority 0 (the
priority DESIGN CHOICE; log entry 92). -/
def State.ownTag (s : State) (n : Nat) : Option Nat :=
  let w := s.portWord n 0
  if n = 96 then (if s.val Obj.lnkMgVid = 0 then none else some (s.val Obj.lnkMgVid))
  else if bit w 47 then some (bits w 50 48 * 8192 + bits w 43 32) else none

/-- R286, R290: the headers of a frame the firmware sends on port `n` from address `src`: TTL 64 and DSCP LNK_MGMT_DSCP. -/
def State.ownHeader (s : State) (n src : Nat) (dst : Option (Bool × Nat) := none) : OwnHeader :=
  { mac := s.portMac n, src := src,
    next := dst.bind fun d => if isMulticast d.1 d.2 then some d.2 else s.nextHop n d.1 d.2,
    tci := s.ownTag n, ttl := 64, dscp := s.val Obj.lnkMgmtDscp }

/-- A frame left a port: LNK_PORT_TX_FRAMES counts it, on a link port and outside SAFE, in which no lane sends it (R288). -/
def State.txFrame (s : State) (n : Nat) : State :=
  if s.cellar.safe = false ∧ n < 96 then s.count Obj.lnkPortTxFrames n else s

/-- The firmware sends a frame of a protocol on port `n`, from address `src`. -/
def State.sendOwn (s : State) (n : Nat) (proto : String) (fields : List Nat) (src : Nat) (dst : Option (Bool × Nat) := none) : State :=
  (s.send (.frame n proto fields (s.ownHeader n src dst))).txFrame n

/-! ### Strel messages -/

/-- The header of a Strel message, Table 2-7. -/
def strelHeader (opcode flags status length session seq : Nat) : Bytes :=
  bytesBE 2 0x5354 ++ bytesBE 1 1 ++ bytesBE 1 opcode ++ bytesBE 1 flags ++ bytesBE 1 status ++ bytesBE 2 length
    ++ bytesBE 4 session ++ bytesBE 4 seq

/-- R55: the MAC of a message under a direction's key. -/
def strelMac (key header payload : Bytes) : Bytes := (hmac384 key (header ++ payload)).take 16

/-- The key of the direction from the device to the client (R55). -/
def Session.outKey (z : Session) : Bytes := slice z.keys 48 48

/-- The key of the direction from the client to the device (R55). -/
def Session.inKey (z : Session) : Bytes := slice z.keys 0 48

/-- Whether an address in the form of `Peer` is IPv6, and the address in its own width. -/
def peerAddress (a : Nat) : Bool × Nat := if a / 2 ^ 32 = 0xFFFF then (false, a % 2 ^ 32) else (true, a)

/-- R297: a Strel message leaves on the port where the request arrived, from the address it named. -/
def State.strelOut (s : State) (p : Peer) (opcode flags status session seq : Nat) (payload mac : Bytes) : State :=
  (s.send (.strel p opcode flags status session seq payload mac
    (s.ownHeader p.via (peerAddress p.own).2 (some (peerAddress p.addr))))).txFrame p.via

/-- Sends an authenticated message to the client of a session. -/
def State.strelSend (s : State) (z : Session) (opcode flags status seq : Nat) (payload : Bytes) : State :=
  let h := strelHeader opcode flags status payload.length z.id seq
  s.strelOut z.peer opcode flags status z.id seq payload (strelMac z.outKey h payload)

/-- R58: a NOTICE of class `cls` to every session that subscribed to it.
The payload's CLASS is coded as the number of the class's bit of CLASSES: the manual gives it no values
(DESIGN CHOICE; log entry 89). -/
def State.notice (s : State) (cls : Nat) (body : Bytes) : State :=
  let payload := bytesBE 1 cls ++ zeros 1 ++ s.ctime.bytes ++ time80 s.deviceTime ++ body
  s.strel.sessions.foldl (fun acc z =>
    if bit z.classes cls then
      let z' := { z with noticeSeq := add32 z.noticeSeq 1 }
      let acc := { acc with strel := { acc.strel with
        sessions := acc.strel.sessions.map fun (y : Session) => if y.id = z.id then z' else y } }
      acc.strelSend z' 0x21 2 0 z'.noticeSeq payload
    else acc) s

/-! ### The rack's own changes -/

/-- SET_RACK_STATE codes, Table 2-5. -/
def RackState.code : RackState → Nat
  | .idle => 0 | .validating => 1 | .agreeing => 2 | .scheduled => 3 | .reseeding => 4

/-- SET_RACK_RESULT codes, Table 2-4. -/
def RackResult.code : RackResult → Nat
  | .none => 0 | .done => 1 | .invalid => 2 | .late => 3 | .far => 4 | .twinRefused => 5 | .twinTimeout => 6
  | .cancelled => 7 | .safe => 8

/-- Changes the rack; a change of its state is recorded (RACK) and noticed (R58 class [1]). -/
def State.changeRack (s : State) (f : Rack → Rack) : State :=
  let r := f s.sets.rack
  let changed := r.state != s.sets.rack.state
  let s := { s with sets := { s.sets with rack := r } }
  if changed then
    (s.brewRec 0x008 0x020 (r.state.code * 2 ^ 40 + r.result.code * 2 ^ 32 + r.frame % 4294967296)).notice 1
      (bytesBE 1 r.state.code ++ bytesBE 1 r.result.code ++ bytesBE 4 r.frame)
  else s

/-- The frame nearest `seconds` after the present frame. -/
def State.frameIn (s : State) (seconds : Nat) : Nat :=
  add32 s.ctime.frame (roundDiv (seconds * s.tbs.raster.num) s.tbs.raster.den)

/-- R178: arms the next rotation instant, DSP_ROTATE_S seconds after the previous one; 0 seconds is off. -/
def State.armRotation (s : State) : State :=
  let secs := s.val Obj.dspRotateS
  { s with dsp := { s.dsp with
    rotateAt := if secs = 0 then none
      else some (add32 s.dsp.rotatedAt (roundDiv (secs * s.tbs.raster.num) s.tbs.raster.den)) } }

/-- R453: start-up ends: phase 9, PWR_BOOT_MS, HEALTHY high unless the device is in SAFE. The first rotation is counted from
here, there being no instant before it (DESIGN CHOICE; log entry 83). -/
def State.endStartup (s : State) : State :=
  { s with pwr := { s.pwr with phase := 9, bootMs := s.now / 1000000, healthy := !s.cellar.safe },
           dsp := { s.dsp with rotatedAt := s.ctime.frame } }.armRotation

/-- R453: phase 8 ends as a rack ends. -/
def State.rackEnded (s : State) : State := if s.pwr.phase = 8 ∧ s.tbs.canvasLock then s.endStartup else s

/-- The rack returns to IDLE with a result, which unlocks the green set. A validation it was waiting for ends with it, and
SET_VALID_STATUS reads 0 again: R42 and Table 2-3 say neither of a rack that leaves VALIDATING by SET_RACK_CANCEL or SAFE
(DESIGN CHOICE; log entry 79). -/
def State.endRack (s : State) (res : RackResult) : State :=
  let s := if s.sets.rack.state = .validating ∧ s.sets.validation.isSome then
      { s with sets := { s.sets with validation := none } }.put Obj.setValidStatus 0 0
    else s
  (s.changeRack fun r =>
    { r with state := .idle, result := res, paired := false, swapAtGap := false, copying := false }).rackEnded

/-- R42, R43: a green write landed: a running validation becomes stale, SET_GREEN_DIGEST reads zeros. -/
def State.greenTouched (s : State) : State :=
  { s with sets := { s.sets with validated := none,
                                 validation := s.sets.validation.map fun (c : CheckRun) => { c with stale := true } } }

/-- R25: a write that the running Floor Map check looks at landed: the check becomes stale. -/
def State.checkTouched (s : State) : State :=
  { s with sets := { s.sets with check := s.sets.check.map fun (c : CheckRun) => { c with stale := true } } }

/-! ### Object access, R454 -/

/-- An open session by ID. -/
def State.session (s : State) (id : Nat) : Option Session := s.strel.sessions.find? fun z => z.id == id

/-- Replaces an open session by its image. -/
def State.setSession (s : State) (z : Session) : State :=
  { s with strel := { s.strel with sessions := s.strel.sessions.map fun y => if y.id = z.id then z else y } }

/-- Whether the CAN path serves USDO requests: not in STOPPED, nor without a node-ID (R59, R61). -/
def Can.serves (c : Can) : Bool := c.nmt == .preOperational || c.nmt == .operational

/-- The role a path holds; none for a session that is not open, or a CAN path that serves nothing. The firmware may perform
every access. -/
def State.roleOf (s : State) : Path → Option Role
  | .strel id => (s.session id).map (·.role)
  | .can => if s.can.serves then some s.can.role else none
  | .firmware => some .vendor

/-- An access by a path starts its idle time again: 60 s of a session (R57), or of the CAN role (R63). -/
def State.accessed (s : State) : Path → State
  | .strel id =>
    match s.session id with
    | some z => s.setSession { z with idleDeadline := s.now + 60 * giga }
    | none => s
  | .can => if s.can.serves then { s with can := { s.can with lastRequest := s.now } } else s
  | .firmware => s

/-- Whether a number fits a type's width. -/
def Ty.fits (ty : Ty) (n : Int) : Bool :=
  if ty.isSigned then decide (-(2 : Int) ^ (8 * ty.width - 1) ≤ n) && decide (n < (2 : Int) ^ (8 * ty.width - 1))
  else decide (0 ≤ n) && decide (n < (2 : Int) ^ (8 * ty.width))

/-- The largest length of a value in bytes (R52, DESCRIBE). A DOMAIN without a length of its own takes the largest its rule
allows: two forms of 2,097,152 regions (R27), a still of 16,384 × 16,384 (Table 4-3), the images of Tables 17-3 and 17-4, the
rings of R410 and R411, the report of R427; for the rest the manual states none. -/
def Obj.maxSize (o : Obj) : Nat :=
  match o.ty with
  | .str n => n
  | .domain =>
    if o.size ≠ 0 then o.size
    else if o.code = Obj.flrRegions.code ∨ o.code = Obj.flrRegionsLive.code then 33554512
    else if o.code = Obj.cmpStillData.code then 1342177280
    else if o.code = Obj.tunPatchImage.code then 65536
    else if o.code = Obj.secImage.code then 983040
    else if o.code = Obj.secDevCert.code then 4117
    else if o.code = Obj.secAttReport.code then 3684
    else if o.code = Obj.logRing.code then 16777216
    else if o.code = Obj.logCkpt.code then 2097152
    else Config.domainLimit o.code
  | ty => ty.width

/-- Step 5 of R454: the form of the data. A number carries its type's width; a DOMAIN of one size has that size; no value
exceeds its maximum. -/
def formRefusal (o : Obj) : Value → Option Status
  | .num n => if o.ty.isNumeric ∧ o.ty.fits n then none else some .length
  | .bytes b =>
    if o.ty.isNumeric then some .length
    else if o.ty = .time80 ∨ o.ty = .ctime then (if b.length = o.ty.width then none else some .length)
    else if o.maxSize < b.length then some .tooLong
    else if b.length < o.size then some .length
    else none

/-- R3: whether a value sets a reserved bit. -/
def setsReserved (o : Obj) : Value → Bool
  | .num n => n.toNat &&& o.reservedMask != 0
  | .bytes _ => false

/-- A bound of a field that the field's own default 0 lies outside of. The bound holds where bit `when` of the word is set;
a word that is not enabled, or where no bit enables it the whole word, may also hold the default (log entry 53). -/
structure EntryRule where
  when : Option Nat
  field : FieldRule
  deriving DecidableEq, Repr

/-- Whether a field lies in one of its intervals. -/
def FieldRule.holds (f : FieldRule) (n : Nat) : Bool :=
  f.allowed.any fun r => decide (r.1 ≤ bits n f.hi f.lo) && decide (bits n f.hi f.lo ≤ r.2)

/-- Whether a word keeps a bound. -/
def EntryRule.holds (r : EntryRule) (n : Nat) : Bool :=
  r.field.holds n ||
    match r.when with
    | some b => !bit n b && bits n r.field.hi r.field.lo == 0
    | none => n == 0

/-- The bounds of Tables 1-2, 4-1, 4-6, 11-1, 12-2, 13-1 and 16-5 whose fields default to 0, outside them. -/
def entryRules : List (Nat × EntryRule) :=
  [(Obj.flrSubW0.code, ⟨some 50, ⟨28, 21, [(3, 255)]⟩⟩), (Obj.flrSubW0.code, ⟨some 50, ⟨35, 29, [(1, 127)]⟩⟩),
   (Obj.cmpFlowW0.code, ⟨some 0, ⟨43, 32, [(8, 4095)]⟩⟩), (Obj.cmpFlowW0.code, ⟨some 0, ⟨51, 44, [(1, 255)]⟩⟩),
   (Obj.cmpFlowW1.code, ⟨none, ⟨31, 16, [(1, 65535)]⟩⟩),
   (Obj.cmpRawW1.code, ⟨none, ⟨13, 0, [(512, 8952)]⟩⟩), (Obj.cmpRawW1.code, ⟨none, ⟨20, 14, [(96, 127)]⟩⟩),
   (Obj.finStrW0.code, ⟨some 0, ⟨39, 32, [(1, 255)]⟩⟩), (Obj.finStrW0.code, ⟨some 0, ⟨44, 40, [(1, 16)]⟩⟩)] ++
  [(Obj.finStrW0.code, ⟨some 0, ⟨60, 53, [(1, 255)]⟩⟩), (Obj.finStrW1.code, ⟨none, ⟨31, 16, [(1, 65535)]⟩⟩),
   (Obj.lnkPortW3.code, ⟨some 14, ⟨5, 0, [(8, 32)]⟩⟩), (Obj.lnkPortW3.code, ⟨some 15, ⟨13, 6, [(16, 128)]⟩⟩),
   (Obj.tapW0.code, ⟨some 0, ⟨57, 50, [(1, 255)]⟩⟩), (Obj.tapW2.code, ⟨none, ⟨47, 32, [(64, 65535)]⟩⟩),
   (Obj.cwtExc.code, ⟨some 35, ⟨31, 24, [(1, 25)]⟩⟩)]

/-- Whether a word of an object keeps the bounds of `entryRules`. -/
def entryHolds (o : Obj) (n : Nat) : Bool := entryRules.all fun p => p.1 != o.code || p.2.holds n

/-- R9: whether a rate is within the bounds of a picture rate. -/
def rateOk (num den : Nat) : Bool :=
  decide (1 ≤ den) && decide (den ≤ 65535) && decide (24000 * den ≤ 1001 * num) && decide (num ≤ 240 * den)

/-- R33: bounds of a field that depend on another field of the same word: VID when TAGGED (Table 13-1), PVID when TAGGED
(Table 12-2), the even width of an enabled 4:2:2 flow (R89), CHROMA by CODEC (R254), SRC by KIND and the source fields of a solid slot (R97, Table 4-2), INDEX by KIND (Table 12-7), TAP of a filler
(Table 1-2), SRC_HI at least SRC_LO (Table 16-5); the rate of a
flow and of a decode stream (R9, R89, Table 11-6), which may hold its default 0. -/
def fieldsAgree (o : Obj) (n : Nat) : Bool :=
  if o.code = Obj.tapW0.code then !bit n 3 || (decide (1 ≤ bits n 40 29) && decide (bits n 40 29 ≤ 4094))
  else if o.code = Obj.cmpSlotW0.code then
    decide (bits n 10 3 < (if bits n 2 1 = 1 then 64 else if bits n 2 1 = 2 then 32 else 256))
      && (bits n 2 1 != 0 || (bits n 10 3 == 0 && bits n 50 23 == 0))
  else if o.code = Obj.lnkFlowW0.code then
    decide (bits n 57 44 < (if bits n 43 40 = 1 then 64 else if bits n 43 40 = 2 then 32 else 1))
  else if o.code = Obj.flrSubW0.code then !bit n 51 || bits n 49 36 == 0
  else if o.code = Obj.cmpFlowW0.code then !bit n 0 || bits n 3 1 != 0 || bits n 18 6 % 2 == 1
  else if o.code = Obj.cmpFlowW1.code ∨ o.code = Obj.finStrW1.code then n == 0 || rateOk (bits n 15 0) (bits n 31 16)
  else if o.code = Obj.finStrW0.code then !(bit n 1 && bits n 3 2 == 2)
  else if o.code = Obj.lnkPortW0.code then !bit n 47 || (decide (1 ≤ bits n 43 32) && decide (bits n 43 32 ≤ 4094))
  else if o.code = Obj.cwtExc.code then decide (bits n 11 0 ≤ bits n 23 12)
  else true

/-- R12, R107, R456: bounds that a table cannot state: entry 4,095 is no receiver; row 0 of the raw-egress groups stays zero; each phase of the user filter
bank sums to 1,024; the colour of every DSCP is none of the reserved value 3 (R293); a TIME80 has fewer than 10⁹ nanoseconds
(Table 0-3). -/
def boundsHold (o : Obj) (row : Nat) : Value → Bool
  | .num n => (!((o.code == Obj.cmpRawW0.code || o.code == Obj.cmpRawW1.code) && row == 0) || n == 0) &&
      !(o.code == Obj.flrSubW0.code && row == 4095 && bit n.toNat 50 && !bit n.toNat 51)
  | .bytes b =>
    if o.ty = .time80 then decide (fieldBE b 6 4 < giga)
    else if o.code = Obj.lnkDscpColour.code then
      (List.range 64).all fun d => bits (fieldBE b (d / 4) 1) (7 - 2 * (d % 4)) (6 - 2 * (d % 4)) != 3
    else if o.code = Obj.cmpFilterUser.code then
      (List.range 64).all (fun p => ((List.range 8).map fun i => signed 16 (fieldBE b (16 * p + 2 * i) 2)).sum == 1024) &&
        (List.range 64).all fun p => ((List.range 6).map fun i => signed 16 (fieldBE b (1024 + 12 * p + 2 * i) 2)).sum == 1024
    else true

/-- R33: whether a value lies in its object's range. -/
def inRange (o : Obj) (row : Nat) (v : Value) : Bool :=
  boundsHold o row v &&
  match v with
  | .num n =>
    fieldsAgree o n.toNat && entryHolds o n.toNat &&
    (o.ty != .bool || decide (0 ≤ n) && decide (n ≤ 1))
      && (o.range.isEmpty || o.range.any fun r => decide (r.1 ≤ n) && decide (n ≤ r.2))
      && o.fields.all fun f => f.holds n.toNat
  | .bytes _ => true

/-- Whether the access class permits a write. -/
def Access.writable : Access → Bool
  | .const | .ro => false
  | .rw | .rg | .wo | .ex => true

/-- Whether the access class permits a read. -/
def Access.readable : Access → Bool
  | .wo | .ex => false
  | .const | .ro | .rw | .rg => true

/-- Rows of an object: a table's own count, one otherwise (R34). -/
def Obj.rowCount (o : Obj) : Nat := if o.rows = 0 then 1 else o.rows

/-- Whether the green set is locked (R44). -/
def State.greenLocked (s : State) : Bool := s.sets.rack.state != .idle

/-- Whether an interrupt source may be configured (Table 16-8). -/
def icuRoutable (id : Nat) : Bool := decide (id ≤ 3) || (decide (8 ≤ id) && decide (id ≤ 201))

/-- Rows of a writable table that nobody may write: the firmware's calendar rows (R80) and the fixed interrupt sources
(R399). -/
def rowFixed (o : Obj) (row : Nat) : Bool :=
  ((o.code == Obj.tbsCalW0.code || o.code == Obj.tbsCalW1.code) && decide (256 ≤ row) && decide (row < 4096))
    || (o.code == Obj.icuSrc.code && decide (row < 256) && !icuRoutable row)

/-- Steps 2 to 4 of R454 for a write: access class, role, row. -/
def State.accessRefusal (s : State) (who : Path) (o : Obj) (row : Nat) (writing : Bool) : Option Status :=
  if (if writing then o.access.writable && !rowFixed o row else o.access.readable) = false then some .access
  else
    match s.roleOf who with
    | none => some .noSession
    | some r => if r.code < o.role.code then some .role else if row < o.rowCount then none else some .row

/-- Steps 2 to 8 of R454 for a write: the first condition the access breaks, if any. -/
def State.writeRefusal (s : State) (who : Path) (o : Obj) (row : Nat) (v : Value) : Option Status :=
  match s.accessRefusal who o row true with
  | some st => some st
  | none =>
    match formRefusal o v with
    | some st => some st
    | none =>
      if setsReserved o v then some .reserved
      else if inRange o row v = false then some .range
      else if o.access = .rg ∧ s.greenLocked then some .greenLocked
      else none

/-- What a command does once every check of R454 before the object's own has passed: the state and the status. -/
abbrev Effect := State × Status

/-- Whether the Cask keeps an object's value (its chapter's table): a live object, not a key. -/
def Obj.kept (o : Obj) : Bool := o.cask && o.access == .rw

/-- Keeps a value in the Cask's live objects. -/
def State.keep (s : State) (o : Obj) (row : Nat) (v : Value) : State :=
  { s with cask := { s.cask with live := Store.write s.cask.live o row v } }

/-- A command on one object: the checks of R454, then the object's own effect; the status is answered to the accessor, and a
value that the Cask keeps is written there. -/
def objectCommand (t : Nat) (who : Path) (o : Obj) (row : Nat) (v : Value) (eff : State → Effect) (s : State) :
    Host.Outcome State Fault Refusal :=
  let s := (s.land t).accessed who
  match s.writeRefusal who o row v with
  | some st => .next (s.send (.answer who st []))
  | none =>
    let r := eff s
    let s := if r.2 = .ok ∧ o.kept then r.1.keep o row v else r.1
    .next (s.send (.answer who r.2 []))

/-! ### Picture-store capacity -/

/-- Table 14-3: D of a width. -/
def ddrDevices : Nat → Nat
  | 0 => 8 | 1 => 4 | _ => 2

/-- Gigabits of a density code. -/
def ddrDensity : Nat → Nat
  | 0 => 8 | 1 => 16 | 2 => 24 | _ => 32

/-- NR of MEM_DD_CONFIG. -/
def ddrRanks (cfg : Nat) : Nat := 1 + bits cfg 5 5

/-- R330: Cch in bytes. -/
def ddrCapacity (cfg : Nat) : Nat :=
  2 * ddrRanks cfg * ddrDevices (bits cfg 1 0) * (ddrDensity (bits cfg 4 2) * 2 ^ 27)

end Sys2Proof.Machine
end

