-- ==== Sys2Proof/Machine/CalRows.lean ====
section
/-! DEFINITION. The entries of the event calendar: rows 0 to 255 as their words give them, the rows of the firmware (R80, R81),
and the order in which entries that are due fire (R82). -/
set_option Elab.async false
namespace Sys2Proof.Machine

/-- Word 0 of a row. -/
def State.calW0 (s : State) (row : Nat) : Nat := s.val Obj.tbsCalW0 row
/-- Word 1 of a row. -/
def State.calW1 (s : State) (row : Nat) : Nat := s.val Obj.tbsCalW1 row

/-- R84: the place a row names; a LINE at or beyond Lt is line 0 of the next frame. -/
def State.calPlace (s : State) (w0 : Nat) : CTime :=
  if s.tbs.raster.lt ≤ bits w0 47 32 then { frame := add32 (bits w0 31 0) 1, line := 0 }
  else { frame := bits w0 31 0, line := bits w0 47 32 }

/-- R74: a row's instant in device time. -/
def State.calInstant (s : State) (w0 w1 : Nat) : Nat :=
  let c := s.calPlace w0
  s.instant c.frame c.line (bits w1 19 0)

/-- R82: the 8 ns tick on which a row is due: the first at or after its instant. -/
def State.calTickOf (s : State) (row : Nat) : Nat := ceilDiv (s.calInstant (s.calW0 row) (s.calW1 row)) 8

/-- R82: whether a row's instant is reached: armed, and its tick has come. -/
def State.calReached (s : State) (row : Nat) : Bool := bit (s.calW1 row) 52 && decide (s.calTickOf row ≤ s.deviceTime / 8)

/-- R82: whether four entries have fired on the present tick. -/
def State.calTickFull (s : State) : Bool := s.tbs.calTick.1 == s.deviceTime / 8 && decide (4 ≤ s.tbs.calTick.2)

/-- R82: one more entry has fired on the present tick. -/
def State.calTicked (s : State) : State :=
  let k := s.deviceTime / 8
  { s with tbs := { s.tbs with calTick := (k, if s.tbs.calTick.1 = k then s.tbs.calTick.2 + 1 else 1) } }

/-! ### Rows 256 to 4,095 -/

/-- An entry of the firmware: action of Table 3-4, OWNER, place, ARG. -/
structure CalEntry where
  action : Nat
  owner : Nat
  place : CTime
  arg : Nat
  deriving DecidableEq, Repr

/-- The two words of an entry of the firmware: armed, one-shot, MISS_DROP 0 (R79), MISSED where its instant lies in the past. -/
def CalEntry.words (e : CalEntry) (now : CTime) : Nat × Nat :=
  (e.place.frame % 4294967296 + e.place.line % 65536 * 2 ^ 32 + e.arg % 65536 * 2 ^ 48,
   e.action * 2 ^ 20 + e.owner % 4096 * 2 ^ 28 + 2 ^ 52 + ofBool (CTime.past now e.place) * 2 ^ 55)

/-- The internal entry of a rack (Table 2-3): code 0x20 at the swap line. -/
def State.rackEntry (s : State) : CalEntry := ⟨0x20, 0x008, s.swapLine s.sets.rack.frame, 0⟩

/-- The internal entry of a pending rack. -/
def State.calRacks (s : State) : List CalEntry := if s.sets.rack.state = .scheduled then [s.rackEntry] else []

/-- The internal entry of an effort change (R181): code 0x21, the level in ARG. -/
def State.effortEntry (s : State) (x : EffortChange) : CalEntry := ⟨0x21, 0x340, s.swapLine x.frame, x.level⟩

/-- The internal entries of agreed effort changes. -/
def State.calEfforts (s : State) : List CalEntry := (s.dsp.effortPending.filter fun x => x.agreed).map s.effortEntry

/-- The internal entry of a nudge start (R205): code 0x22, the entry in ARG. -/
def State.nudgeEntry (s : State) (seg : Nat) (n : Nudge) : CalEntry := ⟨0x22, 0x350, s.swapLine n.fn, seg⟩

/-- The internal entries of agreed nudge starts. -/
def State.calNudges (s : State) : List CalEntry :=
  (s.rake.nudges.filter fun p => (p.2.state == .scheduled || p.2.state == .queued) && p.2.agreed && !p.2.taken).map fun p =>
    s.nudgeEntry p.1 p.2

/-- The internal entry of a retraining pause (R342): code 0x23. -/
def pauseEntry (c : CTime) : CalEntry := ⟨0x23, 0x500, c, 0⟩

/-- The internal entry of a rotation (R178): code 0x24. -/
def rotateEntry (f : Nat) : CalEntry := ⟨0x24, 0x340, ⟨f, 0⟩, 0⟩

/-- The internal entry of a patch switch (R153), for which Table 3-4 lists no code. -/
def State.switchEntry (s : State) (w : PatchSwitch) : CalEntry := ⟨0x25 + Config.patchAction % 27, 0x300, s.swapLine w.frame, 0⟩

/-- The internal entries of a retraining pause, the next rotation and a patch switch. -/
def State.calOthers (s : State) : List CalEntry :=
  (s.mem.armed.map pauseEntry).toList ++ (s.dsp.rotateAt.map rotateEntry).toList ++
  ((s.tuns.switch.filter fun w => w.agreed).map s.switchEntry).toList

/-- The entries of the firmware, from row 256 on (R80, R81): racks, effort changes, refresh nudges, retraining pauses, rotations
and patch switches. Which row holds which, OWNER and ARG are DESIGN CHOICE (log entry 80). -/
def State.calInternal (s : State) : List CalEntry := s.calRacks ++ s.calEfforts ++ s.calNudges ++ s.calOthers

/-- R82: whether an entry of the firmware fires now: its instant is reached outside a gap, no row before it is due on its tick or an
earlier one, and the present tick has room. -/
def State.calTurn (s : State) (e : CalEntry) : Bool :=
  let tick (c : CTime) : Nat := ceilDiv (s.instant c.frame c.line 0) 8
  !s.inGap && s.reached e.place && !s.calTickFull &&
    !((List.range 256).any fun q => s.calReached q && decide (s.calTickOf q ≤ tick e.place)) &&
    !((s.calInternal.takeWhile fun x => x != e).any fun x => s.reached x.place && decide (tick x.place ≤ tick e.place))

end Sys2Proof.Machine
end

