-- ==== Sys2Proof/Machine/Ports.lean ====
section
/-! DEFINITION. What the ports are doing, as the other units see it: modes and rates (Table 12-1), failover (R284), next
hops (R290), and the twin's and SAFE's hold on emission. -/
set_option Elab.async false
namespace Sys2Proof.Machine

/-- Lanes of a mode, Table 12-1. -/
def modeLanes : Nat → Nat
  | 0 | 1 | 2 => 1
  | 3 | 5 => 4
  | 4 => 2
  | 6 => 8
  | _ => 0

/-- Line rate of a mode in Gb/s (R276). -/
def modeGbps : Nat → Nat
  | 0 => 10 | 1 => 25 | 2 => 50 | 3 | 4 => 100 | 5 => 200 | 6 => 400
  | _ => 0

/-- Whether a mode allows a FEC code, Table 12-1. -/
def modeFec (mode fec : Nat) : Bool :=
  if mode = 0 then fec == 0 else if mode = 1 ∨ mode = 3 then decide (fec ≤ 1) else fec == 2

/-- EN of a port. -/
def State.portEnabled (s : State) (n : Nat) : Bool := bit (s.portWord n 0) 0

/-- MODE of a port. -/
def State.portMode (s : State) (n : Nat) : Nat := bits (s.portWord n 0) 3 1

/-- TWIN of a port. -/
def State.portTwin (s : State) (n : Nat) : Bool := bit (s.portWord n 0) 7

/-- An enabled port that is not a twin port. -/
def State.portUsable (s : State) (n : Nat) : Bool := decide (n < 96) && s.portEnabled n && !s.portTwin n

/-- FAILOVER of a port. -/
def State.portFailover (s : State) (n : Nat) : Nat := bits (s.portWord n 0) 31 24

/-- Whether a port is UP. -/
def State.portUp (s : State) (n : Nat) : Bool := (s.port n).state == .up

/-- R282: whether port `n` holds a lane down: it is enabled and not UP. -/
def State.laneIsDown (s : State) (n : Nat) : Bool := s.portEnabled n && (s.port n).state != .up

/-- R284: the port that carries the traffic of `p` now: its failover port while `p` is not UP, or while a FAILOVER
reaction holds (Table 16-4), provided that port is UP. -/
def State.pathPort (s : State) (p : Nat) : Nat :=
  let q := s.portFailover p
  if (s.portUp p ∧ !(s.port p).forcedOver) then p else if q < 96 ∧ s.portUp q then q else p

/-- The MAC address a frame to `dst` takes on a port: mapped for multicast, resolved for unicast (R290). -/
def State.destMac (s : State) (port : Nat) (v6 : Bool) (dst : Nat) : Option Nat :=
  if isMulticast v6 dst then
    some (if v6 then 0x333300000000 + bits dst 31 0 else 0x01005E000000 + bits dst 22 0)
  else
    match s.nextHop port v6 dst with
    | none => none
    | some h => (s.links.hops.find? fun x => x.port == port && x.addr == h).map (·.mac)

/-- Whether the device is silenced as a twin (R244). -/
def State.silenced (s : State) : Bool := s.twn.state == .silenced

/-- R234: twin mode in the sense that picks a rule's twin form: the bright TWN_MODE is not 0 and the device is not in
SOLO. -/
def State.twinMode (s : State) : Bool := s.bright Obj.twnMode != 0 && s.twn.state != .solo

end Sys2Proof.Machine
end

