-- ==== Sys2Proof/Machine/Egress.lean ====
section
/-! DEFINITION. The frames that leave a port, byte by byte (R285, R290): the MAC's framing, the IP and UDP headers that the Link
Fabric completes. -/
set_option Elab.async false
namespace Sys2Proof.Machine

/-- R285, R286: a frame from destination MAC to FCS: with a tag where it has one, padded to 64 bytes, closed by its FCS (the FCS
of IEEE 802.3, which the manual's MAC generates: PRESUMED; log entry 92). -/
def macFrame (dst src : Nat) (tci : Option Nat) (ty : Nat) (payload : Bytes) : Bytes :=
  let tag : Bytes := match tci with
    | none => []
    | some v => bytesBE 2 0x8100 ++ bytesBE 2 v
  let b := bytesBE 6 dst ++ bytesBE 6 src ++ tag ++ bytesBE 2 ty ++ payload
  let b := b ++ zeros (60 - b.length)
  b ++ bytesLE 4 (crcReflected 0xEDB88320 b)

/-- R290: an IPv4 packet: identification 0, DF set, the header checksum computed. -/
def ipv4Packet (src dst proto ttl dscp : Nat) (payload : Bytes) : Bytes :=
  let header (sum : Nat) : Bytes :=
    bytesBE 2 (0x4500 + 4 * dscp) ++ bytesBE 2 (20 + payload.length) ++ bytesBE 4 0x4000 ++ bytesBE 1 ttl ++ bytesBE 1 proto
      ++ bytesBE 2 sum ++ bytesBE 4 src ++ bytesBE 4 dst
  header (65535 - onesSum (header 0)) ++ payload

/-- R290: an IPv6 packet. -/
def ipv6Packet (src dst next hops dscp : Nat) (payload : Bytes) : Bytes :=
  bytesBE 4 (0x60000000 + dscp * 2 ^ 22) ++ bytesBE 2 payload.length ++ bytesBE 1 next ++ bytesBE 1 hops ++ bytesBE 16 src
    ++ bytesBE 16 dst ++ payload

/-- R290: a UDP datagram: checksum 0 over IPv4, computed over IPv6. -/
def udpDatagram (v6 : Bool) (src dst sport dport : Nat) (payload : Bytes) : Bytes :=
  let n := 8 + payload.length
  let header (sum : Nat) : Bytes := bytesBE 2 sport ++ bytesBE 2 dport ++ bytesBE 2 n ++ bytesBE 2 sum
  let pseudo := bytesBE 16 src ++ bytesBE 16 dst ++ bytesBE 4 n ++ bytesBE 4 17
  let sum := 65535 - onesSum (pseudo ++ header 0 ++ payload)
  header (if v6 = false then 0 else if sum = 0 then 65535 else sum) ++ payload

/-- R284, R301: the IP address a port's traffic leaves from: its global IPv6 address, or the link-local one where it has no other (the
latter DESIGN CHOICE; log entry 92). -/
def State.egressSource (s : State) (n : Nat) (v6 : Bool) : Nat :=
  if v6 = false then s.portIpv4 n else if s.portIpv6 n = 0 then s.portLinkLocal n else s.portIpv6 n

/-- R290: a UDP frame that leaves port `n` for `dst` under MAC address `mac`: source addresses are the port's. -/
def State.udpFrame (s : State) (n mac : Nat) (tci : Option Nat) (v6 : Bool) (dst sport dport ttl dscp : Nat) (payload : Bytes) : Bytes :=
  let src := s.egressSource n v6
  let u := udpDatagram v6 src dst sport dport payload
  macFrame mac (s.portMac n) tci (if v6 then 0x86DD else 0x0800)
    (if v6 then ipv6Packet src dst 17 ttl dscp u else ipv4Packet src dst 17 ttl dscp u)

end Sys2Proof.Machine
end

