-- ==== Sys2Proof/Machine/Kegs.lean ====
section
/-! DEFINITION. The Keg pools: handles, free buffers, use counts (R369 to R375). Allocation, whose DRY reports make the
Taproom shed, stands in `KegAlloc.lean`. -/
set_option Elab.async false
namespace Sys2Proof.Machine

/-- Buffers of a pool in force (KEG_POOL_COUNT_NOW). -/
def State.kegCount (s : State) (pool : Nat) : Nat := if pool < 5 then s.val Obj.kegPoolCountNow pool else 0

/-- R369: base(i), the W address at which pool i starts. -/
def State.kegBase (s : State) (pool : Nat) : Nat :=
  (List.range pool).foldl (fun acc i => acc + s.kegCount i * kegSize i) 0x02000000

/-- R369: the handle of buffer x of pool i. -/
def kegHandle (pool x : Nat) : Nat := pool * 2097152 + x

/-- The pool code of a handle. -/
def handlePool (h : Nat) : Nat := bits h 23 21

/-- The buffer index of a handle. -/
def handleIndex (h : Nat) : Nat := bits h 20 0

/-- R369: the W address of a handle's first byte. -/
def State.kegAddress (s : State) (h : Nat) : Nat :=
  s.kegBase (handlePool h) + handleIndex h * kegSize (handlePool h)

/-- Whether a handle names a buffer: a pool code of 0 to 4 and an index below the count (R374). -/
def State.handleValid (s : State) (h : Nat) : Bool := decide (handleIndex h < s.kegCount (handlePool h))

/-- The use count of a handle. -/
def State.kegUses (s : State) (h : Nat) : Nat := Table.get 0 s.keg.uses h

/-- Whether the state word of a handle's buffer is withdrawn (R375). -/
def State.kegWithdrawn (s : State) (h : Nat) : Bool := s.keg.withdrawn.contains (h / 16)

/-- The lowest index from `x` on whose handle is neither in use nor withdrawn, looking at most `fuel` indices on. -/
def State.kegLowest (s : State) (pool : Nat) : Nat → Nat → Option Nat
  | 0, _ => none
  | fuel + 1, x =>
    if s.kegCount pool ≤ x then none
    else if s.kegUses (kegHandle pool x) = 0 ∧ !s.kegWithdrawn (kegHandle pool x) then some x
    else s.kegLowest pool fuel (x + 1)

/-- The lowest free index of a pool, if it has one. -/
def State.kegFirstFree (s : State) (pool : Nat) : Option Nat :=
  s.kegLowest pool (s.keg.uses.length + 16 * s.keg.withdrawn.length + 1) 0

/-- Free buffers of a pool (KEG_POOL_FREE). -/
def State.kegFreeCount (s : State) (pool : Nat) : Nat :=
  let used := (s.keg.uses.filter fun p => decide (handlePool p.1 = pool) && !(s.keg.withdrawn.contains (p.1 / 16))).length
  let lost := 16 * (s.keg.withdrawn.filter fun g => decide (handlePool (g * 16) = pool)).length
  s.kegCount pool - used - lost

/-- Sets a use count, recording the pool's free buffers for KEG_POOL_LOW. -/
def State.kegSetUses (s : State) (h n : Nat) : State :=
  let pool := handlePool h
  let before := s.kegFreeCount pool
  let s := { s with keg := { s.keg with uses := Table.set 0 s.keg.uses h n } }
  { s with keg := { s.keg with
    levels := Table.insert s.keg.levels pool (levelsAdd s.now before (s.kegFreeCount pool) (Table.get [] s.keg.levels pool)) } }

/-- R375: an uncorrectable state word withdraws its 16 buffers until reset. -/
def State.kegWithdraw (s : State) (h : Nat) : State :=
  if s.kegWithdrawn h then s
  else
    let s := { s with keg := { s.keg with withdrawn := s.keg.withdrawn ++ [h / 16] } }
    (s.count Obj.kegLost 0 16).report 0x590 .eccUncorr 0 (handlePool h * 256)

/-- R374: the checks of a free or a take, in order: an invalid handle is ignored with BUS_ERR, a withdrawn buffer's is
ignored without a report, a buffer whose count is 0 gives DOUBLE_FREE; else `f` acts. -/
def State.kegChecked (s : State) (port h ecc : Nat) (f : State → State) : State :=
  if s.handleValid h = false then (s.count Obj.kegBadHandles).report 0x590 .busErr 0 (port * 256 + 1)
  else
    let s := if ecc = 2 then s.kegWithdraw h else s
    if s.kegWithdrawn h then s
    else if s.kegUses h = 0 then
      (s.count Obj.kegDoubleFrees).report 0x590 .doubleFree (h % 16777216) (port * 256)
    else f s

/-- R374: a holder frees a buffer. -/
def State.kegFree (s : State) (port h : Nat) (ecc : Nat := 0) : State :=
  s.kegChecked port h ecc fun s => s.kegSetUses h (s.kegUses h - 1)

/-- R374: a unit takes a buffer; at count 15 the take is refused and answered DRY. -/
def State.kegTake (s : State) (port h : Nat) (ecc : Nat := 0) : State :=
  s.kegChecked port h ecc fun s =>
    if 15 ≤ s.kegUses h then
      ((s.send (.dry port (handlePool h))).count Obj.kegPoolDry (handlePool h)).report 0x590 .busErr 0 (port * 256 + 2)
    else s.kegSetUses h (s.kegUses h + 1)

/-- Frees each handle of a list. -/
def State.kegFreeAll (s : State) (port : Nat) (hs : List Nat) : State := hs.foldl (fun acc h => acc.kegFree port h) s

/-- R371: the smallest pool whose size is at least S; none above 65,536. -/
def kegFirstPool (size : Nat) : Option Nat := (List.range 5).find? fun i => decide (size ≤ kegSize i)

/-- FREE (R374). -/
def execFreeKeg (t port handle ecc : Nat) (s : State) : Host.Outcome State Fault Refusal :=
  .next ((s.land t).kegFree port handle ecc)

/-- TAKE (R374). -/
def execTake (t port handle ecc : Nat) (s : State) : Host.Outcome State Fault Refusal :=
  .next ((s.land t).kegTake port handle ecc)

end Sys2Proof.Machine
end

