-- ==== Sys2Proof/Machine/KegAlloc.lean ====
section
/-! DEFINITION. Keg allocation (R371, R372) and the shedding of retained packets that a POOL_DRY report signals
(R317). -/
set_option Elab.async false
namespace Sys2Proof.Machine

/-- A tap. -/
def State.tapAt (s : State) (p : Nat) : Tap := Table.get Tap.idle s.tap.taps p

/-- Replaces a tap. -/
def State.setTap (s : State) (p : Nat) (x : Tap) : State :=
  { s with tap := { s.tap with taps := Table.set Tap.idle s.tap.taps p x } }

/-- Releases the oldest packet of a tap's window: its buffers are freed. -/
def State.windowRelease (s : State) (p : Nat) : State :=
  match (s.tapAt p).window with
  | [] => s
  | x :: rest => (s.setTap p { s.tapAt p with window := rest }).kegFreeAll 2 x.pkt.kegs

/-- The tap whose rewind mark departed earliest, with that instant. -/
def oldestMark : List (Nat × Tap) → Option (Nat × Nat)
  | [] => none
  | (p, x) :: rest =>
    match x.window.head?, oldestMark rest with
    | none, r => r
    | some w, none => some (p, w.departed)
    | some w, some (q, d) => if w.departed ≤ d then some (p, w.departed) else some (q, d)

/-- R317, pool pressure: releases up to `n` packets from the windows whose rewind marks departed earliest. -/
def shed : Nat → State → State
  | 0, s => s
  | n + 1, s =>
    match oldestMark s.tap.taps with
    | none => s
    | some (p, _) => shed n ((s.windowRelease p).count Obj.tapShed)

/-- R372: a pool answers DRY: counted, reported at most once per hold-off; the report makes the Taproom shed. -/
def State.kegDry (s : State) (pool : Nat) : State :=
  let s := s.count Obj.kegPoolDry pool
  let due :=
    match (s.keg.lastDry.find? fun p => p.1 == pool) with
    | none => true
    | some p => decide (p.2 + 1000 * s.val Obj.kegDryHoldoffUs ≤ s.now)
  if due then
    let s := { s with keg := { s.keg with lastDry := Table.insert s.keg.lastDry pool s.now } }
    shed (s.val Obj.tapShedPkts) (s.report 0x590 .poolDry 0 (pool * 256))
  else s

/-- R371: the grant moves a pool's turn: past its port, and on port 0 past the Tun. -/
def Keg.granted (k : Keg) (pool port : Nat) : Keg :=
  { k with lastPort := Table.insert k.lastPort pool (port % 8),
           lastTun := if port % 8 = 0 then Table.insert k.lastTun pool (port / 8) else k.lastTun }

/-- R371: one pool serves one request: the lowest free index, or DRY. An uncorrectable state word withdraws the buffers
of the lowest index and the next one is taken (R375). -/
def State.kegTry (s : State) (port pool : Nat) (spilled : Bool) (ecc : Nat := 0) : State × Option Nat :=
  let s :=
    match s.kegFirstFree pool with
    | none => s
    | some x => if ecc = 2 then s.kegWithdraw (kegHandle pool x) else s
  match s.kegFirstFree pool with
  | none => (s.kegDry pool, none)
  | some x =>
    let s := s.kegSetUses (kegHandle pool x) 1
    let s := { s with keg := s.keg.granted pool port }
    (s.when spilled (fun s => s.count Obj.kegPoolSpillsIn pool), some (kegHandle pool x))

/-- A request that may spill: pools from `pool` on, up to the Hogshead. -/
def kegSpill (port : Nat) : Nat → Nat → Bool → State → State × Option Nat
  | 0, _, _, s => (s, none)
  | fuel + 1, pool, spilled, s =>
    match s.kegTry port pool spilled with
    | (s, some h) => (s, some h)
    | (s, none) => if pool < 4 then kegSpill port fuel (pool + 1) true s else (s, none)

/-- A unit's own request for `size` bytes with the spill flag set (Table 15-7). -/
def State.kegAlloc (s : State) (port size : Nat) : State × Option Nat :=
  match kegFirstPool size with
  | none => (s, none)
  | some pool => kegSpill port 5 pool false s

/-- R372: the answer to a request: the handle; or DRY from the last pool it may use; or it competes in the next larger
pool from the following cycle (1 ns) on. Table 15-7: the Maltster (port 4) asks again 10 µs after a DRY, until 10 ms have passed and the
command in progress ends with FAILED. -/
def State.kegAnswer (s : State) (r : KegReq) : Option Nat → State
  | some h => s.send (.handle r.port h)
  | none =>
    if r.spill ∧ r.pool < 4 then
      { s with keg := { s.keg with
        waiting := s.keg.waiting ++ [{ r with pool := r.pool + 1, spilled := true, since := s.now + 1 }] } }
    else
      let s := s.send (.dry r.port r.pool)
      if r.port ≠ 4 then s
      else if r.born + 10000000 ≤ s.now then s.send (.commandFailed r.port)
      else
        { s with keg := { s.keg with
          waiting := s.keg.waiting ++ [{ r with pool := r.first, spilled := false, since := s.now + 10000 }] } }

/-- The requests that compete for a pool in this cycle. -/
def State.kegCompeting (s : State) (pool : Nat) : List KegReq :=
  s.keg.waiting.filter fun r => decide (r.pool = pool ∧ r.since ≤ s.now)

/-- R371: how far a requester's turn is away at a pool: the port after the last one granted comes first, in ascending order wrapping
from 5 to 0, and on port 0 the Tun after the last one. Before a pool's first grant the order starts at port 0 and Tun 0 (log 86). -/
def Keg.turn (k : Keg) (pool port : Nat) : Nat :=
  let after (n : Nat) (last : Option Nat) (x : Nat) : Nat := last.elim x fun l => (x + n - 1 - l) % n
  64 * after 6 (k.lastPort.lookup pool) (port % 8) +
    (if port % 8 = 0 then after 64 (k.lastTun.lookup pool) (port / 8) else 0)

/-- The request whose turn comes first; of one requester's requests, the one that came first. -/
def Keg.firstOf (k : Keg) (pool : Nat) : List KegReq → Option KegReq
  | [] => none
  | r :: rest =>
    match k.firstOf pool rest with
    | none => some r
    | some q => if k.turn pool q.port < k.turn pool r.port then some q else some r

/-- R372: a loser sees the pool empty: it is answered DRY there. -/
def State.kegLoser (s : State) (r : KegReq) : State :=
  ({ s with keg := { s.keg with waiting := s.keg.waiting.erase r } }.kegDry r.pool).kegAnswer r none

/-- R371, R372: one cycle of a pool: the port after the one it granted last wins; where no free buffer is left, every
other request of the cycle is answered DRY, and else it competes on. -/
def State.kegServe (s : State) (pool ecc : Nat) : State :=
  match s.keg.firstOf pool (s.kegCompeting pool) with
  | none => s
  | some r =>
    let losers := (s.kegCompeting pool).erase r
    let s := { s with keg := { s.keg with waiting := s.keg.waiting.erase r } }
    let x := s.kegTry r.port pool r.spilled ecc
    let dry := x.2.isNone || (x.1.kegFirstFree pool).isNone
    let s := x.1.kegAnswer r x.2
    if dry then losers.foldl (fun s l => s.kegLoser l) s else s

/-- R371: a request of 1 to 65,536 bytes competes for the smallest pool that holds it. -/
def State.kegAsk (s : State) (port size : Nat) (spill : Bool) : State :=
  match (if size = 0 then none else kegFirstPool size) with
  | none => s
  | some pool =>
    { s with keg := { s.keg with waiting := s.keg.waiting ++
      [{ port := port, pool := pool, spill := spill, spilled := false, since := s.now, first := pool, born := s.now }] } }

/-- ALLOCATE (R371, R372): a request, and the other requests of the same cycle; each pool then serves its cycle. `port` is the
requester: the port, and 8 times the Tun on port 0. -/
def execAllocate (t port size : Nat) (spill : Bool) (cycle : KegCycle) (s : State) :
    Host.Outcome State Fault Refusal :=
  let s := cycle.others.foldl (fun s o => s.kegAsk o.1 o.2.1 o.2.2) ((s.land t).kegAsk port size spill)
  .next ((List.range 5).foldl (fun s pool => s.kegServe pool (if kegFirstPool size = some pool then cycle.ecc else 0)) s)

/-- ALLOCATE_SPILL (R372): a spilled request competes in the next larger pool, which serves its cycle. -/
def execAllocateSpill (t port pool ecc : Nat) (s : State) : Host.Outcome State Fault Refusal :=
  let s := s.land t
  if (s.kegCompeting pool).any (fun r => r.port == port) then .next (s.kegServe pool ecc) else .next s

end Sys2Proof.Machine
end

