-- ==== Sys2Proof/Machine/Taproom.lean ====
section
/-! DEFINITION. The Taproom: tap entries, charges, scheduled departures, queues, the calendar wheel, port scheduling,
the retransmission window (R300 to R317, R321). NACKs and sender reports stand in `TapRepair.lean`. -/
set_option Elab.async false
namespace Sys2Proof.Machine

/-! ### Tap entries (Table 13-1) -/

/-- Word `k` of a tap's entry. -/
def tapWord : Nat → Obj
  | 0 => Obj.tapW0 | 1 => Obj.tapW1 | 2 => Obj.tapW2 | 3 => Obj.tapW3 | 4 => Obj.tapW4 | 5 => Obj.tapW5
  | 6 => Obj.tapW6 | 7 => Obj.tapW7 | 8 => Obj.tapW8 | _ => Obj.tapW9

/-- Word `k` of tap `p` in a set. -/
def CanvasSet.tap (c : CanvasSet) (p k : Nat) : Nat := c.nat (tapWord k) p

/-- EN. -/
def CanvasSet.tapEn (c : CanvasSet) (p : Nat) : Bool := bit (c.tap p 0) 0
/-- V6. -/
def CanvasSet.tapV6 (c : CanvasSet) (p : Nat) : Bool := bit (c.tap p 0) 1
/-- DUAL. -/
def CanvasSet.tapDual (c : CanvasSet) (p : Nat) : Bool := bit (c.tap p 0) 2
/-- TAGGED. -/
def CanvasSet.tapTagged (c : CanvasSet) (p : Nat) : Bool := bit (c.tap p 0) 3
/-- MON. -/
def CanvasSet.tapMon (c : CanvasSet) (p : Nat) : Bool := bit (c.tap p 0) 7
/-- RATE, kbit/s. -/
def CanvasSet.tapRate (c : CanvasSet) (p : Nat) : Nat := bits (c.tap p 1) 31 0
/-- PEAK, kbit/s. -/
def CanvasSet.tapPeak (c : CanvasSet) (p : Nat) : Nat := bits (c.tap p 1) 63 32
/-- QMAX. -/
def CanvasSet.tapQmax (c : CanvasSet) (p : Nat) : Nat := bits (c.tap p 2) 47 32
/-- WIN. -/
def CanvasSet.tapWin (c : CanvasSet) (p : Nat) : Nat := bits (c.tap p 2) 63 48
/-- BURST, bytes. -/
def CanvasSet.tapBurst (c : CanvasSet) (p : Nat) : Nat := bits (c.tap p 3) 19 0
/-- QUANTUM, bytes. -/
def CanvasSet.tapQuantum (c : CanvasSet) (p : Nat) : Nat := bits (c.tap p 3) 35 20
/-- REPAIR_PERMILLE. -/
def CanvasSet.tapRepair (c : CanvasSet) (p : Nat) : Nat := bits (c.tap p 3) 45 36

/-- The port of a path: PORT_A, PORT_B or MON_PORT. -/
def CanvasSet.tapPort (c : CanvasSet) (p path : Nat) : Nat :=
  if path = 0 then bits (c.tap p 0) 14 8 else if path = 1 then bits (c.tap p 0) 21 15 else bits (c.tap p 0) 28 22

/-- The destination address of a path. -/
def CanvasSet.tapDest (c : CanvasSet) (p path : Nat) : Nat :=
  if c.tapV6 p then c.tap p (4 + 2 * path) * 2 ^ 64 + c.tap p (5 + 2 * path) else bits (c.tap p (5 + 2 * path)) 31 0

/-- The tag of a tap's frames: VID and PCP when TAGGED (R286). -/
def CanvasSet.tapTag (c : CanvasSet) (p : Nat) : Option Nat :=
  if c.tapTagged p then some (bits (c.tap p 0) 43 41 * 8192 + bits (c.tap p 0) 40 29) else none

/-- R301, R290, R284: the frame that carries a packet of tap `p` on a path out of port `n` to MAC address `mac`. The source addresses
are those of port `n`; sender reports, the CONTROL class, go to DST_UDP + 1 (R320). -/
def State.tapFrame (s : State) (c : CanvasSet) (n mac p path cls : Nat) (payload : Bytes) : Bytes :=
  let w0 := c.tap p 0
  let w2 := c.tap p 2
  s.udpFrame n mac (c.tapTag p) (c.tapV6 p) (c.tapDest p path) (bits w2 15 0) (bits w2 31 16 + ofBool (cls == 2))
    (bits w0 57 50) (bits w0 49 44) payload

/-! ### Charge and schedule -/

/-- R302: the charge of a packet of `n` bytes from the RTP header on. -/
def CanvasSet.charge (c : CanvasSet) (p n : Nat) : Nat :=
  let frame := 14 + (if c.tapTagged p then 4 else 0) + (if c.tapV6 p then 40 else 20) + 8 + n + 4
  4 * ceilDiv (max frame 64 + 20) 4

/-- R303: G, the bits of RATE in one frame period. -/
def CanvasSet.tapG (c : CanvasSet) (p : Nat) : Nat :=
  1000 * c.tapRate p * c.nat Obj.flrRateDen / c.nat Obj.flrRateNum

/-- Bucket units per byte (R304). -/
def tapUnit : Nat := 8000000

/-- The pacer of a tap: tk, tr, vlast (R304). -/
structure Pacer where
  tk : Int
  tr : Int
  vlast : Nat
  deriving DecidableEq, Repr

/-- R304: the scheduled departure of a packet of charge `c` whose launch line starts at `start`, and the pacer after
it. -/
def pace (peak rate burst g c start : Nat) (z : Pacer) : Nat × Pacer :=
  let t := max start z.vlast
  let need : Int := (c * tapUnit : Nat)
  let tk : Int := min (z.tk + ((t - z.vlast) * peak : Nat)) (burst * tapUnit : Nat)
  let tr : Int := min (z.tr + ((t - z.vlast) * rate : Nat)) (g * 1000000 : Nat)
  let d := max (ceilDiv (need - tk).toNat peak) (ceilDiv (need - tr).toNat rate)
  let tk : Int := min (tk + (d * peak : Nat)) (burst * tapUnit : Nat) - need
  let tr : Int := min (tr + (d * rate : Nat)) (g * 1000000 : Nat) - need
  (t + d, { tk := tk, tr := tr, vlast := t + d })

/-- R304: whether a packet of frame `f` continues the pacer of its tap. -/
def Tap.paced (x : Tap) (f : Nat) : Bool := x.started && !(x.restart.any fun r => !frameEarlier f r)

/-- The schedule of a tap's next packet under the set and the raster of its frame (R46, R74): v and the pacer after it. A tap whose pacer has not
started begins with full buckets (R304); a raw packet has the fixed departure of R306. -/
def State.tapSchedule (s : State) (p : Nat) (x : Pkt) (charge : Nat) : Nat × Pacer :=
  let c := s.setFor x.frame
  let start := (s.rasterOf x.frame).lineStart x.index x.launch
  let tap := s.tapAt p
  match x.rawNs with
  | some o => (start + o, { tk := tap.tk, tr := tap.tr, vlast := tap.vlast })
  | none =>
    let z : Pacer :=
      if tap.paced x.frame then { tk := tap.tk, tr := tap.tr, vlast := tap.vlast }
      else { tk := (c.tapBurst p * tapUnit : Nat), tr := (c.tapG p * 1000000 : Nat), vlast := start }
    pace (c.tapPeak p) (c.tapRate p) (c.tapBurst p) (c.tapG p) charge start z

/-- The bytes `b` with `new` in place of the bytes at offset `o`. -/
def splice (b : Bytes) (o : Nat) (new : Bytes) : Bytes := b.take o ++ new ++ b.drop (o + new.length)

/-- R222: LINE and NS written into the canvas-time element. -/
def Pkt.stamp (x : Pkt) (line ns : Nat) : Pkt :=
  if x.ctAt = 0 then x else { x with payload := splice x.payload (x.ctAt + 5) (bytesBE 2 line ++ bytesBE 3 ns) }

/-- R320: packets for tap `p` have consumed the numbers from `es` on, one for each length of an RTP payload. -/
def State.countOctets (s : State) (p es : Nat) (lengths : List Nat) : State :=
  let t := s.tapAt p
  s.setTap p { t with startEs := some (t.startEs.getD es), builtEs := add32 es lengths.length, octets := add32 t.octets lengths.sum }

/-- R320: the numbers of tap `p` start anew with its stream (R219): so do its counts (DEDUCED; log entry 92). -/
def State.restartCounts (s : State) (p : Nat) : State := s.setTap p { s.tapAt p with startEs := none, octets := 0 }

/-! ### Class queues (R308) -/

/-- A queue of a tap by class: 0 VIDEO, 1 REPAIR, 2 CONTROL, 3 MONITOR. -/
def Tap.queue (x : Tap) : Nat → TapQueue
  | 0 => x.video | 1 => x.repair | 2 => x.control | _ => x.monitor

/-- Replaces a queue. -/
def Tap.setQueue (x : Tap) (cls : Nat) (q : TapQueue) : Tap :=
  match cls with
  | 0 => { x with video := q }
  | 1 => { x with repair := q }
  | 2 => { x with control := q }
  | _ => { x with monitor := q }

/-- A path of a tap. -/
def Tap.path (x : Tap) : Nat → TapPath
  | 0 => x.pathA | 1 => x.pathB | _ => x.pathM

/-- Replaces a path. -/
def Tap.setPath (x : Tap) (path : Nat) (z : TapPath) : Tap :=
  match path with
  | 0 => { x with pathA := z }
  | 1 => { x with pathB := z }
  | _ => { x with pathM := z }

/-- R308: the working-memory address of the descriptor that a queue holds as number `k` of its Firkins, 31 to each. -/
def State.descriptorAt (s : State) (q : TapQueue) (k : Nat) : Option Nat :=
  q.firkins[k / 31]?.map fun h => s.kegAddress h + 32 * (k % 31)

/-- A descriptor is written at the end of a queue: its words are good again. -/
def State.descriptorWritten (s : State) (p cls : Nat) : State :=
  let q := (s.tapAt p).queue cls
  match s.descriptorAt q (31 * (q.firkins.length - 1) + (q.tail - 1)) with
  | none => s
  | some a => { s with tap := { s.tap with badWords := s.tap.badWords.filter fun w => !(decide (a ≤ w) && decide (w < a + 32)) } }

/-- Makes room for one descriptor at the end of a queue: 31 to a Firkin, a new Firkin requested with the spill flag
(R308); none where every pool answers DRY. -/
def State.descriptorRoom (s : State) (p cls : Nat) : State × Bool :=
  let q := (s.tapAt p).queue cls
  if !q.firkins.isEmpty ∧ q.tail < 31 then
    ((s.setTap p ((s.tapAt p).setQueue cls { q with tail := q.tail + 1 })).descriptorWritten p cls, true)
  else
    match s.kegAlloc 2 1024 with
    | (s, none) => (s, false)
    | (s, some h) =>
      let q := (s.tapAt p).queue cls
      ((s.setTap p ((s.tapAt p).setQueue cls { q with firkins := q.firkins ++ [h], tail := 1 })).descriptorWritten p cls, true)

/-- Appends a packet to a queue. -/
def State.queueAppend (s : State) (p cls : Nat) (x : TapPkt) : State :=
  let t := s.tapAt p
  let q := t.queue cls
  s.setTap p (t.setQueue cls { q with pkts := q.pkts ++ [x] })

/-- One descriptor at the front of a queue is released; a Firkin without a descriptor is freed. A marker's reserved
descriptor stands outside the Firkins (R310). -/
def State.descriptorRelease (s : State) (p cls : Nat) (x : TapPkt) : State :=
  if x.slot = false then s
  else
    let t := s.tapAt p
    let q := t.queue cls
    let last := q.firkins.length ≤ 1 && decide (q.tail ≤ q.head + 1)
    if q.head + 1 = 31 ∨ last then
      let q' := { q with firkins := q.firkins.drop 1, head := 0, tail := if last then 0 else q.tail }
      (s.setTap p (t.setQueue cls q')).kegFreeAll 2 (q.firkins.take 1)
    else s.setTap p (t.setQueue cls { q with head := q.head + 1 })

/-- Whether a packet has been passed by a path. -/
def TapPkt.passed (x : TapPkt) (path : Nat) : Bool := if path = 1 then x.doneB else x.doneA

/-- The head of a path in a class queue. -/
def State.pathHead (s : State) (p path cls : Nat) : Option TapPkt :=
  (((s.tapAt p).queue cls).pkts).find? fun x => !x.passed path

/-! ### Eligibility (R313) -/

/-- A port's scheduler. -/
def State.sched (s : State) (n : Nat) : PortSched := Table.get PortSched.empty s.tap.ports n

/-- Replaces a scheduler. -/
def State.setSched (s : State) (n : Nat) (z : PortSched) : State :=
  { s with tap := { s.tap with ports := Table.set PortSched.empty s.tap.ports n z } }

/-- Whether a port schedules hierarchically (Table 13-4). -/
def State.portHier (s : State) (n : Nat) : Bool := bit (s.bright Obj.tapPortW0 n) 0

/-- The service order of the classes: CONTROL, VIDEO, REPAIR, MONITOR (R315, R316). -/
def classOrder : List Nat := [2, 0, 1, 3]

/-- Paths a list of active paths may hold: 1,024 in flat mode, 4,096 per class. -/
def activeLimit (key : Nat) : Nat := if key = 4 then 1024 else 4096

/-- A path joins an active list at its tail, with a deficit of 0, or waits while the list is full. -/
def PortSched.join (z : PortSched) (now key ref : Nat) : PortSched × Bool :=
  let l := Table.get [] z.active key
  let w := Table.get [] z.waiting key
  if l.contains ref ∨ w.contains ref then (z, false)
  else if l.length < activeLimit key then
    let active := Table.insert z.active key (l ++ [ref])
    let n (a : Table (List Nat)) : Nat := (a.map (·.2.length)).sum
    ({ z with active := active, dc := Table.set 0 z.dc (key * 65536 + ref) 0,
              levels := levelsAdd now (n z.active) (n active) z.levels, idle := false }, false)
  else ({ z with waiting := Table.insert z.waiting key (w ++ [ref]) }, true)

/-- A path leaves an active list; the first one that waits joins. -/
def PortSched.leave (z : PortSched) (now key ref : Nat) : PortSched :=
  let l := (Table.get [] z.active key).filter (· != ref)
  let z := { z with active := Table.insert z.active key l, dc := Table.set 0 z.dc (key * 65536 + ref) 0,
                    levels := levelsAdd now 0 ((z.active.map (·.2.length)).sum - 1) z.levels }
  match Table.get [] z.waiting key with
  | [] => z
  | r :: rest => (PortSched.join { z with waiting := Table.insert z.waiting key rest } now key r).1

/-- A path's reference in a scheduler. -/
def pathRef (p path : Nat) : Nat := p * 4 + path

/-- A class of a path becomes eligible on the port that carries the path. -/
def State.becomeEligible (s : State) (p path cls : Nat) : State :=
  match s.pathHead p path cls with
  | none => s
  | some h =>
    let t := s.tapAt p
    let z := t.path path
    let s := if z.eligible.contains cls then s
             else s.setTap p (t.setPath path { z with eligible := z.eligible ++ [cls] })
    let n := s.pathPort ((s.setFor h.pkt.frame).tapPort p path)
    let r := (s.sched n).join s.now (if s.portHier n then cls else 4) (pathRef p path)
    let s := s.setSched n r.1
    if r.2 then s.count Obj.tapPortWaiting n else s

/-- The head of a path in a class where it is eligible on port `n`: the port that carries the path for the head's frame (R284,
R321). -/
def State.headOn (s : State) (n ref cls : Nat) : Option TapPkt :=
  let p := ref / 4
  let path := ref % 4
  if ((s.tapAt p).path path).eligible.contains cls then
    (s.pathHead p path cls).filter fun h => s.pathPort ((s.setFor h.pkt.frame).tapPort p path) == n
  else none

/-- R307: device time at which a path's own pacer bucket holds a VIDEO packet's charge. -/
def State.pacerReady (s : State) (p path : Nat) (h : TapPkt) : Nat :=
  let c := s.setFor h.pkt.frame
  if h.pkt.rawNs.isSome ∨ path = 2 then 0
  else
    let z := (s.tapAt p).path path
    if h.charge * tapUnit ≤ min z.tokens (c.tapBurst p * tapUnit) then z.last
    else z.last + ceilDiv (h.charge * tapUnit - z.tokens) (c.tapPeak p)

/-- R313: the head of a path in a class is placed on the wheel, waits beyond its rotation, or is eligible at once. -/
def State.placeHead (s : State) (p path cls : Nat) : State :=
  match s.pathHead p path cls with
  | none => s
  | some h =>
    let due := if cls = 0 then max h.v (s.pacerReady p path h) else h.v
    if due ≤ s.deviceTime then s.becomeEligible p path cls
    else
      { s with tap := { s.tap with
        wheel := s.tap.wheel ++ [{ due := due, tap := p, path := path, cls := cls,
                                   placed := decide (due < s.deviceTime + 131072) }] } }

/-- After a packet joins a queue: each path whose head it is gets placed. -/
def State.placeNew (s : State) (p cls : Nat) (paths : List Nat) : State :=
  paths.foldl (fun s path =>
    let waiting := (((s.tapAt p).queue cls).pkts.filter fun x => !x.passed path).length
    if waiting = 1 then s.placeHead p path cls else s) s

/-- The paths a VIDEO, REPAIR or CONTROL packet of a tap takes. -/
def CanvasSet.tapPaths (c : CanvasSet) (p : Nat) : List Nat := if c.tapDual p then [0, 1] else [0]

/-! ### Drops, markers and offers -/

/-- R322: a Taproom fault, at most once per tap, kind and frame. -/
def State.tapFault (s : State) (p frame : Nat) (k : Kind) (detail : Nat) : State :=
  let t := s.tapAt p
  if t.reported.contains (k.code, frame) then s
  else
    let kept := t.reported.filter fun r => r.1 != k.code || decide (sub32 frame r.2 < 64) || decide (sub32 r.2 frame < 64)
    let s := s.setTap p { t with reported := kept ++ [(k.code, frame)] }
    s.report 0x400 k (faultAddr frame p) detail

/-- R224: the bytes of a gap marker in place of a dropped packet: its RTP header with M 0, the canvas-time element, the
gap element, and a filler data NAL unit. -/
def gapPayload (idGm count cause : Nat) (dropped : Bytes) : Bytes :=
  dropped.take 1 ++ bytesBE 1 (fieldBE dropped 1 1 % 128) ++ slice dropped 2 24
    ++ bytesBE 1 (idGm * 16 + 3) ++ bytesBE 2 count ++ bytesBE 1 cause ++ zeros 2 ++ bytesBE 3 0x00C980

/-- R300: a MONITOR copy of a VIDEO packet, a gap marker included, eligible on arrival; its queue holds 256. -/
def State.tapMirror (s : State) (p : Nat) (x : TapPkt) : State :=
  if (s.setFor x.pkt.frame).tapMon p = false ∨ 256 ≤ (s.tapAt p).monitor.pkts.length then s
  else
    match s.descriptorRoom p 3 with
    | (s, false) => s
    | (s, true) =>
      let s := x.pkt.kegs.foldl (fun s h => s.kegTake 2 h) s
      (s.queueAppend p 3 { x with v := s.deviceTime, doneB := true, slot := true }).placeNew p 3 [2]

/-- R322: a drop in a frame is counted, and reported with the drops of the frame so far. -/
def State.dropReport (s : State) (p frame cause : Nat) : State :=
  let t := s.tapAt p
  let n := (((t.drops.find? fun r => r.1 == frame).map (·.2)).getD 0) + 1
  let kept := t.drops.filter fun r => r.1 != frame && (decide (sub32 frame r.1 < 64) || decide (sub32 r.1 frame < 64))
  ((s.count Obj.tapDrops p).setTap p { t with drops := kept ++ [(frame, n)] }).tapFault p frame .gapDrop (cause * 4096 + min n 4095)

/-- R300, R313: a gap marker joins the VIDEO queue in the tap's reserved descriptor: it is the newest packet queued, and it is mirrored
to the monitor. -/
def State.markerQueue (s : State) (p : Nat) (x : TapPkt) : State :=
  let x := { x with slot := false }
  let s := s.queueAppend p 0 x
  let s := s.setTap p { s.tapAt p with newest := some x.pkt.es }
  (s.placeNew p 0 ((s.setFor x.pkt.frame).tapPaths p)).tapMirror p x

/-- A packet turned into the marker that takes its place. -/
def TapPkt.asMarker (x : TapPkt) (cause idGm : Nat) : TapPkt :=
  { x with pkt := { x.pkt with gapCount := 1, gapCause := cause, kegs := [], payload := gapPayload idGm 1 cause x.pkt.payload } }

/-- Whether drops of a packet leave a marker: on a coded tap, in single mode, with ASM_GAP_MARKERS set (R310). -/
def State.marksGaps (s : State) (x : TapPkt) : Bool :=
  !x.pkt.rawNs.isSome && !s.twinMode && (s.setFor x.pkt.frame).nat Obj.asmGapMarkers != 0

/-- A new marker in the place of `x`. -/
def State.tapMarker (s : State) (p : Nat) (x : TapPkt) (cause idGm : Nat) : State :=
  (s.count Obj.tapGapsSent).markerQueue p (x.asMarker cause idGm)

/-- R310, R311: a VIDEO packet offered is dropped. On a coded tap in single mode with ASM_GAP_MARKERS set, a marker
takes the first dropped packet's place and later drops of the run add to its COUNT. -/
def State.tapDrop (s : State) (p : Nat) (x : TapPkt) (cause : Nat) : State :=
  let s := (s.dropReport p x.pkt.frame cause).kegFreeAll 2 x.pkt.kegs
  if s.marksGaps x = false then s
  else
    let idGm := (s.setFor x.pkt.frame).nat Obj.asmExtIdGm
    let t := s.tapAt p
    let q := t.video
    match q.pkts.getLast? with
    | some m =>
      if m.pkt.gapCount ≠ 0 ∧ m.pkt.gapCause = cause ∧ !m.doneA ∧ add32 m.pkt.es m.pkt.gapCount = x.pkt.es then
        let n := min (m.pkt.gapCount + 1) 65535
        let pkt := { m.pkt with gapCount := n, payload := splice m.pkt.payload 27 (bytesBE 2 n) }
        s.setTap p { t with video := { q with pkts := q.pkts.dropLast ++ [{ m with pkt := pkt }] } }
      else s.tapMarker p x cause idGm
    | none => s.tapMarker p x cause idGm

/-- A packet as a class queue holds it, with the canvas time of its departure (R86, R305). -/
def State.tapPacket (s : State) (p : Nat) (x : Pkt) (charge v : Nat) : TapPkt :=
  let ct := s.ctimeAt v
  let ns := s.nsInLine v
  { pkt := x.stamp ct.line ns, charge := charge, v := v, line := ct.line, ns := ns, offered := s.now, doneA := false,
    doneB := !(s.setFor x.frame).tapDual p, slot := true, sent := false, departed := 0, copied := none }

/-- R309 to R313: a VIDEO packet that the queue takes: its descriptor, its place, its copy for the monitor. -/
def State.tapTake (s : State) (p : Nat) (x : TapPkt) : State :=
  match s.descriptorRoom p 0 with
  | (s, false) => s.tapDrop p x 3
  | (s, true) =>
    let s := s.queueAppend p 0 x
    let t := s.tapAt p
    let s := s.setTap p { t with newest := some x.pkt.es }
    (s.placeNew p 0 ((s.setFor x.pkt.frame).tapPaths p)).tapMirror p x

/-- Removes the first packet a producer holds for a tap. -/
def dropOffer (p : Nat) : List (Nat × Pkt) → List (Nat × Pkt)
  | [] => []
  | x :: rest => if x.1 = p then rest else x :: dropOffer p rest

/-- The packets of a tap's VIDEO queue, markers apart (R309). -/
def Tap.videoCount (t : Tap) : Nat := (t.video.pkts.filter fun x => x.pkt.gapCount == 0).length

/-- R305: the charges that the packets of an offer add to the chain: its own, or those of the dropped run it stands
for. -/
def CanvasSet.chainCharges (c : CanvasSet) (p : Nat) (x : Pkt) : List Nat :=
  (if x.chain.isEmpty then [x.payload.length] else x.chain).map (c.charge p)

/-- R304, R305: the offer's packets take their places in the chain of a tap; the scheduled departure of the first. -/
def State.tapChain (s : State) (p : Nat) (x : Pkt) : List Nat → State × Nat
  | [] => (s, s.deviceTime)
  | g :: rest =>
    let r := s.tapSchedule p x g
    let t := s.tapAt p
    let s := s.setTap p { t with started := true, restart := if t.paced x.frame then t.restart else none, tk := r.2.tk, tr := r.2.tr, vlast := r.2.vlast }
    ((s.tapChain p x rest).1, r.1)

/-- R309 to R312: an offered packet keeps its place in the chain and is flushed, taken or dropped; a run that the Assembler
dropped without a marker only keeps its place. -/
def State.tapAccept (s : State) (p : Nat) (x : Pkt) (full : Bool) : State :=
  let c := s.setFor x.frame
  let charges := c.chainCharges p x
  let r := s.tapChain p x charges
  let s := r.1
  if x.payload.isEmpty then s
  else
    let y := s.tapPacket p x (charges.getD 0 0) r.2
    if s.val Obj.tapFlush p = 1 then (s.count Obj.tapFlushed p).kegFreeAll 2 x.kegs
    else if x.gapCount ≠ 0 then s.markerQueue p y
    else if full then s.tapDrop p y 2
    else s.tapTake p y

/-- TAP_OFFER (R309 to R312): a producer offers its oldest packet for tap `p`. A credit-mode queue that holds QMAX
packets leaves it with its producer. -/
def execTapOffer (t tap : Nat) (s : State) : Host.Outcome State Fault Refusal :=
  let s := s.land t
  match s.tap.offers.find? fun x => x.1 == tap with
  | none => .next s
  | some x =>
    let c := s.setFor x.2.frame
    let full := decide (c.tapQmax tap ≤ (s.tapAt tap).videoCount)
    let credit := !bit (c.tap tap 0) 4
    if full ∧ credit ∧ s.val Obj.tapFlush tap = 0 then .next s
    else
      let s := { s with tap := { s.tap with offers := dropOffer tap s.tap.offers } }
      .next (s.tapAccept tap x.2 full)

/-! ### The calendar wheel -/

/-- Inserts a wheel entry by slot, tap and path (R313). -/
def insertDue (x : WheelEntry) : List WheelEntry → List WheelEntry
  | [] => [x]
  | y :: rest =>
    let before := decide (ceilDiv x.due 8 < ceilDiv y.due 8)
      || (ceilDiv x.due 8 == ceilDiv y.due 8 && decide (pathRef x.tap x.path < pathRef y.tap y.path))
    if before then x :: y :: rest else y :: insertDue x rest

/-- WHEEL_SLOT (R313): every placed head whose slot has been reached becomes eligible, slot by slot, in ascending tap,
then path. -/
def execWheelSlot (t : Nat) (s : State) : Host.Outcome State Fault Refusal :=
  let s := s.land t
  let now := s.deviceTime
  let due := s.tap.wheel.filter fun x => x.placed && decide (ceilDiv x.due 8 * 8 ≤ now)
  let rest := s.tap.wheel.filter fun x => !(x.placed && decide (ceilDiv x.due 8 * 8 ≤ now))
  let s := { s with tap := { s.tap with wheel := rest } }
  .next ((due.foldl (fun acc x => insertDue x acc) []).foldl (fun s x => s.becomeEligible x.tap x.path x.cls) s)

/-- WHEEL_SCAN (R313): every 65,536 ns heads beyond the rotation are placed once they come within range. -/
def execWheelScan (t : Nat) (s : State) : Host.Outcome State Fault Refusal :=
  let s := s.land t
  if s.now < s.tap.scannedAt + 65536 then .next s
  else
    let limit := s.deviceTime + 131072
    .next { s with tap := { s.tap with
      scannedAt := s.now,
      wheel := s.tap.wheel.map fun x => { x with placed := x.placed || decide (x.due < limit) } } }

/-! ### The port scheduler -/

/-- The head packet of a path that is eligible on port `n`: its class and the packet (R315). -/
def State.pathEligible (s : State) (n ref key : Nat) : Option (Nat × TapPkt) :=
  (if key = 4 then classOrder else [key]).findSome? fun cls => (s.headOn n ref cls).map fun h => (cls, h)

/-- R315: deficit round robin over an active list: the path to serve, with its class and packet. A path without an
eligible packet leaves the list. -/
def State.drr (n key : Nat) : Nat → State → State × Option (Nat × Nat × TapPkt)
  | 0, s => (s, none)
  | fuel + 1, s =>
    let z := s.sched n
    match Table.get [] z.active key with
    | [] => (s, none)
    | ref :: rest =>
      match s.pathEligible n ref key with
      | none => State.drr n key fuel (s.setSched n (z.leave s.now key ref))
      | some (cls, h) =>
        let dc := Table.get 0 z.dc (key * 65536 + ref)
        if dc < h.charge then
          let q := (s.setFor h.pkt.frame).tapQuantum (ref / 4)
          State.drr n key fuel (s.setSched n { z with active := Table.insert z.active key (rest ++ [ref]),
                                                      dc := Table.set 0 z.dc (key * 65536 + ref) (dc + q) })
        else (s, some (ref, cls, h))

/-- The rate of a class shaper in kbit/s (Table 13-4). -/
def State.classRate (s : State) (n : Nat) : Nat → Nat
  | 2 => bits (s.bright Obj.tapPortW1 n) 31 0
  | 0 => bits (s.bright Obj.tapPortW1 n) 63 32
  | 1 => bits (s.bright Obj.tapPortW2 n) 31 0
  | _ => bits (s.bright Obj.tapPortW2 n) 63 32

/-- R316: the class buckets of a port filled up to now, in the units of R304; a bucket never filled is full. -/
def State.refill (s : State) (n : Nat) : State :=
  let z := s.sched n
  let depth := bits (s.bright Obj.tapPortW3 n) 23 0 * tapUnit
  let dt := s.now - z.filledAt
  let fill (cls : Nat) : Nat :=
    match z.tokens.find? fun x => x.1 == cls with
    | none => depth
    | some x => min (x.2 + dt * s.classRate n cls) depth
  s.setSched n { z with tokens := (List.range 4).map fun cls => (cls, fill cls), filledAt := s.now }

/-- R316: the first class in service order with an eligible packet and tokens at least its charge. -/
def State.hierChoose (s : State) (n : Nat) : List Nat → State × Option (Nat × Nat × TapPkt)
  | [] => (s, none)
  | cls :: rest =>
    match State.drr n cls 65536 s with
    | (_, none) => s.hierChoose n rest
    | (s', some (ref, c, h)) =>
      let tk := Table.get 0 (s.sched n).tokens cls
      if h.charge * tapUnit ≤ tk then
        let z := s'.sched n
        (s'.setSched n { z with tokens := Table.insert z.tokens cls (tk - h.charge * tapUnit) }, some (ref, c, h))
      else s.hierChoose n rest

/-- The packet a port serves next, if any (R315, R316). -/
def State.portChoose (s : State) (n : Nat) : State × Option (Nat × Nat × TapPkt) :=
  if s.portHier n then (s.refill n).hierChoose n classOrder else State.drr n 4 65536 s

/-! ### The retransmission window (R317) -/

/-- A VIDEO packet that all paths have passed enters the window; the oldest packets leave while it holds more than
WIN. -/
def windowTrim (p win : Nat) : Nat → State → State
  | 0, s => s
  | fuel + 1, s => if win < (s.tapAt p).window.length then windowTrim p win fuel (s.windowRelease p) else s

/-- Retains a packet (Table 13-2). -/
def State.retain (s : State) (p : Nat) (x : TapPkt) : State :=
  let t := s.tapAt p
  let s := s.setTap p { t with window := t.window ++ [{ x with departed := s.now }] }
  windowTrim p ((s.setFor x.pkt.frame).tapWin p) (t.window.length + 1) s

/-- Leading packets of a queue that every path has passed leave it: VIDEO packets are retained, others are let go. -/
def queueAdvance (p cls : Nat) : Nat → State → State
  | 0, s => s
  | fuel + 1, s =>
    let t := s.tapAt p
    let q := t.queue cls
    match q.pkts with
    | [] => s
    | x :: rest =>
      if x.doneA ∧ x.doneB then
        let s := (s.setTap p (t.setQueue cls { q with pkts := rest })).descriptorRelease p cls x
        let s :=
          if cls = 0 then
            let s := if x.sent then s.count Obj.tapPkts p else s
            if x.pkt.payload.isEmpty then s else s.retain p x
          else s.kegFreeAll 2 x.pkt.kegs
        queueAdvance p cls fuel s
      else s

/-- Marks the head of a path in a class as passed. -/
def markPassed (path : Nat) (sent : Bool) : List TapPkt → List TapPkt
  | [] => []
  | x :: rest =>
    if x.passed path then x :: markPassed path sent rest
    else (if path = 1 then { x with doneB := true, sent := x.sent || sent }
          else { x with doneA := true, sent := x.sent || sent }) :: rest

/-- A path passes its head in a class: the packet leaves the queue once every path has passed it, and the next head is
placed. -/
def State.passHead (s : State) (p path cls : Nat) (sent : Bool) : State :=
  let t := s.tapAt p
  let q := t.queue cls
  let z := t.path path
  let t := (t.setQueue cls { q with pkts := markPassed path sent q.pkts }).setPath path
    { z with eligible := z.eligible.filter (· != cls) }
  (queueAdvance p cls (q.pkts.length + 1) (s.setTap p t)).placeHead p path cls

/-- The pacer bucket of a path after a VIDEO packet's actual departure (R307). -/
def State.pacerSpend (s : State) (p path : Nat) (h : TapPkt) : State :=
  let c := s.setFor h.pkt.frame
  let t := s.tapAt p
  let z := t.path path
  let tk := min (z.tokens + (s.deviceTime - z.last) * c.tapPeak p) (c.tapBurst p * tapUnit)
  s.setTap p (t.setPath path { z with tokens := tk - h.charge * tapUnit, last := s.deviceTime })

/-- Table 13-2: the MAC address a packet of a path starts for on the wire of `n`; none where it may not start, and then whether
for want of a next hop. -/
def State.departs (s : State) (n p path : Nat) (h : TapPkt) : Option Nat × Bool :=
  let c := s.setFor h.pkt.frame
  if s.silenced ∨ s.twn.resumeFrom.any (fun fr => frameEarlier h.pkt.frame fr && decide (sub32 fr h.pkt.frame < 65536)) then (none, false)
  else if s.portUp n = false then (none, false)
  else
    let mac := s.destMac n (c.tapV6 p) (c.tapDest p path)
    (mac, mac.isNone)

/-- R315: a path without a packet eligible on port `n` leaves the list of its class, or of all classes in flat mode. -/
def State.leaveIdle (s : State) (n ref cls : Nat) : State :=
  let key := if s.portHier n then cls else 4
  if (s.pathEligible n ref key).isNone then s.setSched n ((s.sched n).leave s.now key ref) else s

/-- A packet of a path is discarded on port `n`. -/
def State.discardHead (s : State) (n ref cls : Nat) (h : TapPkt) : State :=
  ((s.send (.packetDiscarded n (ref / 4) cls h.pkt.frame h.pkt.es)).passHead (ref / 4) (ref % 4) cls false).leaveIdle n ref cls

/-- The chosen packet starts on the wire, or is discarded (R314). Only a packet that is sent spends the pacer bucket of its path (R307)
and counts as late. -/
def State.depart (s : State) (n ref cls : Nat) (h : TapPkt) : State :=
  let p := ref / 4
  let path := ref % 4
  match s.departs n p path h with
  | (none, unresolved) => (if unresolved then s.count Obj.lnkUnresolved else s).discardHead n ref cls h
  | (some mac, _) =>
    let z := s.sched n
    let s := s.setSched n { z with busyUntil := s.now + ceilDiv (h.charge * 8) (modeGbps (s.portMode n)) }
    let s := (s.send (.packet n p cls h.pkt.frame h.pkt.es (s.tapFrame (s.setFor h.pkt.frame) n mac p path cls h.pkt.payload))).txFrame n
    let s := if cls = 0 ∧ h.v + 100000 < s.deviceTime then s.count Obj.tapLatePkts p else s
    let s := if cls = 0 then s.pacerSpend p path h else s
    (s.passHead p path cls true).leaveIdle n ref cls

/-- In flat mode a MONITOR packet draws on the port's MON_RATE bucket: whether it is short (R315). -/
def State.monitorShort (s : State) (n : Nat) (h : TapPkt) : State × Bool :=
  let s := s.refill n
  let z := s.sched n
  let tk := Table.get 0 z.tokens 3
  if h.charge * tapUnit ≤ tk then
    (s.setSched n { z with tokens := Table.insert z.tokens 3 (tk - h.charge * tapUnit) }, false)
  else (s, true)

/-- R315: the path chosen spends the packet's charge of its deficit; its packet starts next. -/
def State.choose (s : State) (n ref cls : Nat) (h : TapPkt) : State :=
  let z := s.sched n
  let key := (if s.portHier n then cls else 4) * 65536 + ref
  s.setSched n { z with chosen := some (ref, cls), dc := Table.set 0 z.dc key (Table.get 0 z.dc key - h.charge) }

/-- R315, R316: the port's scheduler decides its next packet. A MONITOR packet that finds MON_RATE short is discarded, and spends
nothing; a port on which no class qualifies idles. -/
def State.portDecide (s : State) (n : Nat) : State :=
  match s.portChoose n with
  | (s, none) => s.setSched n { s.sched n with idle := true }
  | (s, some (ref, cls, h)) =>
    if cls = 3 ∧ s.portHier n = false then
      match s.monitorShort n h with
      | (s, true) => s.discardHead n ref cls h
      | (s, false) => s.choose n ref cls h
    else s.choose n ref cls h

/-- R308, R322: whether the descriptor of a path's head in a class holds an uncorrectable word. -/
def State.descriptorBad (s : State) (p path cls : Nat) : Bool :=
  let q := (s.tapAt p).queue cls
  let before := q.pkts.takeWhile fun x => x.passed path
  (q.pkts.find? fun x => !x.passed path).any (·.slot) &&
    (s.descriptorAt q (q.head + (before.filter (·.slot)).length)).any fun a =>
      s.tap.badWords.any fun w => decide (a ≤ w) && decide (w < a + 32)

/-- R311, R322: a packet whose descriptor is lost is dropped with cause 3. A marker takes its place where drops leave one, and keeps its
descriptor's place; any other lost packet leaves without being sent or retained. -/
def State.descriptorLost (s : State) (p path cls : Nat) (h : TapPkt) : State :=
  let s := s.tapFault p h.pkt.frame .eccUncorr cls
  let s := if cls = 0 then s.dropReport p h.pkt.frame 3 else s
  let mark := decide (cls = 0) && s.marksGaps h
  let s := if cls = 0 then (s.when mark fun s => s.count Obj.tapGapsSent).kegFreeAll 2 h.pkt.kegs else s
  let lost : TapPkt :=
    if mark then { h.asMarker 3 ((s.setFor h.pkt.frame).nat Obj.asmExtIdGm) with copied := none }
    else { h with doneA := true, doneB := true, pkt := if cls = 0 then { h.pkt with payload := [], kegs := [] } else h.pkt }
  let t := s.tapAt p
  let q := t.queue cls
  let i := (q.pkts.takeWhile fun x => x.passed path).length
  let a := s.descriptorAt q (q.head + ((q.pkts.take i).filter (·.slot)).length)
  let s := s.setTap p (t.setQueue cls { q with pkts := q.pkts.take i ++ [lost] ++ q.pkts.drop (i + 1) })
  let s := { s with tap := { s.tap with badWords := s.tap.badWords.filter fun w => !a.any fun a => decide (a ≤ w) && decide (w < a + 32) } }
  if mark then s else (queueAdvance p cls (q.pkts.length + 1) s).placeHead p path cls

/-- The packet decided on starts on the wire, or is discarded or lost (R314, R322); a packet that has left its queue since, or whose
path another port carries now, is passed over. -/
def State.departChosen (s : State) (n : Nat) : State :=
  match (s.sched n).chosen with
  | none => s
  | some (ref, cls) =>
    let s := s.setSched n { s.sched n with chosen := none }
    match s.headOn n ref cls with
    | none => s.leaveIdle n ref cls
    | some h =>
      if s.descriptorBad (ref / 4) (ref % 4) cls then (s.descriptorLost (ref / 4) (ref % 4) cls h).leaveIdle n ref cls
      else s.depart n ref cls h

/-- PACKET_DEPART (R314 to R316): the port's scheduler decides its next packet as the previous one begins its last 64 bytes, and the
packet starts once the wire is free. In SAFE nothing departs. -/
def execPacketDepart (t port : Nat) (s : State) : Host.Outcome State Fault Refusal :=
  let s := s.land t
  if s.cellar.safe then .next s
  else
    let z := s.sched port
    let s := if z.chosen.isNone ∧ z.busyUntil ≤ s.now + ceilDiv 512 (modeGbps (s.portMode port)) then s.portDecide port else s
    .next (if s.now < (s.sched port).busyUntil then s else s.departChosen port)

/-- MONITOR_DISCARD (R316): on a hierarchical port, heads of MONITOR queues that have waited longer than 1 ms are
discarded. -/
def execMonitorDiscard (t port : Nat) (s : State) : Host.Outcome State Fault Refusal :=
  let s := s.land t
  if s.portHier port = false then .next s
  else
    let refs := Table.get [] (s.sched port).active 3 ++ Table.get [] (s.sched port).waiting 3
    .next (refs.foldl (fun s ref =>
      match s.pathHead (ref / 4) 2 3 with
      | none => s
      | some h =>
        if h.offered + 1000000 < s.now then
          s.discardHead port ref 3 h
        else s) s)

/-- CLASS_SHAPER_REFILL (R316): an idle hierarchical port resumes serving once some class has tokens for its head. -/
def execClassShaperRefill (t port : Nat) (s : State) : Host.Outcome State Fault Refusal :=
  let s := s.land t
  if s.portHier port ∧ (s.sched port).idle then
    let s := s.refill port
    match s.hierChoose port classOrder with
    | (_, none) => .next s
    | (_, some _) => .next (s.setSched port { s.sched port with idle := false })
  else .next s

/-- Releases the oldest packets of a window that departed more than TAP_WIN_AGE_US ago. -/
def windowAge (p : Nat) : Nat → State → State
  | 0, s => s
  | fuel + 1, s =>
    match (s.tapAt p).window with
    | [] => s
    | x :: _ =>
      if x.departed + 1000 * s.val Obj.tapWinAgeUs < s.now then windowAge p fuel (s.windowRelease p) else s

/-- R317: the aged packets of a tap's window are released; in SAFE the windows are kept until reset (R321). -/
def State.ageWindow (s : State) (p : Nat) : State :=
  if s.cellar.safe then s else windowAge p (s.tapAt p).window.length s

/-- WINDOW_AGE (R317): the rewind mark advances past aged packets. -/
def execWindowAge (t tap : Nat) (s : State) : Host.Outcome State Fault Refusal := .next ((s.land t).ageWindow tap)

/-! ### Flush -/

/-- Discards every packet of a class queue; VIDEO packets are counted and not retained. -/
def State.flushQueue (s : State) (p cls : Nat) : State :=
  let t := s.tapAt p
  let q := t.queue cls
  let s := s.setTap p (t.setQueue cls TapQueue.empty)
  let s := if cls = 0 then s.count Obj.tapFlushed p (t.videoCount) else s
  (s.kegFreeAll 2 q.firkins).kegFreeAll 2 (q.pkts.flatMap fun x => x.pkt.kegs)

/-- A path leaves a port's lists of a class, active or waiting. -/
def PortSched.part (z : PortSched) (now key ref : Nat) : PortSched :=
  if (Table.get [] z.active key).contains ref then z.leave now key ref
  else { z with waiting := Table.insert z.waiting key ((Table.get [] z.waiting key).filter (· != ref)) }

/-- A path with nothing left in its queues leaves every list, and no class of it is eligible. -/
def State.pathIdle (s : State) (p path : Nat) : State :=
  let t := s.tapAt p
  let s := s.setTap p (t.setPath path { t.path path with eligible := [] })
  let out (z : PortSched) : PortSched := (List.range 5).foldl (fun z key => z.part s.now key (pathRef p path)) z
  { s with tap := { s.tap with ports := Table.mapRows PortSched.empty s.tap.ports fun _ z => out z } }

/-- R312, writing 1: the queues of a tap are emptied; writing 0 resumes it. -/
def tapFlush (p v : Nat) (s : State) : Effect :=
  let s := s.put Obj.tapFlush p v
  if v = 1 then
    let s := (List.range 4).foldl (fun s cls => s.flushQueue p cls) s
    let s := { s with tap := { s.tap with wheel := s.tap.wheel.filter fun x => x.tap != p } }
    ((List.range 3).foldl (fun s path => s.pathIdle p path) s, .ok)
  else (s, .ok)

/-- TAP_FLUSH (R312). -/
def execTapFlush (t : Nat) (who : Path) (row v : Nat) (s : State) : Host.Outcome State Fault Refusal :=
  objectCommand t who Obj.tapFlush row (.num v) (tapFlush row v) s

/-- R304, R307, R321: every pacer restarts with full buckets, those of the paths' own departures too, which then fill from device
time 0: a time step, a re-anchoring of the raster. -/
def State.restartPacers (s : State) : State :=
  let full (z : TapPath) : TapPath := { z with tokens := 0, last := 0 }
  { s with tap := { s.tap with taps := Table.mapRows Tap.idle s.tap.taps fun _ x =>
      { x with started := false, pathA := full x.pathA, pathB := full x.pathB, pathM := full x.pathM } } }

/-- R304, R321: a coding start at frame `f` restarts every pacer for the packets of that frame on. -/
def State.restartPacersAt (s : State) (f : Nat) : State :=
  { s with tap := { s.tap with taps := Table.mapRows Tap.idle s.tap.taps fun _ x => { x with restart := some f } } }

/-- R284: a path listed on port `p` whose traffic another port carries now joins that port. -/
def State.rehomeRef (p key ref : Nat) (s : State) : State :=
  let t := ref / 4
  let path := ref % 4
  (((s.tapAt t).path path).eligible.filter fun cls => key == 4 || key == cls).foldl (fun s cls =>
    match s.pathHead t path cls with
    | none => s
    | some h =>
      if s.pathPort ((s.setFor h.pkt.frame).tapPort t path) = p then s
      else (s.setSched p ((s.sched p).part s.now key ref)).becomeEligible t path cls) s

/-- R284: paths on port `p` that another port carries now move there. -/
def State.rehome (s : State) (p : Nat) : State :=
  let z := s.sched p
  (z.active ++ z.waiting).foldl (fun s x => x.2.foldl (fun s ref => s.rehomeRef p x.1 ref) s) s

/-- R316, R321: where a rack changes HIER of a port, the paths on its lists join those of the new mode, in the order they stood. -/
def State.hierSwap (s : State) (old new : CanvasSet) : State :=
  s.tap.ports.foldl (fun s x =>
    let n := x.1
    if bit (old.nat Obj.tapPortW0 n) 0 = bit (new.nat Obj.tapPortW0 n) 0 then s
    else
      let z := s.sched n
      let refs := ((z.active ++ z.waiting).flatMap (·.2)).eraseDups
      let s := s.setSched n { z with active := [], waiting := [], dc := [] }
      refs.foldl (fun s ref =>
        (((s.tapAt (ref / 4)).path (ref % 4)).eligible).foldl (fun s cls =>
          if (s.headOn n ref cls).isSome then s.becomeEligible (ref / 4) (ref % 4) cls else s) s) s) s

end Sys2Proof.Machine
end

