-- ==== Sys2Proof/Machine/TwinCore.lean ====
section
/-! DEFINITION. What other units need of the Twin function: sending a Twin frame (R238) and being silenced (R244). -/
set_option Elab.async false
namespace Sys2Proof.Machine

/-- The bytes of a Twin frame before its MAC, Table 10-2. -/
def twinBytes (ty : Nat) (m : TwinMsg) : Bytes :=
  bytesBE 2 m.magic ++ bytesBE 1 m.version ++ bytesBE 1 ty ++ bytesBE 1 m.role ++ bytesBE 1 m.state ++ bytesBE 2 m.body.length
    ++ bytesBE 4 m.epoch ++ bytesBE 4 m.seq ++ bytesBE 4 m.frame ++ bytesBE 2 m.line ++ bytesBE 2 m.reserved ++ m.body

/-- TWN_KEY (R255's key of the twin link; R238). -/
def State.twinKey (s : State) : Bytes := Table.get [] s.trust.keys 16

/-- R238: the MAC of a Twin frame. -/
def twinMac (key : Bytes) (ty : Nat) (m : TwinMsg) : Bytes := (hmac384 key (twinBytes ty m)).take 16

/-- R237, R238: sends a Twin frame on both twin ports, to the source of the last valid frame of the partner; in SAFE no lane sends (R288). -/
def State.twinSend (s : State) (ty : Nat) (body : Bytes) : State :=
  if s.cellar.safe then s
  else
    let seq := s.twn.seq + 1
    let c := s.ctime
    let m : TwinMsg :=
      { peer := s.twn.theirMac, magic := 0x5457, version := 1, role := s.twn.role, state := s.twn.state.code, epoch := s.twn.epoch, seq := seq,
        frame := c.frame, line := c.line, reserved := 0, body := body, mac := [] }
    let s := { s with twn := { s.twn with seq := seq } }.send (.twin ty { m with mac := twinMac s.twinKey ty m })
    (s.txFrame s.twn.portA).txFrame s.twn.portB

/-- Rewrites the Twin function's state. -/
def State.modTwin (s : State) (f : Twin → Twin) : State := { s with twn := f s.twn }

/-- R244: the device enters SILENCED: a SILENCE frame, TWIN_SILENCED with the cause and F. Rule, segment and picture are
those of R242, 0 for another cause. MANUAL stands beside another cause, which may still ask for a SYNC (R245). -/
def State.silence (s : State) (cause rule frame seg y : Nat) : State :=
  if s.twn.state = .silenced then s
  else
    let s := s.modTwin fun x =>
      { x with state := .silenced, cause := if cause = 6 then 0 else cause, resumeFrom := none, manual := x.manual || decide (cause = 6) }
    (s.brewRec 0x3C0 0x070 (cause * 2 ^ 32 + frame % 4294967296)).twinSend 5
      (bytesBE 1 cause ++ bytesBE 1 rule ++ zeros 2 ++ bytesBE 4 frame ++ bytesBE 2 seg ++ bytesBE 2 y)

/-- Table 10-5, Table 10-8, cause FAULT: a SILENCE reaction silences a device in PAIRED; in SOLO or single mode it does not. -/
def State.silenceFault (s : State) : State :=
  if s.twn.state = .paired then s.silence 5 0 s.ctime.frame 0 0 else s

end Sys2Proof.Machine
end

