-- ==== Sys2Proof/Machine/Entries.lean ====
section
/-! DEFINITION. Subpicture table entries (R15), the stripes and the order of subpictures (R120, R121), per-packet overhead
(R217) and SSRC (R220). -/
set_option Elab.async false
namespace Sys2Proof.Machine

/-- A subpicture table entry, Table 1-2: index, place and size in CTUs, tap, filler, crop. -/
structure Entry where
  s : Nat
  x0 : Nat
  y0 : Nat
  w : Nat
  h : Nat
  tap : Nat
  fill : Bool
  cropL : Nat
  cropR : Nat
  cropT : Nat
  cropB : Nat
  deriving DecidableEq, Repr

/-- EN of an entry. -/
def CanvasSet.entryEn (c : CanvasSet) (s : Nat) : Bool := bit (c.nat Obj.flrSubW0 s) 50

/-- The entry at an index of the table. -/
def CanvasSet.entry (c : CanvasSet) (s : Nat) : Entry :=
  let w0 := c.nat Obj.flrSubW0 s
  let w1 := c.nat Obj.flrSubW1 s
  { s := s, x0 := bits w0 10 0, y0 := bits w0 20 11, w := bits w0 28 21 + 1, h := bits w0 35 29 + 1, tap := bits w0 49 36,
    fill := bit w0 51, cropL := bits w1 7 0, cropR := bits w1 15 8, cropT := bits w1 23 16, cropB := bits w1 31 24 }

/-- The enabled entries by ascending index; none in a set without a canvas (R8). -/
def CanvasSet.entries (c : CanvasSet) : List Entry :=
  if c.hasCanvas then ((Store.rows c.objs Obj.flrSubW0).filter fun p => bit p.2.toNat 50).map fun p => c.entry p.1 else []

/-- Whether `s` is an enabled receiver entry. -/
def CanvasSet.isReceiver (c : CanvasSet) (s : Nat) : Bool := c.hasCanvas && c.entryEn s && !(c.entry s).fill

/-- Whether a CTU lies in an entry's rectangle. -/
def Entry.holds (e : Entry) (cx cy : Nat) : Bool :=
  decide (e.x0 ≤ cx) && decide (cx < e.x0 + e.w) && decide (e.y0 ≤ cy) && decide (cy < e.y0 + e.h)

/-- Puts an entry before the first one of a greater X0. -/
def insertByX0 (e : Entry) : List Entry → List Entry
  | [] => [e]
  | a :: rest => if e.x0 < a.x0 then e :: a :: rest else a :: insertByX0 e rest

/-- R164: the enabled entries that cross CTU row `y`, in ascending X0. -/
def CanvasSet.rowEntries (c : CanvasSet) (y : Nat) : List Entry :=
  (c.entries.filter fun e => decide (e.y0 ≤ y) && decide (y < e.y0 + e.h)).foldl (fun l e => insertByX0 e l) []

/-- Segments of a picture. -/
def CanvasSet.segmentCount (c : CanvasSet) : Nat := (c.entries.map (·.h)).sum

/-- R121: whether every entry that shares a boundary of positive length with the top or left edge of `e` is listed in
`done`. -/
def Entry.ready (e : Entry) (all done : List Entry) : Bool :=
  all.all fun a =>
    let above := decide (a.y0 + a.h = e.y0) && decide (a.x0 < e.x0 + e.w) && decide (e.x0 < a.x0 + a.w)
    let left := decide (a.x0 + a.w = e.x0) && decide (a.y0 < e.y0 + e.h) && decide (e.y0 < a.y0 + a.h)
    !(above || left) || done.contains a

/-- R121: the entries in order of their VVC subpicture index. -/
def vvcOrder (all : List Entry) : Nat → List Entry → List Entry
  | 0, done => done
  | fuel + 1, done =>
    let cand := all.filter fun e => !done.contains e && e.ready all done
    match cand.foldl (fun best (e : Entry) =>
      match best with
      | none => some e
      | some b => if e.y0 < b.y0 ∨ (e.y0 = b.y0 ∧ e.x0 < b.x0) then some e else some b) (none : Option Entry) with
    | none => done
    | some e => vvcOrder all fuel (done ++ [e])

/-- The entries in order of their VVC subpicture index. -/
def CanvasSet.vvcEntries (c : CanvasSet) : List Entry := vvcOrder c.entries c.entries.length []

/-- R120: the distinct vertical edges, ascending. -/
def CanvasSet.stripeEdges (c : CanvasSet) : List Nat :=
  (List.range (c.width + 1)).filter fun x => c.entries.any fun e => e.x0 == x || e.x0 + e.w == x

/-- R217: hp of a stream on tap `p`. -/
def CanvasSet.overhead (c : CanvasSet) (p : Nat) : Nat :=
  84 + (if c.tapTagged p then 4 else 0) + (if c.tapV6 p then 40 else 20)

/-- R213: pp of an entry's stream; 4,096 names the canvas stream. -/
def CanvasSet.fragment (c : CanvasSet) (s : Nat) : Nat := if s = 4096 then c.nat Obj.asmRecorderPp else c.nat Obj.asmSubPp s

/-- R220: the SSRC of a stream. -/
def CanvasSet.ssrc (c : CanvasSet) (s : Nat) : Nat :=
  let own := if s = 4096 then c.nat Obj.asmRecorderSsrc else c.nat Obj.asmSubSsrc s
  if own = 0 then add32 (c.nat Obj.asmSsrcBase) s else own

/-- R218: the payload type of a stream. -/
def CanvasSet.payloadType (c : CanvasSet) (s : Nat) : Nat := if s = 4096 then c.nat Obj.asmRecorderPt else c.nat Obj.asmSubPt s

/-- The tap of a stream, if it has one. -/
def CanvasSet.streamTap (c : CanvasSet) (s : Nat) : Option Nat :=
  if s = 4096 then (if c.nat Obj.cspRecorderTap < 16384 then some (c.nat Obj.cspRecorderTap) else none)
  else if c.isReceiver s then some (c.entry s).tap else none

/-- R19, R20: whether a CTU is not composed. -/
def ctuBlack (e : Nat) : Bool := bit e 50 || (bits e 11 0 == 0xFFF && bits e 45 32 == 0)

end Sys2Proof.Machine
end

