-- ==== Sys2Proof/Machine/Units.lean ====
section
/-! DEFINITION. What the NAL units of a stream say (R116, R117, R122, R124 to R127, R132 to R134), access units (Table 5-10),
packet forms (R213 to R215) and the largest non-VCL payload (R216). The bit-level syntax is that of H.266. -/
set_option Elab.async false
namespace Sys2Proof.Machine

/-- Elements of a syntax structure with their values. -/
abbrev Elements := List (String × Int)

/-- One structure after another. -/
def joined (l : List Elements) : Elements := l.flatten

/-! ### NAL units -/

/-- TRAIL_NUT, and the other nal_unit_type codes of H.266 that the device emits. -/
def nutTrail : Nat := 0
/-- GDR_NUT. -/
def nutGdr : Nat := 10
/-- SPS_NUT. -/
def nutSps : Nat := 15
/-- PPS_NUT. -/
def nutPps : Nat := 16
/-- PH_NUT. -/
def nutPh : Nat := 19
/-- AUD_NUT. -/
def nutAud : Nat := 20
/-- EOS_NUT. -/
def nutEos : Nat := 21
/-- PREFIX_SEI_NUT. -/
def nutPrefixSei : Nat := 23
/-- SUFFIX_SEI_NUT. -/
def nutSuffixSei : Nat := 24

/-- R127: the NAL unit header: forbidden_zero_bit, nuh_reserved_zero_bit and nuh_layer_id 0, nuh_temporal_id_plus1 1. -/
def nalHeader (ty : Nat) : Bytes := bytesBE 1 0 ++ bytesBE 1 (ty * 8 + 1)

/-- R211: emulation prevention: after two zero bytes a byte of 0 to 3 is preceded by 3; `z` counts the zero bytes before
(PRESUMED: H.266 7.4; log entry 82). -/
def emulate : Nat → Bytes → Bytes
  | _, [] => []
  | z, x :: rest =>
    let next (z : Nat) : Nat := if x = 0 then z + 1 else 0
    if 2 ≤ z ∧ x.toNat ≤ 3 then 3 :: x :: emulate (next 0) rest else x :: emulate (next z) rest

/-- A non-VCL unit from its elements. -/
def unit (ty : Nat) (e : Elements) : Bytes := nalHeader ty ++ emulate 0 (Config.rbsp ty e)

/-- A unit of one SEI message of fewer than 255 bytes (PRESUMED: H.266 7.3.5; log entry 82). -/
def seiUnit (ty payloadType : Nat) (payload : Bytes) : Bytes :=
  nalHeader ty ++ emulate 0 (bytesBE 1 payloadType ++ bytesBE 1 payload.length ++ payload ++ bytesBE 1 0x80)

/-! ### Values -/

/-- R116: general_profile_idc. -/
def CanvasSet.profile (c : CanvasSet) : Nat := if c.nat Obj.cspChroma = 0 then 1 else 33

/-- SubWidthC and SubHeightC of the coded format. -/
def CanvasSet.chromaSub (c : CanvasSet) : Nat × Nat :=
  if c.nat Obj.cspChroma = 0 then (2, 2) else if c.nat Obj.cspChroma = 1 then (2, 1) else (1, 1)

/-- Table 5-3: the flags of the tools in use; IBC and palette in 4:4:4. -/
def toolsOn (is444 : Bool) : Elements :=
  joined [
    [("sps_cclm_enabled_flag", 1), ("sps_six_minus_max_num_merge_cand", 0), ("sps_amvr_enabled_flag", 1),
     ("sps_temporal_mvp_enabled_flag", 1), ("sps_max_luma_transform_size_64_flag", 0), ("sps_sao_enabled_flag", 1),
     ("sps_ibc_enabled_flag", ofBool is444), ("sps_palette_enabled_flag", ofBool is444)],
    (if is444 then [("sps_six_minus_max_num_ibc_merge_cand", 0)] else [])]

/-- Table 5-3: the enable flags of the tools never used. -/
def toolsOff : Elements :=
  (["sps_isp_enabled_flag", "sps_mrl_enabled_flag", "sps_mip_enabled_flag", "sps_mmvd_enabled_flag", "sps_affine_enabled_flag",
    "sps_sbtmvp_enabled_flag", "sps_gpm_enabled_flag", "sps_ciip_enabled_flag", "sps_bdof_enabled_flag", "sps_dmvr_enabled_flag",
    "sps_affine_prof_enabled_flag", "sps_smvd_enabled_flag", "sps_bcw_enabled_flag", "sps_mts_enabled_flag",
    "sps_lfnst_enabled_flag", "sps_sbt_enabled_flag", "sps_dep_quant_enabled_flag", "sps_sign_data_hiding_enabled_flag"] ++
   ["sps_transform_skip_enabled_flag", "sps_joint_cbcr_enabled_flag", "sps_alf_enabled_flag", "sps_ccalf_enabled_flag",
    "sps_lmcs_enabled_flag", "sps_act_enabled_flag", "sps_weighted_pred_flag", "sps_weighted_bipred_flag",
    "sps_explicit_scaling_list_enabled_flag", "sps_ladf_enabled_flag", "sps_ref_pic_resampling_enabled_flag",
    "sps_ref_wraparound_enabled_flag"]).map fun n => (n, 0)

/-- Table 5-3: minimum CB 4, minimum QT node 8, maximum MTT depth 2, maximum BT and TT size 32, in all slices. -/
def partitionValues : Elements :=
  [("sps_log2_min_luma_coding_block_size_minus2", 0), ("sps_log2_diff_min_qt_min_cb_intra_slice_luma", 1),
   ("sps_max_mtt_hierarchy_depth_intra_slice_luma", 2), ("sps_log2_diff_max_bt_min_qt_intra_slice_luma", 2),
   ("sps_log2_diff_max_tt_min_qt_intra_slice_luma", 2), ("sps_log2_diff_min_qt_min_cb_inter_slice", 1),
   ("sps_max_mtt_hierarchy_depth_inter_slice", 2), ("sps_log2_diff_max_bt_min_qt_inter_slice", 2),
   ("sps_log2_diff_max_tt_min_qt_inter_slice", 2), ("sps_partition_constraints_override_enabled_flag", 0),
   ("sps_qtbtt_dual_tree_intra_flag", 0)]

/-- Table 5-5. -/
def CanvasSet.vui (c : CanvasSet) : Elements :=
  let k := c.nat Obj.cspColour
  let primaries : Int := if k = 0 then 1 else 9
  let transfer : Int := if k = 0 then 1 else if k = 1 then 14 else if k = 2 then 16 else 18
  joined [
    [("vui_progressive_source_flag", 1), ("vui_interlaced_source_flag", 0), ("vui_non_packed_constraint_flag", 1),
     ("vui_non_projected_constraint_flag", 1), ("vui_aspect_ratio_info_present_flag", 1), ("vui_aspect_ratio_idc", 1),
     ("vui_colour_description_present_flag", 1), ("vui_colour_primaries", primaries), ("vui_transfer_characteristics", transfer),
     ("vui_matrix_coeffs", primaries), ("vui_full_range_flag", 0)],
    (if c.nat Obj.cspChroma = 0 then [("vui_chroma_loc_info_present_flag", 1), ("vui_chroma_sample_loc_type_frame", 0)]
     else [("vui_chroma_loc_info_present_flag", 0)])]

/-- Table 5-4: what both kinds of stream share after the profile and level. -/
def CanvasSet.spsCommon (c : CanvasSet) : Elements :=
  joined [
    [("sps_bitdepth_minus8", 2), ("sps_entropy_coding_sync_enabled_flag", 0), ("sps_entry_point_offsets_present_flag", 0),
     ("sps_log2_max_pic_order_cnt_lsb_minus4", 12), ("sps_poc_msb_cycle_flag", 0), ("sps_num_extra_ph_bytes", 0),
     ("sps_num_extra_sh_bytes", 0), ("dpb_max_dec_pic_buffering_minus1", 2), ("dpb_max_num_reorder_pics", 0),
     ("dpb_max_latency_increase_plus1", 0)],
    partitionValues,
    toolsOn (c.nat Obj.cspChroma == 2),
    toolsOff,
    [("sps_same_qp_table_for_chroma_flag", 1), ("sps_qp_table_start_minus26", 0), ("sps_num_points_in_qp_table_minus1", 0),
     ("sps_delta_qp_in_val_minus1", 0), ("sps_delta_qp_diff_val", 0)],
    (if c.nat Obj.cspChroma = 0 then [("sps_chroma_horizontal_collocated_flag", 1), ("sps_chroma_vertical_collocated_flag", 0)]
     else []),
    [("sps_log2_parallel_merge_level_minus2", 0), ("sps_long_term_ref_pics_flag", 0), ("sps_idr_rpl_present_flag", 0),
     ("sps_rpl1_same_as_rpl0_flag", 1), ("sps_num_ref_pic_lists_0", 1), ("num_ref_entries", 2), ("delta_poc_0", 1),
     ("delta_poc_1", 1), ("sps_timing_hrd_params_present_flag", 0), ("sps_field_seq_flag", 0),
     ("sps_vui_parameters_present_flag", 1)],
    c.vui,
    [("sps_extension_flag", 0)]]

/-- Table 5-4: the SPS of stream `k` (4,096: the canvas stream) with general_level_idc `level`. -/
def CanvasSet.sps (c : CanvasSet) (k level : Nat) : Elements :=
  let e := c.entry k
  let canvas := k == 4096
  let w := if canvas then c.width else e.w
  let h := if canvas then c.height else e.h
  let subs := if canvas then c.vvcEntries else []
  joined [
    [("sps_seq_parameter_set_id", 0), ("sps_video_parameter_set_id", 0), ("sps_max_sublayers_minus1", 0),
     ("sps_chroma_format_idc", c.nat Obj.cspChroma + 1), ("sps_log2_ctu_size_minus5", 0), ("sps_ptl_dpb_hrd_params_present_flag", 1),
     ("general_profile_idc", c.profile), ("general_tier_flag", 0), ("general_level_idc", level),
     ("ptl_frame_only_constraint_flag", 1), ("ptl_multilayer_enabled_flag", 0), ("gci_present_flag", 0), ("ptl_num_sub_profiles", 0),
     ("sps_gdr_enabled_flag", 1), ("sps_pic_width_max_in_luma_samples", 32 * w), ("sps_pic_height_max_in_luma_samples", 32 * h)],
    [("sps_conformance_window_flag", 0), ("sps_subpic_info_present_flag", 1),
     ("sps_num_subpics_minus1", if canvas then (subs.length : Int) - 1 else 0), ("sps_independent_subpics_flag", 1)],
    (if canvas then [("sps_subpic_same_size_flag", 0)] else []),
    subs.flatMap (fun a => [("sps_subpic_ctu_top_left_x", (a.x0 : Int)), ("sps_subpic_ctu_top_left_y", a.y0),
     ("sps_subpic_width_minus1", (a.w : Int) - 1), ("sps_subpic_height_minus1", (a.h : Int) - 1)]),
    [("sps_subpic_id_len_minus1", 11), ("sps_subpic_id_mapping_explicitly_signalled_flag", 1),
     ("sps_subpic_id_mapping_present_flag", 1)],
    (if canvas then subs.map (fun a => ("sps_subpic_id", (a.s : Int))) else [("sps_subpic_id", (k : Int))]),
    c.spsCommon]

/-- R122: width in CTUs of each tile column of a stream. -/
def CanvasSet.tileColumns (c : CanvasSet) (k : Nat) : List Nat :=
  if k = 4096 then (c.stripeEdges.zip c.stripeEdges.tail).map fun p => p.2 - p.1 else [(c.entry k).w]

/-- R122, R125: the conformance window offsets of an entry. -/
def CanvasSet.window (c : CanvasSet) (k : Nat) : Elements :=
  if k = 4096 then [("pps_conformance_window_flag", 0)]
  else
    let e := c.entry k
    let (sw, sh) := c.chromaSub
    if e.cropL + e.cropR + e.cropT + e.cropB = 0 then [("pps_conformance_window_flag", 0)]
    else [("pps_conformance_window_flag", 1), ("pps_conf_win_left_offset", (e.cropL / sw : Nat)),
          ("pps_conf_win_right_offset", (e.cropR / sw : Nat)), ("pps_conf_win_top_offset", (e.cropT / sh : Nat)),
          ("pps_conf_win_bottom_offset", (e.cropB / sh : Nat))]

/-- Table 5-6: the PPS of stream `k`; each slice is one CTU row of a tile. -/
def CanvasSet.pps (c : CanvasSet) (k : Nat) : Elements :=
  let e := c.entry k
  let canvas := k == 4096
  let slices := if canvas then c.segmentCount else e.h
  let offsets : Elements := ["luma", "cb", "cr"].flatMap fun n =>
    [("pps_" ++ n ++ "_beta_offset_div2", c.int Obj.cspDbkBeta), ("pps_" ++ n ++ "_tc_offset_div2", c.int Obj.cspDbkTc)]
  joined [
    [("pps_pic_parameter_set_id", 0), ("pps_seq_parameter_set_id", 0), ("pps_mixed_nalu_types_in_pic_flag", 0),
     ("pps_pic_width_in_luma_samples", (32 * (if canvas then c.width else e.w) : Nat)),
     ("pps_pic_height_in_luma_samples", (32 * (if canvas then c.height else e.h) : Nat))],
    c.window k,
    [("pps_no_pic_partition_flag", 0), ("pps_num_exp_tile_columns_minus1", (c.tileColumns k).length - 1)],
    (c.tileColumns k).map (fun w => ("pps_tile_column_width_minus1", (w : Int) - 1)),
    [("pps_num_exp_tile_rows_minus1", 0), ("pps_tile_row_height_minus1", ((if canvas then c.height else e.h) : Int) - 1)],
    (if canvas then [("pps_loop_filter_across_tiles_enabled_flag", 0), ("pps_rect_slice_flag", 1)] else []),
    [("pps_single_slice_per_subpic_flag", 0), ("pps_num_slices_in_pic_minus1", (slices : Int) - 1), ("slice_height_in_ctus", 1),
     ("pps_loop_filter_across_slices_enabled_flag", 1), ("pps_num_ref_idx_default_active_minus1_0", 1),
     ("pps_num_ref_idx_default_active_minus1_1", 0), ("pps_init_qp_minus26", 0), ("pps_cu_qp_delta_enabled_flag", 1),
     ("pps_chroma_tool_offsets_present_flag", 1), ("pps_cb_qp_offset", c.int Obj.cspCbQpOffset),
     ("pps_cr_qp_offset", c.int Obj.cspCrQpOffset), ("pps_deblocking_filter_control_present_flag", 1),
     ("pps_deblocking_filter_override_enabled_flag", 0), ("pps_deblocking_filter_disabled_flag", 0), ("pps_dbf_info_in_ph_flag", 0)],
    offsets,
    [("pps_rpl_info_in_ph_flag", 1), ("pps_sao_info_in_ph_flag", 0), ("pps_alf_info_in_ph_flag", 0), ("pps_wp_info_in_ph_flag", 0),
     ("pps_qp_delta_info_in_ph_flag", 0), ("pps_cabac_init_present_flag", 0), ("pps_output_flag_present_flag", 0),
     ("pps_scaling_window_explicit_signalling_flag", 0), ("pps_extension_flag", 0)]]

/-- What an access unit of a stream carries before its slices (Table 5-10, rows 1 to 6). -/
structure AuHead where
  gdr : Bool
  n : Nat
  p : Nat
  frame : Nat
  sps : Bool
  pps : Bool
  deriving DecidableEq, Repr

/-- Table 5-7: the picture header, the same in every stream. -/
def AuHead.ph (a : AuHead) : Elements :=
  joined [
    [("ph_gdr_or_irap_pic_flag", ofBool a.gdr), ("ph_non_ref_pic_flag", 0), ("ph_gdr_pic_flag", ofBool a.gdr),
     ("ph_inter_slice_allowed_flag", 1), ("ph_intra_slice_allowed_flag", 0), ("ph_pic_parameter_set_id", 0),
     ("ph_pic_order_cnt_lsb", (a.n % 65536 : Nat))],
    (if a.gdr then [("ph_recovery_poc_cnt", (a.p : Int) - 1)] else []),
    [("rpl_sps_flag_0", 1), ("rpl_sps_flag_1", 1), ("ph_cu_qp_delta_subdiv_inter_slice", 0), ("ph_temporal_mvp_enabled_flag", 1),
     ("ph_collocated_from_l0_flag", 1), ("ph_collocated_ref_idx", 0)]]

/-- Table 5-8: the slice header of the segment of row `row` of its subpicture of `h` rows: slice QP `qs`, SAO use. -/
def sliceHeader (gdr : Bool) (s row h : Nat) (qs : Int) (sao : Nat × Nat) : Elements :=
  joined [
    [("sh_picture_header_in_slice_header_flag", 0), ("sh_subpic_id", s)],
    (if h ≤ 1 then [] else [("sh_slice_address", (row : Int))]),
    [("sh_slice_type", 1)],
    (if gdr then [("sh_no_output_of_prior_pics_flag", 0)] else []),
    [("sh_num_ref_idx_active_override_flag", 0), ("sh_qp_delta", qs - 26), ("sh_sao_luma_used_flag", ofBool (sao.1 != 0)),
     ("sh_sao_chroma_used_flag", ofBool (sao.2 != 0))]]

/-! ### Access units -/

/-- Table 5-11: the canvas placement SEI payload of entry `e` in frame `f`. -/
def CanvasSet.placement (c : CanvasSet) (e : Entry) (f : Nat) : Bytes :=
  bytesBE 16 0xB7C4E2A964964C3E8A1F2D5E0B9C7F31 ++ bytesBE 1 1 ++ zeros 1 ++ bytesBE 2 e.s ++ bytesBE 2 e.x0 ++ bytesBE 2 e.y0
    ++ bytesBE 2 e.w ++ bytesBE 2 e.h ++ bytesBE 2 c.width ++ bytesBE 2 c.height ++ bytesBE 4 f

/-- R132: the leading group of an access unit, in order, with the level of the SPS. -/
def CanvasSet.leadingAt (c : CanvasSet) (stream level : Nat) (a : AuHead) : List Bytes :=
  let sub := stream != 4096
  [unit nutAud [("aud_irap_or_gdr_flag", ofBool a.gdr), ("aud_pic_type", 1)]]
    ++ (if a.sps then [unit nutSps (c.sps stream level)] else [])
    ++ (if a.sps ∨ a.pps then [unit nutPps (c.pps stream)] else [])
    ++ (if a.sps ∧ c.nat Obj.cspColour = 2 then
          [seiUnit nutPrefixSei 137 (Store.read c.objs Obj.cspMdcv 0).toBytes,
           seiUnit nutPrefixSei 144 (Store.read c.objs Obj.cspCll 0).toBytes] else [])
    ++ (if sub ∧ c.nat Obj.cspPlacementSei = 1 then [seiUnit nutPrefixSei 5 (c.placement (c.entry stream) a.frame)] else [])
    ++ [unit nutPh a.ph]

/-- R134: the payload of the decoded picture hash: type, dph_sei_single_component_flag 0, the hashes of the components. -/
def CanvasSet.hashPayload (c : CanvasSet) (hashes : Bytes) : Bytes := bytesBE 1 (c.nat Obj.cspDph - 1) ++ zeros 1 ++ hashes

/-- Bytes of the hashes of three components, by CSP_DPH: MD5, CRC, checksum (PRESUMED: H.274; log entry 82). -/
def CanvasSet.hashBytes (c : CanvasSet) : Nat :=
  if c.nat Obj.cspDph = 1 then 48 else if c.nat Obj.cspDph = 2 then 6 else 12

/-- R132: the trailing group: the decoded picture hash and the end of sequence, whose payload is empty. -/
def CanvasSet.trailing (c : CanvasSet) (hashes : Bytes) (ends : Bool) : List Bytes :=
  (if c.nat Obj.cspDph = 0 then [] else [seiUnit nutSuffixSei 132 (c.hashPayload hashes)])
    ++ (if ends then [nalHeader nutEos] else [])

/-! ### Packet forms (R213 to R215) -/

/-- The nal_unit_type of a NAL unit. -/
def nalType (u : Bytes) : Nat := bits (fieldBE u 1 1) 7 3

/-- The pieces of at most `n` bytes of a byte string. -/
def pieces (n : Nat) : Nat → Bytes → List Bytes
  | 0, _ => []
  | fuel + 1, b => if b.length ≤ n then [b] else b.take n :: pieces n fuel (b.drop n)

/-- R213, R214: the fragments of a NAL unit; `lastVcl`: it is the last VCL unit of the picture in its stream. -/
def fragments (pp : Nat) (lastVcl : Bool) (u : Bytes) : List Bytes :=
  let ps := pieces (max 1 pp) (u.length) (u.drop 2)
  ps.mapIdx fun i x =>
    let last := i + 1 == ps.length
    nalHeader 29 ++ bytesBE 1 (ofBool (i == 0) * 128 + ofBool last * 64 + ofBool (last && lastVcl) * 32 + nalType u) ++ x

/-- R213: the payloads of a slice. -/
def unitPayloads (pp : Nat) (lastVcl : Bool) (u : Bytes) : List Bytes :=
  if u.length - 2 ≤ pp then [u] else fragments pp lastVcl u

/-- R215: an aggregation packet of several units; one alone is sent as itself, and fragmented where its AP entry alone exceeds
pp + 3 bytes (Table 9-2). -/
def apPayloads (pp : Nat) : List Bytes → List Bytes
  | [] => []
  | [u] => if u.length + 2 ≤ pp + 3 then [u] else fragments pp false u
  | us => [nalHeader 28 ++ us.flatMap fun u => bytesBE 2 u.length ++ u]

/-- Bytes of an open AP. -/
def apSize (us : List Bytes) : Nat := 2 + (us.map fun u => u.length + 2).sum

/-- R215: packs the units of a group in order; `open_` is the open AP. -/
def packGroup (pp : Nat) : List Bytes → List Bytes → List Bytes
  | open_, [] => apPayloads pp open_
  | open_, u :: rest =>
    if apSize (open_ ++ [u]) ≤ pp + 3 then packGroup pp (open_ ++ [u]) rest
    else apPayloads pp open_ ++ packGroup pp [u] rest

/-! ### The largest access unit (R215, R216) -/

/-- The largest access unit's leading and trailing packets: a GDR picture with every conditional unit. Zeros in the patched
fields of Table 9-1 add the most emulation prevention bytes, and the longest ph_recovery_poc_cnt is that of RAK_PERIOD
(DEDUCED; log entry 82). The level, a byte, does not change the size. -/
def CanvasSet.largestAu (c : CanvasSet) (k : Nat) : List Bytes × List Bytes :=
  let a : AuHead := { gdr := true, n := 0, p := c.nat Obj.rakPeriod, frame := 0, sps := true, pps := true }
  (packGroup (c.fragment k) [] (c.leadingAt k 102 a), packGroup (c.fragment k) [] (c.trailing (zeros c.hashBytes) true))

/-- R216: CSP_SUB_PS_BYTES or CSP_CANVAS_PS_BYTES: the RTP payload of the non-VCL packets of the largest access unit. -/
def CanvasSet.psBytes (c : CanvasSet) (k : Nat) : Nat :=
  let p := c.largestAu k
  ((p.1 ++ p.2).map List.length).sum

end Sys2Proof.Machine
end

