-- ==== Sys2Proof/Machine/Gravity.lean ====
section
/-! DEFINITION. Gravity's cap, costs and reserve (R185, R188, R195 to R200, R209), the level of an
extracted stream (R119). -/
set_option Elab.async false
namespace Sys2Proof.Machine

/-- R185: the slice QP of entry `s`. -/
def CanvasSet.sliceQp (c : CanvasSet) (s : Nat) : Int :=
  clip (c.int Obj.grvQpMin) (c.int Obj.grvQpMax) (c.int Obj.grvQpBase + c.int Obj.grvSubQpOffset s)

/-- R185: the target QP of a CTU of weight `w` and activity `act`. -/
def CanvasSet.targetQp (c : CanvasSet) (s w : Nat) (act : Int) : Int :=
  clip (c.int Obj.grvQpMin) (c.int Obj.grvQpMax) (c.sliceQp s + c.int Obj.grvQpd w + act)

/-- R186: the activity term from m, 1 plus the least block variance. -/
def CanvasSet.activity (c : CanvasSet) (m : Nat) : Int :=
  let r : Int := c.nat Obj.grvActRange
  clip (-r) r (shiftRight (((floorLog2 m : Int) - c.nat Obj.grvActPivot) * c.nat Obj.grvActStrength) 2)

/-- R188: oh of a receiver entry. -/
def CanvasSet.ohBits (c : CanvasSet) (s : Nat) : Nat :=
  let e := c.entry s
  let npk := ceilDiv (c.tapG e.tap) (8 * c.fragment s) + e.h + 4
  8 * c.psBytes s + 8 * c.overhead e.tap * npk

/-- R188: the cap of a receiver entry in bits per picture. -/
def CanvasSet.capBits (c : CanvasSet) (s : Nat) : Int := (c.tapG (c.entry s).tap : Int) - c.ohBits s

/-- R199: KTAIL, KSLICE, KSKIP. -/
def kTail : Nat := 24
/-- R199. -/
def kSlice : Nat := 160
/-- R199. -/
def kSkip : Nat := 48

/-- R196: W(q) for q at most 51. -/
def CanvasSet.allowance (c : CanvasSet) (q : Int) : Nat :=
  let w51 := if c.nat Obj.cspChroma = 0 then 4096 else if c.nat Obj.cspChroma = 1 then 6144 else 9216
  max 512 (w51 / 2 ^ ((51 - q) / 6).toNat)

/-- R195: the QP of a refresh CTU whose target is `q`; for a masked or filler CTU `q` is the slice QP. -/
def CanvasSet.refreshQp (c : CanvasSet) (q : Int) : Int := min (q + c.int Obj.rakQpOffset) 51

/-- R199: wc of a CTU of entry `s` by its Floor Map entry. -/
def CanvasSet.refreshCost (c : CanvasSet) (s ctu : Nat) (fill : Bool) : Nat :=
  if fill ∨ bit ctu 50 then c.allowance (c.refreshQp (c.sliceQp s))
  else c.allowance (c.refreshQp (c.targetQp s (bits ctu 17 12) (c.nat Obj.grvActRange)))

/-- R191: a(k) of a sweep of width `ws` and period `p`; b(k) is a(k + 1). -/
def sweepEdge (ws p k : Nat) : Nat := k * ws / p

/-- R191: whether CTU column `dx` of the entry lies in the column of picture `k` of a sweep. -/
def inColumn (ws p k dx : Nat) : Bool := decide (sweepEdge ws p k ≤ dx) && decide (dx < sweepEdge ws p (k + 1))

/-- R199: the cost of a CTU, by whether it is a refresh CTU. -/
def CanvasSet.ctuCost (c : CanvasSet) (e : Entry) (refresh : Nat → Bool) (cx cy : Nat) : Nat :=
  if refresh (cx - e.x0) then c.refreshCost e.s (c.map.get (cy * 2048 + cx)) e.fill else kSkip

/-- R200: later of segment (s, y): the reserve of the segments below it. -/
def CanvasSet.later (c : CanvasSet) (e : Entry) (refresh : Nat → Bool) (y : Nat) : Nat :=
  let rows := (List.range (e.y0 + e.h)).filter fun r => decide (y < r)
  kSlice * rows.length +
    (rows.map fun r => ((List.range e.w).map fun dx => c.ctuCost e refresh (e.x0 + dx) r).sum).sum

/-- R209: need of an entry of the green set, with the bright RAK_PERIOD. -/
def CanvasSet.need (c : CanvasSet) (brightPeriod s : Nat) : Nat :=
  let e := c.entry s
  let pm := max 1 (min (c.nat Obj.rakPeriod) brightPeriod)
  let col := min e.w (2 * ceilDiv e.w pm)
  let wv := c.allowance (c.refreshQp (c.int Obj.grvQpMax))
  e.h * (kSlice + col * wv + (e.w - col) * kSkip)

/-! ### The level (R119) -/

/-- A level of H.266 Annex A: general_level_idc, MaxLumaPs, MaxLumaSr, MaxSlicesPerAu, MaxBR and MinCrBase of the Main
tier (PRESUMED: the values of H.266; log entry 30). -/
structure Level where
  idc : Nat
  maxPs : Nat
  maxSr : Nat
  maxSlices : Nat
  maxBr : Nat
  minCr : Nat
  deriving DecidableEq, Repr

/-- The levels from 1 to 6.2. -/
def levels : List Level :=
  [⟨16, 36864, 552960, 16, 128, 2⟩, ⟨32, 122880, 3686400, 16, 1500, 2⟩, ⟨35, 245760, 7372800, 20, 3000, 2⟩,
   ⟨48, 552960, 16588800, 30, 6000, 2⟩, ⟨51, 983040, 33177600, 40, 10000, 2⟩, ⟨64, 2228224, 66846720, 75, 12000, 4⟩,
   ⟨67, 2228224, 133693440, 75, 20000, 4⟩, ⟨80, 8912896, 267386880, 200, 25000, 6⟩,
   ⟨83, 8912896, 534773760, 200, 40000, 8⟩, ⟨86, 8912896, 1069547520, 200, 60000, 8⟩,
   ⟨96, 35651584, 1069547520, 600, 80000, 8⟩, ⟨99, 35651584, 2139095040, 600, 120000, 8⟩,
   ⟨102, 35651584, 4278190080, 600, 180000, 8⟩]

/-- The access unit size limit of a level in bytes at a picture rate: FormatCapabilityFactor × MaxLumaSr × period / MinCr
(PRESUMED: H.266 A.4; log entry 30). -/
def Level.auLimit (l : Level) (main10 : Bool) (num den : Nat) : Nat :=
  if main10 then 1875 * l.maxSr * den / (1000 * num * l.minCr) else 2 * 3750 * l.maxSr * den / (1000 * num * l.minCr)

/-- R119: general_level_idc of the extracted stream of a receiver entry; 0 where no level holds it. -/
def CanvasSet.level (c : CanvasSet) (s : Nat) : Nat :=
  let e := c.entry s
  let num := c.nat Obj.flrRateNum
  let den := c.nat Obj.flrRateDen
  let w := 32 * e.w
  let h := 32 * e.h
  let sr := ceilDiv (w * h * num) den
  let main10 := c.nat Obj.cspChroma == 0
  let au := (ceilDiv (c.capBits s).toNat 8) + c.psBytes s
  ((levels.find? fun l =>
    decide (c.nat Obj.cspSubLevelFloor s ≤ l.idc) && decide (w * h ≤ l.maxPs) && decide (w * w ≤ 8 * l.maxPs)
      && decide (h * h ≤ 8 * l.maxPs) && decide (sr ≤ l.maxSr) && decide (e.h ≤ l.maxSlices)
      && decide (1000 * c.tapRate e.tap ≤ (if main10 then 1100 else 2750) * l.maxBr) && decide (au ≤ l.auLimit main10 num den)).map
    (·.idc)).getD 0

end Sys2Proof.Machine
end

