-- ==== Sys2Proof/Machine/Rake.lean ====
section
/-! DEFINITION. The Rake: periods (R190), refresh columns (R191, R204), nudges (R205 to R207), and the proposals of the
Twin function that carry them (R246). -/
set_option Elab.async false
namespace Sys2Proof.Machine

/-! ### Proposals -/

/-- The body of a PROPOSE, Table 10-3. -/
def Proposal.body (p : Proposal) : Bytes :=
  bytesBE 4 p.pid ++ bytesBE 1 p.kind ++ zeros 1 ++ bytesBE 2 p.subj ++ bytesBE 4 p.f ++ bytesBE 4 p.arg
    ++ (p.digest ++ zeros 48).take 48 ++ (p.stills ++ zeros 8).take 8

/-- R246: sends a proposal under a PID not yet used; it replaces an open one of the same KIND and SUBJ. A device in SOLO
sends none. -/
def State.propose (s : State) (kind subj f arg : Nat) (digest stills : Bytes) : State :=
  if s.twn.state = .solo then s
  else
    let p : Proposal := { epoch := s.twn.epoch, pid := s.twn.nextPid, kind := kind, subj := subj, f := f, arg := arg, digest := digest,
                          stills := stills, sentAt := s.now }
    (s.modTwin fun x => { x with nextPid := add32 x.nextPid 1,
                                 proposals := (x.proposals.filter fun q => !(q.kind == kind && q.subj == subj)) ++ [p] }).twinSend
      3 p.body

/-- Drops the open proposal of a KIND and SUBJ. -/
def State.unpropose (s : State) (kind subj : Nat) : State :=
  s.modTwin fun x => { x with proposals := x.proposals.filter fun q => !(q.kind == kind && q.subj == subj) }

/-! ### Periods and columns -/

/-- A nudge at rest. -/
def Nudge.idle : Nudge :=
  { state := .idle, fn := 0, agreed := false, fs := 0, p := 0, j := 0, taken := false, last := none }

/-- The nudge of an entry. -/
def State.nudge (s : State) (e : Nat) : Nudge := Table.get Nudge.idle s.rake.nudges e

/-- Replaces the nudge of an entry. -/
def State.setNudge (s : State) (e : Nat) (n : Nudge) : State :=
  { s with rake := { s.rake with nudges := Table.set Nudge.idle s.rake.nudges e n } }

/-- R190: k and P of the next picture, and whether it begins a period; `start` is a coding start. -/
def Rake.next (r : Rake) (start : Bool) (period : Nat) : Nat × Nat × Bool :=
  if start then (0, period, true) else if r.k + 1 = r.p then (0, period, true) else (r.k + 1, r.p, false)

/-- R191, R204, R207: the sweeps of an entry in the picture with index `k` of period `p`, as (period, index): the regular one,
and the nudge sweep that is active; none from a rack that changes the entry until the next period start. -/
def State.sweepsOf (s : State) (e : Entry) (k p : Nat) : List (Nat × Nat) :=
  let n := s.nudge e.s
  if s.rake.noSweep.contains e.s then []
  else (p, k) :: (if (n.state == .active || n.state == .queued) && decide (n.j < n.p) then [(n.p, n.j)] else [])

/-- R191: whether CTU column `dx` of an entry is a refresh column of that picture. -/
def State.refreshColumn (s : State) (e : Entry) (k p dx : Nat) : Bool :=
  (s.sweepsOf e k p).any fun g => inColumn e.w g.1 g.2 dx

/-- The refresh CTUs of one CTU row of an entry. -/
def State.refreshCount (s : State) (e : Entry) (k p : Nat) : Nat := ((List.range e.w).filter fun dx => s.refreshColumn e k p dx).length

/-! ### Nudges, Table 8-3 -/

/-- RAK_SUB_NUDGE_STATE codes. -/
def NudgeState.code : NudgeState → Nat
  | .idle => 0 | .scheduled => 1 | .active => 2 | .queued => 3

/-- The later of two frame numbers by R4. -/
def laterFrame (a b : Nat) : Nat := if frameEarlier a b then b else a

/-- R205, R206: a start of entry `e` at frame `fn` is recorded; in twin mode it is proposed and waits for agreement. -/
def State.nudgeStart (s : State) (e fn : Nat) (n : Nudge) (st : NudgeState) : State :=
  let s := s.setNudge e { n with state := st, fn := fn, agreed := !s.twinMode, taken := false }
  let s := s.brewRec 0x350 0x051 (e * 2 ^ 32 + fn)
  if s.twinMode then s.propose 3 e fn 0 (zeros 48) (zeros 8) else s

/-- R205: a request for entry `e` in frame `fr`. -/
def State.nudgeRequest (s : State) (e fr : Nat) : State :=
  let n := s.nudge e
  match n.state with
  | .idle => s.nudgeStart e (add32 fr 3) n .scheduled
  | .active => s.nudgeStart e (laterFrame (add32 fr 3) (add32 n.fs n.p)) n .queued
  | .scheduled | .queued => s.count Obj.rakNudgeAbsorbed

/-- RAK_NUDGE (R205, R206). -/
def rakNudge (v : Nat) (s : State) : Effect :=
  if 4094 < v then (s, .range)
  else if s.silenced ∨ s.sets.bright.isReceiver v = false then (s, .state)
  else (s.nudgeRequest v s.ctime.frame, .ok)

/-- RAK_NUDGE (R205). -/
def execRakNudge (t : Nat) (who : Path) (v : Nat) (s : State) : Host.Outcome State Fault Refusal :=
  objectCommand t who Obj.rakNudge 0 (.num v) (rakNudge v) s

/-- REFRESH_NUDGE (R205, R206): the calendar entry of a start that is agreed fires. -/
def execRefreshNudge (t seg : Nat) (s : State) : Host.Outcome State Fault Refusal :=
  let s := s.land t
  let n := s.nudge seg
  .next (
    if (n.state = .scheduled ∨ n.state = .queued) ∧ n.agreed ∧ s.calTurn (s.nudgeEntry seg n) then
      (s.setNudge seg { n with taken := true }).calTicked
    else s)

/-- NUDGE_AGREE_TIMEOUT (R206): not agreed before ⟨Fn−2:0⟩: proposed again with a fresh Fn. -/
def execNudgeAgreeTimeout (t seg : Nat) (s : State) : Host.Outcome State Fault Refusal :=
  let s := s.land t
  let n := s.nudge seg
  .next (
    if (n.state = .scheduled ∨ n.state = .queued) ∧ !n.agreed ∧ s.reached { frame := sub32 n.fn 2, line := 0 } then
      let fn := add32 s.ctime.frame 3
      s.nudgeStart seg (if n.state = .queued then laterFrame fn (add32 n.fs n.p) else fn) n n.state
    else s)

/-- R204, R205: at the start of the picture of frame `f` in period `p`: an active sweep moves on; a start that fired begins
where its frame has come and no sweep is under way. -/
def State.nudgePicture (s : State) (f p e : Nat) : State :=
  let n := s.nudge e
  let n := if n.state = .active ∨ n.state = .queued then
      { n with j := n.j + 1, last := if n.j + 2 = n.p then some f else n.last } else n
  let s := s.setNudge e n
  let free := n.state = .scheduled ∨ (n.state = .queued ∧ n.p ≤ n.j)
  if free ∧ n.taken ∧ !frameEarlier f n.fn then
    ((s.setNudge e { n with state := .active, fs := f, p := p, j := 0, taken := false, agreed := false,
                            last := if p = 1 then some f else none }).count Obj.rakNudges).brewRec 0x350 0x052 e
  else s

/-- R204, R205: the picture of frame `f` committed: a sweep whose picture P − 1 it was ends. -/
def State.nudgeCommitted (s : State) (f e : Nat) : State :=
  let n := s.nudge e
  if n.last ≠ some f then s
  else if n.state = .active then s.setNudge e Nudge.idle
  else if n.state = .queued then s.setNudge e { n with state := .scheduled, last := none }
  else s

/-- R203: a fallback segment with refresh CTUs leaves entry `e` inexact: RAK_MISSED, RAKE_MISSED, RAK_SUB_INEXACT, and a
nudge of a receiver. -/
def State.rakeMissed (s : State) (e : Entry) (frame missed : Nat) : State :=
  if missed = 0 then s
  else
    let s := (s.count Obj.rakMissed 0 missed).brewRec 0x350 0x050 (e.s * 2 ^ 32 + frame)
    let s := { s with rake := { s.rake with inexact := if s.rake.inexact.contains e.s then s.rake.inexact else s.rake.inexact ++ [e.s] } }
    if e.fill then s else s.nudgeRequest e.s s.ctime.frame

/-- Whether a rack from `old` to `new` leaves entry `e` an enabled entry in the same place. -/
def sameGeometry (old new : CanvasSet) (e : Nat) : Bool :=
  let a := old.entry e
  let b := new.entry e
  old.entryEn e == new.entryEn e && a.x0 == b.x0 && a.y0 == b.y0 && a.w == b.w && a.h == b.h

/-- R207, Table 8-3: a rack's effect on the Rake. -/
def State.rakeRack (s : State) (old new : CanvasSet) : State :=
  let s := (s.rake.nudges.map (·.1)).foldl (fun s e =>
    if sameGeometry old new e ∧ new.isReceiver e then s else (s.setNudge e Nudge.idle).unpropose 3 e) s
  let fresh := (new.entries.filter fun e => !sameGeometry old new e.s).map (·.s)
  { s with rake := { s.rake with noSweep := (s.rake.noSweep ++ fresh).eraseDups } }

end Sys2Proof.Machine
end

