-- ==== Sys2Proof/Machine/Coding.lean ====
section
/-! DEFINITION. How a Tun codes a segment: LAMBDA and the comparison of candidates (R144), search limits (R142), HINT (R143),
refresh constraints (R192 to R195), trimming (R197), Gravity's loop (R199, R200), the QPs it signals (R187), the slice (R127),
traces (R227); what its inputs are (R138), the substitute of an unreadable Floor Map word (R31), booked cycles (R137, R164). -/
set_option Elab.async false
namespace Sys2Proof.Machine

/-! ### LAMBDA -/

/-- Bit j of R144's bound: the greatest v with (2v − 1)³ · 10⁶ ≤ 8 · 14,592³ · 2^(q − 12), found from bit j − 1 down. -/
def lambdaBits (q : Nat) : Nat → Nat → Nat
  | 0, v => v
  | j + 1, v =>
    let w := v + 2 ^ j
    lambdaBits q j (if (2 * w - 1) ^ 3 * 1000000 * 2 ^ (24 - q) ≤ 8 * 14592 ^ 3 * 2 ^ (q - 24) then w else v)

/-- R144: LAMBDA of entry `k`, q = k − 12: 256 × 0.57 × 2^((q − 12) / 3) rounded half up. -/
def lambdaOf (k : Nat) : Nat := lambdaBits k 26 0

/-- R144: J of a candidate at QP `q`. -/
def Candidate.cost (c : Candidate) (q : Int) : Nat := 8192 * c.dist + lambdaOf (q + 12).toNat * c.rate

/-! ### Effort, Table 6-3 -/

/-- The search limits of an effort: motion range in luma samples, references, coarse points with their refinement, whether zero
seeds a search, quarter-pel points, AMVR precisions, merge candidates, least QT node to split, MTT depth, TT, CU sizes of
Minimal, intra modes checked by rank and by MPM, CCLM, components quantised by RDOQ, SAO types of luma and chroma. -/
structure SearchLimits where
  rangeX : Nat
  rangeY : Nat
  pictures : Nat
  coarse : Nat
  radius : Nat
  predictor : Bool
  zero : Bool
  quarter : Bool
  amvr : Nat
  merges : Nat
  leastQt : Nat
  mtt : Nat
  ternary : Bool
  squares : Bool
  ranks : Nat
  mpms : Nat
  planar : Bool
  cclm : Bool
  rdoq : Nat
  saoLuma : Nat
  saoChroma : Nat
  deriving DecidableEq, Repr

/-- Table 6-3 by effort code. -/
def searchLimits (effort : Nat) : SearchLimits :=
  if effort = 0 then
    { rangeX := 128, rangeY := 64, pictures := 2, coarse := 3, radius := 4, predictor := true, zero := true, quarter := true,
      amvr := 3, merges := 6, leastQt := 16, mtt := 2, ternary := true, squares := false, ranks := 3, mpms := 2, planar := false,
      cclm := true, rdoq := 3, saoLuma := 2, saoChroma := 2 }
  else if effort = 1 then
    { rangeX := 64, rangeY := 32, pictures := 2, coarse := 2, radius := 2, predictor := true, zero := false, quarter := true,
      amvr := 2, merges := 4, leastQt := 16, mtt := 1, ternary := false, squares := false, ranks := 2, mpms := 1, planar := false,
      cclm := true, rdoq := 1, saoLuma := 1, saoChroma := 0 }
  else
    { rangeX := 32, rangeY := 16, pictures := 1, coarse := 1, radius := 2, predictor := false, zero := false, quarter := false,
      amvr := 1, merges := 2, leastQt := 32, mtt := 0, ternary := false, squares := true, ranks := 1, mpms := 0, planar := true,
      cclm := false, rdoq := 0, saoLuma := 0, saoChroma := 0 }

/-- R22: the effort of a CTU by the schedule and EFFCAP; codes rise as effort falls. -/
def ctuEffort (schedule word : Nat) : Nat := max schedule (min 2 (bits word 49 46))

/-- Table 6-3: whether a motion search starts at a seed, and reaches so far from it. -/
def SearchLimits.seeds (l : SearchLimits) (seed : Seed) (distance : Nat) : Bool :=
  decide (distance ≤ l.radius) &&
    (match seed with
     | .coarse rank => decide (rank < l.coarse)
     | .predictor => l.predictor
     | .zero => l.zero)

/-- Table 5-3, Table 6-3, R143: whether a CTU of an effort and HINT tries a candidate. `is444`: coded format 4:4:4;
`intraOnly`: R195's coding of a masked or filler CTU. -/
def Candidate.tried (c : Candidate) (effort hint : Nat) (is444 intraOnly : Bool) : Bool :=
  let l := searchLimits effort
  let square := !(l.squares || intraOnly) || (c.width == c.height && (c.width == 32 || c.width == 16))
  let graphics := is444 && hint == 1
  match c.kind with
  | .split code =>
    if code = 1 then c.depth == 0 && c.width == c.height && decide (l.leastQt ≤ c.width) && (!intraOnly || decide (32 ≤ c.width))
    else !intraOnly && decide (c.depth < l.mtt) &&
      (if code = 2 then decide (8 ≤ c.height) else if code = 3 then decide (8 ≤ c.width)
       else if code = 4 then l.ternary && decide (16 ≤ c.height)
       else if code = 5 then l.ternary && decide (16 ≤ c.width) else false)
  | .intra mode rank mpm cclm refines =>
    let searched := mode % 2 == 0 || mode == 1 || refines.any fun r => decide (r < 2)
    square && decide (mode ≤ 66) && ((searched && decide (rank < l.ranks)) || decide (mpm < l.mpms) || (l.planar && mode == 0)) &&
      (!cclm || l.cclm)
  | .merge index _ => square && !intraOnly && decide (index < l.merges)
  | .inter picture _ amvr mvx mvy seed distance =>
    square && !intraOnly && decide (16 < c.width * c.height) && decide (picture < l.pictures) && decide (amvr < l.amvr) &&
      decide (mvx.natAbs ≤ 4 * l.rangeX) && decide (mvy.natAbs ≤ 4 * l.rangeY) && l.seeds seed distance &&
      (l.quarter || (mvx % 2 == 0 && mvy % 2 == 0))
  | .ibc left merge => square && !intraOnly && graphics && decide (left ≤ 3) && merge.all fun i => decide (i < 6)
  | .palette entries =>
    square && !intraOnly && graphics && decide (8 ≤ c.width) && decide (8 ≤ c.height) && decide (c.width ≤ 32) &&
      decide (c.height ≤ 32) && decide (entries ≤ 31)

/-! ### Refresh constraints, Table 8-1 -/

/-- R193: whether a list position derives from outside the allowed areas: a CU beyond the current area, or a temporal candidate
whose block is not inside the allowed area of the collocated picture, which is reference 0. -/
def CtuIn.outside (k : CtuIn) (usable : Bool) (p : Option ListPos) : Bool :=
  match p with
  | none => false
  | some p => if p.temporal then !usable || decide (k.areas.getD 0 0 ≤ p.last) else decide (k.current ≤ p.last)

/-- R192, R193: whether every sample a candidate reads lies in the allowed areas; chroma bounds are divided by SubWidthC. -/
def CtuIn.readsInside (k : CtuIn) (subW : Nat) (c : Candidate) : Bool :=
  c.reads.all fun r =>
    let edge := if r.1 = 2 then k.current else k.areas.getD r.1 0
    decide (r.2.2 < if r.2.1 = 0 then edge else edge / subW)

/-- Table 8-1: whether a constrained CTU may take a candidate. Palette, the filters and the division into CUs are free. -/
def CtuIn.allowed (k : CtuIn) (subW : Nat) (usable : Bool) (c : Candidate) : Bool :=
  let below (i : Nat) : Bool := (c.positions.take (i + 1)).all fun p => !k.outside usable p
  match c.kind with
  | .split _ => true
  | .palette _ => true
  | .intra _ _ _ _ _ => k.readsInside subW c
  | .merge i _ => below i && k.readsInside subW c
  | .inter _ i _ _ _ _ _ => below i && k.readsInside subW c
  | .ibc _ _ => k.readsInside subW c

/-- R347: whether a candidate predicts from, or derives its motion at a temporal position of, a picture that may not be
referenced. -/
def SegInput.unusable (i : SegInput) (c : Candidate) : Bool :=
  let usable (p : Nat) : Bool := (i.refs.getD p default).usable
  let index : Option Nat := match c.kind with
    | .merge n _ => some n
    | .inter _ n _ _ _ _ _ => some n
    | _ => none
  (c.reads.any fun r => decide (r.1 < 2) && !usable r.1) ||
    (!usable 0 && index.any fun n => (c.positions.take (n + 1)).any fun p => p.any (·.temporal))

/-- R193, R347: whether a CTU may take a candidate. -/
def SegInput.mayTake (i : SegInput) (k : CtuIn) (c : Candidate) : Bool :=
  !i.unusable c && (!k.constrained || k.allowed (if i.chroma = 2 then 1 else 2) (i.refs.getD 0 default).usable c)

/-! ### Mode decision -/

/-- The QP of a CTU: q(k), or qr(k) of a refresh CTU (R187, R195). -/
def CtuIn.qp (k : CtuIn) : Int := if k.refresh then k.qr else k.q

/-- R195: the effort a CTU is coded with: Minimal where it is masked or of a filler. -/
def CtuIn.coding (k : CtuIn) : Nat := if k.skip then 2 else k.effort

/-- R142 to R144: the candidate that wins among those of a mode decision that the CTU tries and may take: the least J, the one tried
first on a tie; once a skip with all CBFs zero leads, no split is tried. -/
def SegInput.best (i : SegInput) (k : CtuIn) (l : List Candidate) : Option Nat :=
  (l.zipIdx.foldl (fun (best : Option (Candidate × Nat)) q =>
    let (c, n) := q
    let stop : Bool := match best, c.kind with
      | some (b, _), .split _ => (match b.kind with | .merge _ true => b.cbf == 0 | _ => false)
      | _, _ => false
    if stop ∨ !c.tried k.coding k.hint (i.chroma == 2) k.skip ∨ !i.mayTake k c then best
    else
      match best with
      | none => some (c, n)
      | some (b, _) => if c.cost k.qp < b.cost k.qp then some (c, n) else best) none).map (·.2)

/-- The choices of a CTU, one mode decision after another; a CTU holds fewer than 4,096 of them. -/
def SegInput.choices (i : SegInput) (k : CtuIn) (done : List CtuForm) : Nat → List Nat → List Nat
  | 0, ch => ch
  | fuel + 1, ch =>
    match i.best k (Config.candidates i done ch) with
    | none => ch
    | some n => i.choices k done fuel (ch ++ [n])

/-- R194: the constrained skip: the lowest merge index that R193 allows, else one planar CU without residual. -/
def SegInput.constrainedSkip (i : SegInput) (k : CtuIn) (done : List CtuForm) : CtuForm :=
  match (Config.skipCandidates i done).findIdx? fun c => i.mayTake k c with
  | some n => .skip n
  | none => .planar

/-- R19, R174, R194: a CTU as one skip CU with merge candidate 0, or the constrained skip in a clean area. A refresh CTU of a
fallback is not restricted. -/
def SegInput.skipForm (i : SegInput) (k : CtuIn) (done : List CtuForm) : CtuForm :=
  if k.clean ∧ !(i.fallback ∧ k.refresh) then i.constrainedSkip k done else .skip 0

/-- R21, R143: HINT 2 tries skip with merge candidate 0 first; without residual the CTU is that skip. A refresh CTU takes it only
where R193 allows it. -/
def SegInput.staticSkip (i : SegInput) (k : CtuIn) (done : List CtuForm) : Option CtuForm :=
  match (Config.skipCandidates i done).head? with
  | none => none
  | some c =>
    if k.hint = 2 ∧ !k.skip ∧ c.cbf = 0 ∧ !i.unusable c then
      if k.clean then some (i.constrainedSkip k done)
      else if k.constrained ∧ !i.mayTake k c then none
      else some (.skip 0)
    else none

/-- R142, R143: a CTU coded by mode decision. -/
def SegInput.codeForm (i : SegInput) (k : CtuIn) (done : List CtuForm) : CtuForm :=
  match i.staticSkip k done with
  | some f => f
  | none => .coded (i.choices k done 4096 [])

/-- Table 6-3: a transform block quantised at an effort: by RDOQ, or rounded with offset 171/1,024. -/
def TransformBlock.quantised (b : TransformBlock) (effort : Nat) : LevelBlock :=
  { component := b.component, width := b.width, height := b.height,
    levels := if b.component < (searchLimits effort).rdoq then b.rdoq
      else b.scaled.map fun v => v.sign * (((v.natAbs + 171) / 1024 : Nat) : Int) }

/-- R197: trim level `m` sets every coefficient at (x, y) with 16 (x + y) ≥ m (w + h) to zero. -/
def LevelBlock.trimmed (b : LevelBlock) (m : Nat) : LevelBlock :=
  { b with levels := b.levels.mapIdx fun n v => if m * (b.width + b.height) ≤ 16 * (n % b.width + n / b.width) then 0 else v }

/-- R142, R197: the transform blocks of a CTU in coding order, each against the reconstruction of those before it as they were
quantised and, at a trim level, trimmed. A CTU has fewer than 4,096 of them. -/
def SegInput.blocksFrom (i : SegInput) (done : List CtuForm) (ch : List Nat) (effort : Nat) (trim : Option Nat) :
    Nat → List LevelBlock → List LevelBlock
  | 0, bs => bs
  | fuel + 1, bs =>
    match Config.nextBlock i done ch bs with
    | none => bs
    | some b =>
      let q := b.quantised effort
      i.blocksFrom done ch effort trim fuel (bs ++ [match trim with
        | none => q
        | some m => q.trimmed m])

/-- R19, R194, R197: the transform blocks of the next CTU in a form: a skip, the planar CU and the planar form have zero residual. -/
def SegInput.blocks (i : SegInput) (done : List CtuForm) (f : CtuForm) : List LevelBlock :=
  let effort := (i.ctus.getD done.length default).coding
  match f with
  | .skip _ | .planar | .floor => []
  | .coded ch => i.blocksFrom done ch effort none 4096 []
  | .trimmed ch m => i.blocksFrom done ch effort (some m) 4096 []

/-- R187: whether a CTU has a coded residual. -/
def hasResidual (l : List LevelBlock) : Bool := l.any fun b => b.levels.any (· != 0)

/-- R197, R199: the bits of a CTU in a form. -/
def SegInput.formBits (i : SegInput) (done : List CtuForm) (f : CtuForm) : Nat :=
  let n := Config.ctuBits i done f (i.blocks done f)
  match f with
  | .skip _ | .planar => min kSkip n
  | .floor => min 512 n
  | .coded _ | .trimmed _ _ => n

/-- R197: a refresh CTU within its allowance: as coded, else at the first trim level that fits, else in the planar form. -/
def SegInput.trim (i : SegInput) (k : CtuIn) (done : List CtuForm) (f : CtuForm) : CtuForm :=
  if i.formBits done f ≤ k.allowance then f
  else
    match f with
    | .coded ch =>
      (([12, 8, 6, 4, 2, 1, 0].map fun m => CtuForm.trimmed ch m).find? fun g => decide (i.formBits done g ≤ k.allowance)).getD .floor
    | _ => .floor

/-! ### The segment -/

/-- A segment in coding (R199, R200): forms of its CTUs, the running count, the exhaustion flag, trimmed CTUs and planar forms. -/
structure SegCoded where
  forms : List CtuForm
  rc : Nat
  spent : Bool
  trims : Nat
  floors : Nat
  deriving DecidableEq, Repr

/-- Takes a form for the next CTU. -/
def SegInput.take (i : SegInput) (a : SegCoded) (f : CtuForm) : SegCoded :=
  { a with forms := a.forms ++ [f], rc := a.rc + i.formBits a.forms f }

/-- R200: one CTU; `rest` is the reserve of what comes after it. -/
def SegInput.codeCtu (i : SegInput) (a : SegCoded) (k : CtuIn) (rest : Nat) : SegCoded :=
  if i.fallback then i.take a (i.skipForm k a.forms)
  else if k.refresh then
    let f := i.codeForm k a.forms
    let g := i.trim k a.forms f
    let b := i.take a g
    { b with trims := b.trims + ofBool (g != f), floors := b.floors + ofBool (g == .floor) }
  else if a.spent ∨ k.skip then i.take a (i.skipForm k a.forms)
  else
    let b := i.take a (i.codeForm k a.forms)
    if i.avail - b.rc < rest then { i.take a (i.skipForm k a.forms) with spent := true } else b

/-- R200: the CTUs from left to right, each with the reserve of those to its right and of the segments below. -/
def SegInput.codeCtus (i : SegInput) : List CtuIn → SegCoded → SegCoded
  | [], a => a
  | k :: rest, a => i.codeCtus rest (i.codeCtu a k (i.later + kTail + (rest.map (·.cost)).sum))

/-- R138, R200: the segment that its inputs determine. -/
def SegInput.code (i : SegInput) : SegCoded :=
  i.codeCtus i.ctus { forms := [], rc := min (kSlice - kTail) (Config.headBits i), spent := i.spent, trims := 0, floors := 0 }

/-- Table 6-3, R174: the SAO types of the slice: the recipe's choice within the highest effort of its CTUs; off in a fallback. R19
ignores EFFCAP in a masked CTU. That a slice whose CTUs differ in effort takes the highest is the model's choice: Table 5-3 chooses
SAO per slice, Table 6-3 limits it per effort (DESIGN CHOICE; log entry 89). -/
def SegInput.sao (i : SegInput) (forms : List CtuForm) : Nat × Nat :=
  let l := searchLimits (((i.ctus.filter fun k => !k.skip).map (·.effort)).foldl min 2)
  let r := Config.saoChoice i forms
  if i.fallback then (0, 0) else (min l.saoLuma r.1, min l.saoChroma r.2)

/-- R187, R197: what each CTU carries. cu_qp_delta is its QP less the predicted one, which is that of the CTU before it, or the slice
QP; a CTU without coded residual takes the predicted QP (the prediction PRESUMED: H.266 8.7.1; log entry 82). -/
def SegInput.ctuCodes (i : SegInput) (sao : Bool) : Int → List CtuForm → List CtuIn → List CtuForm → List CtuCode
  | pred, done, k :: ks, f :: fs =>
    let bs := i.blocks done f
    let d := if hasResidual bs then k.qp - pred else 0
    { blocks := bs, delta := d, qp := pred + d, sao := sao && f != .floor } :: i.ctuCodes sao (pred + d) (done ++ [f]) ks fs
  | _, _, _, _ => []

/-- What the CTUs of the segment carry in their final forms. -/
def SegInput.codes (i : SegInput) (forms : List CtuForm) : List CtuCode := i.ctuCodes (i.sao forms != (0, 0)) i.qs [] i.ctus forms

/-- R127, R199: the slice NAL unit: the header of Table 5-8, then the CTUs; its size is at most the running count plus KTAIL. -/
def SegInput.slice (i : SegInput) (a : SegCoded) : Bytes :=
  let header := sliceHeader i.gdr i.s (i.y - i.y0) i.h i.qs (i.sao a.forms)
  (nalHeader (if i.gdr then nutGdr else nutTrail) ++ Config.slicePayload header i a.forms (i.codes a.forms)).take
    ((a.rc + min kTail (Config.tailBits i a.forms)) / 8)

/-! ### Traces (R227) -/

/-- R227: the 16-bit word of a bin: kind, context index (0 unless context-coded), value. -/
def binWord (b : Nat × Nat × Nat) : Nat := b.1 % 4 * 16384 + (if b.1 = 0 then b.2.1 % 8192 * 2 else 0) + b.2.2 % 2

/-- R227: the traces of a slice's CTUs. -/
def SegInput.traces (i : SegInput) (forms : List CtuForm) : List Nat :=
  (List.range forms.length).map fun k => crc32c ((Config.ctuBins i forms (i.codes forms) k).flatMap fun b => bytesBE 2 (binWord b))

/-! ### Inputs of a segment -/

/-- The Floor Map entry of CTU (cx, cy). -/
def CanvasSet.ctu (c : CanvasSet) (cx cy : Nat) : Nat := c.map.get (cy * 2048 + cx)

/-- R10: the cost of a coded CTU in Tun cycles. -/
def CanvasSet.codedCost (c : CanvasSet) : Nat := if c.nat Obj.cspChroma = 2 then 4608 else 3072

/-- R10: the cost of a CTU by its Floor Map entry; SUBPIC 0xFFF marks a CTU of a filler (Table 1-4). -/
def CanvasSet.entryCost (c : CanvasSet) (v : Nat) : Nat :=
  if bit v 50 ∨ bits v 11 0 = 0xFFF then 384 else c.codedCost

/-- R137, R164: booked cycles of a segment: a masked or filler CTU costs 384 outside a refresh column. -/
def CanvasSet.bookedCycles (c : CanvasSet) (e : Entry) (refresh : Nat → Bool) (y : Nat) : Nat :=
  ((List.range e.w).map fun dx => if refresh dx then c.codedCost else c.entryCost (c.ctu (e.x0 + dx) y)).sum

/-- R31: the Floor Map words of a segment as the Dispatcher takes them, by column: `bad` columns cannot be read. SUBPIC comes from the
rectangle, the other fields from the CTU to the left, or to the right of the first one; where that fails too, the CTU is masked.
The stored word stays the canonical one, which the Maltster writes back. -/
def CanvasSet.segmentWords (c : CanvasSet) (e : Entry) (y : Nat) (bad : List Nat) : List Nat :=
  (List.range e.w).map fun dx =>
    let cx := e.x0 + dx
    if bad.contains cx = false then c.ctu cx y
    else
      let near := if dx = 0 then cx + 1 else cx - 1
      let subpic := if e.fill then 0xFFF else e.s
      if bad.contains near ∨ e.w ≤ 1 then setBit (setBits 0 11 0 subpic) 50 true
      else setBits (c.ctu near y) 11 0 subpic

/-- R186: vb of the 8 × 8 block at (bx, by) of a CTU, from its luma samples by column and row. -/
def blockVariance (px : Nat → Nat → Nat) (bx by_ : Nat) : Nat :=
  let v := (List.range 64).map fun i => px (8 * bx + i % 8) (8 * by_ + i / 8)
  let s := v.sum
  (64 * (v.map fun x => x * x).sum - s * s) / 4096

/-- R186: m of a CTU: 1 plus the least vb of its 16 blocks. -/
def ctuVariance (px : Nat → Nat → Nat) : Nat :=
  1 + ((List.range 16).map fun b => blockVariance px (b % 4) (b / 4)).foldl min (blockVariance px 0 0)

/-- R192: the end of the clean-for-reference area, in luma columns, of a sweep (period, index) in the picture `d` before. -/
def cleanForReference (ws : Nat) (sweep : Nat × Nat) (d : Nat) : Nat :=
  if sweep.2 < d then 0
  else
    let b := sweepEdge ws sweep.1 (sweep.2 - d + 1)
    32 * b - (if b = ws then 0 else 8)

/-- The least of some numbers; `none` of none. -/
def least : List Nat → Option Nat
  | [] => none
  | a :: l => some (l.foldl min a)

/-- R22, R185, R186, R191 to R196, R199: what the coding of one CTU needs, from its Floor Map word, its luma samples and the sweeps
of its entry. -/
def CanvasSet.ctuIn (c : CanvasSet) (e : Entry) (effort : Nat) (sweeps : List (Nat × Nat)) (dx word : Nat) (px : Nat → Nat → Nat) :
    CtuIn :=
  let skip := e.fill || bit word 50
  let refresh := sweeps.any fun g => inColumn e.w g.1 g.2 dx
  let on := sweeps.filter fun g => decide (dx < sweepEdge e.w g.1 (g.2 + 1))
  let q := c.targetQp e.s (bits word 17 12) (c.activity (ctuVariance px))
  let qr := c.refreshQp (if skip then c.sliceQp e.s else q)
  { effort := ctuEffort effort word, hint := bits word 19 18, skip := skip, refresh := refresh, constrained := !on.isEmpty,
    clean := sweeps.any fun g => decide (dx < sweepEdge e.w g.1 g.2), q := q, qr := qr, allowance := c.allowance qr,
    cost := if refresh then c.refreshCost e.s word e.fill else kSkip,
    current := (least (on.map fun g => 32 * sweepEdge e.w g.1 (g.2 + 1))).getD (32 * e.w),
    areas := [1, 2].map fun d => (least (on.map fun g => cleanForReference e.w g d)).getD (32 * e.w), mask := bit word 50 }

/-! ### Planes and references -/

/-- A component of planes. -/
def Planes.comp (p : Planes) : Nat → Table Nat
  | 0 => p.y
  | 1 => p.cb
  | _ => p.cr

/-- Subsampling of a component: horizontal, vertical. -/
def CanvasSet.compSub (c : CanvasSet) (comp : Nat) : Nat × Nat := if comp = 0 then (1, 1) else c.chromaSub

/-- The samples of a component of the canvas in luma columns `x` to `x + w` and rows `y` to `y + h`, by rows. -/
def CanvasSet.rectangle (c : CanvasSet) (p : Planes) (d comp x y w h : Nat) : List Nat :=
  let (kx, ky) := c.compSub comp
  (List.range (h / ky)).flatMap fun j => (List.range (w / kx)).map fun i => Table.get d (p.comp comp) ((y / ky + j) * 65536 + x / kx + i)

/-- R19, R20: the source samples of a segment, from the composed canvas; black in a CTU coded as skip. -/
def CanvasSet.sourceSamples (c : CanvasSet) (p : Planes) (e : Entry) (y : Nat) (skips : List Bool) (comp : Nat) : List Nat :=
  let (kx, ky) := c.compSub comp
  (List.range (32 / ky)).flatMap fun j => (List.range (32 * e.w / kx)).map fun i =>
    if skips.getD (i * kx / 32) false then (if comp = 0 then 64 else 512)
    else Table.get (if comp = 0 then 64 else 512) (p.comp comp) ((32 * y / ky + j) * 65536 + 32 * e.x0 / kx + i)

/-- A reference slot. -/
def State.recon (s : State) (k : Nat) : Recon := Table.get Recon.empty s.coding.recon k

/-- Replaces a reference slot. -/
def State.setRecon (s : State) (k : Nat) (r : Recon) : State :=
  { s with coding := { s.coding with recon := Table.set Recon.empty s.coding.recon k r } }

/-- R128, R129, R347: a reference as the recipe reads it, in the rows that R166 holds ready. A picture that is no longer in memory
may not be referenced. -/
def State.refIn (s : State) (c : CanvasSet) (e : Entry) (y : Nat) (r : RefPic) : RefIn :=
  let last := min (y + 4) (e.y0 + e.h - 1)
  let area (p : Planes) : List (List Nat) := [0, 1, 2].map fun comp => c.rectangle p 512 comp (32 * e.x0) (32 * e.y0) (32 * e.w) (32 * (last + 1 - e.y0))
  match r with
  | .const => { samples := area { y := [], cb := [], cr := [] }, forms := [], usable := true }
  | .gone => { samples := [], forms := [], usable := false }
  | .slot k =>
    let x := s.recon k
    { samples := area x.planes, forms := (List.range (last + 1 - e.y0)).map fun j => Table.get [] x.forms (e.s * 65536 + e.y0 + j),
      usable := true }

/-- R138: the inputs of segment (e, y) of picture `p`, with the Floor Map words of its CTUs. -/
def State.segInput (s : State) (c : CanvasSet) (e : Entry) (y : Nat) (p : Picture) (words : List Nat) (recipe : Bytes)
    (gravity : Int × Nat × Bool) (fallback : Bool) : SegInput :=
  let skips := words.map fun w => e.fill || bit w 50
  let luma := c.sourceSamples s.cmp.composing e y skips 0
  let sweeps := Table.get [] p.sweeps e.s
  let own := s.recon p.slot
  { s := e.s, y := y, x0 := e.x0, y0 := e.y0, w := e.w, h := e.h, chroma := c.nat Obj.cspChroma,
    offsets := [c.int Obj.cspCbQpOffset, c.int Obj.cspCrQpOffset, c.int Obj.cspDbkBeta, c.int Obj.cspDbkTc], gdr := p.gdr,
    qs := c.sliceQp e.s, recipe := recipe, fallback := fallback, avail := gravity.1, later := gravity.2.1, spent := gravity.2.2,
    ctus := words.mapIdx fun dx w => c.ctuIn e p.effort sweeps dx w fun a b => luma.getD (b * 32 * e.w + 32 * dx + a) 64,
    source := [0, 1, 2].map fun comp => c.sourceSamples s.cmp.composing e y skips comp,
    refs := p.refs.map fun r => s.refIn c e y r,
    above := if y = e.y0 then [] else [0, 1, 2].map fun comp => c.rectangle own.planes 512 comp (32 * e.x0) (32 * (y - 1)) (32 * e.w) 32,
    aboveForms := if y = e.y0 then [] else Table.get [] own.forms (e.s * 65536 + y - 1) }

/-! ### Reconstruction (R129, R141) -/

/-- R141: the luma rows of a segment's commit, from the top of its subpicture: the last 8 rows of the segment above, and its
own. -/
def reconRows (row : Nat) : List Nat := (List.range (32 * (row + 1))).drop (32 * row - 8)

/-- R141: luma rows of a subpicture of `h` CTU rows that are final once row `row` of it has committed. -/
def finalRows (row h : Nat) : Nat := if row + 1 = h then 32 * h else 32 * (row + 1) - 8

/-- R141, R156: a commit writes a segment's reconstruction, completes the rows that the segment above held back, and leaves the
metadata of its CTUs beside them. -/
def Recon.commit (r : Recon) (c : CanvasSet) (e : Entry) (y : Nat) (i : SegInput) (forms : List CtuForm) : Recon :=
  let codes := i.codes forms
  let plane (comp : Nat) : Table Nat :=
    let (kx, ky) := c.compSub comp
    ((reconRows (y - e.y0)).filter fun v => v % ky == 0).foldl (fun t v =>
      (List.range (32 * e.w / kx)).foldl (fun t a =>
        Table.set 512 t ((32 * e.y0 + v) / ky * 65536 + 32 * e.x0 / kx + a) (Config.reconSample i forms codes comp a (v / ky) % 1024)) t)
      (r.planes.comp comp)
  { r with planes := { y := plane 0, cb := plane 1, cr := plane 2 },
           rows := Table.set 0 r.rows e.s (finalRows (y - e.y0) e.h),
           forms := Table.set [] r.forms (e.s * 65536 + y) forms }

/-- R134, R212: the hashes of the components of the reconstructed picture of stream `k`, by CSP_DPH. -/
def State.pictureHash (s : State) (c : CanvasSet) (k slot : Nat) : Bytes :=
  let e := c.entry k
  let canvas := k == 4096
  let x := if canvas then 0 else 32 * e.x0
  let y := if canvas then 0 else 32 * e.y0
  let w := 32 * (if canvas then c.width else e.w)
  let h := 32 * (if canvas then c.height else e.h)
  let one (comp : Nat) : Bytes :=
    ((Config.planeHash (c.nat Obj.cspDph - 1) (w / (c.compSub comp).1) (c.rectangle (s.recon slot).planes 512 comp x y w h)) ++
      zeros c.hashBytes).take (c.hashBytes / 3)
  one 0 ++ one 1 ++ one 2

/-! ### Slots of the picture store (R334) -/

/-- Whether a slot lies in a group that takes no new picture: its channel is retired and single-reference coding lasts (R346). -/
def State.slotOut (s : State) (k : Nat) : Bool := s.mem.srm && s.mem.retired.any fun c => c / 4 == k / 2

/-- Whether a slot holds the picture `d` before the one of a serial number. -/
def State.slotHolds (s : State) (serial d k : Nat) : Bool := decide (d ≤ serial) && (s.recon k).pic == some (serial - d)

/-- R334, R347: the slot that the picture of a serial number is written to; N − 1 and N − 2 are the two coded before it, which across
a coding start may still be in coding. It holds neither N − 1 nor N − 2, in the group that does not hold N − 1
where that group is in service; in one group alone, it does not hold N − 1. -/
def State.slotFor (s : State) (serial : Nat) : Nat :=
  let slots := [0, 1, 2, 3].filter fun k => !s.slotOut k
  let other (k : Nat) : Bool := [0, 1, 2, 3].all fun j => !(s.slotHolds serial 1 j && j / 2 == k / 2)
  let free := slots.filter fun k => !s.slotHolds serial 1 k && !s.slotHolds serial 2 k
  match free.find? other, free.head?, slots.find? fun k => !s.slotHolds serial 1 k with
  | some k, _, _ => k
  | none, some k, _ => k
  | none, none, some k => k
  | none, none, none => 0

/-- R128, R129: reference list 0 of a picture: N − 1, then N − 2; the constant in place of a picture before the coding start. -/
def State.refList (s : State) (serial : Nat) : List RefPic :=
  [1, 2].map fun d =>
    if serial < s.coding.firstPic + d then .const
    else match [0, 1, 2, 3].find? fun k => s.slotHolds serial d k with
      | some k => .slot k
      | none => .gone

end Sys2Proof.Machine
end

