-- ==== Sys2Proof/Machine/TwinDigest.lean ====
section
/-! DEFINITION. Digest records of the twin pair: sending (R239), pairing, arbitration (R242), the match run (R245), the
nudge of R241. -/
set_option Elab.async false
namespace Sys2Proof.Machine

/-- R234: the mode that the bright set names. -/
def State.twnModeBright (s : State) : Nat := s.bright Obj.twnMode

/-- A digest record's 28 bytes, R239. -/
def DigestRec.bytes (r : DigestRec) : Bytes :=
  bytesBE 4 r.frame ++ bytesBE 2 r.s ++ bytesBE 2 r.y ++ bytesBE 1 r.flags ++ bytesBE 1 r.anom ++ zeros 2 ++ (r.d ++ zeros 16).take 16

/-- The record that 28 bytes spell. -/
def DigestRec.ofBytes (b : Bytes) : DigestRec :=
  { frame := fieldBE b 0 4, s := fieldBE b 4 2, y := fieldBE b 6 2, flags := fieldBE b 8 1, anom := fieldBE b 9 1, d := slice b 12 16, emitted := false }

/-- Whether two records are of one segment. -/
def DigestRec.same (a b : DigestRec) : Bool := a.frame == b.frame && a.s == b.s && a.y == b.y

/-- Table 10-4: the rule that decides between unequal records, and whether it silences the holder of `a` (`roleB`: that
device acts as role B). -/
def arbitrate (a b : DigestRec) (roleB : Bool) : Nat × Bool :=
  if bit a.flags 1 ≠ bit b.flags 1 then (1, bit a.flags 1)
  else if bit a.flags 0 ≠ bit b.flags 0 then (2, !bit a.flags 0)
  else if (a.anom = 0) ≠ (b.anom = 0) then (3, a.anom != 0)
  else (4, roleB)

/-- Whether the partner emits, as its last HEARTBEAT shows. -/
def State.partnerEmits (s : State) : Bool := s.twn.heart.any fun h => h.state == 3 || h.state == 5

/-- R245: an unequal or missing record ends the run and a rejoin under way, on both devices. -/
def State.runBroken (s : State) (frame : Nat) : State :=
  s.modTwin fun x =>
    { x with matchRun := 0, rejoin := none, partnerRejoin := none,
             pics := x.pics.map fun (p : PicMatch) => if p.frame = frame then { p with bad := true } else p }

/-- The comparison of a picture, begun where it is new. -/
def State.picMatch (s : State) (frame : Nat) : PicMatch :=
  (s.twn.pics.find? fun p => p.frame == frame).getD { frame := frame, matched := 0, bad := false, reported := false }

/-- Replaces the comparison of a picture. -/
def State.setPicMatch (s : State) (p : PicMatch) : State :=
  s.modTwin fun x => { x with pics := (x.pics.filter fun q => q.frame != p.frame) ++ [p] }

/-- R241: whether a segment's packets have been handed to a tap: it is past the Assembler, or one of its streams has it. -/
def State.segmentSent (s : State) (frame seg y : Nat) : Bool :=
  let c := s.setFor frame
  s.asm.accepted.all fun a =>
    !(a.frame == frame && a.s == seg && a.y == y) || (a.subSent && (c.streamTap seg).isSome) || (a.canvasSent && (c.streamTap 4096).isSome)

/-- R242, R251: an unequal pair: counted, kept, reported for the first one of its picture, the losing device silenced
where it emits beside an emitting partner; in optimistic mode the device that stays emitting requests a nudge for a segment that both
have emitted (R241). -/
def State.mismatch (s : State) (own their : DigestRec) : State :=
  let a := arbitrate own their (s.twn.role == 1)
  let s := (s.count Obj.twnMismatches).putValue Obj.twnLastMismatch 0
    (.bytes (own.bytes ++ their.bytes ++ bytesBE 1 a.1 ++ zeros 7))
  let p := s.picMatch own.frame
  let s := s.setPicMatch { p with bad := true, reported := true }
  let forced := s.twn.forcedRec == some (own.frame, own.s, own.y)
  let s := if p.reported then s else s.reportAs forced 0x3C0 .digestMismatch (faultAddr own.frame own.y) (a.1 * 4096 + own.s)
  let s := s.runBroken own.frame
  if s.twn.state = .paired ∧ s.partnerEmits ∧ a.2 then s.silence 1 a.1 own.frame own.s own.y
  else if s.twn.state = .paired ∧ s.twnModeBright = 2 ∧ s.sets.bright.isReceiver own.s ∧ their.emitted ∧
      s.segmentSent own.frame own.s own.y then s.nudgeRequest own.s s.ctime.frame
  else s

/-- R245: whether pictures count towards the run: a device silenced with cause LINK or JOIN applies a SYNC first. -/
def State.runCounts (s : State) : Bool := !(s.twn.state == .silenced && (s.twn.cause == 3 || s.twn.cause == 4) && !s.twn.synced)

/-- R245: one more segment of a picture matches; a picture all of whose segments matched adds to the run. -/
def State.matched (s : State) (frame : Nat) : State :=
  let p := s.picMatch frame
  let p := { p with matched := p.matched + 1 }
  let s := s.setPicMatch p
  if p.matched = (s.setFor frame).segmentCount ∧ !p.bad then
    (s.modTwin fun x => { x with matchRun := x.matchRun + ofBool s.runCounts, pics := x.pics.filter fun q => q.frame != frame })
  else s

/-- R240: a segment that waits for the partner's record may be emitted. -/
def State.releaseSegment (s : State) (frame seg y : Nat) : State :=
  { s with asm := { s.asm with accepted := s.asm.accepted.map fun (a : AccSeg) =>
      if a.frame = frame ∧ a.s = seg ∧ a.y = y then { a with released := true, holdUntil := none } else a } }

/-- R239, R240: pairs an own record with the partner's of the same segment where both are present. -/
def State.pairRecord (s : State) (r : DigestRec) : State :=
  match s.twn.own.find? r.same, s.twn.theirs.find? r.same with
  | some own, some their =>
    let s := s.modTwin fun x => { x with own := x.own.filter fun q => !q.same r, theirs := x.theirs.filter fun q => !q.same r }
    let s := s.releaseSegment r.frame r.s r.y
    if own.flags = their.flags ∧ own.d = their.d then s.matched r.frame else s.mismatch own their
  | _, _ => s

/-- Whether the device exchanges digests: a bright twin mode, in any state but OFF. -/
def State.exchanges (s : State) : Bool := s.twnModeBright != 0 && s.twn.state != .off

/-- A digest with bit [0] inverted. -/
def flipLast (d : Bytes) : Bytes := d.take (d.length - 1) ++ (d.drop (d.length - 1)).map (· ^^^ 1)

/-- R397, code 4: an armed force inverts bit [0] of D in the record about to be sent. -/
def State.forceRecord (s : State) (r : DigestRec) : State × DigestRec :=
  if s.forced 4 0 then
    ((s.modTwin fun x => { x with forcedRec := some (r.frame, r.s, r.y) }).forceActed, { r with d := flipLast r.d })
  else (s, r)

/-- An own record is kept, sent in a DIGESTS frame and paired. -/
def State.sendRecord (s : State) (r : DigestRec) : State :=
  ((s.modTwin fun x => { x with own := x.own ++ [r] }).twinSend 2 (bytesBE 2 1 ++ zeros 2 ++ r.bytes)).pairRecord r

/-- R239: an own record goes to the partner where the pair exchanges digests. -/
def State.ownRecord (s : State) (r : DigestRec) : State :=
  if s.exchanges = false then s
  else
    let f := s.forceRecord r
    f.1.sendRecord f.2

end Sys2Proof.Machine
end

