-- ==== Sys2Proof/Machine/Coded.lean ====
section
/-! DEFINITION. The coded streams: access units (R132), RTP headers
and header extensions (R218 to R223), changes of the streams at a rack (R131). -/
set_option Elab.async false
namespace Sys2Proof.Machine

/-! ### Access units -/

/-- R132: the leading group of an access unit of a stream. -/
def CanvasSet.leading (c : CanvasSet) (stream : Nat) (a : AuHead) : List Bytes :=
  c.leadingAt stream (if stream = 4096 then 255 else c.level stream) a

/-! ### RTP (R218 to R223) -/

/-- R223: the segment element's value. -/
def segmentValue (sub row frag : Nat) (last si fb nv : Bool) : Nat :=
  sub % 4096 * 2 ^ 28 + row % 1024 * 2 ^ 18 + min frag 4095 * 64 + ofBool last * 32 + ofBool si * 16 + ofBool fb * 8 + ofBool nv * 4

/-- R218, R221 to R223: the RTP header of a coded packet with its extension; the Taproom writes LINE and NS. -/
def rtpHeader (c : CanvasSet) (stream frame index es value : Nat) (marker : Bool) : Bytes :=
  let num := c.nat Obj.flrRateNum
  let den := c.nat Obj.flrRateDen
  bytesBE 1 0x90 ++ bytesBE 1 (ofBool marker * 128 + c.payloadType stream) ++ bytesBE 2 (es % 65536)
    ++ bytesBE 4 (rtpTime num den index) ++ bytesBE 4 (c.ssrc stream) ++ bytesBE 4 0xBEDE0004
    ++ bytesBE 1 (c.nat Obj.asmExtIdCt * 16 + 8) ++ bytesBE 4 frame ++ zeros 5
    ++ bytesBE 1 (c.nat Obj.asmExtIdSg * 16 + 4) ++ bytesBE 5 value

/-! ### Streams at a rack (R131) -/

/-- A stream that has never been active. -/
def StreamState.none : StreamState :=
  { active := false, paused := false, spsDue := false, ppsDue := false, duePic := 0, endAfter := Option.none, changePic := 0, before := false }

/-- A stream. -/
def State.stream (s : State) (k : Nat) : StreamState := Table.get StreamState.none s.coding.streams k

/-- Replaces a stream. -/
def State.setStream (s : State) (k : Nat) (x : StreamState) : State :=
  { s with coding := { s.coding with streams := Table.set StreamState.none s.coding.streams k x } }

/-- A stream in assembly at rest. -/
def AsmStream.idle : AsmStream := { es := 0, started := false, restart := Option.none, auPic := Option.none, auSlices := 0, lost := false }

/-- A stream's assembly. -/
def State.asmStream (s : State) (k : Nat) : AsmStream := Table.get AsmStream.idle s.asm.streams k

/-- Replaces a stream's assembly. -/
def State.setAsmStream (s : State) (k : Nat) (x : AsmStream) : State :=
  { s with asm := { s.asm with streams := Table.set AsmStream.idle s.asm.streams k x } }

/-- R219: the ES of a stream starts anew with its first access unit of frame `f` or later. -/
def State.restartEs (s : State) (k pic : Nat) : State := s.setAsmStream k { s.asmStream k with restart := some pic }

/-- What a rack does to a stream, Table 5-9. -/
inductive StreamChange where
  | none | restart | pause | begin_ | end_ | pps
  deriving DecidableEq, Repr

/-- R128: whether a rack from `old` to `new` is a coding start. -/
def codingStartRack (old new : CanvasSet) : Bool :=
  new.hasCanvas && (!old.hasCanvas || old.width != new.width || old.height != new.height || old.nat Obj.cspChroma != new.nat Obj.cspChroma)

/-- The values of a set that a PPS carries beyond the layout: chroma QP offsets, deblocking offsets, crop. -/
def CanvasSet.ppsValues (c : CanvasSet) (s : Nat) : List Int :=
  [c.int Obj.cspCbQpOffset, c.int Obj.cspCrQpOffset, c.int Obj.cspDbkBeta, c.int Obj.cspDbkTc] ++
    (if s = 4096 then [] else let e := c.entry s; [(e.cropL : Int), e.cropR, e.cropT, e.cropB])

/-- Table 5-9: the first row that applies to stream `k`.
A canvas stream that a rack gives a tap or takes it from begins or ends as in the rows
for entries: Table 5-9 has none for it (DESIGN CHOICE; log entry 89). -/
def streamChange (old new : CanvasSet) (k : Nat) : StreamChange :=
  if codingStartRack old new then .restart
  else if k = 4096 then
    let had := (old.streamTap k).isSome && old.hasCanvas
    let has := (new.streamTap k).isSome && new.hasCanvas
    if had ∧ !has then .end_
    else if !had ∧ has then .begin_
    else if !has then .none
    else if old.entries.map (fun e => (e.s, e.x0, e.y0, e.w, e.h)) ≠ new.entries.map (fun e => (e.s, e.x0, e.y0, e.w, e.h))
        ∨ old.nat Obj.cspColour ≠ new.nat Obj.cspColour then .pause
    else if old.ppsValues k ≠ new.ppsValues k then .pps
    else .none
  else
    let had := old.isReceiver k
    let has := new.isReceiver k
    if had ∧ !has then .end_
    else if !had ∧ has then .begin_
    else if !has then .none
    else if !sameGeometry old new k ∨ old.nat Obj.cspColour ≠ new.nat Obj.cspColour ∨ old.level k ≠ new.level k then .pause
    else if old.ppsValues k ≠ new.ppsValues k then .pps
    else .none

/-- The streams of two sets. -/
def streamsOf (old new : CanvasSet) : List Nat := ((old.entries ++ new.entries).map (·.s)).eraseDups ++ [4096]

/-- R131, R219: the streams change at the swap of a rack to frame `f`, whose picture is the next to start: a stream whose CVS ends does so with the access unit
of frame f − 1. -/
def State.streamsRack (s : State) (old new : CanvasSet) (f : Nat) : State :=
  (streamsOf old new).foldl (fun s k =>
    let x := s.stream k
    let ends := if x.active then some (sub32 f 1) else Option.none
    let first := s.coding.nextPic
    let y := { x with changePic := first, before := x.active && !x.paused, duePic := first }
    match streamChange old new k with
    | .none => s
    | .restart => (s.setStream k { y with endAfter := ends, paused := true, spsDue := true,
                                          active := (new.streamTap k).isSome }).restartEs k first
    | .pause => s.setStream k { y with endAfter := ends, paused := true, spsDue := true }
    | .begin_ => (s.setStream k { y with active := true, paused := true, spsDue := true }).restartEs k first
    | .end_ => s.setStream k { y with endAfter := ends, active := false }
    | .pps => s.setStream k { x with ppsDue := true, duePic := first }) s

/-- R131: whether a stream sends the packets of a picture, by its serial number. -/
def StreamState.sends (x : StreamState) (pic : Nat) : Bool := if pic < x.changePic then x.before else x.active && !x.paused

/-- R131: whether the CVS of a stream ends with the access unit of frame `f`: so noted, or by a rack that is scheduled for
the next frame. -/
def State.cvsEnds (s : State) (k f : Nat) : Bool :=
  (s.stream k).endAfter == some f ||
    (s.sets.rack.state == .scheduled && s.sets.rack.frame == add32 f 1 && (s.stream k).active && !(s.stream k).paused &&
      (match streamChange s.sets.bright s.sets.green k with
       | .restart | .pause | .end_ => true
       | _ => false))

end Sys2Proof.Machine
end

