-- ==== Sys2Proof/Machine/Assembler.lean ====
section
/-! DEFINITION. The Assembler: segment digests (R232), the twin's hold (R240), packets and access units (R210 to R225),
dry pools (R225); the Taster's lanes and coverage (R226, R230, R231). -/
set_option Elab.async false
namespace Sys2Proof.Machine

/-- R232: the digest of a segment: the first 16 bytes of SHA-256. -/
def segmentDigest (frame s y flags : Nat) (slice : Bytes) : Bytes :=
  (sha256 (bytesBE 4 frame ++ bytesBE 2 s ++ bytesBE 2 y ++ bytesBE 1 flags ++ zeros 3 ++ bytesBE 4 slice.length ++ slice)).take 16

/-- FLAGS of R232. -/
def AccSeg.flags (a : AccSeg) : Nat := ofBool a.si + 2 * ofBool a.fb

/-! ### Building packets -/

/-- Hands a built packet to its tap, and counts it. -/
def State.handOver (s : State) (o : OutPkt) (kegs : List Nat) : State :=
  let s := { s with tap := { s.tap with offers := s.tap.offers ++ [(o.tap, { o.pkt with kegs := o.pkt.kegs ++ kegs })] } }
  let s := s.count Obj.asmPkts
  if o.pkt.stream < 4096 then s.count Obj.asmSubPkts o.pkt.stream else s

/-- R224, R225: the packets of the first segment or group of the outbox are dropped: counted; in single mode, with
ASM_GAP_MARKERS set and a Pin to be had, one marker with cause 1 takes their place. The run keeps its place in the chain
of its tap (R305). -/
def State.dropRun (s : State) : State :=
  match s.asm.outbox with
  | [] => s
  | o :: _ =>
    let run := s.asm.outbox.filter fun q => q.group == o.group && q.tap == o.tap
    let rest := s.asm.outbox.filter fun q => !(q.group == o.group && q.tap == o.tap)
    let s := { s with asm := { s.asm with outbox := rest, dry := none } }
    let s := (s.count Obj.asmDryDrops 0 run.length).kegFreeAll 1 (run.flatMap fun q => q.pkt.kegs)
    let chain := run.map fun q => q.pkt.payload.length
    let c := s.setFor o.pkt.frame
    let r : State × Option Nat := if s.twinMode || c.nat Obj.asmGapMarkers == 0 then (s, none) else s.kegAlloc 1 256
    match r with
    | (s, none) =>
      { s with tap := { s.tap with offers := s.tap.offers ++ [(o.tap, { o.pkt with payload := [], kegs := [], chain := chain })] } }
    | (s, some h) =>
      let n := min run.length 65535
      let m := { o.pkt with payload := gapPayload (c.nat Obj.asmExtIdGm) n 1 o.pkt.payload, gapCount := n, gapCause := 1,
                            chain := chain, kegs := [h] }
      { s with tap := { s.tap with offers := s.tap.offers ++ [(o.tap, m)] } }.count Obj.asmGapsSent

/-- R225: packets are built in order, each in a Pin; a dry pool stops at the packet that lacks one. -/
def State.drain : Nat → State → State
  | 0, s => s
  | fuel + 1, s =>
    match s.asm.outbox with
    | [] => { s with asm := { s.asm with dry := none } }
    | o :: rest =>
      if o.lost then State.drain fuel s.dropRun
      else
        match s.kegAlloc 1 256 with
        | (s, none) => { s with asm := { s.asm with dry := some (s.asm.dry.getD s.now), dryAt := s.now } }
        | (s, some h) => State.drain fuel ({ s with asm := { s.asm with outbox := rest, dry := none } }.handOver o [h])

/-- Builds what the outbox holds, unless it waits for a Pin. -/
def State.build (s : State) : State := if s.asm.dry.isSome then s else State.drain (s.asm.outbox.length) s

/-- Puts the payloads of one segment or group into the outbox: each takes the next ES (R219); `marker`: the last one ends
its access unit; the last one holds the segment's slice buffers. -/
def State.queuePackets (s : State) (k tap group launch : Nat) (a : AccSeg) (sub row : Nat) (nv marker : Bool)
    (kegs : List Nat) (payloads : List Bytes) : State :=
  let c := s.setFor a.frame
  let x := s.asmStream k
  let n := payloads.length
  let out : List OutPkt := payloads.mapIdx fun i b =>
    let last := i + 1 == n
    let es := add32 x.es i
    let value := segmentValue sub row (if nv then 0 else i) (last && !nv) (a.si && !nv) (a.fb && !nv) nv
    { tap := tap, group := group, lost := x.lost,
      pkt := { stream := k, frame := a.frame, index := a.index, es := es, rawNs := none, launch := launch,
               payload := rtpHeader c k a.frame a.index es value (marker && last) ++ b, ctAt := 16, gapCount := 0,
               gapCause := 0, chain := [], kegs := if last then kegs else [] } }
  let s := (s.setAsmStream k { x with es := add32 x.es n }).countOctets tap x.es (payloads.map (·.length))
  { s with asm := { s.asm with outbox := s.asm.outbox ++ out } }

/-- R305: the launch line of a segment of row `y`. -/
def CanvasSet.launchLine (c : CanvasSet) (y : Nat) : Nat := 32 * y + 32 + c.nat Obj.tapLaunchLines

/-- R123: the segments of a stream's picture in order. -/
def CanvasSet.sliceOrder (c : CanvasSet) (k : Nat) : List (Nat × Nat) :=
  if k = 4096 then c.vvcEntries.flatMap fun e => (List.range e.h).map fun i => (e.s, e.y0 + i)
  else (List.range (c.entry k).h).map fun i => (k, (c.entry k).y0 + i)

/-- R112, R131, R132: whether an access unit carries the SPS and PPS: what a rack to frame F makes due is due from the access unit
of F on. -/
def State.headOf (s : State) (k : Nat) (a : AccSeg) : AuHead :=
  let c := s.setFor a.frame
  let x := s.stream k
  let due := decide (x.duePic ≤ a.pic)
  { gdr := a.gdr, n := a.n, p := a.p, frame := a.frame,
    sps := a.gdr || (x.spsDue && due) || (k != 4096 && c.nat Obj.cspPsEveryAu == 1), pps := x.ppsDue && due }

/-- R212: the hashes of a picture of stream `k`. -/
def State.hashOf (s : State) (k pic : Nat) : Bytes :=
  ((s.asm.hashes.find? fun h => h.1 == k && h.2.1 == pic).map (·.2.2)).getD []

/-- R212: the last segment of the picture of stream `k` has committed: its hashes are complete. -/
def State.keepHash (s : State) (k f pic slot : Nat) : State :=
  let c := s.setFor f
  if c.nat Obj.cspDph = 0 ∨ (c.streamTap k).isNone then s
  else { s with asm := { s.asm with hashes := s.asm.hashes ++ [(k, pic, s.pictureHash c k slot)] } }

/-- Drops the hashes of a picture whose access unit is complete. -/
def State.dropHash (s : State) (k pic : Nat) : State :=
  { s with asm := { s.asm with hashes := s.asm.hashes.filter fun h => !(h.1 == k && h.2.1 == pic) } }

/-- R210, R213 to R215: a segment that is the next slice of stream `k` goes to its tap: before the first slice of the
access unit its leading group, after the last one its trailing group. -/
def State.emitSlice (s : State) (k tap : Nat) (a : AccSeg) (first last : Bool) : State :=
  let c := s.setFor a.frame
  let pp := c.fragment k
  let launch := c.launchLine a.y
  let sub := if k = 4096 then 0 else k
  let key := (a.pic * 65536 + k) * 1048576
  let s := if first then
      let h := s.headOf k a
      let s := s.queuePackets k tap key launch a sub 0 true false [] (packGroup pp [] (c.leading k h))
      let x := s.stream k
      if a.pic < x.duePic then s else s.setStream k { x with spsDue := false, ppsDue := false }
    else s
  let ends := last && s.cvsEnds k a.frame
  let tail := if last then c.trailing (s.hashOf k a.pic) ends else []
  let s := a.kegs.foldl (fun s h => s.kegTake 1 h) s
  let s := s.queuePackets k tap (key + 1 + a.s * 128 + (a.y - (c.entry a.s).y0)) launch a a.s a.y false (last && tail.isEmpty) a.kegs
    (unitPayloads pp last a.slice)
  let s := if tail.isEmpty then s else s.queuePackets k tap (key + 1048575) launch a sub 0 true true [] (packGroup pp [] tail)
  if ends then
    let x := s.stream k
    (s.count Obj.cspCvsEnds).setStream k { x with endAfter := none }
  else s

/-- R219, R320: stream `k` starts with the access unit of frame `f`: its tap's counts start anew. -/
def State.startCounts (s : State) (k f : Nat) : State :=
  match (s.setFor f).streamTap k with
  | some tap => s.restartCounts tap
  | none => s

/-- One segment reaches stream `k`: the counters of its access unit move, and its packets are built where the stream sends
(R131, R219). From a segment on at which both copies of a template fail, the packets of its access unit are dropped (R211). -/
def State.streamSlice (s : State) (k : Nat) (a : AccSeg) (total : Nat) : State :=
  let x := s.asmStream k
  let first := x.auSlices = 0
  let last := x.auSlices + 1 = total
  let sends := (s.stream k).sends a.pic
  let anew := !x.started || x.restart.any fun r => decide (r ≤ a.pic)
  let starts := decide (first ∧ sends ∧ anew)
  let s := if starts then s.startCounts k a.frame else s
  let x := if starts then { x with started := true, restart := none, es := a.frame % 65536 * 65536 } else x
  let x := { x with lost := (x.lost && !first) || a.ecc == 2 }
  let s := s.setAsmStream k x
  let s :=
    match (s.setFor a.frame).streamTap k with
    | some tap => if sends then s.emitSlice k tap a first last else s
    | none => s
  let x := s.asmStream k
  let s := if last then s.dropHash k a.pic else s
  s.setAsmStream k { x with auPic := if last then none else some a.pic, auSlices := if last then 0 else x.auSlices + 1 }

/-- R123: whether a released segment is the next slice of stream `k`. -/
def State.isNext (s : State) (k : Nat) (a : AccSeg) : Bool :=
  let x := s.asmStream k
  ((s.setFor a.frame).sliceOrder k).getD x.auSlices (4096, 0) == (a.s, a.y) && (x.auPic.isNone || x.auPic == some a.pic)

/-- Marks a segment as emitted by its extracted stream or by the canvas stream; one that both have emitted leaves, and its
own hold on its buffers ends. -/
def State.markSent (s : State) (canvas : Bool) (a : AccSeg) : State :=
  let b := if canvas then { a with canvasSent := true } else { a with subSent := true }
  let same (q : AccSeg) : Bool := q.pic == a.pic && q.s == a.s && q.y == a.y
  if b.subSent ∧ b.canvasSent then
    ({ s with asm := { s.asm with accepted := s.asm.accepted.filter fun q => !same q } }).kegFreeAll 1 a.kegs
  else { s with asm := { s.asm with accepted := s.asm.accepted.map fun q => if same q then b else q } }

/-- R210, R123: every released segment whose turn has come goes to its streams, oldest acceptance first; one that no stream carries
leaves. -/
def State.emit : Nat → State → State
  | 0, s => s
  | fuel + 1, s =>
    match s.asm.accepted.find? fun a => a.released && a.subSent && a.canvasSent with
    | some a => State.emit fuel (s.markSent true a)
    | none =>
    match s.asm.accepted.find? fun a => a.released && !a.subSent && s.isNext a.s a with
    | some a => State.emit fuel ((s.streamSlice a.s a ((s.setFor a.frame).entry a.s).h).markSent false a)
    | none =>
      match s.asm.accepted.find? fun a => a.released && !a.canvasSent && s.isNext 4096 a with
      | some a => State.emit fuel ((s.streamSlice 4096 a (s.setFor a.frame).segmentCount).markSent true a)
      | none => s

/-- Emits what can be emitted and builds its packets. -/
def State.assemble (s : State) : State := (State.emit (2 * s.asm.accepted.length) s).build

/-- R240: whether a segment waits for the partner's record. -/
def State.verifies (s : State) : Bool := s.twnModeBright == 1 && s.twn.state != .off && s.twn.state != .solo

/-- R210 step 1 and 2: a segment's digest, its record to the partner, and the hold of verified mode, which lasts at most
until the segment's deadline plus TWN_HOLD_NS. `ecc` is what reading the templates gave (R211). -/
def State.digestSegment (s : State) (a : AccSeg) (ecc : Nat) : State :=
  let d := segmentDigest a.frame a.s a.y a.flags a.slice
  let hold := (s.rasterOf a.frame).lineStart a.index (32 * a.y + 96) + s.val Obj.twnHoldNs
  let b := { a with digest := d, ecc := ecc, released := !s.verifies, holdUntil := if s.verifies then some hold else none }
  let s := { s with asm := { s.asm with accepted := s.asm.accepted.map fun (q : AccSeg) =>
    if q.pic = a.pic ∧ q.s = a.s ∧ q.y = a.y then b else q } }
  s.ownRecord { frame := a.frame, s := a.s, y := a.y, flags := a.flags, anom := a.anom, d := d, emitted := false }

/-- SEGMENT_ASSEMBLE (R210, R211): the oldest accepted commit without a digest. `ecc`: the templates read (1: one copy
uncorrectable, 2: both). -/
def execSegmentAssemble (t ecc : Nat) (s : State) : Host.Outcome State Fault Refusal :=
  let s := s.land t
  match s.asm.accepted.find? fun a => a.digest.isEmpty with
  | none => .next s
  | some a =>
    let s := s.digestSegment a ecc
    let s := if ecc = 0 then s else s.report 0x380 .eccUncorr (faultAddr a.frame a.y) 0
    .next s.assemble

/-- TWIN_HOLD_EXPIRY (R240): a segment reaches its deadline plus TWN_HOLD_NS without the partner's record. -/
def execTwinHoldExpiry (t frame seg y : Nat) (s : State) : Host.Outcome State Fault Refusal :=
  let s := s.land t
  match s.asm.accepted.find? fun a => a.frame == frame && a.s == seg && a.y == y with
  | none => .next s
  | some a =>
    if a.holdUntil.any (fun h => decide (h ≤ s.deviceTime)) then
      .next (((s.releaseSegment frame seg y).count Obj.twnUnverified).assemble)
    else .next s

/-- ASM_KEG_RETRY (R225): 100 ns after the last dry answer. -/
def execAsmKegRetry (t : Nat) (s : State) : Host.Outcome State Fault Refusal :=
  let s := s.land t
  .next (if s.asm.dry.isSome ∧ s.asm.dryAt + 100 ≤ s.now then State.drain s.asm.outbox.length s else s)

/-- ASM_DRY_LIMIT (R225): ASM_DRY_LIMIT_NS after the first request of the packet. -/
def execAsmDryLimit (t : Nat) (s : State) : Host.Outcome State Fault Refusal :=
  let s := s.land t
  .next (if s.asm.dry.any fun d => decide (d + s.val Obj.asmDryLimitNs ≤ s.now) then s.dropRun.build else s)

/-! ### The Taster -/

/-- A lane in service, unbound. -/
def Lane.idle : Lane := { state := 0, bound := [], reported := [], testFrom := 0 }

/-- A Taster lane. -/
def State.lane (s : State) (n : Nat) : Lane := Table.get Lane.idle s.asm.lanes n

/-- Replaces a lane. -/
def State.setLane (s : State) (n : Nat) (x : Lane) : State :=
  { s with asm := { s.asm with lanes := Table.set Lane.idle s.asm.lanes n x } }

/-- R226: the lane that takes a task of segment (seg, y) of frame `f`: in service, a free context, the fewest busy ones,
the lowest number, none that reported a mismatch for the segment in the picture. -/
def State.chooseLane (s : State) (f seg y : Nat) : Option Nat :=
  ((List.range 48).filter fun n =>
    let x := s.lane n
    x.state == 0 && decide (x.bound.length < 2) && !x.reported.contains (seg, y, f)).foldl (fun best n =>
      match best with
      | none => some n
      | some b => if (s.lane n).bound.length < (s.lane b).bound.length then some n else some b) none

/-- Binds a ticket to a lane. -/
def State.bindLane (s : State) (n ticket : Nat) : State := s.setLane n { s.lane n with bound := (s.lane n).bound ++ [ticket] }

/-- The lane a ticket is bound to. -/
def State.laneOf (s : State) (ticket : Nat) : Option Nat := (List.range 48).find? fun n => (s.lane n).bound.contains ticket

/-- Unbinds a ticket. -/
def State.unbind (s : State) (ticket : Nat) : State :=
  match s.laneOf ticket with
  | none => s
  | some n => s.setLane n { s.lane n with bound := (s.lane n).bound.filter (· != ticket) }

/-- LANE_KAT_DONE (R230): 250 µs of known-answer slices. -/
def execLaneKatDone (t lane : Nat) (passed : Bool) (s : State) : Host.Outcome State Fault Refusal :=
  let s := s.land t
  let x := s.lane lane
  .next (
    if 48 ≤ lane ∨ x.state ≠ 1 ∨ s.now < x.testFrom + 250000 then s
    else if passed then s.setLane lane { x with state := 0 }
    else (s.setLane lane { x with state := 2 }).report (0x390 + lane) .digestMismatch 0 0)

/-- R231: the coverage of a second, 1,000 where nothing was committed. -/
def coverageOf (tasted untasted : Nat) : Nat := if tasted + untasted = 0 then 1000 else 1000 * tasted / (tasted + untasted)

/-- TASTE_COVERAGE (R231): the end of each second. -/
def execTasteCoverage (t : Nat) (s : State) : Host.Outcome State Fault Refusal :=
  let s := s.land t
  .next (
    if s.now < s.asm.secondFrom + giga then s
    else
      let v := coverageOf s.asm.tasted s.asm.untasted
      let old := s.asm.coverage
      let s := { s with asm := { s.asm with tasted := 0, untasted := 0, secondFrom := s.now, coverage := v } }
      let s := s.put Obj.asmCoveragePermille 0 v
      if (old = 1000) = (v = 1000) then s else s.brewRec 0x390 0x060 v)

end Sys2Proof.Machine
end

