-- ==== Sys2Proof/Machine/Timebase.lean ====
section
/-! DEFINITION. The Canvas Timebase: references, servo, lock states (R64 to R71), the time of day (R70) and the steps it
asks for (R77). Steps themselves stand in `TimeStep.lean`. -/
set_option Elab.async false
namespace Sys2Proof.Machine

/-- TBS_STATE codes. -/
def TbsState.code : TbsState → Nat
  | .free => 0 | .acquiring => 1 | .locked => 2 | .holdover => 3

/-- R452: acquisition begins in phase 7 of start-up. -/
def State.acquires (s : State) : Bool := decide (7 ≤ s.pwr.phase)

/-- The source in force. -/
def State.tbsSource (s : State) : Nat := s.val Obj.tbsSource

/-- Device time continues from its present value at frequency `freq`, which is noted for R67. -/
def State.setFreq (s : State) (freq : Int) : State :=
  { s with tbs := { s.tbs with base := s.deviceTime, baseAt := s.now, freq := freq, slewEnd := none,
                               freqLog := s.tbs.freqLog ++ [(s.now, freq)] } }

/-- Device time jumps by `d`. A GPIO pulse still lasts one line (R455); after a jump back, device times name no earlier raster. -/
def State.jump (s : State) (d : Int) : State :=
  { s with tbs := { s.tbs with base := ((s.deviceTime : Int) + d).toNat, baseAt := s.now,
                               prior := if d < 0 then s.tbs.prior.map fun p => { p with fromNs := 0, untilNs := 0 } else s.tbs.prior },
           pwr := { s.pwr with pulses := s.pwr.pulses.map fun p => (p.1, ((p.2 : Int) + d).toNat) } }

/-- Moves to a state of Table 3-1: each transition is recorded, and HOLDOVER or FREE from LOCKED raises 0x020 TIMEOUT
(R67). -/
def State.setTbs (s : State) (new : TbsState) : State :=
  let old := s.tbs.state
  if new = old then s
  else
    let s := { s with tbs := { s.tbs with state := new, goodRun := 0, badRun := 0,
                                          holdoverFrom := if new = TbsState.holdover then s.now else s.tbs.holdoverFrom } }
    let s := s.brewRec 0x020 0x010 (old.code * 256 + new.code)
    if old = .locked ∧ (new = TbsState.holdover ∨ new = TbsState.free) then s.report 0x020 .timeout 0 0 else s

/-- R40: the set image that start-up loaded into the green set, if BOOT_SEL and the slot's state gave one. -/
def State.bootImage (s : State) : Option CanvasSet :=
  let slot := if s.val Obj.setBootSlot = 0 then s.sets.slotA else s.sets.slotB
  if s.pwr.bootSel < 2 ∧ (slot.state = 1 ∨ slot.state = 2) then some slot.image else none

/-- R249: the device enters PAIRING and listens on the twin link for 20 ms. -/
def State.startPairing (s : State) : State :=
  { s with twn := { s.twn with state := .pairing, listenUntil := some (s.now + 20000000) } }

/-- R73: canvas lock: the anchor is the aligned index of this instant. Phase 7 of start-up ends (Table 18-11): PAIRING where
the green set from the Cask has a TWN_MODE (R249); start-up ends where no boot rack is to be requested (R453). -/
def State.setLock (s : State) : State :=
  let r := s.tbs.raster
  let n := r.index s.deviceTime
  let s := { s with tbs := { s.tbs with canvasLock := true, raster := { r with nk := n, fk := n % 4294967296 } } }
  let s : State := if s.twn.state = .off ∧ s.bootImage.any (fun c => c.nat Obj.twnMode != 0) then s.startPairing else s
  if s.pwr.phase ≠ 7 then s
  else
    let s := { s with pwr := { s.pwr with phase := 8 } }
    if s.sets.bootRackDue then s else s.endStartup

/-- R68, R70: canvas lock is set in LOCKED where the time of day allows it; source 3 passes from FREE to LOCKED where it
does. -/
def State.tryLock (s : State) : State :=
  if s.acquires = false then s
  else
    let s := if s.tbsSource = 3 ∧ s.tbs.state = .free ∧ s.tbs.todWritten then s.setTbs .locked else s
    if s.tbs.state = .locked ∧ !s.tbs.canvasLock ∧ (s.tbsSource = 0 ∨ s.tbs.todWritten) then s.setLock else s

/-- R66, R77: the servo's frequency for a measured offset, its correction held to ±TBS_SLEW_PPB around the oscillator's own
error. After canvas lock an offset of TBS_STEP_NS or more that no step removes goes at that limit; otherwise the control law is not
stated: `Config.servo`. -/
def State.slew (s : State) (o : Int) : State :=
  let lim : Int := (65536 * s.val Obj.tbsSlewPpb : Nat)
  let free := clip (-lim) lim (Config.servo o s.freqNow - Config.oscError)
  s.setFreq (Config.oscError + if s.tbs.canvasLock ∧ s.val Obj.tbsStepNs ≤ o.natAbs then (if 0 < o then -lim else lim) else free)

/-- The frequency that a slew of the time of day returns to; without one, the frequency in force. -/
def State.restFreq (s : State) : Int := ((s.tbs.slewEnd.map (·.2)).getD s.tbs.freq)

/-- R66, R70: device time is slewed by `d` ns towards a time of day, with the correction at its limit, and then goes on at the
frequency before it; a further write takes the place of a slew that still runs (DESIGN CHOICE; log entry 81). -/
def State.slewBy (s : State) (d : Int) : State :=
  let lim : Int := (65536 * s.val Obj.tbsSlewPpb : Nat)
  let rest := s.restFreq
  let freq := Config.oscError + if 0 < d then lim else -lim
  let until_ := s.now + ceilDiv (d.natAbs * 65536 * giga) (max 1 (freq - rest).natAbs)
  let s := s.setFreq freq
  { s with tbs := { s.tbs with slewEnd := some (until_, rest), freqLog := s.tbs.freqLog ++ [(until_, rest)] } }

/-- A step of `d` ns is noted: TBS_STEP_COUNT, TBS_LAST_STEP_NS, TIME_STEP (R78). The next frame composed is a new one, whatever
its number. -/
def State.noteStep (s : State) (d : Int) : State :=
  let s := { s with cmp := { s.cmp with frame := none } }
  ((s.count Obj.tbsStepCount).put Obj.tbsLastStepNs 0 d).brewRec 0x020 0x011 (unsigned 64 d)

/-- R77: whether the policy permits a step of `d`. -/
def State.stepAllowed (s : State) (d : Int) : Bool :=
  let p := s.val Obj.tbsStepPolicy
  p == 2 || (p == 1 && decide (0 < d))

/-- R68, R77, R78: a step of `d` for the start of the next frame, in place of one that still waits; none for `d` = 0. -/
def State.planStep (s : State) (d : Int) : State :=
  { s with tbs := { s.tbs with stepPending := if d = 0 then none else some (d, s.tbs.raster.index s.deviceTime) } }

/-- R77: an offset after canvas lock is stepped where it reaches TBS_STEP_NS and the policy permits, else slewed. -/
def State.correct (s : State) (o : Int) : State :=
  if s.val Obj.tbsStepNs ≤ o.natAbs ∧ s.stepAllowed (-o) then s.planStep (-o) else (s.planStep 0).slew o

/-- One measured offset (device minus reference): the correction of R66, R68 or R77, and the transitions of Table 3-1.
`runs` is how many good ones in a row lock. -/
def State.measure (s : State) (o : Int) (runs : Nat) : State :=
  let s := s.put Obj.tbsOffsetNs 0 o
  let s := if s.tbs.canvasLock then s.correct o else (s.planStep (-o)).slew o
  let good := decide (o.natAbs < 1000)
  let s := { s with tbs := { s.tbs with lastValid := s.now, goodRun := if good then s.tbs.goodRun + 1 else 0,
                                        badRun := if good then 0 else s.tbs.badRun + 1 } }
  match s.tbs.state with
  | .free => s
  | .holdover => s.setTbs .acquiring
  | .acquiring => if runs ≤ s.tbs.goodRun then (s.setTbs .locked).tryLock else s
  | .locked => if 8 ≤ s.tbs.badRun then s.setTbs .acquiring else s

/-! ### PTP (R65) -/

/-- R65: whether PTP is heard on a port: the backup port once the primary one has lost its master, or had none within the time
of R67. -/
def State.ptpHeard (s : State) (port : Nat) : Bool :=
  let a := s.val Obj.tbsPtpPortA
  let b := s.val Obj.tbsPtpPortB
  match s.tbs.master with
  | none => port == a || (s.tbs.ptpBackup && port == b && b != 255)
  | some m => port == m.port || port == a

/-- Whether a PTP message of a domain on a port is taken. -/
def State.ptpTakes (s : State) (port domain : Nat) : Bool :=
  s.acquires && s.tbsSource == 0 && domain == s.val Obj.tbsPtpDomain && s.ptpHeard port

/-- Whether a message comes from the selected master. -/
def State.fromMaster (s : State) (port domain identity : Nat) : Bool :=
  s.ptpTakes port domain && s.tbs.master.any fun m => m.identity == identity && m.port == port

/-- R65: whether an Announce selects its sender: no master yet, the present master itself, a better priority vector on the
same port, or the primary port's return. -/
def State.announceWins (s : State) (port identity rank : Nat) : Bool :=
  match s.tbs.master with
  | none => true
  | some m => (m.identity == identity && m.port == port) || (m.port == port && decide (rank < m.rank))
      || (m.port != port && port == s.val Obj.tbsPtpPortA)

/-- When the sender of an Announce was selected, if it is the present master. -/
def State.masterAt (s : State) (port identity : Nat) : Option Nat :=
  match s.tbs.master with
  | some m => if m.identity = identity ∧ m.port = port then some m.since else none
  | none => none

/-- PTP_ANNOUNCE_RX (R65, R67). -/
def execPtpAnnounceRx (t port domain identity rank announceNs syncNs utcOffset : Nat) (s : State) :
    Host.Outcome State Fault Refusal :=
  let s := s.land t
  .next (
    if s.ptpTakes port domain = false ∨ s.announceWins port identity rank = false then s
    else
      let m : Master := { port := port, identity := identity, rank := rank, announceNs := announceNs, syncNs := syncNs,
                          lastAnnounce := s.now, since := (s.masterAt port identity).getD s.now }
      let s := { s with tbs := { s.tbs with master := some m, ptpBackup := s.tbs.ptpBackup && port != s.val Obj.tbsPtpPortA } }
      let s := (s.putValue Obj.tbsPtpMaster 0 (.bytes (bytesBE 10 identity))).put Obj.tbsPtpUtcOffset 0 (signed 16 (utcOffset % 65536))
      if s.tbs.state = .free then s.setTbs .acquiring else s)

/-- R66: a Sync's measurement: receive time less send time, mean path delay and asymmetry. -/
def State.syncMeasure (s : State) (rx origin : Nat) : State :=
  let diff : Int := (rx : Int) - origin
  let s := { s with tbs := { s.tbs with syncDiff := diff } }
  s.measure (diff - s.val Obj.tbsPtpMeanDelayNs - s.valInt Obj.tbsPtpAsymNs) 16

/-- PTP_SYNC_RX (R65, R66, R295): a one-step Sync measures; a two-step one waits for its Follow_Up. The Sync is stamped in device
time as it arrives; `stampErr` is that stamp's error, at most 3 ns. -/
def execPtpSyncRx (t port domain identity seq : Nat) (stampErr : Int) (originNs : Nat) (twoStep : Bool) (tlv : Bytes) (s : State) :
    Host.Outcome State Fault Refusal :=
  let s := s.land t
  let rxNs := ((s.deviceTime : Int) + max (-3) (min stampErr 3)).toNat
  .next (
    if s.fromMaster port domain identity = false then s
    else
      let s := if tlv.isEmpty then s else s.putValue Obj.tbsPtpSmTlv 0 (.bytes tlv)
      if twoStep then { s with tbs := { s.tbs with syncWait := some (seq, rxNs, originNs) } }
      else s.syncMeasure rxNs originNs)

/-- PTP_FOLLOW_UP_RX (R65, R66). -/
def execPtpFollowUpRx (t port domain identity seq originNs : Nat) (s : State) : Host.Outcome State Fault Refusal :=
  let s := s.land t
  .next (
    match s.tbs.syncWait with
    | none => s
    | some (q, rx, _) =>
      if s.fromMaster port domain identity = false ∨ q ≠ seq then s
      else { s with tbs := { s.tbs with syncWait := none } }.syncMeasure rx originNs)

/-- PTP_DELAY_RESP_RX (R65): the mean of the two directions' differences. -/
def execPtpDelayRespRx (t port domain identity seq receivedNs : Nat) (s : State) : Host.Outcome State Fault Refusal :=
  let s := s.land t
  .next (
    match s.tbs.delayWait with
    | none => s
    | some (q, sent) =>
      if s.fromMaster port domain identity = false ∨ q ≠ seq then s
      else
        let mean := (s.tbs.syncDiff + ((receivedNs : Int) - sent)) / 2
        { s with tbs := { s.tbs with delayWait := none } }.put Obj.tbsPtpMeanDelayNs 0 (max 0 mean))

/-- R290: the headers of a PTP message: DSCP 46. Over UDP it carries the tag of the port's interface, over Ethernet none (DESIGN
CHOICE), and its TTL is a free value: the manual states none (log entry 92). -/
def State.ptpHeader (s : State) (n : Nat) : OwnHeader :=
  let x := s.val Obj.tbsPtpTransport
  { mac := s.portMac n, src := if x = 0 then s.portIpv4 n else if x = 1 then s.portLinkLocal n else 0, next := none,
    tci := if x = 2 then none else s.ownTag n, ttl := Config.ptpTtl, dscp := 46 }

/-- PTP_DELAY_REQ (R65, R71): by the delay mode, in the mapping of TBS_PTP_TRANSPORT, in the configured domain; once per Sync interval of the selected master, never in SAFE. -/
def execPtpDelayReq (t : Nat) (s : State) : Host.Outcome State Fault Refusal :=
  let s := s.land t
  .next (
    match s.tbs.master with
    | none => s
    | some m =>
      if s.cellar.safe ∨ s.acquires = false ∨ s.tbsSource ≠ 0 ∨ s.now < s.tbs.lastDelayReq + m.syncNs then s
      else
        let q := s.tbs.delaySeq
        { s with tbs := { s.tbs with delaySeq := add16 q 1, delayWait := some (q, s.deviceTime), lastDelayReq := s.now } }.send
          (.frame m.port "Delay_Req" [q, s.val Obj.tbsPtpDelayMode, s.val Obj.tbsPtpTransport, s.val Obj.tbsPtpDomain]
            (s.ptpHeader m.port)) |>.txFrame m.port)

/-! ### Edges (R64) -/

/-- Nanoseconds between the edges a source expects. -/
def State.edgePeriod (s : State) : Nat :=
  if s.tbsSource = 1 then giga else ceilDiv (s.val Obj.tbsFrameDiv * s.tbs.raster.den * giga) s.tbs.raster.num

/-- Whether an edge comes one period after the edge before it, to within half a period (DESIGN CHOICE; log entry 81). -/
def State.edgeFollows (s : State) : Bool :=
  decide (2 * s.tbs.lastValid + s.edgePeriod ≤ 2 * s.now) && decide (2 * s.now ≤ 2 * s.tbs.lastValid + 3 * s.edgePeriod)

/-- A reference edge with offset `o`: in FREE the third one in a row starts the servo. -/
def State.edge (s : State) (o : Int) : State :=
  if s.tbs.state = .free then
    let n := if s.edgeFollows then s.tbs.goodRun + 1 else 1
    let s := { s with tbs := { s.tbs with goodRun := n, lastValid := s.now } }
    if 3 ≤ n then s.setTbs .acquiring else s
  else s.measure o 4

/-- PPS_IN_EDGE (R64): the whole second nearest to device time. -/
def execPpsInEdge (t : Nat) (s : State) : Host.Outcome State Fault Refusal :=
  let s := s.land t
  let d := s.deviceTime
  .next (if s.acquires ∧ s.tbsSource = 1 then s.edge ((d : Int) - (((d + giga / 2) / giga * giga : Nat) : Int)) else s)

/-- FRAME_IN_EDGE (R64): the nearest frame start whose aligned index is a multiple of TBS_FRAME_DIV. -/
def execFrameInEdge (t : Nat) (s : State) : Host.Outcome State Fault Refusal :=
  let s := s.land t
  let r := s.tbs.raster
  let v := s.val Obj.tbsFrameDiv
  let k := roundDiv (s.deviceTime * r.num) (v * r.den * giga)
  .next (if s.acquires ∧ s.tbsSource = 2 then s.edge ((s.deviceTime : Int) - r.lineStart (k * v) 0) else s)

/-! ### Loss and holdover (R67) -/

/-- R67: announce receipt timeout and eight Sync intervals of a profile's default message rates. -/
def ptpDefaults (profile : Nat) : Nat × Nat := if profile = 0 then (750000000, 1000000000) else (6000000000, 8000000000)

/-- R67: whether the selected reference counts as lost. Source 3 has none to lose: a Timebase that is not LOCKED under it is without
reference from the write on (DEDUCED; log entry 81). The announce receipt timeout of a selected master is
three times the interval its Announce messages state (PRESUMED: the default of IEEE 1588; log entry 81). The eight Sync intervals
run from the last usable Sync, or from the master's selection. -/
def State.referenceGone (s : State) : Bool :=
  let last := max s.tbs.lastValid s.tbs.sourceAt
  match s.tbsSource with
  | 0 =>
    match s.tbs.master with
    | some m =>
      decide (max m.lastAnnounce s.tbs.sourceAt + 3 * m.announceNs ≤ s.now) || decide (max last m.since + 8 * m.syncNs ≤ s.now)
    | none =>
      let d := ptpDefaults (s.val Obj.tbsPtpProfile)
      decide (last + d.1 ≤ s.now) || decide (last + d.2 ≤ s.now)
  | 3 => s.tbs.state != .locked
  | _ => decide (last + 3 * s.edgePeriod ≤ s.now)

/-- The sum of frequency × duration and of durations from `lo` to `hi` of a log of frequencies. -/
def freqSum (lo hi : Nat) : List (Nat × Int) → Int × Int
  | [] => (0, 0)
  | (a, f) :: rest =>
    let upto := match rest with | [] => hi | (b, _) :: _ => min b hi
    let d : Int := (upto - max a lo : Nat)
    let r := freqSum lo hi rest
    (r.1 + f * d, r.2 + d)

/-- R67: the frequency averaged over the last 64 s. -/
def State.meanFreq (s : State) : Int :=
  let r := freqSum (s.now - 64 * giga) s.now s.tbs.freqLog
  if r.2 = 0 then s.freqNow else truncDiv r.1 r.2

/-- REFERENCE_LOST (R67, Table 3-1). -/
def execReferenceLost (t : Nat) (s : State) : Host.Outcome State Fault Refusal :=
  let s := s.land t
  .next (
    if s.referenceGone = false then s
    else
      let s := { s with tbs := { s.tbs with master := none, syncWait := none, delayWait := none, ptpBackup := true } }
      match s.tbs.state with
      | .locked => (s.setFreq s.meanFreq).setTbs .holdover
      | .acquiring => (s.setTbs (if s.tbs.canvasLock then .holdover else .free)).tryLock
      | .free => { s with tbs := { s.tbs with goodRun := 0 } }
      | .holdover => s)

/-- TBS_HOLDOVER_S. -/
def State.holdoverSeconds (s : State) : Nat :=
  if s.tbs.state = .holdover then (s.now - s.tbs.holdoverFrom) / giga else 0

/-- HOLDOVER_LIMIT (R67, Table 3-1). -/
def execHoldoverLimit (t : Nat) (s : State) : Host.Outcome State Fault Refusal :=
  let s := s.land t
  let lim := s.val Obj.tbsHoldoverLimit
  .next (
    if s.tbs.state = .holdover ∧ lim ≠ 0 ∧ lim ≤ s.holdoverSeconds then ((s.setTbs .free).report 0x020 .timeout 0 0).tryLock
    else s)

/-! ### Source and time of day -/

/-- TBS_SOURCE (R64): in force at once; the Timebase leaves LOCKED for ACQUIRING; loss is measured from the write. -/
def tbsSource (v : Nat) (s : State) : Effect :=
  let s := s.put Obj.tbsSource 0 v
  let s := { s with tbs := { s.tbs with sourceAt := s.now, ptpBackup := false, master := none, syncWait := none, delayWait := none, goodRun := 0, badRun := 0 } }
  ((if s.tbs.state = .locked then s.setTbs .acquiring else s).tryLock, .ok)

/-- TBS_SOURCE (R64). -/
def execTbsSource (t : Nat) (who : Path) (v : Nat) (s : State) : Host.Outcome State Fault Refusal :=
  objectCommand t who Obj.tbsSource 0 (.num v) (tbsSource v) s

/-- TBS_TOD_SET (R70, R77): refused under PTP; before canvas lock a step whatever the policy; after it a step where the policy
permits, refused where it does not, and slewed below TBS_STEP_NS. A write that is taken is one that R70's canvas lock waits for. -/
def tbsTodSet (b : Bytes) (s : State) : Effect :=
  let d : Int := (ofTime80 b : Int) - s.deviceTime
  let steps := !s.tbs.canvasLock || decide (s.val Obj.tbsStepNs ≤ d.natAbs)
  if s.tbsSource = 0 then (s, .state)
  else if s.tbs.canvasLock ∧ steps ∧ s.stepAllowed d = false then (s, .state)
  else
    let s := if steps then s.planStep d else if d = 0 then s.planStep 0 else (s.planStep 0).slewBy d
    ({ s with tbs := { s.tbs with todWritten := true } }.tryLock, .ok)

/-- TBS_TOD_SET (R70). -/
def execTbsTodSet (t : Nat) (who : Path) (time80 : Bytes) (s : State) : Host.Outcome State Fault Refusal :=
  objectCommand t who Obj.tbsTodSet 0 (.bytes time80) (tbsTodSet time80) s

/-- TOD_WAIT_EXPIRY (R70): TBS_TOD_WAIT_S seconds since the Cask load step ended. -/
def execTodWaitExpiry (t : Nat) (s : State) : Host.Outcome State Fault Refusal :=
  let s := s.land t
  let w := s.val Obj.tbsTodWaitS
  .next (
    match s.tbs.todWaitFrom with
    | none => s
    | some f =>
      if w = 0 ∨ s.now < f + giga * w then s
      else { s with tbs := { s.tbs with todWritten := true, todWaitFrom := none } }.tryLock)

end Sys2Proof.Machine
end

