-- ==== Sys2Proof/Machine/Calendar.lean ====
section
/-! DEFINITION. The event calendar: the rows of the firmware (R80, R81), writes of rows 0 to 255 (R80, R81, R87), firing (R82),
missed instants (R83, R84), the GPIO and tally actions (R455). -/
set_option Elab.async false
namespace Sys2Proof.Machine

/-- R76, R83: the place that a gap's passage has reached: what the raster reads, or where a forward step landed. -/
def Gap.place (g : Gap) : CTime :=
  let p := g.next.ctime g.fromNs
  if CTime.earlier g.reads p then p else g.reads

/-- The canvas time that arming a row is judged by. -/
def State.calNow (s : State) : CTime :=
  match s.tbs.gap with
  | some g => if g.fromNs ≤ s.deviceTime then g.place else s.ctime
  | none => s.ctime

/-- R83, R4: whether an armed row's instant lies in the past at canvas time `c`. -/
def State.calPast (s : State) (row : Nat) (c : CTime) : Bool :=
  bit (s.calW1 row) 52 && CTime.past c (s.calPlace (s.calW0 row))

/-- Word 0 or 1 of a row of the firmware; a row that holds no entry reads as its default. -/
def State.calInternalWord (s : State) (row word : Nat) : Nat :=
  match s.calInternal[row - 256]? with
  | some e => if word = 0 then (e.words s.ctime).1 else (e.words s.ctime).2
  | none => 0

/-- TBS_CAL_USED: the armed entries of all rows. -/
def State.calUsed (s : State) : Nat :=
  ((Store.rows s.live Obj.tbsCalW1).filter fun p => bit p.2.toNat 52).length + s.calInternal.length

/-- R83: a missed instant of a row of the firmware is counted and recorded; the entry fires late (R79). -/
def State.calMissInternal (s : State) (old new : CTime) : State :=
  (s.calInternal.zipIdx.filter fun p => CTime.past new p.1.place && !CTime.past old p.1.place).foldl
    (fun s p => (s.brewRec 0x020 0x012 (256 + p.2)).count Obj.tbsCalMissed) s

/-! ### Missed instants and firing -/

/-- R83: how often PERIOD is added to FRAME until the instant lies in the future. -/
def State.calSkips (s : State) (w0 w1 : Nat) (c : CTime) : Nat :=
  let p := bits w1 51 40
  let k := sub32 c.frame (bits w0 31 0) / p
  let next := s.calPlace (setBits w0 31 0 (add32 (bits w0 31 0) (k * p)))
  if k ≠ 0 ∧ CTime.earlier c next then k else k + 1

/-- Replaces a row's words. -/
def State.setCal (s : State) (row w0 w1 : Nat) : State := (s.put Obj.tbsCalW0 row w0).put Obj.tbsCalW1 row w1

/-- R83: a missed instant of a row, found at canvas time `c`: MISSED, TBS_CAL_MISSED, CAL_MISSED. With MISS_DROP a one-shot
disarms and a periodic entry moves on; without it the entry stays due and fires late. -/
def State.calMiss (s : State) (row : Nat) (c : CTime) : State :=
  let w0 := s.calW0 row
  let w1 := setBit (s.calW1 row) 55 true
  let p := bits w1 51 40
  let s := s.brewRec 0x020 0x012 row
  if bit w1 53 = false then (s.setCal row w0 w1).count Obj.tbsCalMissed
  else if p = 0 then (s.setCal row w0 (setBit w1 52 false)).count Obj.tbsCalMissed
  else
    let k := s.calSkips w0 w1 c
    (s.setCal row (setBits w0 31 0 (add32 (bits w0 31 0) (k * p))) w1).count Obj.tbsCalMissed 0 k

/-- R83: the rows whose instants a passage from canvas time `old` to `new` leaves behind. -/
def State.calSweep (s : State) (old new : CTime) : State :=
  ((List.range 256).foldl (fun s row => if s.calPast row new ∧ !s.calPast row old then s.calMiss row new else s) s).calMissInternal
    old new

/-- R82: whether a lower row is due on the same tick or an earlier one, and so fires first. -/
def State.calBehind (s : State) (row : Nat) : Bool :=
  (List.range row).any fun q => s.calReached q && decide (s.calTickOf q ≤ s.calTickOf row)

/-- R82: whether a row fires now with an action: it is due, no lower row is before it, the tick has room, no gap. -/
def State.calDue (s : State) (row action : Nat) : Bool :=
  decide (row < 256) && !s.inGap && s.calReached row && bits (s.calW1 row) 27 20 == action && !s.calBehind row && !s.calTickFull

/-- R82, R83: a row after firing: FIRED; a one-shot clears EN; a periodic entry adds PERIOD, past every instant it skipped
where it fires late. An entry that fires in time clears MISSED. -/
def State.calFired (s : State) (row : Nat) : State :=
  let w0 := s.calW0 row
  let w1 := setBit (s.calW1 row) 54 true
  let p := bits w1 51 40
  let late := s.calPast row s.ctime && bit w1 55
  let w1 := if late then w1 else setBit w1 55 false
  if p = 0 then s.setCal row w0 (setBit w1 52 false)
  else
    let k := if late then s.calSkips w0 w1 s.ctime else 1
    (s.setCal row (setBits w0 31 0 (add32 (bits w0 31 0) (k * p))) w1).count Obj.tbsCalMissed 0 (k - 1)

/-- A firing of a row with its action's effect on its ARG. -/
def calFire (t row action : Nat) (act : Nat → State → State) (s : State) : Host.Outcome State Fault Refusal :=
  let s := s.land t
  .next (if s.calDue row action then act (bits (s.calW0 row) 63 48) (s.calFired row).calTicked else s)

/-- R455: writes one bit of PWR_GPIO_OUT. -/
def State.gpioOut (s : State) (pin : Nat) (level : Bool) : State :=
  s.put Obj.pwrGpioOut 0 (setBit (s.val Obj.pwrGpioOut) pin level : Nat)

/-- CAL_NONE_FIRE (R82). -/
def execCalNoneFire (t row : Nat) (s : State) : Host.Outcome State Fault Refusal := calFire t row 0 (fun _ s => s) s

/-- GPIO_SET (R455). -/
def execGpioSet (t row : Nat) (s : State) : Host.Outcome State Fault Refusal :=
  calFire t row 1 (fun arg s => s.gpioOut (bits arg 3 0) (bit arg 8)) s

/-- R455: one line in nanoseconds of device time. -/
def Raster.lineNs (r : Raster) : Nat := ceilDiv (r.den * giga) (r.num * r.lt)

/-- GPIO_PULSE (R455): the bit is set for one line. -/
def execGpioPulse (t row : Nat) (s : State) : Host.Outcome State Fault Refusal :=
  calFire t row 2 (fun arg s =>
    let pin := bits arg 3 0
    let s := s.gpioOut pin true
    { s with pwr := { s.pwr with
      pulses := (s.pwr.pulses.filter fun p => p.1 != pin) ++ [(pin, s.deviceTime + s.tbs.raster.lineNs)] } }) s

/-- GPIO_PULSE_END (R455). -/
def execGpioPulseEnd (t pin : Nat) (s : State) : Host.Outcome State Fault Refusal :=
  let s := s.land t
  .next (
    if s.pwr.pulses.any fun p => p.1 == pin && decide (p.2 ≤ s.deviceTime) then
      { s with pwr := { s.pwr with pulses := s.pwr.pulses.filter fun p => p.1 != pin } }.gpioOut pin false
    else s)

/-- TALLY_SET (R81). -/
def execTallySet (t row : Nat) (s : State) : Host.Outcome State Fault Refusal :=
  calFire t row 3 (fun arg s => s.put Obj.pwrTally 0 (bits arg 3 0 : Nat)) s

/-- CAL_MARK (R81): ACTION LOG_MARK writes CAL_MARK with ARG and the row. -/
def execCalMark (t row : Nat) (s : State) : Host.Outcome State Fault Refusal :=
  calFire t row 4 (fun arg s => s.brewRec 0x010 0x004 (arg * 2 ^ 48 + row)) s

/-! ### Writes (R87) -/

/-- The held words of a path: (word by row, expiry by row). -/
def State.heldWords (s : State) : Path → Table Nat × Table Nat
  | .strel id => ((s.session id).map fun z => (z.heldW0, z.heldUntil)).getD ([], [])
  | .can => (s.can.heldW0, s.can.heldUntil)
  | .firmware => ([], [])

/-- Replaces the held words of a path. -/
def State.setHeld (s : State) (who : Path) (words untils : Table Nat) : State :=
  match who with
  | .strel id =>
    match s.session id with
    | none => s
    | some z => s.setSession { z with heldW0 := words, heldUntil := untils }
  | .can => { s with can := { s.can with heldW0 := words, heldUntil := untils } }
  | .firmware => s

/-- R87: the word a path holds for a row, if its second has not passed. -/
def State.heldWord (s : State) (who : Path) (row : Nat) : Option Nat :=
  let h := s.heldWords who
  match h.2.find? fun p => p.1 == row with
  | none => none
  | some p => if s.now < p.2 then some (Table.get 0 h.1 row) else none

/-- R87: drops the word a path holds for a row. -/
def State.dropHeld (s : State) (who : Path) (row : Nat) : State :=
  let h := s.heldWords who
  s.setHeld who (Table.erase h.1 row) (Table.erase h.2 row)

/-- TBS_CAL_W0 (R80, R87): a word whose LINE lies below the bright Lt is held for the writer. -/
def tbsCalW0 (who : Path) (row v : Nat) (s : State) : Effect :=
  if s.tbs.raster.lt ≤ bits v 47 32 then (s, .range)
  else
    let h := s.heldWords who
    (s.setHeld who (Table.insert h.1 row v) (Table.insert h.2 row (s.now + giga)), .ok)

/-- TBS_CAL_W1 (R80, R82, R83, R87): the row takes W1 with the held W0, or with its own; FIRED and MISSED are read only. An
instant already past is a missed one. -/
def tbsCalW1 (who : Path) (row v : Nat) (s : State) : Effect :=
  if bits v 39 28 ≠ 0x010 then (s, .range)
  else
    let old := s.calW1 row
    let w1 := setBit (setBit v 54 (bit old 54)) 55 false
    let w0 := (s.heldWord who row).getD (s.calW0 row)
    let s := (s.dropHeld who row).setCal row w0 w1
    (if s.calPast row s.calNow then s.calMiss row s.calNow else s.put Obj.tbsCalW1 row (setBit w1 55 (bit old 55) : Nat), .ok)

/-- TBS_CAL_W0 (R87). -/
def execTbsCalW0 (t : Nat) (who : Path) (row v : Nat) (s : State) : Host.Outcome State Fault Refusal :=
  objectCommand t who Obj.tbsCalW0 row (.num v) (tbsCalW0 who row v) s

/-- TBS_CAL_W1 (R87). -/
def execTbsCalW1 (t : Nat) (who : Path) (row v : Nat) (s : State) : Host.Outcome State Fault Refusal :=
  objectCommand t who Obj.tbsCalW1 row (.num v) (tbsCalW1 who row v) s

/-- CAL_HELD_W0_EXPIRY (R87). -/
def execCalHeldW0Expiry (t : Nat) (who : Path) (row : Nat) (s : State) : Host.Outcome State Fault Refusal :=
  let s := s.land t
  .next (if (s.heldWords who).2.any fun p => p.1 == row && decide (p.2 ≤ s.now) then s.dropHeld who row else s)

end Sys2Proof.Machine
end

