-- ==== Sys2Proof/Machine/Grist.lean ====
section
/-! DEFINITION. The Grist's banks and staging lines (R350, R351). -/
set_option Elab.async false
namespace Sys2Proof.Machine

/-- State of a Grist bank. -/
def State.bank (s : State) (b : Nat) : BankState := Table.get .service s.mem.banks b

/-- Sets the state of a Grist bank. -/
def State.setBank (s : State) (b : Nat) (x : BankState) : State :=
  { s with mem := { s.mem with banks := Table.set .service s.mem.banks b x } }

/-- R350: the fold of a line's identity. -/
def gristFold (id : Nat) : Nat := [5, 10, 15, 20, 25, 30].foldl (fun acc n => Nat.xor acc (id / 2 ^ n)) id

/-- R350: the set of an identity. -/
def gristSet (id : Nat) : Nat := id / 32 % 1024

/-- R350, R352: the bank that serves an identity: its own, or the next one whose lines are not redirected. -/
def State.bankOf (s : State) (id : Nat) : Nat :=
  let h := gristFold id % 32
  (((List.range 32).map fun i => (h + i) % 32).find? fun b => s.bank b != .testing && s.bank b != .retired).getD h

/-- R352, Table 14-6: a clean line with an uncorrectable word is dropped and fetched again; a tag parity error invalidates the set.
Either is reported under the bank with the line's identity and its set; MEM_GR_ECC_UNCORR counts the former. -/
def State.gristError (s : State) (line : Nat) (parity : Bool) : State :=
  if parity then s.report (0x540 + s.bankOf line) .parity line (gristSet line)
  else (s.report (0x540 + s.bankOf line) .eccUncorr line (gristSet line)).count Obj.memGrEccUncorr 0

/-- R351, R352: whether a staging line obtains a way: at most 8 of a set; none in a bank that is to be tested, or out of service. -/
def State.stageRoom (s : State) (b set : Nat) : Bool :=
  s.bank b == .service && decide ((s.mem.staging.filter fun l => l.bank == b && l.set == set).length < 8)

/-- R351: the line `id` of a task is staged under its ticket, or spilled. -/
def State.stageLine (ticket : Nat) (s : State) (id : Nat) : State :=
  let b := s.bankOf id
  if s.stageRoom b (gristSet id) then
    { s with mem := { s.mem with staging := s.mem.staging ++ [{ ticket := ticket, bank := b, set := gristSet id }] } }
  else s.count Obj.memGrStageSpills

/-- R351: the lines of a task. -/
def State.stageTask (s : State) (ticket : Nat) (ids : List Nat) : State := ids.foldl (State.stageLine ticket) s

/-- R351: the staging lines of a ticket become ordinary lines as its commit is accepted, and are dropped as it is refused. -/
def State.unstage (s : State) (ticket : Nat) : State :=
  { s with mem := { s.mem with staging := s.mem.staging.filter fun l => l.ticket != ticket } }

end Sys2Proof.Machine
end

