-- ==== Sys2Proof/Machine/Memory.lean ====
section
/-! DEFINITION. Working memory, picture store, Grist and arbitration: scrubs (R327, R328, R331), retraining (R329, R342 to
R346), refresh and self-refresh (R337, R340, R341), the Grist's bank tests (R352), the arbiters (R353 to R357). -/
set_option Elab.async false
namespace Sys2Proof.Machine

/-! ### Addresses and layout -/

/-- R325: the working-memory address of word `w` of QDR channel `c`. -/
def qdrAddress (c w : Nat) : Nat := ((w / 8) * 12 + c) * 64 + (w % 8) * 8

/-- R325: the channel and word of an address. -/
def qdrPlace (a : Nat) : Nat × Nat := (a / 64 % 12, a / 64 / 12 * 8 + a / 8 % 8)

/-- Table 14-3: NB and NBG. -/
def ddrBanks (cfg : Nat) : Nat × Nat :=
  let x16 := bits cfg 1 0 == 2
  if bits cfg 4 2 = 0 then (if x16 then (8, 4) else (16, 8)) else (if x16 then (16, 4) else (32, 8))

/-- R336: C, bursts per page. -/
def ddrPage (cfg : Nat) : Nat := (if bits cfg 1 0 = 0 then 8192 else 4096) / 64

/-- Where a channel-local address lies in the DRAM (R336): subchannel, rank, bank, row and column. -/
structure DramPlace where
  sub : Nat
  rank : Nat
  bank : Nat
  row : Nat
  col : Nat
  deriving DecidableEq, Repr

/-- R336. -/
def dramPlace (cfg l : Nat) : DramPlace :=
  let nb := (ddrBanks cfg).1
  let u := l / 128
  let v := u / ddrPage cfg
  let w := v / nb
  let row := w / ddrRanks cfg
  { sub := l / 64 % 2, rank := w % ddrRanks cfg, bank := Nat.xor (Nat.xor (v % nb) (row % nb)) (row / nb % nb), row := row,
    col := u % ddrPage cfg }

/-- The key of a bank of a channel. -/
def DramPlace.key (p : DramPlace) : Nat := (p.sub * 2 + p.rank) * 64 + p.bank

/-- R332: the samples of one pixel by CSP_CHROMA, in hundredths of a byte: f of a reference (+ 0.25), e of a composed
canvas. -/
def refBytes : Nat → Nat
  | 0 => 250 | 1 => 325 | _ => 475

/-- e of R332 in thousandths. -/
def canvasBytes : Nat → Nat
  | 0 => 1875 | 1 => 2500 | _ => 3750

/-- R333: Nr and Nc of a set, the chunks of a reference domain and of the common domain, with the Compositor and decode areas in
force. -/
def State.storeDomains (s : State) (c : CanvasSet) : Nat × Nat :=
  let px := 1024 * c.width * c.height
  let ch := c.nat Obj.cspChroma
  (ceilDiv (2 * ceilDiv (px * refBytes ch) 100) 2048,
   ceilDiv (2 * ceilDiv (px * canvasBytes ch) 1000 + 1048576 * (s.cmp.areaMib + s.val Obj.finAreaMib)) 2048)

/-- R333: Rk, Rs, Ck, Cs of a set. -/
def State.storeShares (s : State) (c : CanvasSet) : Nat × Nat × Nat × Nat :=
  let (nr, nc) := s.storeDomains c
  let rk := ceilDiv nr 4
  let ck := ceilDiv nc 8
  (rk, ceilDiv rk 3, ck, ceilDiv ck 7)

/-- R332, R333, R348: the chunks of a set that live on channel `k`: every fourth of its group's domain, every eighth of the common
one. -/
def State.chunksOf (s : State) (c : CanvasSet) (k : Nat) : Nat :=
  let (nr, nc) := s.storeDomains c
  (nr + 3 - k % 4) / 4 + (nc + 7 - k) / 8

/-! ### Channels -/

/-- A QDR channel. -/
def State.qdr (s : State) (c : Nat) : QdrCh := Table.get QdrCh.idle s.mem.qdr c

/-- Rewrites a QDR channel. -/
def State.modQdr (s : State) (c : Nat) (f : QdrCh → QdrCh) : State :=
  { s with mem := { s.mem with qdr := Table.modify QdrCh.idle s.mem.qdr c f } }

/-- A DDR channel. -/
def State.ddr (s : State) (c : Nat) : DdrCh := Table.get DdrCh.idle s.mem.ddr c

/-- Rewrites a DDR channel. -/
def State.modDdr (s : State) (c : Nat) (f : DdrCh → DdrCh) : State :=
  { s with mem := { s.mem with ddr := Table.modify DdrCh.idle s.mem.ddr c f } }

/-- Whether a DDR channel is in service in the sense of R333. -/
def State.ddrLive (s : State) (c : Nat) : Bool := (s.ddr c).state != .retired

/-- R333: chunk `k` of a domain (0, 1 reference groups; 2 common): its channel and local address. -/
def State.chunkPlace (s : State) (set : CanvasSet) (domain k : Nat) : Nat × Nat :=
  let (rk, rs, ck, _) := s.storeShares set
  let grp := domain < 2
  let c := if grp then 4 * domain + k % 4 else k % 8
  let j := if grp then k / 4 else k / 8
  let base := if grp then 0 else rk + rs
  let spare := if grp then rk else rk + rs + ck
  let live := (if grp then [4 * domain, 4 * domain + 1, 4 * domain + 2, 4 * domain + 3] else List.range 8).filter s.ddrLive
  let m := if grp then 3 else 7
  if s.ddrLive c then (c, (base + j) * 2048) else (live.getD (j % m) 0, (spare + j / m) * 2048)

/-- R327: whether an ECC_CORR report is due after the last one. -/
def corrDue (now : Nat) (last : Option Nat) : Bool := last.all fun a => decide (a + giga ≤ now)

/-- R410: an uncorrectable word at a working-memory address: the Brew Log slot it lies in, if any, reads as bad until it
is written again. -/
def State.logWordBad (s : State) (a : Nat) : State :=
  if 0x13800000 ≤ a ∧ a < 0x14800000 then
    let slot := (a - 0x13800000) / 32
    { s with brew := { s.brew with badSlots := s.brew.badSlots.filter (fun k => k != slot) ++ [slot] } }
  else s

/-- R308, R322: an uncorrectable word in the Keg pools: a descriptor that lies there is lost once it is read, until it is written
again. -/
def State.descriptorWordBad (s : State) (a : Nat) : State :=
  if 0x02000000 ≤ a ∧ a < 0x12000000 then
    { s with tap := { s.tap with badWords := s.tap.badWords.filter (fun w => w != a) ++ [a] } }
  else s

/-- R327: a QDR word read with a corrected (1) or uncorrectable (2) error; `how` is 0 for demand, 1 for the scrub. -/
def State.qdrError (s : State) (c w result how : Nat) : State :=
  if result = 1 then
    let due := corrDue s.now (s.qdr c).corrAt
    let s := s.count Obj.memQdEccCorr c
    if due then (s.modQdr c fun x => { x with corrAt := some s.now }).report (0x500 + c) .eccCorr (qdrAddress c w) how else s
  else if result = 2 then
    let s := s.modQdr c fun x => { x with uncorr := (x.uncorr.filter fun a => decide (s.now < a + 1000000)) ++ [s.now] }
    (((s.logWordBad (qdrAddress c w)).descriptorWordBad (qdrAddress c w)).count Obj.memQdEccUncorr c).report (0x500 + c) .eccUncorr (qdrAddress c w) how
  else s

/-- QDR_SCRUB (R328): the next word of a channel. -/
def execQdrScrub (t channel result : Nat) (s : State) : Host.Outcome State Fault Refusal :=
  let s := s.land t
  .next (
    if 12 ≤ channel ∨ (s.qdr channel).state ≠ 1 then s
    else
      let w := (s.qdr channel).scrub
      (s.qdrError channel w result 1).modQdr channel fun x => { x with scrub := (w + 1) % 4194304 })

/-- R331: a DDR burst read with an error: lane and part (rank × 2 + subchannel) as the code finds them. -/
def State.ddrError (s : State) (c l result lane part : Nat) : State :=
  let a := c * ddrCapacity (s.val Obj.memDdConfig) + l
  let detail := lane % 256 * 256 + part % 256
  if result = 1 then
    let due := corrDue s.now (s.ddr c).corrAt
    let s := s.count Obj.memDdEccCorr c
    if due then (s.modDdr c fun x => { x with corrAt := some s.now }).report (0x520 + c) .eccCorr a detail else s
  else if result = 2 then (s.count Obj.memDdEccUncorr c).report (0x520 + c) .eccUncorr a detail
  else s

/-- DDR_SCRUB (R331): the next burst of a channel. -/
def execDdrScrub (t channel result lane part : Nat) (s : State) : Host.Outcome State Fault Refusal :=
  let s := s.land t
  .next (
    if 8 ≤ channel ∨ (s.ddr channel).state ≠ .service then s
    else
      let b := (s.ddr channel).scrub
      (s.ddrError channel (b * 64) result lane part).modDdr channel fun x =>
        { x with scrub := (b + 1) % max 1 (ddrCapacity (s.val Obj.memDdConfig) / 64) })

/-! ### Retraining -/

/-- R342: the instant of the pause of frame `f`. -/
def State.pauseInstant (s : State) (f : Nat) : CTime :=
  let l := 32 * s.sets.bright.height + 64
  let lt := s.tbs.raster.lt
  if l < lt then { frame := f, line := l } else { frame := add32 f 1, line := l - lt }

/-- R342: something is due: the entry is armed for this frame, or for the next one where this frame's pause has run or its
instant is past. -/
def State.armPause (s : State) : State :=
  if s.mem.armed.isSome ∨ s.mem.pause.isSome then s
  else
    let f := s.ctime.frame
    let c := s.pauseInstant f
    let f := if s.mem.pauseFrame = some f ∨ CTime.earlier c s.ctime then add32 f 1 else f
    { s with mem := { s.mem with armed := some (s.pauseInstant f) } }

/-- MEM_RETRAIN (R344). -/
def memRetrain (v : Nat) (s : State) : Effect :=
  if v < 12 then ((s.modQdr v fun x => { x with pending := true }).armPause, .ok)
  else if 16 ≤ v ∧ v < 24 then ((s.modDdr (v - 16) fun x => { x with pending := true }).armPause, .ok)
  else (s, .range)

/-- MEM_RETRAIN (R344). -/
def execMemRetrain (t : Nat) (who : Path) (v : Nat) (s : State) : Host.Outcome State Fault Refusal :=
  objectCommand t who Obj.memRetrain 0 (.num v) (memRetrain v) s

/-- QDR_MARGIN_LOW (R329). -/
def execQdrMarginLow (t channel : Nat) (s : State) : Host.Outcome State Fault Refusal :=
  let s := s.land t
  .next (if channel < 12 ∧ (s.qdr channel).state = 1 then (s.modQdr channel fun x => { x with pending := true }).armPause else s)

/-- QDR_IMMEDIATE_RETRAIN (R329): 16 uncorrectable words within 1 ms. -/
def execQdrImmediateRetrain (t channel : Nat) (s : State) : Host.Outcome State Fault Refusal :=
  let s := s.land t
  let recent := (s.qdr channel).uncorr.filter fun a => decide (s.now < a + 1000000)
  .next (
    if channel < 12 ∧ (s.qdr channel).state = 1 ∧ 16 ≤ recent.length then
      s.modQdr channel fun x => { x with state := 2, since := s.now, uncorr := [] }
    else s)

/-- A pause ends: what is still due arms the next one. -/
def State.pauseOver (s : State) : State :=
  let s := { s with mem := { s.mem with pause := none } }
  if ((List.range 12).any fun c => (s.qdr c).pending) || ((List.range 8).any fun c => (s.ddr c).pending || (s.ddr c).due) then s.armPause else s

/-- QDR_RETRAIN_DONE (R329): a retraining ends: in service again, or TRAIN_FAIL, whose floor is SAFE. -/
def execQdrRetrainDone (t channel : Nat) (trained : Bool) (s : State) : Host.Outcome State Fault Refusal :=
  let s := s.land t
  .next (
    if 12 ≤ channel ∨ (s.qdr channel).state ≠ 2 then s
    else
      let s := if trained then (s.modQdr channel fun x => { x with state := 1, pending := false }).count Obj.memQdRetrains channel
        else (s.modQdr channel fun x => { x with state := 3, pending := false }).report (0x500 + channel) .trainFail 0 0
      if s.mem.pause.any (fun p => p.1 = channel) then s.pauseOver else s)

/-- R342: the phases a channel's periodic retraining counts from: channels are staggered by an eighth of the period. -/
def retrainPeriods (period c at_ : Nat) : Nat := (8 * at_ + (8 - c) * period) / (8 * period)

/-- RETRAIN_DUE (R342): a DDR channel falls due once in each MEM_DD_RETRAIN_S seconds. -/
def execRetrainDue (t channel : Nat) (s : State) : Host.Outcome State Fault Refusal :=
  let s := s.land t
  let p := giga * s.val Obj.memDdRetrainS
  let x := s.ddr channel
  .next (
    if 8 ≤ channel ∨ p = 0 ∨ x.state = .retired ∨ x.state = .training ∨ x.due
        ∨ retrainPeriods p channel s.now ≤ retrainPeriods p channel x.lastRetrain then s
    else (s.modDdr channel fun x => { x with due := true }).armPause)

/-- R342: the channel a pause serves (DDR c as 16 + c). -/
def State.pauseChoice (s : State) : Option Nat :=
  match (List.range 12).find? fun c => (s.qdr c).pending && (s.qdr c).state == 1 with
  | some c => some c
  | none =>
    match (List.range 8).find? fun c => (s.ddr c).pending && s.ddrLive c with
    | some c => some (16 + c)
    | none =>
      ((List.range 8).filter fun c => (s.ddr c).due && s.ddrLive c).foldl (fun best c =>
        match best with
        | none => some (16 + c)
        | some b => if (s.ddr c).lastRetrain < (s.ddr (b - 16)).lastRetrain then some (16 + c) else some b) none

/-- RETRAIN_PAUSE (R342, R343): the armed instant is reached, outside a gap: one channel pauses. -/
def execRetrainPause (t : Nat) (s : State) : Host.Outcome State Fault Refusal :=
  let s := s.land t
  .next (
    match s.mem.armed with
    | none => s
    | some c =>
      if s.calTurn (pauseEntry c) = false then s
      else
        let s := s.calTicked
        let f := if s.pauseInstant c.frame = c then c.frame else sub32 c.frame 1
        let s := { s with mem := { s.mem with armed := none, pauseFrame := some f } }
        match s.pauseChoice with
        | none => s
        | some k =>
          let s := { s with mem := { s.mem with pause := some (k, s.now) } }
          if k < 12 then s.modQdr k fun x => { x with state := 2, since := s.now }
          else s.modDdr (k - 16) fun x => { x with state := .paused })

/-- The message that puts the device into SAFE without a floor of its own (R349), on the signal of R394. -/
def State.safeBy (s : State) (m : FaultMsg) : State :=
  if s.cellar.safe ∨ s.cellar.safeSignal.isSome then s else { s with cellar := { s.cellar with safeSignal := some m } }

/-- R346 to R349: what the retirement of a DDR channel does, its report apart: DDR_RETIRED, MEM_DD_DEGRADED, its chunks redirected
to empty spares, the pictures of its reference group gone; single-reference coding from the next picture where coding has begun; the
device of a twin pair is silenced; a second retirement, or one during single-reference coding, is SAFE, caused by `m`. `detail` is 0
at start-up, 1 in a pause. -/
def State.ddrGone (s : State) (c detail : Nat) (m : FaultMsg) : State :=
  let again := s.mem.degraded || s.mem.srm
  let s := s.modDdr c fun x => { x with state := .retired, pending := false, due := false, retiring := false }
  let s := s.brewRec (0x520 + c) 0x0A0 c
  let s := (s.setRecon (2 * (c / 4)) Recon.empty).setRecon (2 * (c / 4) + 1) Recon.empty
  let coding := decide (detail = 1) && s.coding.started
  let s := { s with mem := { s.mem with degraded := true, retired := some c, srm := s.mem.srm || coding,
                                        srmStarts := 0, emptyBursts := s.chunksOf s.sets.bright c * 32 } }
  if again then s.safeBy m
  else if detail = 1 ∧ s.twinMode then s.silenceFault
  else s

/-- R346 to R349: a DDR channel is retired, with its report. -/
def State.retireDdr (s : State) (c detail : Nat) : State :=
  let m := faultMsg (0x520 + c) .trainFail 0 detail
  (s.reportMsg m).ddrGone c detail m

/-- R345: the training cache is rewritten after a cold training, and after a retraining at most once per hour. -/
def State.cacheTraining (s : State) (c : Nat) : State :=
  if (s.ddr c).cachedAt.all fun a => decide (a + 3600 * giga ≤ s.now) then
    { (s.modDdr c fun x => { x with cachedAt := some s.now }) with
      cask := { s.cask with training := some (s.val Obj.memDdConfig) } }
  else s

/-- RETRAIN_DONE (R343, R346): a DDR pause ends. -/
def execRetrainDone (t : Nat) (trained : Bool) (s : State) : Host.Outcome State Fault Refusal :=
  let s := s.land t
  .next (
    match s.mem.pause with
    | none => s
    | some (k, _) =>
      if k < 16 then s
      else
        let c := k - 16
        (if trained ∧ (s.ddr c).retiring = false then
          (((s.modDdr c fun x => { x with state := .service, pending := false, due := false, lastRetrain := s.now }).count
            Obj.memDdRetrains c).putValue Obj.memDdLastRetrain c (.bytes (time80 s.deviceTime))).cacheTraining c
        else s.retireDdr c 1).pauseOver)

/-! ### Self-refresh, refresh, pages -/

/-- R341: whether the idle condition holds: no canvas and no decode stream enabled, or SAFE. -/
def State.ddrMayIdle (s : State) : Bool :=
  s.cellar.safe || (!s.sets.bright.hasCanvas &&
    (Store.rows s.sets.bright.objs Obj.finStrW0).all fun p => !bit p.2.toNat 0)

/-- SELF_REFRESH_ENTRY (R341). -/
def execSelfRefreshEntry (t channel : Nat) (s : State) : Host.Outcome State Fault Refusal :=
  let s := s.land t
  let x := s.ddr channel
  .next (
    if 8 ≤ channel ∨ x.state ≠ .service ∨ !s.ddrMayIdle ∨ s.now < x.lastRequest + 1000 * s.val Obj.memDdSrIdleUs then s
    else s.modDdr channel fun x => { x with state := .selfRefresh, entryTemp := s.pwr.tj, openRows := [], accessed := [] })

/-- SELF_REFRESH_EXIT (R341): a request, or the end of the condition; a temperature that moved more than 10 °C adds a
retraining. -/
def execSelfRefreshExit (t channel : Nat) (s : State) : Host.Outcome State Fault Refusal :=
  let s := s.land t
  let x := s.ddr channel
  .next (
    if 8 ≤ channel ∨ x.state ≠ .selfRefresh then s
    else
      let s := s.modDdr channel fun x => { x with state := .service, lastRequest := s.now }
      if 100 < (s.pwr.tj - x.entryTemp).natAbs then
        ((s.modDdr channel fun x => { x with lastRetrain := s.now }).count Obj.memDdRetrains channel).putValue Obj.memDdLastRetrain channel
          (.bytes (time80 s.deviceTime))
      else s)

/-- DDR_REFRESH (R340): a refresh of a bank falls due: 0 performed, 1 pulled in, 2 postponed. `owed` is biased by 4: 0 is
4 pulled in, 8 is 4 postponed, where the refresh becomes the emergency requester and can be postponed no further. A
refresh closes the bank (R337). -/
def execDdrRefresh (t channel bank choice : Nat) (s : State) : Host.Outcome State Fault Refusal :=
  let s := s.land t
  let x := s.ddr channel
  let owed := Table.get 4 x.owed bank
  let close (x : DdrCh) : DdrCh := { x with openRows := Table.erase x.openRows bank, accessed := Table.erase x.accessed bank }
  .next (
    if 8 ≤ channel ∨ (x.state ≠ .service ∧ x.state ≠ .paused) then s
    else if choice = 2 then
      s.modDdr channel fun x => if owed < 8 then { x with owed := Table.set 4 x.owed bank (owed + 1) } else close x
    else if choice = 1 then
      s.modDdr channel fun x => if 0 < owed then close { x with owed := Table.set 4 x.owed bank (owed - 1) } else x
    else s.modDdr channel fun x => close { x with owed := Table.set 4 x.owed bank (if 4 < owed then owed - 1 else owed) })

/-- DRAM_TEMP_READ (R340): above 85 °C the refresh interval is halved. -/
def execDramTempRead (t channel : Nat) (hot : Bool) (s : State) : Host.Outcome State Fault Refusal :=
  let s := s.land t
  .next (if channel < 8 then s.modDdr channel fun x => { x with halved := hot } else s)

/-- PAGE_CLOSE (R337): an open page idle for MEM_DD_PAGE_IDLE_NS. -/
def execPageClose (t channel bank : Nat) (s : State) : Host.Outcome State Fault Refusal :=
  let s := s.land t
  let x := s.ddr channel
  .next (
    if channel < 8 ∧ (x.openRows.any fun p => p.1 == bank) ∧ Table.get 0 x.accessed bank + s.val Obj.memDdPageIdleNs ≤ s.now then
      s.modDdr channel fun x => { x with openRows := Table.erase x.openRows bank, accessed := Table.erase x.accessed bank }
    else s)

/-! ### Arbitration -/

/-- An arbiter: QDR channel c is c, DDR channel c is 16 + c. -/
def State.arb (s : State) (k : Nat) : Arbiter := Table.get Arbiter.idle s.mem.arbs k

/-- The rows of Table 14-5 that request at an arbiter. -/
def arbRows (k : Nat) : List Nat := if k < 16 then [8, 9, 10, 11, 12, 13, 14] else [0, 1, 2, 3, 4, 5]

/-- R353: a requester's effective priority. -/
def State.arbPriority (s : State) (a : Arbiter) (panic : Bool) (row : Nat) : Nat :=
  if row = 0 ∧ panic then 16 else min (s.val Obj.memArbPrio row + Table.get 0 a.ages row) 15

/-- R353, R354: which of the requesters wins: the one waiting longest on a fairness grant; else the highest effective
priority, the one waiting longest on a tie, then the lowest row. -/
def State.arbWinner (s : State) (a : Arbiter) (panic fair : Bool) (rows : List Nat) : Option Nat :=
  let key (row : Nat) : Nat :=
    let waited := a.beats - Table.get a.beats a.since row
    (if fair then 0 else s.arbPriority a panic row) * 2 ^ 64 + waited
  rows.foldl (fun best row =>
    match best with
    | none => some row
    | some b => if key b < key row then some row else some b) none

/-- R339: whether the Compositor is behind in a row: fewer of its n composed CTUs are done than floor(e × n / 32) − 16. -/
def State.rowBehind (s : State) (w : RowWork) : Bool :=
  let c := s.setFor w.frame
  let composed (cx : Nat) : Bool := !ctuBlack (c.ctu cx w.row)
  let n := ((List.range c.width).filter composed).length
  decide (((List.range (min w.written c.width)).filter composed).length + 16 < w.lines * n / 32)

/-- R339: whether the Compositor is behind in a row in composition. -/
def State.behind (s : State) : Bool := s.cmp.rows.any s.rowBehind

/-- R339: whether a DDR channel's Compositor asserts panic now; the time spent in panic is counted. -/
def DdrCh.panicNow (x : DdrCh) (now : Nat) (panic : Bool) : DdrCh :=
  { x with panicFrom := if panic then some now else none,
           panicNs := x.panicNs + (match x.panicFrom with | some a => now - a | none => 0) }

/-- R336: where the burst of a request lies. -/
def DdrReq.place (r : DdrReq) (cfg : Nat) : DramPlace := dramPlace cfg r.addr

/-- R338: whether two addresses lie in one burst. -/
def sameBurst (a b : Nat) : Bool := a / 64 == b / 64

/-- R338: requests of a subchannel. -/
def DdrReq.ofSub (cfg sub : Nat) (l : List DdrReq) : List DdrReq := l.filter fun r => (r.place cfg).sub == sub

/-- R337, R338: whether a request hits an open page. -/
def DdrCh.hits (x : DdrCh) (cfg : Nat) (r : DdrReq) : Bool :=
  x.openRows.any fun p => p == ((r.place cfg).key, (r.place cfg).row)

/-- R338, R343: a request that its arbiter granted reaches its queue: a write of a paused channel goes to the pause buffer of 4,096
bursts; a read of a burst with a write pending is answered from the queue. Without room it waits at the arbiter. -/
def DdrCh.enqueue (x : DdrCh) (cfg : Nat) (write : Bool) (r : DdrReq) : DdrCh :=
  let sub := (r.place cfg).sub
  if write then
    if x.state = .paused then if x.posted.length < 4096 then { x with posted := x.posted ++ [r] } else x
    else if (DdrReq.ofSub cfg sub x.writes).length < 64 then { x with writes := x.writes ++ [r] } else x
  else if (x.posted ++ x.writes).any fun w => sameBurst w.addr r.addr then x
  else if (DdrReq.ofSub cfg sub x.reads).length < 64 then { x with reads := x.reads ++ [r] } else x

/-- R338, R339: the read that a subchannel serves next: in panic the Compositor's, in arrival order; then one older than `age`; one that hits an
open page; the oldest. -/
def DdrCh.nextRead (x : DdrCh) (cfg now age : Nat) (panic : Bool) (sub : Nat) : Option DdrReq :=
  let l := DdrReq.ofSub cfg sub x.reads
  match l.find? fun r => panic && r.row == 0 with
  | some r => some r
  | none =>
    match l.find? fun r => decide (r.at_ + age < now) with
    | some r => some r
    | none => (l.find? (x.hits cfg)).or l.head?

/-- R338: of some writes the one served next: one that hits an open page first. -/
def DdrCh.nextOf (x : DdrCh) (cfg : Nat) (l : List DdrReq) : Option DdrReq := (l.find? (x.hits cfg)).or l.head?

/-- R338, R339: whether a subchannel drains its writes: from `high` of them, in panic from 64, down to `low`. -/
def DdrCh.drains (x : DdrCh) (cfg high low : Nat) (panic : Bool) (sub : Nat) : Bool :=
  let n := (DdrReq.ofSub cfg sub x.writes).length
  decide ((if panic then 64 else high) ≤ n) || (x.draining.contains sub && decide (low < n))

/-- R336, R337: an access of a request: its page is the one open in its bank. -/
def DdrCh.access (x : DdrCh) (cfg now : Nat) (r : DdrReq) : DdrCh :=
  let p := r.place cfg
  { x with openRows := Table.insert x.openRows p.key p.row, accessed := Table.insert x.accessed p.key now, lastRequest := now }

/-- A list without the first `r`. -/
def DdrReq.drop1 (r : DdrReq) (l : List DdrReq) : List DdrReq := l.erase r

/-- R338, R343: a subchannel of a channel in service completes an access: posted writes drain ahead of other writes; writes go when no
read waits, or while they drain. -/
def DdrCh.serve (x : DdrCh) (cfg now age high low : Nat) (panic : Bool) (sub : Nat) : DdrCh :=
  if x.state ≠ .service then x
  else
    let drain := x.drains cfg high low panic sub
    let x := { x with draining := if drain then sub :: x.draining.filter (· != sub) else x.draining.filter (· != sub) }
    let read := x.nextRead cfg now age panic sub
    if drain ∨ read.isNone then
      match x.nextOf cfg (DdrReq.ofSub cfg sub x.posted) with
      | some r => { x.access cfg now r with posted := r.drop1 x.posted }
      | none =>
        match x.nextOf cfg (DdrReq.ofSub cfg sub x.writes) with
        | some r => { x.access cfg now r with writes := r.drop1 x.writes }
        | none => x
    else
      match read with
      | some r => { x.access cfg now r with reads := r.drop1 x.reads }
      | none => x

/-- R338: what a grant and the accesses completed since do to a DDR channel. `req`: the granted request and whether it writes. -/
def State.ddrQueues (s : State) (c : Nat) (panic : Bool) (req : Option (Bool × DdrReq)) (served : List Nat) : State :=
  let cfg := s.val Obj.memDdConfig
  s.modDdr c fun x =>
    let x := x.panicNow s.now panic
    let x := match req with
      | some r => { x.enqueue cfg r.1 r.2 with lastRequest := s.now }
      | none => x
    ((served.filter (· < 2)).eraseDups).foldl (fun x sub =>
      x.serve cfg s.now (s.val Obj.memDdAgeNs) (s.val Obj.memDdWqHigh) (s.val Obj.memDdWqLow) panic sub) x

/-- R354: the beats of the grant that ends: its holder keeps it for MEM_ARB_BURST beats at most, an emergency for as long as it
lasts. -/
def State.grantBeats (s : State) (a : Arbiter) (beats : Nat) : Nat :=
  match a.holder with
  | some r => max 1 (min beats (s.val Obj.memArbBurst r))
  | none => beats

/-- R357: a wait of a row ends, after `waited` beats. -/
def State.waitEnds (s : State) (row waited : Nat) : State :=
  let seen := lastSecond s.now (Table.get [] s.mem.waits row) ++ [(s.now, waited)]
  { s with mem := { s.mem with waits := Table.set [] s.mem.waits row seen } }

/-- ARBITRATION (R353 to R355): in the last beat of a grant the arbiter of a channel (DDR c as 16 + c) chooses among the
rows that request; losers age, the winner's age returns to 0. An emergency preempts: every requester loses that
arbitration. On a DDR channel the winner's access of `beat` enters its subchannel's queue; each subchannel served completes an
access (R338). The Compositor asserts `panic` only where it is behind (R339). With a refill the access on a DDR channel fetches again a
clean Grist line found uncorrectable, or a set whose tag parity failed (R352). -/
def execArbitration (t channel : Nat) (requests : List Nat) (panic emergency : Bool) (beat : ChannelBeat) (s : State) : Host.Outcome State Fault Refusal :=
  let s := s.land t
  let panic := panic && decide (16 ≤ channel) && s.behind
  if 24 ≤ channel ∨ (12 ≤ channel ∧ channel < 16) then .next s
  else
    let a := s.arb channel
    let a := { a with beats := a.beats + s.grantBeats a beat.beats }
    let rows := (arbRows channel).filter fun r => requests.contains r
    let grants := if emergency then a.grants else a.grants + 1
    let fair := decide (grants % s.val Obj.memArbFairN = 0)
    let won := if emergency then none else s.arbWinner a panic fair rows
    let lose (acc : Table Nat × Table Nat) (r : Nat) : Table Nat × Table Nat :=
      if won = some r then (Table.set 0 acc.1 r 0, Table.erase acc.2 r)
      else if rows.contains r then
        (Table.set 0 acc.1 r (Table.get 0 acc.1 r + 1), if acc.2.any fun p => p.1 == r then acc.2 else Table.insert acc.2 r a.beats)
      else (Table.set 0 acc.1 r 0, Table.erase acc.2 r)
    let x := (arbRows channel).foldl lose (a.ages, a.since)
    let since := a.since
    let a := { a with ages := x.1, since := x.2, grants := if won.isSome then grants else a.grants, holder := won }
    let s := { s with mem := { s.mem with arbs := Table.set Arbiter.idle s.mem.arbs channel a } }
    let queues (s : State) : State :=
      if channel < 16 then s
      else
        (beat.refill.elim s fun r => s.gristError r.1 r.2).ddrQueues (channel - 16) panic
          (won.map fun r => (beat.write, { row := r, addr := beat.addr, at_ := s.now })) beat.served
    match won with
    | none => .next (queues s)
    | some r =>
      .next (queues (s.waitEnds r (a.beats - Table.get a.beats since r)))

/-- MEM_ARB_PRIO (R356): in force from the next arbitration; ages stay. -/
def memArbPrio (row v : Nat) (s : State) : Effect := (s.put Obj.memArbPrio row v, .ok)

/-- MEM_ARB_PRIO (R356). -/
def execMemArbPrio (t : Nat) (who : Path) (row v : Nat) (s : State) : Host.Outcome State Fault Refusal :=
  objectCommand t who Obj.memArbPrio row (.num v) (memArbPrio row v) s

/-! ### The Grist -/

/-- MEM_GR_SELFTEST (R352): the bank takes no new staging line; refused while another bank is under test. A
retired bank stays retired (DESIGN CHOICE). -/
def memGrSelftest (v : Nat) (s : State) : Effect :=
  if (List.range 32).any fun b => s.bank b == .draining || s.bank b == .testing then (s, .busy)
  else if s.bank v = .retired then (s, .ok)
  else (s.setBank v .draining, .ok)

/-- MEM_GR_SELFTEST (R352). -/
def execMemGrSelftest (t : Nat) (who : Path) (v : Nat) (s : State) : Host.Outcome State Fault Refusal :=
  objectCommand t who Obj.memGrSelftest 0 (.num v) (memGrSelftest v) s

/-- GRIST_TEST_START (R352): no staging line is left: the bank is invalidated, redirected and tested. -/
def execGristTestStart (t bank : Nat) (s : State) : Host.Outcome State Fault Refusal :=
  let s := s.land t
  .next (
    if bank < 32 ∧ s.bank bank = .draining ∧ (s.mem.staging.any fun l => l.bank == bank) = false then
      { s.setBank bank .testing with mem := { (s.setBank bank .testing).mem with testFrom := s.now } }
    else s)

/-- A Grist bank is retired with a report of DIGEST_MISMATCH (R352). -/
def State.retireBank (s : State) (b : Nat) : State := (s.setBank b .retired).report (0x540 + b) .digestMismatch 0 0

/-- GRIST_TEST_DONE (R352): 2 ms after its start. -/
def execGristTestDone (t bank : Nat) (passed : Bool) (s : State) : Host.Outcome State Fault Refusal :=
  let s := s.land t
  .next (
    if 32 ≤ bank ∨ s.bank bank ≠ .testing ∨ s.now < s.mem.testFrom + 2000000 then s
    else if passed then s.setBank bank .service
    else s.retireBank bank)

end Sys2Proof.Machine
end

