-- ==== Sys2Proof/Machine/Power.lean ====
section
/-! DEFINITION. Reset and its causes (R443, R447, R451), thermal supervision (R449), life (R450) and AVS (R445, R446). -/
set_option Elab.async false
namespace Sys2Proof.Machine

/-- Rewrites the power state. -/
def State.modPwr (s : State) (f : Power → Power) : State := { s with pwr := f s.pwr }

/-! ### Reset -/

/-- Whether something holds the device in reset: PORST_N low, a rail below its brownout level, no REFCLK_SYS, or the thermal
trip (R443, R447, R449). -/
def Power.held (p : Power) : Bool := !p.porst || !p.brown.isEmpty || !p.refclk || p.tripped

/-- What a reset leaves of the fuses and of the keys, LMS state, patch store and identity in the Cask (R425, R429, R451). -/
def Trust.afterReset (x : Trust) : Trust :=
  { Trust.reset with
    lifecycle := x.lifecycle, secret := x.secret, revoked := x.revoked, counters := x.counters, keys := x.keys,
    identity := x.identity, fwStored := x.fwStored, fwRemove := x.fwRemove,
    attState := if x.attState = 2 ∨ 1073741824 ≤ x.qRes then 2 else 0, qNext := x.qRes, qRes := x.qRes }

/-- R54, Table 17-7: the locks that the keys region keeps, by the time they still have to run. -/
def locksKept (auth : Table AuthSlot) (now : Nat) : Table AuthSlot :=
  (auth.filter fun p : Nat × AuthSlot => p.2.lockedUntil.any fun u => decide (now < u)).map fun p : Nat × AuthSlot =>
    (p.1, { fails := [], lockedUntil := p.2.lockedUntil.map fun u => u - now })

/-- A slot after a reset: one whose save had begun to write reads as damaged (R431). -/
def Sets.slotKept (x : Sets) (k : Nat) : Slot :=
  let slot := if k = 0 then x.slotA else x.slotB
  if x.saving.any (fun p : Nat × CanvasSet => p.1 == k) then { slot with state := 3 } else slot

/-- The Cask after a reset: its contents stay; CSK_REGION_STATE keeps what is still damaged (R433). -/
def Cask.afterReset (x : Cask) : Cask :=
  { x with regions := x.regions.filter fun p : Nat × Nat => p.2 == 3 }

/-- R451: a reset of the whole device, with its cause: everything but the fuses, the Cask and the pins returns to its reset
value, and start-up begins at phase 1. Running time counts from here. -/
def State.deviceReset (s : State) (cause : Nat) : State :=
  { State.reset with
    out := s.out, draws := s.draws, pending := s.pending,
    trust := s.trust.afterReset,
    cask := s.cask.afterReset,
    strel := { listening := false, provisional := [], sessions := [], auth := locksKept s.strel.auth s.now },
    sets := { Sets.reset with slotA := s.sets.slotKept 0, slotB := s.sets.slotKept 1 },
    tuns := { TunArray.reset with persisted := s.tuns.persisted },
    brew := { BrewLog.reset with ckpt := s.brew.ckpt, bootCount := s.brew.bootCount },
    pwr := { Power.reset with
      cause := cause, porst := s.pwr.porst, brown := s.pwr.brown, refclk := s.pwr.refclk, tripped := s.pwr.tripped,
      nodeId := s.pwr.nodeId, twinRole := s.pwr.twinRole, bootSel := s.pwr.bootSel, life := s.cask.lifeSaved } }

/-- Once nothing holds the device in reset any more, start-up runs from ROM boot. -/
def State.leaveReset (s : State) : State := if s.pwr.held then s else s.deviceReset s.pwr.cause

/-- PORST_N_ASSERT (R451): low for 10 µs; the cause is 4 after a thermal trip (R449). -/
def execPorstNAssert (t : Nat) (s : State) : Host.Outcome State Fault Refusal :=
  let s := s.land t
  let cause := if s.pwr.tripped then 4 else 0
  .next ((s.modPwr fun p => { p with porst := false, tripped := false }).deviceReset cause)

/-- PORST_N_RELEASE (R444, R452): the straps are sampled at the rising edge. -/
def execPorstNRelease (t nodeId twinRole bootSel : Nat) (s : State) : Host.Outcome State Fault Refusal :=
  let s := s.land t
  .next (
    if s.pwr.porst then s
    else
      (s.modPwr fun p =>
        { p with porst := true, nodeId := nodeId % 128, twinRole := twinRole % 2, bootSel := bootSel % 4 }).leaveReset)

/-- Table 18-7, R443: the brownout level of a rail in mV: 90 % of nominal, or 0.65 V for VDD_CORE. -/
def brownoutLevel : Nat → Nat
  | 0 => 2970 | 1 => 1620 | 2 => 1620 | 3 => 650 | 4 => 720 | 5 => 675 | 6 => 1080 | 7 => 1080 | 8 => 990
  | _ => 0

/-- BROWNOUT (R443): a rail below its level for 2 µs acts as PORST_N low, with cause 1. -/
def execBrownout (t rail mv : Nat) (s : State) : Host.Outcome State Fault Refusal :=
  let s := s.land t
  .next (
    if brownoutLevel rail ≤ mv then s
    else (s.modPwr fun p => { p with brown := rail :: p.brown.filter fun r => r != rail }).deviceReset 1)

/-- BROWNOUT_RECOVERY (R443): the rail recovers; the whole start-up sequence runs. -/
def execBrownoutRecovery (t rail mv : Nat) (s : State) : Host.Outcome State Fault Refusal :=
  let s := s.land t
  .next (
    if mv < brownoutLevel rail ∨ !s.pwr.brown.contains rail then s
    else (s.modPwr fun p => { p with brown := p.brown.filter fun r => r != rail }).leaveReset)

/-- REFCLK_SYS_LOSS (R447): the device is held in reset. No cause of R451 names it: PWR_RESET_CAUSE stays (log entry 54). -/
def execRefclkSysLoss (t : Nat) (s : State) : Host.Outcome State Fault Refusal :=
  let s := s.land t
  .next ((s.modPwr fun p => { p with refclk := false }).deviceReset s.pwr.cause)

/-- REFCLK_SYS_RETURN (R447). -/
def execRefclkSysReturn (t : Nat) (s : State) : Host.Outcome State Fault Refusal :=
  let s := s.land t
  .next (if s.pwr.refclk then s else (s.modPwr fun p => { p with refclk := true }).leaveReset)

/-- PWR_RESET (R451): the serial number requests a reset 10 ms after the response. -/
def pwrReset (v : Nat) (s : State) : Effect :=
  if v ≠ Config.serial then (s, .range)
  else (s.modPwr fun p => { p with resetAt := some (s.now + 10000000) }, .ok)

/-- PWR_RESET. -/
def execPwrReset (t : Nat) (who : Path) (v : Nat) (s : State) : Host.Outcome State Fault Refusal :=
  objectCommand t who Obj.pwrReset 0 (.num v) (pwrReset v) s

/-- PWR_RESET_DELAY (R451): the 10 ms have passed. -/
def execPwrResetDelay (t : Nat) (s : State) : Host.Outcome State Fault Refusal :=
  let s := s.land t
  .next (if s.pwr.resetAt.any (fun a => decide (a ≤ s.now)) then s.deviceReset 2 else s)

/-- MALTSTER_WATCHDOG (R451): a core's watchdog not serviced for 2 s. -/
def execMaltsterWatchdog (t core : Nat) (s : State) : Host.Outcome State Fault Refusal :=
  let s := s.land t
  .next (if core < 2 then s.deviceReset 3 else s)

/-! ### Sensors (R449) -/

/-- Twice the median of sixteen readings. -/
def median2 (rs : List Int) : Int :=
  let l := rs.mergeSort fun a b => decide (a ≤ b)
  l.getD 7 0 + l.getD 8 0

/-- R449: whether a reading excludes its sensor: outside −40 to 150 °C, or more than 15 °C from the median of all sixteen. -/
def sensorBad (rs : List Int) (r : Int) : Bool :=
  decide (r < -400) || decide (1500 < r) || decide (300 < (2 * r - median2 rs).natAbs)

/-- R449: sensors newly excluded are reported. -/
def State.exclude (s : State) (rs : List Int) : State :=
  (List.range 16).foldl (fun s k =>
    if s.pwr.excluded.contains k ∨ sensorBad rs (rs.getD k 0) = false then s
    else (s.modPwr fun p => { p with excluded := p.excluded ++ [k] }).report 0x700 .busErr 0 (3 * 256 + k)) s

/-- The highest reading of the sensors in service. -/
def State.hottest (s : State) (rs : List Int) : Int :=
  match (List.range 16).filter fun k => !s.pwr.excluded.contains k with
  | [] => s.pwr.tj
  | k :: ks => ks.foldl (fun m j => max m (rs.getD j 0)) (rs.getD k 0)

/-- Floor of the hundredth root of `n`, below 2^`bits`. -/
def root100 (n : Nat) : Nat → Nat → Nat
  | 0, acc => acc
  | b + 1, acc => root100 n b (if (acc + 2 ^ b) ^ 100 ≤ n then acc + 2 ^ b else acc)

/-- R450: af in units of 2^-32 at a Tj in 0.1 °C, rounded down. -/
def lifeFactor (tj : Int) : Nat :=
  let d := (tj - 950).toNat
  if d = 0 then 4294967296 else root100 (2 ^ 3200 * 22 ^ d / 10 ^ d) 40 0

/-- R450: equivalent life of `ns` at a Tj, in 2^-32 ms. -/
def lifeSpent (ns : Nat) (tj : Int) : Nat := ns * lifeFactor tj / 1000000

/-- R449: THERM_WARN sets at PWR_WARN_C and clears 3 °C below. -/
def State.thermWarn (s : State) : State :=
  let w : Int := 10 * s.valInt Obj.pwrWarnC
  if s.pwr.warn = false ∧ w ≤ s.pwr.tj then (s.modPwr fun p => { p with warn := true }).report 0x700 .thermWarn 0 0
  else if s.pwr.warn ∧ s.pwr.tj ≤ w - 30 then s.modPwr fun p => { p with warn := false }
  else s

/-- R449: THERM_CRIT at the third successive reading of 110 °C or more. -/
def State.thermCrit (s : State) : State :=
  let run := if 1100 ≤ s.pwr.tj then s.pwr.critRun + 1 else 0
  let s := s.modPwr fun p => { p with critRun := run }
  if run = 3 then s.report 0x700 .thermCrit 0 0 else s

/-- R449: the trip at 125 °C: hardware holds the device in reset until PORST_N is asserted. -/
def State.trip (s : State) : State := (s.modPwr fun p => { p with tripped := true }).deviceReset 4

/-- SENSOR_READ (R449, R450): every 1 ms; the sixteen readings in 0.1 °C. -/
def execSensorRead (t : Nat) (readings : List Int) (s : State) : Host.Outcome State Fault Refusal :=
  let s := s.land t
  .next (
    if s.now < s.pwr.lastSensor + 1000000 ∨ s.pwr.held then s
    else
      let s := s.exclude readings
      let tj := s.hottest readings
      let levels := (s.pwr.tjLevels.filter fun p : Nat × Int => decide (s.now ≤ p.1 + giga)) ++ [(s.now, tj)]
      let s := s.modPwr fun p =>
        { p with sensors := (List.range 16).map fun k => (k, readings.getD k 0), tj := tj, tjLevels := levels,
                 life := p.life + lifeSpent (s.now - p.lastSensor) tj, lastSensor := s.now }
      if 1250 ≤ tj then s.trip else s.thermWarn.thermCrit)

/-- PWR_TJ_MAX. -/
def Power.tjMax (p : Power) : Int := (p.tjLevels.map (·.2)).foldl max p.tj

/-- Equivalent life used, in whole hours (R450). -/
def Power.lifeHours (p : Power) : Nat := p.life / (4294967296 * 3600000)

/-- PWR_LIFE_PERMILLE (R450). -/
def Power.lifePermille (p : Power) : Nat := 1000 * p.life / (175200 * 4294967296 * 3600000)

/-- LIFE_SAVE (R450): once per hour. -/
def execLifeSave (t : Nat) (s : State) : Host.Outcome State Fault Refusal :=
  let s := s.land t
  .next (
    if s.now < s.pwr.lifeAt + 3600 * giga then s
    else
      { (s.modPwr fun p => { p with lifeAt := s.now }) with cask := { s.cask with lifeSaved := s.pwr.life } })

/-! ### AVS (R445, R446) -/

/-- R446: AVS stops until reset, with the last commanded voltage in force. -/
def State.avsStop (s : State) (why : Nat) : State :=
  ((s.modPwr fun p => { p with avsRuns := false, vt := p.vout }).report 0x700 .busErr 0 (why * 256)).count Obj.pwrAvsErrs

/-- Writes VOUT_COMMAND (R445). -/
def State.vout (s : State) (v : Nat) : State :=
  (s.modPwr fun p => { p with vout := v, avsAt := s.now, avsTickAt := s.now }).send (.pmbus "VOUT_COMMAND" v)

/-- AVS_RAMP_STEP (R445): one step of 5 mV each 1 ms up to the target; `acked`: the transaction went through. -/
def execAvsRampStep (t : Nat) (acked : Bool) (s : State) : Host.Outcome State Fault Refusal :=
  let s := s.land t
  let v := s.pwr.vout
  .next (
    if s.pwr.avsRuns = false ∨ v = s.pwr.vt ∨ s.now < s.pwr.avsAt + 1000000 then s
    else if acked = false then s.avsStop 1
    else s.vout (if v < s.pwr.vt then min (v + 5) s.pwr.vt else max (v - 5) s.pwr.vt))

/-- R445: the voltage after a check with least slack `m`, and the count of checks above 60 ps in a row (log entry 55). -/
def Power.avsCheck (p : Power) (m : Int) : Nat × Nat :=
  if m < 30 ∧ p.vt < 820 then (p.vt + 5, 0)
  else
    let good := if 60 < m then p.avsGood + 1 else 0
    if good < 10 then (p.vt, good)
    else if max 700 (Config.vfuse - 40) < p.vt then (p.vt - 5, 0) else (p.vt, 0)

/-- R446: READ_VOUT and READ_IOUT are read; a mismatch of more than 25 mV on 3 successive checks stops AVS. -/
def State.readBack (s : State) (mv da : Nat) : State :=
  let miss := if 25 < ((mv : Int) - s.pwr.vt).natAbs then s.pwr.avsMiss + 1 else 0
  let s := (s.put Obj.pwrVcoreReadMv 0 (mv : Nat)).put Obj.pwrIcore 0 (da : Nat)
  let s := s.modPwr fun p => { p with avsMiss := miss }
  if 3 ≤ miss then s.avsStop 2 else s

/-- AVS_TICK (R445, R446): the check of every 100 ms: the least slack of the path monitors in ps, whether the transactions
went through, and what was read back. -/
def execAvsTick (t : Nat) (slack : Int) (acked : Bool) (readMv readDa : Nat) (s : State) :
    Host.Outcome State Fault Refusal :=
  let s := s.land t
  .next (
    if s.pwr.avsRuns = false ∨ s.pwr.vout ≠ s.pwr.vt ∨ s.now < s.pwr.avsTickAt + 100000000 then s
    else if acked = false then s.avsStop 1
    else
      let r := s.pwr.avsCheck slack
      let s := s.modPwr fun p => { p with vt := r.1, avsGood := r.2, avsTickAt := s.now }
      let s := if s.pwr.vout = r.1 then s else s.vout r.1
      s.readBack readMv readDa)

end Sys2Proof.Machine
end

