-- ==== Sys2Proof/Machine/Links.lean ====
section
/-! DEFINITION. Ports: bring-up and faults (Table 12-4, R281 to R283), failover (R284), lane tests (R280), the
firmware's addresses, memberships and next hops (R289, R290), the management link (R297). -/
set_option Elab.async false
namespace Sys2Proof.Machine

/-! ### Lanes -/

/-- R276: whether lane `lane` belongs to enabled port `n`. -/
def State.laneOfPort (s : State) (n lane : Nat) : Bool :=
  s.portEnabled n && decide (n ≤ lane) && decide (lane < n + modeLanes (s.portMode n))

/-- The enabled port a lane belongs to. -/
def State.portOfLane (s : State) (lane : Nat) : Option Nat := (List.range 96).find? fun n => s.laneOfPort n lane

/-- R280: a lane test by the value written: 0 stops it, 1 sends and checks PRBS31, 2 does so in loopback. A test that
stops leaves the errors counted since it started. In SAFE, in which every lane sends only IDLE (R288), no test starts: STATE
(DESIGN CHOICE; log entry 92). -/
def prbs (lane v errors : Nat) (s : State) : Effect :=
  if (s.portOfLane lane).isSome then (s, .busyDeferred)
  else if v ≠ 0 ∧ s.cellar.safe then (s, .state)
  else
    let running := Table.get 0 s.links.prbs lane
    let s := { s with links := { s.links with prbs := Table.set 0 s.links.prbs lane v, prbsFrom := Table.set 0 s.links.prbsFrom lane s.now } }
    if v = 0 then (if running = 0 then s else s.count Obj.lnkLanePrbsErr lane errors, .ok)
    else (s.put Obj.lnkLanePrbsErr lane 0, .ok)

/-- R288: in SAFE every lane sends only IDLE: lane tests end, with the errors counted since they started. -/
def State.prbsStopAll (s : State) : State :=
  (s.links.prbs.foldl (fun s x =>
    s.count Obj.lnkLanePrbsErr x.1 (Config.prbsErrors x.1 (Table.get 0 s.links.prbsFrom x.1) s.now)) s
  |> fun s => { s with links := { s.links with prbs := [] } })

/-- R279: the taps and the swing that a lane's configuration gives. -/
def State.lanePreset (s : State) (lane : Nat) : LaneTaps :=
  let w := s.val Obj.lnkLaneCfg lane
  { pre := -(bits w 5 2 : Int), main := 64 - (bits w 5 2 : Int) - (bits w 10 6 : Int), post := -(bits w 10 6 : Int),
    swing := 600 + 25 * bits w 14 11 }

/-- R279: a lane's taps now: those that link training set, else those of its configuration. -/
def State.laneTaps (s : State) (lane : Nat) : LaneTaps := ((s.links.taps.find? fun x => x.1 == lane).map (·.2)).getD (s.lanePreset lane)

/-- R279: link training of port `n` sets the taps of its lanes, from the starting taps. -/
def State.laneTrain (s : State) (n : Nat) : State :=
  (List.range (modeLanes (s.portMode n))).foldl (fun s i =>
    let x := s.laneTaps (n + i)
    let r := Config.trainedTaps s.draws
    { s.drawn with links := { s.links with taps := Table.insert s.links.taps (n + i) { x with pre := r.1, main := r.2.1, post := r.2.2 } } }) s

/-- R279: the lanes of port `n` return to their starting taps. -/
def State.laneUntrain (s : State) (n : Nat) : State :=
  { s with links := { s.links with
      taps := s.links.taps.filter fun x => !(decide (n ≤ x.1) && decide (x.1 < n + modeLanes (s.portMode n))) } }

/-- PRBS_STOP (R280). -/
def execPrbsStop (t : Nat) (who : Path) (lane errors : Nat) (s : State) : Host.Outcome State Fault Refusal :=
  objectCommand t who Obj.lnkLanePrbs lane (.num 0) (prbs lane 0 errors) s

/-- PRBS_START (R280). -/
def execPrbsStart (t : Nat) (who : Path) (lane : Nat) (s : State) : Host.Outcome State Fault Refusal :=
  objectCommand t who Obj.lnkLanePrbs lane (.num 1) (prbs lane 1 0) s

/-- PRBS_LOOPBACK (R280). -/
def execPrbsLoopback (t : Nat) (who : Path) (lane : Nat) (s : State) : Host.Outcome State Fault Refusal :=
  objectCommand t who Obj.lnkLanePrbs lane (.num 2) (prbs lane 2 0) s

/-! ### The flow table's memberships (R289) -/

/-- Word `k` of a flow entry (Table 12-7). -/
def flowWord : Nat → Obj
  | 0 => Obj.lnkFlowW0 | 1 => Obj.lnkFlowW1 | 2 => Obj.lnkFlowW2 | 3 => Obj.lnkFlowW3 | 4 => Obj.lnkFlowW4
  | _ => Obj.lnkFlowW5

/-- Word `k` of row `r` of the flow table of a set. -/
def CanvasSet.flow (c : CanvasSet) (r k : Nat) : Nat := c.nat (flowWord k) r

/-- DST of an entry. -/
def CanvasSet.flowDst (c : CanvasSet) (r : Nat) : Nat :=
  if bit (c.flow r 0) 1 then c.flow r 2 * 2 ^ 64 + c.flow r 3 else bits (c.flow r 3) 31 0

/-- SRC of an entry. -/
def CanvasSet.flowSrc (c : CanvasSet) (r : Nat) : Nat :=
  if bit (c.flow r 0) 1 then c.flow r 4 * 2 ^ 64 + c.flow r 5 else bits (c.flow r 5) 31 0

/-- The enabled rows of the flow table. -/
def CanvasSet.flowRows (c : CanvasSet) : List Nat :=
  ((Store.rows c.objs Obj.lnkFlowW0).filter fun p => bit p.2.toNat 0).map (·.1)

/-- R289: the membership an entry asks for, on its own port: INCLUDE with its source, or EXCLUDE with none. -/
def CanvasSet.flowMember (c : CanvasSet) (r : Nat) : Option Membership :=
  let w := c.flow r 0
  if isMulticast (bit w 1) (c.flowDst r) ∧ bits w 22 16 < 96 then
    some { port := bits w 22 16, v6 := bit w 1, group := c.flowDst r,
           source := if bit w 2 then some (c.flowSrc r) else none }
  else none

/-- The memberships of a set's flow table, each reported on the entry's port, or on its failover port while that one
carries its traffic (R284). -/
def State.membersOf (s : State) (c : CanvasSet) : List Membership :=
  ((c.flowRows.filterMap c.flowMember).map fun m => { m with port := s.pathPort m.port }).eraseDups

/-- R289: the protocol a port reports memberships in: IGMPv3 or MLDv2, or an older version while an older querier counts as present
(RFC 3376, 7.2.1; RFC 3810, 8.2.1). -/
def State.groupProtocol (s : State) (n : Nat) (v6 : Bool) : String :=
  let p := s.port n
  if v6 then (if s.now < p.mld1Until then "MLDv1" else "MLDv2")
  else if s.now < p.igmp1Until then "IGMPv1"
  else if s.now < p.igmp2Until then "IGMPv2"
  else "IGMPv3"

/-- A membership report or leave on the wire: group, source, and 1 for a leave. An older protocol carries no source, and IGMPv1
has no leave. -/
def State.groupFrame (s : State) (m : Membership) (leave : Bool) : State :=
  let proto := s.groupProtocol m.port m.v6
  let sources := proto == "MLDv2" || proto == "IGMPv3"
  let src := if m.v6 then s.portLinkLocal m.port else s.portIpv4 m.port
  if leave ∧ proto = "IGMPv1" then s
  else s.sendOwn m.port proto
    [m.group, if sources then m.source.getD 0 else 0, ofBool (sources && m.source.isSome), ofBool leave] src (some (m.v6, m.group))

/-- R289: a report or a leave sent now and once more after the unsolicited report interval of 1 s (robustness 2). -/
def State.groupReport (s : State) (m : Membership) (leave : Bool) : State :=
  let s := s.groupFrame m leave
  let members := s.links.members.filter (· != m)
  { s with links := { s.links with
      members := if leave then members else members ++ [m],
      reports := (s.links.reports.filter fun r => r.member != m) ++
        [{ member := m, leave := leave, left := 1, due := s.now + giga }] } }

/-- R289: reports for groups `want` asks for and the device has not joined. -/
def State.joinGroups (s : State) (want : List Membership) : State :=
  (want.filter fun m => !s.links.members.contains m).foldl (fun s m => s.groupReport m false) s

/-- R289: leaves for joined groups that `want` does not ask for. -/
def State.leaveGroups (s : State) (want : List Membership) : State :=
  (s.links.members.filter fun m => !want.contains m).foldl (fun s m => s.groupReport m true) s

/-- The memberships the device needs now: of the bright table, and from SCHEDULED on of the green table. -/
def State.wantedGroups (s : State) : List Membership :=
  let bright := s.membersOf s.sets.bright
  if s.sets.rack.state = .scheduled then bright ++ (s.membersOf s.sets.green).filter fun m => !bright.contains m else bright

/-- R284, R289: memberships follow the ports that carry them. -/
def State.moveGroups (s : State) : State :=
  let want := s.wantedGroups
  (s.joinGroups want).leaveGroups want

/-- UNSOLICITED_REPORT_INTERVAL (R289): reports whose interval has passed are repeated. -/
def execUnsolicitedReportInterval (t : Nat) (s : State) : Host.Outcome State Fault Refusal :=
  let s := s.land t
  let due := s.links.reports.filter fun r => decide (r.due ≤ s.now)
  let s := { s with links := { s.links with reports := s.links.reports.filter fun r => decide (s.now < r.due) } }
  .next (due.foldl (fun s r => s.groupFrame r.member r.leave) s)

/-! ### Addresses (R289) -/

/-- R289: the port announces its addresses: a gratuitous ARP, and duplicate address detection for each IPv6 address,
none of which is used until it ends. -/
def State.announce (s : State) (n : Nat) : State :=
  let s := if s.portIpv4 n = 0 then s else s.sendOwn n "ARP" [1, s.portMac n, s.portIpv4 n, s.portIpv4 n] (s.portIpv4 n)
  if s.portLinkLocal n = 0 then s
  else
    let s := s.sendOwn n "DAD" [s.portLinkLocal n] 0
    let s := if s.portIpv6 n = 0 then s else s.sendOwn n "DAD" [s.portIpv6 n] 0
    (s.setPort n { s.port n with dadFrom := some s.now, inUse := 0 }).put Obj.lnkPortDad n 0

/-- DAD_TIMER_EXPIRY (R289): detection ends after 1 s without a conflicting reply; the addresses not found duplicate come
into use. -/
def execDadTimerExpiry (t port : Nat) (s : State) : Host.Outcome State Fault Refusal :=
  let s := s.land t
  match (s.port port).dadFrom with
  | none => .next s
  | some f =>
    if s.now < f + giga then .next s
    else
      let dup := s.val Obj.lnkPortDad port
      let global := decide (s.portIpv6 port ≠ 0) && !bit dup 1
      .next (s.setPort port
        { s.port port with dadFrom := none, inUse := ofBool (!bit dup 0) + 2 * ofBool global })

/-- R289: an address turns out to be a duplicate: it is not used, and the Brew Log records it. -/
def State.dadDuplicate (s : State) (n : Nat) (global : Bool) : State :=
  let b := ofBool global
  let p := s.port n
  let s := s.setPort n { p with inUse := setBit p.inUse b false }
  (s.put Obj.lnkPortDad n (setBit (s.val Obj.lnkPortDad n) b true : Nat)).brewRec (0x100 + n) 0x082 (b * 256 + n)

/-- The IPv6 addresses a port uses: those whose detection ended. -/
def State.ipv6InUse (s : State) (n : Nat) : List Nat :=
  let p := s.port n
  (if bit p.inUse 0 then [s.portLinkLocal n] else []) ++ (if bit p.inUse 1 then [s.portIpv6 n] else [])

/-! ### Next hops (R290) -/

/-- The next hops that a set's enabled taps need: each unicast path's, on its port and on that port's failover port. -/
def State.hopsNeeded (s : State) (c : CanvasSet) : List (Nat × Nat) :=
  ((Store.rows c.objs Obj.tapW0).filter fun p => bit p.2.toNat 0).flatMap fun r =>
    let p := r.1
    (c.tapPaths p ++ (if c.tapMon p then [2] else [])).flatMap fun path =>
      let dst := c.tapDest p path
      if isMulticast (c.tapV6 p) dst then []
      else
        let n := c.tapPort p path
        let q := s.portFailover n
        ((if q < 96 then [n, q] else [n]).filterMap fun n => (s.nextHop n (c.tapV6 p) dst).map fun h => (n, h))

/-- One resolution of a next hop with the replies (port, address, MAC) that arrived: a reply sets it; without one, a
resolved hop is kept through 3 failures. -/
def State.resolveHop (s : State) (replies : List (Nat × Nat × Nat)) (n h : Nat) : State :=
  let rest := s.links.hops.filter fun x => !(x.port == n && x.addr == h)
  let set (hops : List Hop) (s : State) : State := { s with links := { s.links with hops := hops } }
  if s.portUp n = false then s
  else
    let v6 := decide (2 ^ 32 ≤ h)
    let s := s.sendOwn n "RESOLVE" [h] (if v6 then s.portLinkLocal n else s.portIpv4 n)
    match replies.find? fun x => x.1 == n && x.2.1 == h with
    | some x => set (rest ++ [{ port := n, addr := h, mac := x.2.2, fails := 0 }]) s
    | none =>
      match s.links.hops.find? fun x => x.port == n && x.addr == h with
      | none => s
      | some x => set (if x.fails < 3 then rest ++ [{ x with fails := x.fails + 1 }] else rest) s

/-- NEXT_HOP_RESOLVE (R290): resolution runs when a port reached UP, when a rack entered SCHEDULED, and every
LNK_RESOLVE_S seconds. -/
def execNextHopResolve (t : Nat) (replies : List (Nat × Nat × Nat)) (s : State) : Host.Outcome State Fault Refusal :=
  let s := s.land t
  if s.links.resolveDue = false ∧ s.now < s.links.resolvedAt + giga * s.val Obj.lnkResolveS then .next s
  else
    let green := if s.sets.rack.state = .scheduled then s.hopsNeeded s.sets.green else []
    let need := (s.hopsNeeded s.sets.bright ++ green).eraseDups
    let s := need.foldl (fun s x => s.resolveHop replies x.1 x.2) s
    .next { s with links := { s.links with resolvedAt := s.now, resolveDue := false } }

/-- Next hops are due at once. -/
def State.resolveSoon (s : State) : State := { s with links := { s.links with resolveDue := true } }

/-! ### Port states -/

/-- Table 12-4, R281: a port starts from DISABLED by its medium and mode; a copper port of MODE 1 to 6 sends its base page. -/
def State.portStart (s : State) (n : Nat) : State :=
  if s.portEnabled n = false then s.setPort n { s.port n with state := .disabled, since := s.now }
  else
    let copper := bit (s.portWord n 0) 6
    let state : PortState := if copper = false then .align else if s.portMode n = 0 then .training else .an
    let s := (s.laneUntrain n).setPort n { s.port n with state := state, since := s.now }
    if state = .an then s.send (.basePage n (s.portMode n) (s.portMode n == 1 && bits (s.portWord n 0) 5 4 == 1) false) else s

/-- R282: LANE_DOWN of port `n`. -/
def State.laneDown (s : State) (n cause lane : Nat) (inj : Bool) : State :=
  s.reportAs inj (0x100 + n) .laneDown (faultAddr s.ctime.frame n) (cause * 256 + lane)

/-- Table 12-4: a port goes DOWN with a cause. From UP or HOLD it reports (R282), and its traffic fails over (R284); from
AN, TRAINING or ALIGN it reports once per run of failures. -/
def State.portDown (s : State) (n cause lane : Nat) (inj : Bool := false) : State :=
  let p := s.port n
  let s := s.setPort n { p with state := .down, cause := cause, since := s.now, reported := true }
  if p.state = .up then
    (((s.count Obj.lnkPortDowns n).laneDown n cause lane inj).rehome n).moveGroups
  else if p.state = .hold ∨ p.reported = false then s.laneDown n cause lane inj
  else s

/-- A command on a port in one state; in another state the event cannot occur and nothing changes. -/
def portEvent (t port : Nat) (st : PortState) (f : State → State) (s : State) : Host.Outcome State Fault Refusal :=
  let s := s.land t
  .next (if port < 96 ∧ (s.port port).state = st then f s else s)

/-- AN_COMPLETE (R281): the exchange ends with the abilities the partner advertises, bit m that of MODE m, or with none within the
standard's timers. It runs on the port's first lane. -/
def execAnComplete (t port : Nat) (partner : Option Nat) (s : State) : Host.Outcome State Fault Refusal :=
  portEvent t port .an (fun s =>
    if partner.any fun a => bit a (s.portMode port) then s.setPort port { s.port port with state := .training, since := s.now }
    else s.portDown port 4 port) s

/-- TRAINING_DONE (R279, R281): link training ends; `failed`: the first lane of the port that failed. -/
def execTrainingDone (t port : Nat) (failed : Option Nat) (s : State) : Host.Outcome State Fault Refusal :=
  portEvent t port .training (fun s =>
    match failed with
    | none => (s.laneTrain port).setPort port { (s.laneTrain port).port port with state := .align, since := s.now }
    | some lane => s.portDown port 5 lane) s

/-- ALIGN_LOCK (Table 12-4). -/
def execAlignLock (t port : Nat) (s : State) : Host.Outcome State Fault Refusal :=
  portEvent t port .align (fun s => s.setPort port { s.port port with state := .hold, since := s.now }) s

/-- ALIGN_TIMEOUT (Table 12-4): 500 ms in ALIGN; what failed, and its first lane (R282). A port whose lanes miss their SREFP clock stays in
ALIGN until it returns (R447). -/
def execAlignTimeout (t port : Nat) (why : AlignFailure) (s : State) : Host.Outcome State Fault Refusal :=
  portEvent t port .align (fun s =>
    if s.now < (s.port port).since + 500000000 ∨ why.noClock then s else s.portDown port (if why.deskewOnly then 3 else 2) why.lane) s

/-- Table 12-4: a port reaches UP: LINK_UP, failback of its paths and memberships (R284), announcements (R289), next hops
(R290). -/
def State.portUpNow (s : State) (n : Nat) : State :=
  let s := s.setPort n { s.port n with state := .up, since := s.now, reported := false, fecAt := s.now }
  let s := (s.brewRec (0x100 + n) 0x080 n).announce n
  let q := s.portFailover n
  ((if q < 96 then s.rehome q else s).moveGroups).resolveSoon

/-- HOLD_EXPIRY (Table 12-4): no fault for LNK_UP_HOLD_MS. -/
def execHoldExpiry (t port : Nat) (s : State) : Host.Outcome State Fault Refusal :=
  portEvent t port .hold (fun s =>
    if s.now < (s.port port).since + 1000000 * s.val Obj.lnkUpHoldMs then s else s.portUpNow port) s

/-- PORT_FAULT (R282, Table 12-5): a port-down cause in HOLD or UP. -/
def execPortFault (t port cause lane : Nat) (s : State) : Host.Outcome State Fault Refusal :=
  let s := s.land t
  let st := (s.port port).state
  .next (if port < 96 ∧ (st = .up ∨ st = .hold) then s.portDown port cause lane else s)

/-- PORT_RETRY (Table 12-4): LNK_RETRY_MS in DOWN; the Brew Log records the retry (R282). -/
def execPortRetry (t port : Nat) (s : State) : Host.Outcome State Fault Refusal :=
  portEvent t port .down (fun s =>
    if (s.port port).heldDown ∨ s.now < (s.port port).since + 1000000 * s.val Obj.lnkRetryMs then s
    else (s.brewRec (0x100 + port) 0x081 ((s.port port).cause * 256 + port)).portStart port) s

/-- FEC_WINDOW (R283): the end of a window of 1 s. -/
def execFecWindow (t port corrected received uncorrectable : Nat) (s : State) : Host.Outcome State Fault Refusal :=
  let s := s.land t
  let p := s.port port
  .next (
    if 96 ≤ port ∨ p.state ≠ .up ∨ bits (s.portWord port 0) 5 4 = 0 ∨ s.now < p.fecAt + giga then s
    else
      let s := s.setPort port { p with fecAt := s.now }
      let s := (s.count Obj.lnkPortFecCorr port corrected).count Obj.lnkPortFecUncorr port uncorrectable
      let s := if 0 < received ∧ received ≤ corrected * 10 ^ s.val Obj.lnkFecDegrade then
                 s.report (0x100 + port) .eccCorr 0 0 else s
      if uncorrectable = 0 then s else s.report (0x100 + port) .eccUncorr 0 (min uncorrectable 65535))

/-- MANAGEMENT_LINK_CHANGE (R297): the RGMII link's speed code; a link that comes up announces its addresses. -/
def execManagementLinkChange (t speed : Nat) (s : State) : Host.Outcome State Fault Refusal :=
  let s := s.land t
  let was := s.val Obj.lnkMgLink
  let s := s.put Obj.lnkMgLink 0 (speed % 4 : Nat)
  let s := { s with links := { s.links with mgEvent := true } }
  .next (if was = 0 ∧ speed % 4 ≠ 0 then s.announce 96 else s)

end Sys2Proof.Machine
end

