-- ==== Sys2Proof/Machine/TunCore.lean ====
section
/-! DEFINITION. A Tun's tasks, attention, self-test and states (R139, R155, R156, R158, R162), and the capacity of the Tun
Array (R168, R177, R179). -/
set_option Elab.async false
namespace Sys2Proof.Machine

/-- R151: a patch bank by number. -/
def State.bankNamed (s : State) (k : Nat) : PatchBank := if k = 0 then s.tuns.bank0 else s.tuns.bank1

/-- A gated Tun. -/
def Tun.idle : Tun :=
  { state := .gated, cur := 0, stack := [], lc := [], regs := [], task := none, attn := [], yieldAt := 0, stopped := false,
    readyAt := 0, bistFrom := none, bistWhy := 0, bistHeld := false, bistPending := false, bistResult := 0, bistPhase := 0,
    bistEnd := 0, lastPass := none, outq := none, kegWait := none, cond := [], sram := [], handling := none, bistStage := 0,
    context := { version := 0, effort := 0, chroma := 0, map := 0 } }

/-- R162, phase 3: the CRC-32 of the ROM's steps and grains, which TUN_ROM_CRC holds. -/
def romCrc : Nat :=
  crcReflected 0xEDB88320 ((List.range 32768).flatMap (fun a => bytesBE 3 (Config.romStep a)) ++
    (List.range 4096).flatMap fun a => bytesBE 28 (Config.romGrain a))

/-- A Tun. -/
def State.tun (s : State) (t : Nat) : Tun := Table.get Tun.idle s.tuns.tuns t

/-- Replaces a Tun. -/
def State.setTun (s : State) (t : Nat) (x : Tun) : State :=
  { s with tuns := { s.tuns with tuns := Table.set Tun.idle s.tuns.tuns t x } }

/-- R178: a Tun is no longer marked for rotation. -/
def State.unmark (s : State) (t : Nat) : State := { s with dsp := { s.dsp with rotating := s.dsp.rotating.filter (· != t) } }

/-- R168: Na of the bright set. -/
def State.na (s : State) : Nat := 64 - s.bright Obj.dspSpares

/-- R168: Nd of the bright set. -/
def State.nd (s : State) : Nat := s.bright Obj.dspDecodeTuns

/-- R177: A: Tuns in READY, ENCODE or DECODE that are not marked for rotation. -/
def State.tunsActive (s : State) : Nat :=
  ((List.range 64).filter fun t =>
    let x := (s.tun t).state
    (x == .ready || x == .encode || x == .decode) && !s.dsp.rotating.contains t).length

/-- Posts an attention event (R155). -/
def State.attend (s : State) (t : Nat) (ev : Attn) : State :=
  let x := s.tun t
  if x.attn.contains ev then s else s.setTun t { x with attn := x.attn ++ [ev] }

/-- R179: whether a Tun is in SELFTEST for rotation or by request. -/
def Tun.yieldsToNeed (x : Tun) : Bool := x.state == .selftest && (x.bistWhy == 1 || x.bistWhy == 2)

/-- R179: the Tun to recall: of those in SELFTEST for rotation or by request, the one that started last; none while a recalled
Tun is still on its way back. -/
def State.recallable (s : State) : Option Nat :=
  let testing := (List.range 64).filter fun t => (s.tun t).yieldsToNeed
  if testing.any fun t => (s.tun t).attn.contains .recall then none
  else testing.foldl (fun best t =>
    match best with
    | none => some t
    | some b => if (s.tun b).bistFrom.getD 0 ≤ (s.tun t).bistFrom.getD 0 then some t else some b) none

/-- R177, R179: what a change of A does, from the end of the start-up BIST step on: SPARES_EXHAUSTED and CAPACITY_LOW as A
falls below Na + 1 and Na and on recovery; a Tun in self-test is recalled while A is below Na. -/
def State.capacity (s : State) : State :=
  if s.pwr.phase < 3 then s
  else
    let a := s.tunsActive
    let spare := decide (a < s.na + 1)
    let low := decide (a < s.na)
    let s := if spare = s.dsp.sparesExhausted then s else s.brewRec 0x340 0x040 (if spare then a else 0)
    let s := if low = s.dsp.capacityLow then s else s.brewRec 0x340 0x041 (if low then a else 0)
    let s := { s with dsp := { s.dsp with sparesExhausted := spare, capacityLow := low } }
    match (if low then s.recallable else none) with
    | some t => s.attend t .recall
    | none => s

/-- R139: the sequencer's registers and the condition groups cleared, at step `cur`. -/
def Tun.clear (x : Tun) (cur now : Nat) : Tun :=
  { x with cur := cur, stack := [], lc := [], regs := [], cond := [], handling := none, yieldAt := now, stopped := false }

/-- Table 6-14: BIST phases that have begun, less 1, so long after the start. -/
def bistStageAt (elapsed : Nat) : Nat :=
  (([12, 14, 15, 39] : List Nat).filter fun ms => decide (ms * 1000000 ≤ elapsed)).length

/-- R139, R162: a Tun in BIST whose next phase has begun is cleared; the known-answer recipes of phase 4 start at 0x0400. -/
def Tun.atPhase (x : Tun) (now : Nat) : Tun :=
  match x.bistFrom with
  | none => x
  | some b =>
    let n := bistStageAt (now - b)
    if n ≤ x.bistStage then x else { x.clear (if n = 3 then 0x0400 else x.cur) now with bistStage := n }

/-- R162: a Tun begins BIST, `why` as in `Tun.bistWhy`; a FAILED or RETIRED Tun keeps its state (Table 6-11). -/
def State.beginBist (s : State) (t why : Nat) : State :=
  let x := s.tun t
  let held := x.state == .failed || x.state == .retired
  (s.setTun t { x.clear 0x0400 s.now with state := if held then x.state else .selftest, bistHeld := held,
                                           bistFrom := some s.now, bistWhy := why, bistStage := 0, task := none, attn := [], outq := none,
                                           kegWait := none }).capacity

/-- A Tun without a task is READY, or enters the rotation for which it is marked (R178), or acts on the force of R397. -/
def State.tunFree (s : State) (t : Nat) : State :=
  let x := s.tun t
  let s := s.setTun t { x with state := .ready, readyAt := s.now, cur := 0, stack := [] }
  if s.forced 1 t then (((s.reportAs true (0x300 + t) .eccUncorr 0 0).count Obj.tunFaults t).forceActed).beginBist t 3
  else if s.dsp.rotating.contains t then s.beginBist t 1
  else s.capacity

/-- R260: the items of a WPP access unit below the first one that Tun `t` held: they read what it published. -/
def DecAu.readersOf (a : DecAu) (t : Nat) : List DecItem :=
  match a.items.find? fun i => i.tun == some t with
  | some i => if a.wpp then a.items.filter fun j => decide (i.number < j.number) && (j.done || j.tun.isSome) else []
  | none => []

/-- A decode work item whose Tun dropped it waits again (R161); in WPP so do the items that read what it published, and the Tuns that
decode them discard theirs (R260). -/
def State.releaseItem (s : State) (t : Nat) : State :=
  let running := s.dec.flatMap fun p => p.2.aus.flatMap fun a => (a.readersOf t).filterMap (·.tun)
  let au (a : DecAu) : DecAu :=
    let below := (a.readersOf t).map (·.number)
    { a with items := a.items.map fun i =>
        if below.contains i.number then { i with tun := none, progress := 0, done := false, lost := [], zeroed := [] }
        else if i.tun = some t then { i with tun := none, progress := 0, zeroed := [] } else i }
  let s := { s with dec := Table.mapRows DecStream.idle s.dec fun _ (d : DecStream) => { d with aus := d.aus.map au } }
  running.foldl (fun s u => s.attend u .respare) s

/-- R155: a Tun acknowledges an attention event to its sender, as its action completes. -/
def State.acknowledge (s : State) (t : Nat) (ev : Attn) : State :=
  let x := s.tun t
  if x.attn.contains ev then
    (s.setTun t { x with attn := x.attn.filter (· != ev) }).send
      (.acknowledged t (match ev with | .abort => 0 | .respare => 1 | .context => 2 | .recall => 3))
  else s

/-- R155, R156: an ABORT or RESPARE has no effect beyond the END of its task. -/
def State.abortsDone (s : State) (t : Nat) : State := (s.acknowledge t .abort).acknowledge t .respare

/-- R168: whether a decode task's ticket is current: its work item is assigned to the Tun. -/
def State.itemHeld (s : State) (t : Nat) (k : Task) : Bool :=
  (Table.get DecStream.idle s.dec k.s).aus.any fun a => a.pic.number == k.frame &&
    a.items.any fun i => i.number == k.y && i.tun == some t

/-- R156: the staged output of a Tun's task is discarded: its Keg handles and staging lines are free, its lane unbound. -/
def State.discardTask (s : State) (t : Nat) : State :=
  let x := s.tun t
  match x.task with
  | none => s
  | some k =>
    let s := ((s.kegFreeAll 0 k.kegs).unbind k.ticket).unstage k.ticket
    let s := { s with dsp := { s.dsp with commits := s.dsp.commits.filter fun c => c.tun != t } }
    (((s.setTun t { x with task := none, outq := none, kegWait := none }).abortsDone t).count Obj.tunDiscards t).releaseItem t

/-- ABORT or RESPARE taken, or a refused commit: discard and END (Table 6-11). A draining Tun enters SELFTEST. -/
def State.endDiscard (s : State) (t : Nat) : State :=
  let draining := (s.tun t).state == .draining
  let s := s.discardTask t
  if draining then s.beginBist t 3 else s.tunFree t

/-- A READY Tun starts a task at its entry point (R146, Table 6-11). -/
def State.startTask (s : State) (t : Nat) (k : Task) : State :=
  let x := s.tun t
  s.setTun t { x.clear (if k.isDecode then 0x0300 else 0x0200) s.now with
    state := if k.isDecode then .decode else .encode, task := some k }

/-- R168: the READY Tun, not marked for rotation, that has been READY longest; the lowest number on a tie. -/
def State.readyTun (s : State) : Option Nat :=
  ((List.range 64).filter fun t => (s.tun t).state == .ready && !s.dsp.rotating.contains t).foldl (fun best t =>
    match best with
    | none => some t
    | some b => if (s.tun t).readyAt < (s.tun b).readyAt then some t else some b) none

/-- R159, R230: a task is poisoned. -/
def State.poisonTask (s : State) (t : Nat) : State :=
  let x := s.tun t
  s.setTun t { x with task := x.task.map fun k => { k with poisoned := true } }

/-- Table 6-11: a poisoning fault of Tun `t`: the task drains, so that A falls (R177), or a READY Tun enters SELFTEST. -/
def State.tunFault (s : State) (t : Nat) : State :=
  let x := s.tun t
  match x.task with
  | some _ =>
    let s := s.poisonTask t
    let x := s.tun t
    (s.setTun t { x with state := if x.state = .encode ∨ x.state = .decode then .draining else x.state }).capacity
  | none => if x.state = .ready then s.beginBist t 3 else s

/-- The reaction RETIRE: the Tun stops and its clocks are gated (Table 6-11). -/
def State.retireTun (s : State) (t : Nat) : State :=
  let s := s.discardTask t
  let x := s.tun t
  let s := s.unmark t
  (s.setTun t { x with state := .retired, bistFrom := none, attn := [], stopped := false }).capacity

end Sys2Proof.Machine
end

