-- ==== Sys2Proof/Machine/Segments.lean ====
section
/-! DEFINITION. The Dispatcher: pictures and segments (R128, R164, R165, R190), readiness and assignment (R166 to R168),
acceptance of commits (R156, R198, R201), respare (R171, R172), the late rule (R173 to R175), rotation (R178), effort
(R180 to R183). -/
set_option Elab.async false
namespace Sys2Proof.Machine

/-! ### Pictures -/

/-- The picture of a serial number: frame numbers repeat after a backward step (R78). -/
def State.picture (s : State) (pic : Nat) : Option Picture := s.dsp.pictures.find? fun p => p.pic == pic

/-- Replaces a picture. -/
def State.setPicture (s : State) (p : Picture) : State :=
  { s with dsp := { s.dsp with pictures := s.dsp.pictures.map fun q => if q.pic = p.pic then p else q } }

/-- s and y of a segment as one number. -/
def segKey (seg y : Nat) : Nat := seg * 65536 + y

/-- R131: a stream that pauses resumes with a GDR picture, by its serial number. -/
def StreamState.resume (x : StreamState) (pic : Nat) : StreamState :=
  if x.paused then { x with paused := false, before := x.changePic == pic && x.before, changePic := pic } else x

/-- A set or a raster whose last frame lies 65,536 frames back is kept no longer (log entry 78). -/
def State.dropOld (s : State) (f : Nat) : State :=
  let far (g : Nat) : Bool := decide (65536 ≤ sub32 f g) && decide (sub32 f g < 2147483648)
  { s with sets := { s.sets with old := s.sets.old.filter fun p => !far p.1 },
           tbs := { s.tbs with prior := s.tbs.prior.filter fun p => !far p.frame } }

/-- R128, R190: the picture of frame `f` begins, at the sample point of its first row. Its Rake index and period, N, effort
bank, slot and references, and the sweeps of each entry (R138, R334); a coding start begins the count, and no picture before
it is a reference; a period start ends pauses, missing sweeps and inexactness; nudges move on;
single-reference coding ends at the second period start after a retirement (R347). -/
def State.startPicture (s : State) (f index : Nat) : State :=
  let c := s.setFor f
  let start := !s.coding.started
  let (k, p, first) := s.rake.next start (c.nat Obj.rakPeriod)
  let n := if start then 0 else s.coding.nextN
  let s := { s with coding := { s.coding with started := true, nextN := n + 1, nextPic := s.coding.nextPic + 1,
                                              firstPic := if start then s.coding.nextPic else s.coding.firstPic } }
  let s := { s with rake := { s.rake with k := k, p := p } }
  let s := if first then
      let s := { s with rake := { s.rake with periodStart := f, noSweep := [], inexact := [] } }
      let s := { s with coding := { s.coding with
        streams := Table.mapRows StreamState.none s.coding.streams fun _ (x : StreamState) => x.resume (s.coding.nextPic - 1) } }
      if s.mem.srm then
        { s with mem := { s.mem with srmStarts := s.mem.srmStarts + 1, srm := decide (s.mem.srmStarts + 1 < 2) } }
      else s
    else s
  let s := (s.rake.nudges.map (·.1)).foldl (fun s e => s.nudgePicture f p e) s
  let columns : Table (List Nat) := c.entries.foldl (fun t e =>
    Table.set [] t e.s ((List.range e.w).filter fun dx => s.refreshColumn e k p dx)) []
  let sweeps : Table (List (Nat × Nat)) := c.entries.foldl (fun t e => Table.set [] t e.s (s.sweepsOf e k p)) []
  let serial := s.coding.nextPic - 1
  let slot := s.slotFor serial
  let pic : Picture :=
    { pic := serial, frame := f, index := index, n := n, k := k, p := p, gdr := first, effort := s.dsp.effort, bank := s.tuns.inUse,
      version := s.sets.rack.count, slot := slot, refs := s.refList serial, sweeps := sweeps,
      columns := columns, total := c.segmentCount, committed := [], used := [], spent := [] }
  let old := s.dsp.pictures.zipIdx.filterMap fun q => if q.2 = 0 ∨ q.1.committed.length < q.1.total then some q.1 else none
  let s := (s.setRecon slot { Recon.empty with pic := some serial }).dropOld f
  { s with dsp := { s.dsp with pictures := pic :: old } }

/-- The refresh columns of an entry in a picture. -/
def Picture.refreshes (p : Picture) (seg dx : Nat) : Bool := (Table.get [] p.columns seg).contains dx

/-- R164, R165: the segments of row `y` of the picture of frame `f` enter at their sample line, in ascending X0, with their booked
cycles, 64 line boundaries before their deadline. -/
def State.rowSampled (s : State) (f y : Nat) : State :=
  let c := s.setFor f
  let p := s.dsp.pictures.find? fun p => p.frame == f
  let refreshes (seg dx : Nat) : Bool := p.any fun p => p.refreshes seg dx
  let segs : List SegRec := (c.rowEntries y).map fun e =>
    { pic := (p.map (·.pic)).getD 0, s := e.s, y := y, frame := f, x0 := e.x0, w := e.w, booked := c.bookedCycles e (refreshes e.s) y, failed := false, late := false, composed := false, fallback := false, respared := false, count := 64,
      sinceFallback := 0, poisons := 0, ticket := none, tun := 0, si := true, anom := 0 }
  { s with dsp := { s.dsp with segs := s.dsp.segs ++ segs } }

/-- Rewrites the record of a segment. -/
def State.modSeg (s : State) (g : SegRec) (f : SegRec → SegRec) : State :=
  { s with dsp := { s.dsp with segs := s.dsp.segs.map fun q => if q.pic = g.pic ∧ q.s = g.s ∧ q.y = g.y then f q else q } }

/-- The first segment (seg, y) that satisfies `p`: of the oldest picture first. -/
def State.findSeg (s : State) (seg y : Nat) (p : SegRec → Bool) : Option SegRec :=
  s.dsp.segs.find? fun g => g.s == seg && g.y == y && p g

/-- R165: a line boundary counts down every deadline, and counts the lines of a fallback. -/
def State.segBoundary (s : State) : State :=
  { s with dsp := { s.dsp with segs := s.dsp.segs.map fun g =>
    { g with count := g.count - 1, sinceFallback := if g.fallback then g.sinceFallback + 1 else 0 } } }

/-! ### Readiness and assignment -/

/-- R166, condition 2. -/
def State.aboveDone (s : State) (g : SegRec) : Bool :=
  decide (g.y = ((s.setFor g.frame).entry g.s).y0) ||
    (match s.picture g.pic with
     | some p => p.committed.contains (segKey g.s (g.y - 1))
     | none => false)

/-- R166, condition 3: the rows of the previous picture that the segment may reference have committed. -/
def State.referencesDone (s : State) (g : SegRec) : Bool :=
  match s.picture g.pic with
  | none => false
  | some p =>
    if p.n = 0 then true
    else
      let e := (s.setFor g.frame).entry g.s
      let last := min (g.y + 4) (e.y0 + e.h - 1)
      match s.dsp.pictures.find? fun q => q.pic + 1 == p.pic with
      | none => true
      | some q =>
        decide (q.committed.length = q.total) ||
          ((s.setFor q.frame).entries.all fun a =>
            ((List.range a.h).map (a.y0 + ·)).all fun y => decide (last < y) || q.committed.contains (segKey a.s y))

/-- R166: whether a segment without a ticket is ready; a fallback segment needs condition 4 only (R174). -/
def State.segReady (s : State) (g : SegRec) : Bool :=
  g.ticket.isNone && !s.inGap && !s.cellar.safe && (g.fallback || (g.composed && s.aboveDone g && s.referencesDone g))

/-- R167: whether segment `a` comes before `b` in the order of ready segments; among respared segments the one placed at the
head last stands first in the list. -/
def SegRec.before (a b : SegRec) : Bool :=
  let cls (g : SegRec) : Nat := if g.fallback then 0 else if g.respared then 1 else 2
  if cls a ≠ cls b then decide (cls a < cls b)
  else if cls a = 1 then false
  else if a.count ≠ b.count then decide (a.count < b.count)
  else if a.x0 ≠ b.x0 then decide (a.x0 < b.x0)
  else decide (a.s < b.s)

/-- R167: the first ready segment. -/
def State.firstReady (s : State) : Option SegRec :=
  (s.dsp.segs.filter s.segReady).foldl (fun best g =>
    match best with
    | none => some g
    | some b => if g.before b then some g else some b) none

/-- Encode tickets in use (DSP_ACTIVE_NOW). -/
def State.encodeTickets (s : State) : Nat := (s.dsp.segs.filter fun g => g.ticket.isSome).length

/-- R168, R177: encode tickets the Dispatcher may hold. -/
def State.encodeLimit (s : State) : Nat := min s.na s.tunsActive - s.nd

/-- CTU columns of an entry among some. -/
def Entry.columnsAmong (e : Entry) (l : List Nat) : List Nat := l.filter fun cx => decide (e.x0 ≤ cx) && decide (cx < e.x0 + e.w)

/-- R31: the CTU columns of an entry whose Floor Map words frame `f` cannot use: those that cannot be read now, and those that a
read for the same frame found so, because the rewritten word is used from the next frame. -/
def State.badColumns (s : State) (e : Entry) (f y : Nat) (unreadable : List Nat) : List Nat :=
  e.columnsAmong (unreadable ++ ((s.dsp.badWords.filter fun (w : Nat × Nat) => w.1 == f && w.2 / 2048 == y).map fun (w : Nat × Nat) => w.2 % 2048)).eraseDups

/-- R31: bright Floor Map words that cannot be read for frame `f` are reported, and stay unread for that frame. -/
def State.mapUnreadable (s : State) (f y : Nat) (bad : List Nat) : State :=
  let kept := s.dsp.badWords.filter fun (w : Nat × Nat) => s.dsp.pictures.any (·.frame == w.1)
  bad.foldl (fun s cx => s.report 0x280 .eccUncorr (y * 2048 + cx) 0)
    { s with dsp := { s.dsp with badWords := (kept ++ bad.map fun cx => (f, y * 2048 + cx)).eraseDups } }

/-- R198, R200: avail and later of a segment as it is assigned. -/
def State.gravityOf (s : State) (g : SegRec) (p : Picture) : Int × Nat × Bool :=
  let c := s.setFor g.frame
  let e := c.entry g.s
  let used := Table.get 0 p.used g.s
  (c.capBits g.s - used, c.later e (p.refreshes g.s) g.y, p.spent.contains g.s)

/-- R138, R156: the assignment record of segment `g`, and what the record and the memories hold for it. `bad`: CTU columns whose
Floor Map words cannot be read (R31). -/
def State.encodeTask (s : State) (g : SegRec) (p : Picture) (bad : List Nat) : Task :=
  let c := s.setFor g.frame
  let e := c.entry g.s
  let input := s.segInput c e g.y p (c.segmentWords e g.y bad) (s.bankNamed p.bank).digest (s.gravityOf g p) g.fallback
  { isDecode := false, pic := g.pic, s := g.s, y := g.y, frame := g.frame, ticket := s.dsp.nextTicket, bank := p.bank, effort := p.effort,
    version := p.version, k := p.k, p := p.p, sweeps := Table.get [] p.sweeps g.s, input := input, poisoned := false, kegs := [],
    ctus := e.w, startedAt := s.now, staged := 0, sent := 0 }

/-- SEGMENT_ASSIGN (R167, R168, R226): the first ready segment goes to a READY Tun with a ticket, an assignment record and
a Taster context. `unreadable`: CTU columns of the row whose bright Floor Map words are uncorrectable (R31). -/
def execSegmentAssign (t : Nat) (unreadable : List Nat) (s : State) : Host.Outcome State Fault Refusal :=
  let s := s.land t
  match s.firstReady, s.readyTun with
  | some g, some u =>
    if s.encodeTickets < s.encodeLimit then
      match s.picture g.pic with
      | none => .next s
      | some p =>
        let bad := s.badColumns ((s.setFor g.frame).entry g.s) g.frame g.y unreadable
        let s := s.mapUnreadable g.frame g.y bad
        let k := s.encodeTask g p bad
        let s := { s with dsp := { s.dsp with nextTicket := k.ticket + 1 } }
        let s := s.startTask u k
        let s := s.modSeg g fun q =>
          { q with ticket := some k.ticket, tun := u, respared := false, anom := q.anom ||| ofBool (!bad.isEmpty) }
        match s.chooseLane g.frame g.s g.y with
        | some n => .next (s.bindLane n k.ticket)
        | none => .next s
    else .next s
  | _, _ => .next s

/-! ### Acceptance -/

/-- Whether no segment of frame `f` waits to be committed. -/
def State.frameDone (s : State) (f : Nat) : Bool :=
  s.dsp.pictures.all fun p => p.frame != f || p.committed.length == p.total

/-- R46, R153: the last segment of frame `f` committed: the reseeding copy of a rack to the next frame begins, and a patch
switch to the next frame is over. -/
def State.frameFinished (s : State) (f : Nat) : State :=
  let s := if s.sets.rack.state = .reseeding ∧ sub32 s.sets.rack.frame 1 = f then
      { s with sets := { s.sets with rack := { s.sets.rack with copying := true } } }
    else s
  if s.tuns.switchTail = some f then { s with tuns := { s.tuns with switchTail := none } } else s

/-- R128: every segment of a picture has committed: the values that report the last committed picture change, and the sweeps
whose last picture it was end. -/
def State.pictureCommitted (s : State) (p : Picture) : State :=
  let c := s.setFor p.frame
  let s := { s with coding := { s.coding with lastN := p.n }, rake := { s.rake with kCommitted := p.k } }
  let s := s.put Obj.cspPicCount 0 p.n
  let s := c.entries.foldl (fun s e =>
    let s := s.put Obj.rakSubClean e.s (sweepEdge e.w p.p (p.k + 1) : Nat)
    if e.fill then s
    else
      let used := Table.get 0 p.used e.s
      let cap := c.capBits e.s
      let s := s.put Obj.grvLastBits e.s used
      if cap ≤ 0 then s
      else
        let seen := lastSecond s.now (Table.get [] s.dsp.peaks e.s) ++ [(s.now, 1000 * used / cap.toNat)]
        { s with dsp := { s.dsp with peaks := Table.set [] s.dsp.peaks e.s seen } }) s
  ((s.rake.nudges.map (·.1)).foldl (fun s e => s.nudgeCommitted p.frame e) s).frameFinished p.frame

/-- R141, R156: a segment's reconstruction and metadata become visible in the slot of its picture. -/
def State.commitRecon (s : State) (g : SegRec) (p : Picture) (k : Task) (forms : List CtuForm) : State :=
  let c := s.setFor g.frame
  s.setRecon p.slot ((s.recon p.slot).commit c (c.entry g.s) g.y k.input forms)

/-- R212: the hashes that the commit of a segment completes: of its entry's picture, of the canvas picture. -/
def State.commitHashes (s : State) (g : SegRec) (p : Picture) : State :=
  let e := (s.setFor g.frame).entry g.s
  let s := if (p.committed.filter fun q => q / 65536 == g.s).length = e.h then s.keepHash g.s g.frame p.pic p.slot else s
  if p.committed.length = p.total then s.keepHash 4096 g.frame p.pic p.slot else s

/-- R156, R198, R201, R203, R210: the Dispatcher accepts a commit record: the segment is committed, Gravity charges it, a
fallback's unrefreshed CTUs are counted, its reconstruction is visible, the Assembler receives it, the Tun ends its task. `tasted`: slice bits that the
lane decoded (R231). -/
def State.acceptCommit (s : State) (g : SegRec) (r : CommitRec) (k : Task) (tasted : Nat) : State :=
  let c := s.setFor g.frame
  let e := c.entry g.s
  match s.picture g.pic with
  | none => s
  | some p =>
    let size := 8 * r.slice.length
    let newly := r.spent && !p.spent.contains g.s && !e.fill
    let p' := { p with committed := p.committed ++ [segKey g.s g.y],
                       used := if e.fill then p.used else Table.modify 0 p.used g.s (· + size),
                       spent := if newly then p.spent ++ [g.s] else p.spent }
    let s := s.setPicture p'
    let s := { s with dsp := { s.dsp with
      segs := s.dsp.segs.filter fun q => !(q.pic == g.pic && q.s == g.s && q.y == g.y),
      commits := s.dsp.commits.filter fun q => q.tun != r.tun,
      slacks := lastSecond s.now s.dsp.slacks ++ [(s.now, g.count)] } }
    let s := if newly then
        ((s.report 0x350 .gravitySpent (faultAddr g.frame g.y) g.s).count Obj.grvSpentTotal).count Obj.grvSubSpent g.s
      else s
    let s := (s.count Obj.grvTrims 0 r.trims).count Obj.grvTrimFloor 0 r.floors
    let s := if g.fallback then s.rakeMissed e g.frame (Table.get [] p.columns g.s).length else s
    let s := (s.count Obj.asmTastedBits 0 tasted).count Obj.asmUntastedBits 0 (size - tasted)
    let s := { s with asm := { s.asm with tasted := s.asm.tasted + tasted, untasted := s.asm.untasted + (size - tasted) } }
    let a : AccSeg :=
      { pic := g.pic, s := g.s, y := g.y, frame := g.frame, index := p.index, n := p.n, gdr := p.gdr, p := p.p, slice := r.slice, si := g.si,
        fb := g.fallback, kegs := k.kegs, anom := g.anom, ecc := 0, digest := [], holdUntil := none, released := false,
        subSent := (c.streamTap g.s).isNone, canvasSent := (c.streamTap 4096).isNone }
    let s := (s.commitRecon g p k r.forms).commitHashes g p'
    let s := { s with asm := { s.asm with accepted := s.asm.accepted ++ [a] } }
    let s := (s.unbind k.ticket).unstage k.ticket
    let s := (s.setTun r.tun { s.tun r.tun with task := none, outq := none, kegWait := none }).abortsDone r.tun
    let s := ((s.count Obj.tunSegments r.tun).count Obj.tunCtus r.tun k.ctus).tunFree r.tun
    if p'.committed.length = p'.total then s.pictureCommitted p' else s

/-! ### Respare and the late rule -/

/-- R175: the segment whose encode ticket has the latest deadline. -/
def State.latestTicket (s : State) : Option SegRec :=
  (s.dsp.segs.filter fun g => g.ticket.isSome).foldl (fun (best : Option SegRec) g =>
    match best with
    | none => some g
    | some b => if b.count < g.count then some g else some b) none

/-- R175: `n` fallback segments lack a READY Tun: as many encode tickets are revoked, the latest deadlines first, and their tasks
aborted; the aborted segments keep their deadlines. -/
def State.preempt : Nat → State → State
  | 0, s => s
  | n + 1, s =>
    match s.latestTicket with
    | some g => State.preempt n ((s.modSeg g fun q => { q with ticket := none }).attend g.tun .abort)
    | none => s

/-- READY Tuns that are not marked for rotation. -/
def State.readyCount (s : State) : Nat :=
  ((List.range 64).filter fun t => (s.tun t).state == .ready && !s.dsp.rotating.contains t).length

/-- R175: `n` fallback segments become ready. -/
def State.fallbacksReady (s : State) (n : Nat) : State := State.preempt (n - s.readyCount) s

/-- Fallback segments that are ready. -/
def State.readyFallbacks (s : State) : Nat := (s.dsp.segs.filter fun g => g.fallback && s.segReady g).length

/-- R172, R174: a segment becomes a fallback segment, its report apart: its CTUs are booked at 384 cycles. It is ready at once,
outside a gap and SAFE. -/
def State.becomeFallback (s : State) (g : SegRec) : State :=
  let s := s.modSeg g fun q =>
    { q with ticket := none, fallback := true, respared := false, sinceFallback := 0, booked := 384 * q.w }
  (s.count Obj.dspSegsFallback).fallbacksReady (ofBool (!s.inGap && !s.cellar.safe))

/-- R172, R174: a segment becomes a fallback segment, with DEADLINE_MISS and its code. -/
def State.makeFallback (s : State) (g : SegRec) (code : Nat) (inj : Bool) : State :=
  (s.reportAs inj 0x340 .deadlineMiss (faultAddr g.frame g.y) (code * 4096 + g.s)).becomeFallback g

/-- R175: a fallback segment failed: DEADLINE_MISS with code 3, whose floor is SAFE. -/
def State.fallbackFailed (s : State) (g : SegRec) : State :=
  (s.modSeg g fun q => { q with ticket := none, failed := true }).report 0x340 .deadlineMiss (faultAddr g.frame g.y)
    (3 * 4096 + g.s)

/-- R171, R172: the Dispatcher's answer to a poisoned task with a current ticket. -/
def State.segPoisoned (s : State) (g : SegRec) (u : Nat) : State :=
  if g.fallback then (s.fallbackFailed g).attend u .respare
  else if (s.setFor g.frame).nat Obj.dspRespareMax ≤ g.poisons + 1 then
    ((s.modSeg g fun q => { q with poisons := q.poisons + 1 }).attend u .abort).makeFallback g 2 false
  else
    let g' := { g with ticket := none, respared := true, poisons := g.poisons + 1 }
    let rest := s.dsp.segs.filter fun q => !(q.pic == g.pic && q.s == g.s && q.y == g.y)
    ({ s with dsp := { s.dsp with segs := g' :: rest } }.count Obj.dspRespares).attend u .respare

/-- R171: the Dispatcher revokes the ticket of Tun `t`'s poisoned task, if it is current (R169): the segment is respared, the work
item run again (R161). -/
def State.taskPoisoned (s : State) (t : Nat) : State :=
  match (s.tun t).task with
  | none => s
  | some k =>
    if k.isDecode then (if s.itemHeld t k then (s.releaseItem t).attend t .respare else s)
    else
      match s.dsp.segs.find? fun g => g.ticket == some k.ticket with
      | some g => s.segPoisoned g t
      | none => s

/-- R156, R171: the Dispatcher decides on a commit record: it accepts it when its ticket is current and its task is not
poisoned. Of a poisoned one it revokes the ticket, if it has not done so. -/
def State.decideCommit (s : State) (r : CommitRec) (tasted : Nat) : State :=
  match (s.tun r.tun).task with
  | none => s
  | some k =>
    if k.poisoned then (s.taskPoisoned r.tun).endDiscard r.tun
    else
      match s.dsp.segs.find? fun g => g.ticket == some r.ticket with
      | some g => if k.ticket = r.ticket then s.acceptCommit g r k tasted else s.endDiscard r.tun
      | none => s.endDiscard r.tun

/-- Table 6-11, R389: the reaction RETIRE stops a Tun; it cancels no respare: the task it held is respared. -/
def State.retireReaction (s : State) (t : Nat) : State := (s.taskPoisoned t).retireTun t

/-- POISON_REPORT (R171): the fault of Tun `tun`'s task reaches the Dispatcher. -/
def execPoisonReport (t tun : Nat) (s : State) : Host.Outcome State Fault Refusal :=
  let s := s.land t
  .next (if (s.tun tun).task.any (·.poisoned) then s.taskPoisoned tun else s)

/-- R174: what happens at a segment's hard limit. -/
def State.hardLimit (s : State) (g : SegRec) (inj : Bool) : State :=
  let s := if g.ticket.isSome then s.attend g.tun .abort else s
  s.makeFallback g 1 inj

/-- SEGMENT_DEADLINE (R173): a segment reaches its deadline without having committed. A force of R397 treats it as at its
hard limit. -/
def execSegmentDeadline (t seg y : Nat) (s : State) : Host.Outcome State Fault Refusal :=
  let s := s.land t
  match s.findSeg seg y fun g => decide (g.count ≤ 0) && !g.late with
  | none => .next s
  | some g =>
    let s := ((s.modSeg g fun q => { q with late := true }).report 0x340 .segmentLate (faultAddr g.frame y) seg).count Obj.dspSegsLate
    if s.forced 5 0 ∧ !g.fallback then .next ((s.hardLimit g true).forceActed) else .next s

/-- SEGMENT_HARD_LIMIT (R174): DSP_LATE_LINES line boundaries after its deadline. -/
def execSegmentHardLimit (t seg y : Nat) (s : State) : Host.Outcome State Fault Refusal :=
  let s := s.land t
  match s.findSeg seg y fun g =>
      g.late && !g.fallback && decide (g.count ≤ -((s.setFor g.frame).nat Obj.dspLateLines : Int)) with
  | none => .next s
  | some g => .next (s.hardLimit g false)

/-- FALLBACK_TIMEOUT (R175): 32 line boundaries after a segment became a fallback. -/
def execFallbackTimeout (t seg y : Nat) (s : State) : Host.Outcome State Fault Refusal :=
  let s := s.land t
  match s.findSeg seg y fun g => g.fallback && !g.failed && decide (32 ≤ g.sinceFallback) with
  | none => .next s
  | some g => .next ((if g.ticket.isSome then s.attend g.tun .abort else s).fallbackFailed g)

/-- Table 7-3, SAFE entered: every ticket is revoked. -/
def State.revokeAll (s : State) : State :=
  let s := (List.range 64).foldl (fun s t => if (s.tun t).task.isSome then s.attend t .abort else s) s
  { s with dsp := { s.dsp with segs := s.dsp.segs.map fun g => { g with ticket := none } } }

/-! ### Rotation -/

/-- R178: the Tun that a rotation instant chooses: the one skipped at the instant before, where it is still in service; a queued
request; else the next in order. -/
def State.rotateChoice (s : State) : Nat :=
  let out (t : Nat) : Bool := (s.tun t).state == .failed || (s.tun t).state == .retired
  match s.dsp.retryTun.filter fun t => !out t, (List.range 64).find? fun t => (s.tun t).bistPending with
  | some t, _ => t
  | none, some t => t
  | none, none => (((List.range 64).map fun i => (s.dsp.lastRotated + 1 + i) % 64).find? fun t => !out t).getD 0

/-- TUN_ROTATE (R178): a rotation instant. -/
def execTunRotate (t : Nat) (s : State) : Host.Outcome State Fault Refusal :=
  let s := s.land t
  .next (
    match s.dsp.rotateAt with
    | none => s
    | some f =>
      if s.calTurn (rotateEntry f) = false ∨ s.val Obj.dspRotateS = 0 then s
      else
        let s := s.calTicked
        let u := s.rotateChoice
        let s := { s with dsp := { s.dsp with rotatedAt := f } }.armRotation
        if s.na + 1 ≤ s.tunsActive then
          let s := { s with dsp := { s.dsp with rotating := u :: s.dsp.rotating.filter (· != u), lastRotated := u,
                                                retryTun := none } }
          if (s.tun u).state = .ready ∨ (s.tun u).state = .failed ∨ (s.tun u).state = .retired then s.beginBist u 1
          else s.capacity
        else
          { s with dsp := { s.dsp with retryTun := some u } }.brewRec 0x340 0x042 u)

/-! ### Effort -/

/-- The effort the device asks for: the lower of the governor's level and the cap (codes rise as effort falls). -/
def State.effortWanted (s : State) : Nat := max s.dsp.govState s.dsp.effortCap

/-- The effort that will be in force once every pending change has taken effect. -/
def State.effortAhead (s : State) : Nat := (s.dsp.effortPending.getLast?.map (·.level)).getD s.dsp.effort

/-- R181, R182: schedules a change to `level`, at frame F = Fr + D; pending changes of frame F or later are withdrawn. -/
def State.scheduleEffort (s : State) (level : Nat) : State :=
  let lead := s.val Obj.dspEffortLead
  let f := add32 s.ctime.frame (if s.twinMode then max lead 4 else lead)
  let kept := s.dsp.effortPending.filter fun x => frameEarlier x.frame f
  let change : EffortChange := { level := level, frame := f, agreed := !s.twinMode }
  let s := { s with dsp := { s.dsp with effortPending := kept ++ [change], effortHeld := false } }
  if s.twinMode then s.propose 2 0 f level (zeros 48) (zeros 8) else s

/-- R181: a request: a lowering is scheduled at once, a raise once no change is pending. -/
def State.requestEffort (s : State) : State :=
  let want := s.effortWanted
  let ahead := s.effortAhead
  if ahead < want then s.scheduleEffort want
  else if want < ahead then
    if s.dsp.effortPending.isEmpty then s.scheduleEffort want
    else { s with dsp := { s.dsp with effortHeld := true } }
  else { s with dsp := { s.dsp with effortHeld := false } }

/-- R181: no change is pending any more: a raise that was held is scheduled. -/
def State.effortSettled (s : State) : State :=
  if s.dsp.effortPending.isEmpty ∧ s.dsp.effortHeld then
    if s.effortWanted < s.dsp.effort then s.scheduleEffort s.effortWanted
    else { s with dsp := { s.dsp with effortHeld := false } }
  else s

/-- DSP_EFFORT_CAP (R183). -/
def dspEffortCap (v : Nat) (s : State) : Effect :=
  if 2 < v then (s, .range) else ({ s with dsp := { s.dsp with effortCap := v } }.requestEffort, .ok)

/-- DSP_EFFORT_CAP (R183). -/
def execDspEffortCap (t : Nat) (who : Path) (v : Nat) (s : State) : Host.Outcome State Fault Refusal :=
  objectCommand t who Obj.dspEffortCap 0 (.num v) (dspEffortCap v) s

/-- EFFORT_CHANGE (R181): at ⟨F−1:32·Hb⟩ an agreed change takes effect for frame F; CONTEXT goes to every Tun that is not
GATED, FAILED or RETIRED. -/
def execEffortChange (t : Nat) (s : State) : Host.Outcome State Fault Refusal :=
  let s := s.land t
  .next (
    match s.dsp.effortPending with
    | [] => s
    | x :: rest =>
      if x.agreed ∧ s.calTurn (s.effortEntry x) then
        let s := s.calTicked
        let s := { s with dsp := { s.dsp with effort := x.level, effortPending := rest, effortFrame := x.frame } }
        let s := (s.count Obj.dspEffortChanges).brewRec 0x340 0x043 (x.level * 2 ^ 32 + x.frame)
        ((List.range 64).foldl (fun s t =>
          let u := (s.tun t).state
          if u = .gated ∨ u = .failed ∨ u = .retired then s else s.attend t .context) s).effortSettled
      else s)

/-- EFFORT_AGREE_TIMEOUT (R182): not agreed before ⟨F−2:0⟩: proposed again for a frame computed afresh. -/
def execEffortAgreeTimeout (t : Nat) (s : State) : Host.Outcome State Fault Refusal :=
  let s := s.land t
  .next (
    match s.dsp.effortPending.find? fun x => !x.agreed && s.reached { frame := sub32 x.frame 2, line := 0 } with
    | none => s
    | some x =>
      { s with dsp := { s.dsp with effortPending := s.dsp.effortPending.filter fun q => q != x } }.scheduleEffort x.level)

/-- R180, Table 7-5: the governor's move at temperature `tj` in 0.1 °C; `cool`: since when Tj has allowed a raise. -/
def governorMove (st lean minimal hyst : Int) (tj : Int) : Option Nat :=
  if st = 0 then (if minimal * 10 ≤ tj then some 2 else if lean * 10 ≤ tj then some 1 else none)
  else if st = 1 then (if minimal * 10 ≤ tj then some 2 else if tj ≤ (lean - hyst) * 10 then some 0 else none)
  else if tj ≤ (minimal - hyst) * 10 then some 1 else none

/-- GOVERNOR_TICK (R180): every 1 ms. A raise waits until Tj has allowed it for DSP_THERM_HOLD_S without a break. -/
def execGovernorTick (t : Nat) (s : State) : Host.Outcome State Fault Refusal :=
  let s := s.land t
  let st := s.dsp.govState
  let move := governorMove st (s.valInt Obj.dspThermLeanC) (s.valInt Obj.dspThermMinC) (s.val Obj.dspThermHystC) s.pwr.tj
  .next (
    match move with
    | none => { s with dsp := { s.dsp with govCoolFrom := none } }
    | some new =>
      if st < new then { s with dsp := { s.dsp with govState := new, govCoolFrom := none } }.requestEffort
      else
        let from_ := s.dsp.govCoolFrom.getD s.now
        if from_ + s.val Obj.dspThermHoldS * giga ≤ s.now then
          { s with dsp := { s.dsp with govState := new, govCoolFrom := none } }.requestEffort
        else { s with dsp := { s.dsp with govCoolFrom := some from_ } })

end Sys2Proof.Machine
end

