-- ==== Sys2Proof/Machine/DecodeStreams.lean ====
section
/-! DEFINITION. Contribution decode and Fining (R254 to R273): reception, access units, work items, completion, the dirty
map, and the choice of a picture for a canvas frame; the sequence merge of R91 and the frame formula of R93. -/
set_option Elab.async false
namespace Sys2Proof.Machine

/-! ### Sequences and frames of a source -/

/-- What the merge of R91 makes of a number. -/
inductive SeqVerdict where
  | accept | duplicate | old
  deriving DecidableEq, Repr

/-- R91: the window of `window` numbers, 4,096 where paths are merged, up to the highest one accepted; `ahead a b` is how far `a` lies
before `b`, 0 when it does not. -/
def mergeSeq (window : Nat) (ahead : Nat → Nat → Nat) (top : Option Nat) (accepted : List Nat) (n : Nat) : SeqVerdict × Option Nat × List Nat :=
  match top with
  | none => (.accept, some n, [n])
  | some t =>
    let up := ahead t n
    if up ≠ 0 then (.accept, some n, (accepted.filter fun a => decide (ahead a n < window)) ++ [n])
    else if window ≤ ahead n t ∨ (ahead n t = 0 ∧ n ≠ t) then (.old, top, accepted)
    else if accepted.contains n then (.duplicate, top, accepted)
    else (.accept, top, accepted ++ [n])

/-- Distance on 32-bit serial numbers. A number exactly 2^31 away counts as older: R91 does not say (DESIGN CHOICE; log entry 83). -/
def ahead32 (a b : Nat) : Nat := let d := sub32 b a; if d < 2147483648 then d else 0

/-- R93: the source frame that canvas frame `n` uses. -/
def sourceFrame (c : CanvasSet) (num den delay n : Nat) : Int :=
  ((n * c.nat Obj.flrRateDen * num * giga : Nat) - (delay * c.nat Obj.flrRateNum * num : Nat) : Int) /
    (c.nat Obj.flrRateNum * den * giga : Nat)

/-- R93: the RTP timestamp of source frame `m`. -/
def sourceTs (num den : Nat) (m : Int) : Nat := unsigned 32 (m * (den * 90000 : Nat) / num)

/-! ### Stream entries, Table 11-1 -/

/-- Word 0 of a decode stream. -/
def CanvasSet.dec0 (c : CanvasSet) (d : Nat) : Nat := c.nat Obj.finStrW0 d

/-- Word 1 of a decode stream. -/
def CanvasSet.dec1 (c : CanvasSet) (d : Nat) : Nat := c.nat Obj.finStrW1 d

/-- Whether a stream is enabled. -/
def CanvasSet.decEn (c : CanvasSet) (d : Nat) : Bool := decide (d < 32) && bit (c.dec0 d) 0

/-- Picture rate and delay of a stream. -/
def CanvasSet.decRate (c : CanvasSet) (d : Nat) : Nat × Nat × Nat :=
  (bits (c.dec1 d) 15 0, bits (c.dec1 d) 31 16, bits (c.dec1 d) 57 32)

/-- R259: the area a stream reserves, in bytes. -/
def CanvasSet.decNeed (c : CanvasSet) (d : Nat) : Nat :=
  let w := c.dec0 d
  let wa := 64 * ceilDiv (bits w 16 4 + 1 + 128) 64
  let ha := 64 * ceilDiv (bits w 29 17 + 1 + 128) 64
  let sub := if bits w 3 2 = 0 then 4 else if bits w 3 2 = 1 then 2 else 1
  let pic := 2 * wa * ha + 4 * wa * ha / sub
  (bits w 44 40 + 2) * pic + bits w 60 53 * 1048576

/-- A decode stream. -/
def State.decStream (s : State) (d : Nat) : DecStream := Table.get DecStream.idle s.dec d

/-- Replaces a decode stream. -/
def State.setDec (s : State) (d : Nat) (x : DecStream) : State := { s with dec := Table.set DecStream.idle s.dec d x }

/-- The NAL units of a FIN_STR_SPROP value (R258). -/
def spropUnits : Nat → Bytes → List Bytes
  | 0, _ => []
  | fuel + 1, b =>
    if b.length < 2 then []
    else slice b 2 (fieldBE b 0 2) :: spropUnits fuel (b.drop (2 + fieldBE b 0 2))

/-- R258: the parameter sets of FIN_STR_SPROP of a set. -/
def CanvasSet.sprop (c : CanvasSet) (d : Nat) : List Bytes :=
  let b := (Store.read c.objs Obj.finStrSprop d).toBytes
  spropUnits b.length b

/-- A stream enters WAIT_RAP: pending work is gone, FIN_STR_SPROP is queued; the last good output picture stays. -/
def DecStream.waitRap (x : DecStream) (sets : List Bytes) : DecStream :=
  { x with state := 1, aus := [], fragment := none, dropping := false, auTs := none, auNals := [], sets := sets, recovery := none,
           concealed := [], skipRasl := false, used := none, usedFrame := none }

/-! ### Faults -/

/-- R265: an error class of a picture of stream `d`. -/
def State.decFault (s : State) (d cls : Nat) (poc : Int) : State :=
  s.report 0x3D0 (if cls = 4 then .refMissing else .syntaxErr) (faultAddr s.ctime.frame (unsigned 16 poc)) (cls * 256 + d)

/-! ### Access units -/

/-- The type of a NAL unit: H.266's or H.265's header. -/
def unitType (hevc : Bool) (b : Bytes) : Nat := if hevc then bits (fieldBE b 0 1) 6 1 else bits (fieldBE b 1 1) 7 3

/-- Whether a NAL unit is a parameter set. -/
def isParamSet (hevc : Bool) (b : Bytes) : Bool :=
  let t := unitType hevc b
  if hevc then t == 32 || t == 33 || t == 34 else t == 14 || t == 15 || t == 16

/-- Black of a component in the coded depth (R264, R267). -/
def decBlack (depth8 : Bool) (comp : Nat) : Nat := (if comp = 0 then 64 else 512) / (if depth8 then 4 else 1)

/-- A sample of a decoded picture in its coded depth. -/
def DecPic.sample (p : DecPic) (comp x y : Nat) : Nat := Table.get (decBlack p.depth8 comp) (p.planes.comp comp) (y * 65536 + x)

/-- R268: the last good output picture, or the last one. -/
def DecStream.good (x : DecStream) : Option DecPic := x.lastGood.or x.lastOut

/-- The picture of a coded video sequence that a reference names by its POC. -/
def DecStream.refPic (x : DecStream) (epoch : Nat) (poc : Int) : Option DecPic :=
  x.pics.find? fun q => q.epoch == epoch && q.poc == poc

/-- Cells across a picture of coded width `w`. -/
def cellsOf (w : Nat) : Nat := ceilDiv w 32

/-- R268: the substitute for a missing reference: a copy of the last good output picture, or black, every cell CONCEALED and every block
intra. -/
def DecStream.substitute (x : DecStream) (epoch : Nat) (info : Config.AuInfo) (poc : Int) : DecPic :=
  let n := cellsOf info.width * cellsOf info.height
  let depth8 := match x.good with | some p => p.depth8 | none => info.depth8
  { number := x.nextPic, epoch := epoch, ts := 0, poc := poc, w := info.width, h := info.height, cropL := info.cropL,
    cropT := info.cropT, chroma := info.chroma, depth8 := depth8, rgb := info.rgb, cells := (List.range n).map fun k => (k, 2),
    planes := match x.good with | some p => p.planes | none => { y := [], cb := [], cr := [] }, motion := [], substitute := true }

/-- R270: the recovery point awaited once an access unit starts, and the GDR picture, by number, whose recovery point the unit
itself is. An IRAP picture or a new sequence ends the wait. -/
def DecStream.recoveryAt (x : DecStream) (fresh : Bool) (info : Config.AuInfo) : Option (Nat × Int) × Option Nat :=
  let awaited := if info.rap = 2 then info.recovery.map fun p => (x.nextPic, p)
    else if fresh ∨ info.rap = 1 then none else x.recovery
  match awaited with
  | some (g, p) => if p = info.poc then (none, some g) else (awaited, none)
  | none => (none, none)

/-- R260, R261, R268: an access unit enters decoding; references of its coded video sequence that are neither held nor in decode are
substituted. A sequence begins with the first picture after WAIT_RAP. `own`: bytes of its NAL units. -/
def State.startAu (s : State) (d ts own : Nat) (nals : List Bytes) (info : Config.AuInfo) : State :=
  let x := s.decStream d
  let c := s.sets.bright
  let fresh := info.begins || x.state == 1
  let epoch := if fresh then x.epoch + 1 else x.epoch
  let known (p : Int) : Bool := (x.refPic epoch p).isSome || (x.aus.any fun a => a.pic.epoch == epoch && a.pic.poc == p)
  let absent := info.refs.filter fun p => !known p
  let (awaited, recovers) := x.recoveryAt fresh info
  let pic : DecPic :=
    { number := x.nextPic, epoch := epoch, ts := ts, poc := info.poc, w := info.width, h := info.height, cropL := info.cropL,
      cropT := info.cropT, chroma := info.chroma, depth8 := info.depth8, rgb := info.rgb, cells := [],
      planes := { y := [], cb := [], cr := [] }, motion := [], substitute := false }
  let au : DecAu :=
    { nals := nals, bytes := own, pic := pic, rap := info.rap, recovers := recovers, refs := info.refs, held := info.held,
      wpp := info.wpp, motion := if bit (c.dec0 d) 45 then (if bit (c.dec0 d) 1 then 2 else 1) else 0,
      log2 := bits info.ptl 19 17 + 4, badUnits := info.badUnits,
      items := info.items.mapIdx fun i q =>
        { number := i, units := q.units, ctus := q.ctus, tun := none, progress := 0, done := false, lost := [], zeroed := [] } }
  let s := s.setDec d { x with
    state := 2, epoch := epoch, skipRasl := if info.rap = 1 then fresh else x.skipRasl, recovery := awaited, held := info.held,
    anchor := if info.anchor then info.poc else x.anchor, pics := x.pics ++ absent.map (x.substitute epoch info),
    aus := x.aus ++ [au], nextPic := x.nextPic + 1, ptl := info.ptl }
  let s := s.count Obj.finSyntaxErrs d info.badUnits
  if absent.isEmpty then s else (s.count Obj.finRefsMissing d absent.length).decFault d 4 info.poc

/-- R254: whether the word of FIN_STR_PTL lies within Table 0-1: VVC Main 10 or Main 10 4:4:4 to level 6.2, HEVC Main, Main 10 or
Main 4:2:2 10 to level 6.1, with their CTU sizes. The idc values of profiles and levels are PRESUMED (H.266, H.265; log
entry 84). -/
def ptlWithin (ptl : Nat) : Bool :=
  let profile := bits ptl 7 0
  let level := bits ptl 15 8
  let log2 := bits ptl 19 17 + 4
  if bit ptl 16 then (profile == 1 || profile == 2 || profile == 4) && decide (level ≤ 183) && decide (log2 ≤ 6)
  else (profile == 1 || profile == 33) && decide (level ≤ 102) && decide (5 ≤ log2) && decide (log2 ≤ 7)

/-- Class 6 of Table 11-3: profile, level, tier, layers, size, chroma format, field coding or DPB outside R254, R255 or R259. -/
def CanvasSet.formatBad (c : CanvasSet) (d : Nat) (info : Config.AuInfo) : Bool :=
  let w := c.dec0 d
  !ptlWithin info.ptl || bit info.ptl 16 != bit w 1 || info.tier != 0 || info.layered || info.field || info.chroma != bits w 3 2 ||
    (bit w 1 && info.chroma == 2) || info.outW != bits w 16 4 + 1 || info.outH != bits w 29 17 + 1 ||
    decide (64 * ceilDiv (bits w 16 4 + 1 + 128) 64 < info.width) || decide (64 * ceilDiv (bits w 29 17 + 1 + 128) 64 < info.height) ||
    decide (bits w 44 40 < info.dpb)

/-- R265: the class of an access unit that is not decoded (5 or 6), or 0. -/
def CanvasSet.unitClass (c : CanvasSet) (d : Nat) (info : Config.AuInfo) : Nat :=
  if info.cls = 5 then 5 else if info.cls = 6 ∨ c.formatBad d info then 6 else 0

/-- R257, R265, R272: an access unit of stream `d` is complete. -/
def State.auEnd (s : State) (d : Nat) : State :=
  let x := s.decStream d
  let nals := x.auNals
  let ts := x.auTs.getD 0
  let x := { x with auNals := [], auTs := none }
  let s := s.setDec d x
  if nals.isEmpty ∨ x.state = 0 then s
  else
    let c := s.sets.bright
    let hevc := bit (c.dec0 d) 1
    let unit := x.sets ++ nals
    let sets := x.sets ++ nals.filter (isParamSet hevc)
    let size := (nals.map List.length).sum
    let held := (x.aus.map (·.bytes)).sum
    let s := s.setDec d { x with sets := sets }
    let info := Config.auInfo (ofBool hevc) x.anchor unit
    if bits (c.dec0 d) 60 53 * 1048576 < held + size then s.decFault d 7 info.poc
    else if x.state = 1 ∧ info.rap = 0 then s.count Obj.finAusSkipped d
    else if c.unitClass d info ≠ 0 then
      let s := (List.range 64).foldl (fun s t =>
        match (s.tun t).task with
        | some k => if k.isDecode ∧ k.s = d then s.attend t .abort else s
        | none => s) s
      (s.setDec d ((s.decStream d).waitRap (c.sprop d))).decFault d (c.unitClass d info) info.poc
    else if info.rasl ∧ x.skipRasl then s
    else s.startAu d ts size unit info

/-! ### Depacketisation -/

/-- The NAL units of an aggregation packet (RFC 9328, RFC 7798). What its lengths do not divide, as in a packet with DONL fields, is one
NAL unit, which fails parsing (R257). -/
def apUnits : Nat → Bytes → List Bytes
  | 0, b => if b.isEmpty then [] else [b]
  | fuel + 1, b =>
    if b.isEmpty then []
    else if b.length < 2 ∨ b.length < 2 + fieldBE b 0 2 then [b]
    else slice b 2 (fieldBE b 0 2) :: apUnits fuel (b.drop (2 + fieldBE b 0 2))

/-- The NAL unit header that a fragment's payload header and FU type stand for. -/
def fuHeader (hevc : Bool) (b : Bytes) : Bytes :=
  let fu := fieldBE b 2 1
  if hevc then bytesBE 1 (setBits (fieldBE b 0 1) 6 1 (bits fu 5 0)) ++ slice b 1 1
  else slice b 0 1 ++ bytesBE 1 (setBits (fieldBE b 1 1) 7 3 (bits fu 4 0))

/-- R257: a fragmented NAL unit that lacks a fragment is discarded, once: it was in progress, or is `seen` first by a later fragment.
`more`: fragments of it may follow. -/
def State.dropFragment (s : State) (d : Nat) (seen more : Bool) : State :=
  let x := s.decStream d
  let lost := x.fragment.isSome || (seen && !x.dropping)
  let s := s.setDec d { x with fragment := none, dropping := more && (x.dropping || lost) }
  if lost then s.count Obj.finNalDiscards d else s

/-- Adds NAL units to the access unit in reception. -/
def State.addNals (s : State) (d : Nat) (nals : List Bytes) : State :=
  let x := s.decStream d
  s.setDec d { x with auNals := x.auNals ++ nals }

/-- R257: the payload of one released packet. -/
def State.depacketise (s : State) (d : Nat) (b : Bytes) : State :=
  let hevc := bit (s.sets.bright.dec0 d) 1
  let ty := unitType hevc b
  let ap := if hevc then 48 else 28
  let fu := if hevc then 49 else 29
  if b.length < 2 ∨ (hevc ∧ ty = 50) then s.count Obj.finPktsBad d
  else if ty = fu then
    let h := fieldBE b 2 1
    let body := b.drop 3
    if bit h 7 then
      let s := s.dropFragment d false false
      s.setDec d { s.decStream d with fragment := some (fuHeader hevc b ++ body) }
    else
      match (s.decStream d).fragment with
      | none => s.dropFragment d true (!bit h 6)
      | some f =>
        let s := s.setDec d { s.decStream d with fragment := if bit h 6 then none else some (f ++ body) }
        if bit h 6 then s.addNals d [f ++ body] else s
  else (s.dropFragment d false false).addNals d (if ty = ap then apUnits b.length (b.drop 2) else [b])

/-- R257: a packet is released: a new timestamp ends the access unit before it, the marker ends its own. -/
def State.releaseDec (s : State) (d : Nat) (p : DecWait) : State :=
  let x := s.decStream d
  let s := if x.auTs.any (· != p.ts) then (s.dropFragment d false true).auEnd d else s
  let s := s.setDec d { s.decStream d with auTs := some p.ts }
  let s := s.depacketise d p.payload
  if p.marker then (s.dropFragment d false false).auEnd d else s

/-- R256: waiting packets are released in sequence order. -/
def State.releaseRun (d : Nat) : Nat → State → State
  | 0, s => s
  | fuel + 1, s =>
    let x := s.decStream d
    match x.waiting.find? fun p => some p.ext == x.next with
    | none => s
    | some p =>
      State.releaseRun d fuel ((s.setDec d { x with next := some (p.ext + 1),
                                                    waiting := x.waiting.filter fun q => q.ext != p.ext }).releaseDec d p)

/-- The extended number of a 16-bit sequence number, nearest to the highest one accepted. -/
def extendSeq (top : Option Nat) (seq : Nat) : Nat :=
  match top with
  | none => 65536 + seq
  | some t =>
    let up := sub16 seq t
    if up < 32768 then t + up else t - (65536 - up)

/-- DECODE_PACKET_RX (R256, R296): a packet of decode stream `stream` from path A or B, stamped with device time. -/
def execDecodePacketRx (t stream : Nat) (pathB : Bool) (seq pt ts : Nat) (marker : Bool) (payload : Bytes) (s : State) :
    Host.Outcome State Fault Refusal :=
  let s := s.land t
  let c := s.sets.bright
  let x := s.decStream stream
  let want := bits (c.dec0 stream) 52 46
  let dual := bit (c.dec0 stream) 30
  if s.cellar.safe ∨ x.state = 0 ∨ (pathB ∧ !dual) then .next s
  else if want ≠ 0 ∧ want ≠ pt then .next (s.count Obj.finPktsBad stream)
  else
    let ext := extendSeq x.top seq
    let (verdict, top, accepted) := mergeSeq (if dual then 4096 else 65536) (fun a b => b - a) x.top x.accepted ext
    if verdict = .old then .next (s.count Obj.finPktsBad stream)
    else if verdict = .duplicate then .next s
    else if (x.next.any fun n => decide (ext < n)) then .next (s.count Obj.finPktsBad stream)
    else
      let p : DecWait := { ext := ext, at_ := s.deviceTime, marker := marker, ts := ts, payload := payload }
      let x := { x with top := top, accepted := accepted, next := some (x.next.getD ext), waiting := x.waiting ++ [p] }
      let s := (s.setDec stream x).count Obj.finPkts stream
      .next (State.releaseRun stream x.waiting.length s)

/-- REORDER_TIMEOUT (R256, R296): FIN_REORDER_US in device time after the first packet that waits. -/
def execReorderTimeout (t stream : Nat) (s : State) : Host.Outcome State Fault Refusal :=
  let s := s.land t
  let x := s.decStream stream
  .next (
    match x.waiting with
    | [] => s
    | first :: _ =>
      if s.deviceTime < first.at_ + 1000 * s.val Obj.finReorderUs then s
      else
        let least := x.waiting.foldl (fun m p => min m p.ext) first.ext
        let lost := least - x.next.getD least
        let s := (s.count Obj.finPktsLost stream lost).dropFragment stream false true
        State.releaseRun stream x.waiting.length (s.setDec stream { s.decStream stream with next := some least }))

/-! ### Work items -/

/-- R263: the timestamp window of slot `m`: whether a picture with timestamp `ts` is in it. -/
def inSlot (num den : Nat) (m : Int) (ts : Nat) : Bool :=
  let hw := den * 45000 / num
  decide (sub32 (add32 ts hw) (sourceTs num den m) < 2 * hw)

/-- R261: the canvas frame, counted from 1,024 before the present one, at which the frame selection of stream `d` first needs a
picture. -/
def State.neededIn (s : State) (d ts : Nat) : Nat :=
  let c := s.sets.bright
  let (num, den, delay) := c.decRate d
  let nc := s.tbs.raster.index s.deviceTime
  ((List.range 2048).find? fun i => inSlot num den (sourceFrame c num den delay (nc + i - 1024)) ts).getD 2048

/-- R260: whether an item has reconstructed `n` CTUs, or all it has. -/
def DecItem.reached (i : DecItem) (n : Nat) : Bool := i.done || decide (min n i.ctus.length ≤ i.progress)

/-- R260: the item of the CTU row above, in WPP. -/
def DecAu.above (a : DecAu) (i : DecItem) : Option DecItem :=
  if a.wpp ∧ i.number ≠ 0 then a.items.find? fun j => j.number + 1 == i.number else none

/-- R260: how many CTUs of an item may be decoded: CTU c once the row above has reconstructed CTU c + 1, or its last one. -/
def DecAu.mayDecode (a : DecAu) (i : DecItem) : Nat :=
  match a.above i with
  | none => i.ctus.length
  | some j => if j.reached j.ctus.length then i.ctus.length else min i.ctus.length (j.progress - 1)

/-- R260, R261: whether an item may be assigned: not yet taken, its references released, and in WPP the CABAC state of the item above
available, after CTU 0 in VVC and CTU 1 in HEVC. -/
def DecStream.itemReady (x : DecStream) (a : DecAu) (i : DecItem) : Bool :=
  i.tun.isNone && !i.done && (a.refs.all fun p => (x.refPic a.pic.epoch p).isSome) &&
    (match a.above i with
     | none => true
     | some j => j.reached (if bit x.ptl 16 then 2 else 1))

/-- The ready items as (frames until needed, stream, picture, item). -/
def State.readyItems (s : State) : List (Nat × Nat × Nat × Nat) :=
  s.dec.flatMap fun p => p.2.aus.flatMap fun a =>
    (a.items.filter (p.2.itemReady a)).map fun i => (s.neededIn p.1 a.pic.ts, p.1, a.pic.number, i.number)

/-- The first of the ready items: by need, stream, decoding order. -/
def firstItem (l : List (Nat × Nat × Nat × Nat)) : Option (Nat × Nat × Nat × Nat) :=
  l.foldl (fun best x =>
    match best with
    | none => some x
    | some b => if x.1 < b.1 ∨ (x.1 = b.1 ∧ (x.2.1 < b.2.1 ∨ (x.2.1 = b.2.1 ∧ x.2.2.1 < b.2.2.1))) then some x else some b) none

/-- Rewrites an item of an access unit. -/
def State.modItem (s : State) (d pic item : Nat) (f : DecItem → DecItem) : State :=
  let x := s.decStream d
  s.setDec d { x with aus := x.aus.map fun a =>
    if a.pic.number = pic then { a with items := a.items.map fun i => if i.number = item then f i else i } else a }

/-- Decode tickets that are current: work items assigned to a Tun (R168). -/
def State.decodeTickets (s : State) : Nat :=
  (s.dec.map fun p => (p.2.aus.map fun a => (a.items.filter fun i => i.tun.isSome).length).sum).sum

/-- An access unit in decode, by stream and picture. -/
def State.decAu (s : State) (d pic : Nat) : Option DecAu := (s.decStream d).aus.find? fun a => a.pic.number == pic

/-- A work item, with its access unit. -/
def State.decItem (s : State) (d pic item : Nat) : Option (DecAu × DecItem) :=
  (s.decAu d pic).bind fun a => (a.items.find? fun i => i.number == item).map fun i => (a, i)

/-- R138, R160: the assignment record of a work item: stream, picture, item. -/
def State.decodeTask (s : State) (d pic item : Nat) : Task :=
  { isDecode := true, pic := 0, s := d, y := item, frame := pic, ticket := s.dsp.nextTicket, bank := s.tuns.inUse, effort := s.dsp.effort,
    version := s.sets.rack.count, k := 0, p := 0, sweeps := [], input := SegInput.blank, poisoned := false, kegs := [],
    ctus := match s.decItem d pic item with | some (_, i) => i.ctus.length | none => 0,
    startedAt := s.now, staged := 0, sent := 0 }

/-- R160: the coded slice of an item is read into DEC: 68 KiB from 0x6F000, in 64-bit words, most significant byte first (DESIGN
CHOICE; log entry 90). -/
def readSlice (m : Table Nat) (b : Bytes) : Table Nat :=
  (List.range (min 8704 (ceilDiv b.length 8))).foldl (fun m n =>
    Table.set 0 m (0xDE00 + n) (fieldBE (slice (b ++ zeros 8) (8 * n) 8) 0 8)) m

/-- R160: the NAL units of an item. -/
def DecAu.itemBytes (a : DecAu) (i : DecItem) : Bytes := i.units.flatMap fun n => a.nals.getD n []

/-- R160: the Tun that takes an item reads its coded slice. -/
def State.readItem (s : State) (u d pic item : Nat) : State :=
  match s.decItem d pic item with
  | some (a, i) => s.setTun u { s.tun u with sram := readSlice (s.tun u).sram (a.itemBytes i) }
  | none => s

/-- DECODE_ITEM_ASSIGN (R261, R168): the first ready item goes to a Tun within the decode tickets. -/
def execDecodeItemAssign (t : Nat) (s : State) : Host.Outcome State Fault Refusal :=
  let s := s.land t
  match firstItem s.readyItems, s.readyTun with
  | some (_, d, pic, item), some u =>
    if s.decodeTickets < s.nd ∧ !s.cellar.safe then
      let k := s.decodeTask d pic item
      let s := { s with dsp := { s.dsp with nextTicket := k.ticket + 1 } }
      .next (((s.startTask u k).readItem u d pic item).modItem d pic item fun i => { i with tun := some u, progress := 0 })
    else .next s
  | _, _ => .next s

/-- R266: what class 2 in CTU `n` of an item loses: that CTU, the FIN_BACKOFF_CTUS decoded before it, the rest of the item. -/
def lostCtus (backoff : Nat) (ctus : List Nat) : Option Nat → List Nat
  | none => []
  | some n => ctus.drop (n - backoff)

/-- R161, R266: the CTUs that the decode of a task's work item loses by class 2, where PARSE [2] is set. -/
def State.itemCtusLost (s : State) (k : Task) : List Nat :=
  match s.decItem k.s k.frame k.y with
  | some (a, i) => lostCtus (s.val Obj.finBackoffCtus) i.ctus (Config.itemError a.nals k.y)
  | none => []

/-- R260: whether a task's item may commit: in WPP every CTU of it may be decoded. -/
def State.itemWhole (s : State) (k : Task) : Bool :=
  match s.decItem k.s k.frame k.y with
  | some (a, i) => decide (i.ctus.length ≤ a.mayDecode i)
  | none => true

/-- R156, R160: a decode item commits: its area is in the picture store; CTUs that class 2 lost are known. A ticket that is no
longer current commits nothing. -/
def State.commitItem (s : State) (u : Nat) (k : Task) : State :=
  if s.itemHeld u k = false then s.endDiscard u
  else
    let lost := s.itemCtusLost k
    let s := s.modItem k.s k.frame k.y fun i => { i with tun := none, done := true, progress := i.ctus.length, lost := lost }
    let s := if lost.isEmpty then s else s.count Obj.finSyntaxErrs k.s
    (((s.unstage k.ticket).setTun u { s.tun u with task := none, kegWait := none }).abortsDone u).tunFree u

/-- R259: a reference read of an item meets an uncorrectable word of channel `c`: the block that read it is decoded with zero in its
place. -/
def State.refUnreadable (s : State) (k : Task) (c block : Nat) : State :=
  (s.modItem k.s k.frame k.y fun i => { i with zeroed := (i.zeroed ++ [block]).eraseDups }).report (0x520 + c) .eccUncorr
    (faultAddr s.ctime.frame k.y) k.s

/-! ### Completion and the dirty map -/

/-- CTUs across and down a picture. -/
def DecAu.grid (a : DecAu) : Nat × Nat := (ceilDiv a.pic.w (2 ^ a.log2), ceilDiv a.pic.h (2 ^ a.log2))

/-- The CTU of luma sample (x, y). -/
def DecAu.ctuAt (a : DecAu) (x y : Nat) : Nat := y / 2 ^ a.log2 * a.grid.1 + x / 2 ^ a.log2

/-- The cells that a CTU covers; a CTU of 16 samples lies in one. -/
def DecAu.cellsAt (a : DecAu) (k : Nat) : List Nat :=
  let wc := cellsOf a.pic.w
  let hc := cellsOf a.pic.h
  let cx := k % a.grid.1
  let cy := k / a.grid.1
  let r := 2 ^ (a.log2 - 5)
  if a.log2 < 5 then [cy / 2 * wc + cx / 2]
  else (List.range r).flatMap fun j => (List.range r).filterMap fun i =>
    if cx * r + i < wc ∧ cy * r + j < hc then some ((cy * r + j) * wc + cx * r + i) else none

/-- R269: whether the decode of CTU `k` reads a cell whose state is not 0, by the states so far in its own picture, or a block that could
not be read (R259). -/
def DecAu.readsDamage (a : DecAu) (x : DecStream) (input : DecInput) (cells : Table Nat) (k : Nat) : Bool :=
  (input.zeroed.any fun b => a.ctuAt (b % 65536 * 8) (b / 65536 * 8) == k) ||
    (Config.ctuReads input k).any fun r =>
      if r.1 = a.pic.poc then Table.get 0 cells r.2 != 0
      else (x.refPic a.pic.epoch r.1).any fun q => Table.get 0 q.cells r.2 != 0

/-- R269: one pass over the CTUs: the CLEAN cells of a decoded CTU that reads damage become DIRTY. -/
def DecAu.dirtyPass (a : DecAu) (x : DecStream) (input : DecInput) (cells : Table Nat) : Table Nat :=
  ((List.range (a.grid.1 * a.grid.2)).filter fun k => !input.lost.contains k).foldl (fun t k =>
    if a.readsDamage x input t k then
      (a.cellsAt k).foldl (fun t q => if Table.get 0 t q = 0 then Table.set 0 t q 1 else t) t
    else t) cells

/-- R269: the least map closed under reading: at most one pass per CTU. -/
def DecAu.dirtyMap (a : DecAu) (x : DecStream) (input : DecInput) : Nat → Table Nat → Table Nat
  | 0, t => t
  | fuel + 1, t => let u := a.dirtyPass x input t; if u = t then t else a.dirtyMap x input fuel u

/-- R267: the motion of the nearest decoded inter block: up the column of `block`, then down it; zero where there is none. -/
def nearestMotion (motion : List (Nat × BlockMotion)) (rows block : Nat) : Int × Int :=
  let up := (List.range (block / 65536)).reverse
  let down := (List.range rows).drop (block / 65536 + 1)
  match (up ++ down).findSome? fun r => motion.find? fun m => m.1 == r * 65536 + block % 65536 with
  | some m => (m.2.mvx, m.2.mvy)
  | none => (0, 0)

/-- Subsampling of a component of a decoded picture. -/
def decSub (chroma comp : Nat) : Nat × Nat := if comp = 0 ∨ chroma = 2 then (1, 1) else (2, if chroma = 0 then 2 else 1)

/-- R267: the vector of a block, rounded to whole samples: none by COPY. -/
def DecAu.vector (a : DecAu) (motion : List (Nat × BlockMotion)) (block : Nat) : Int × Int :=
  let v := nearestMotion motion (ceilDiv a.pic.h 8) block
  if a.motion = 0 then (0, 0)
  else if a.motion = 1 then (shiftRight (v.1 + 8) 4, shiftRight (v.2 + 8) 4)
  else (shiftRight (v.1 + 2) 2, shiftRight (v.2 + 2) 2)

/-- R267: a sample of a concealed block: that of the source picture at the block's vector, clamped to the picture; black without a
source. -/
def DecAu.filledSample (a : DecAu) (source : Option DecPic) (motion : List (Nat × BlockMotion)) (comp x y : Nat) : Nat :=
  let (kx, ky) := decSub a.pic.chroma comp
  let v := a.vector motion (y * ky / 8 * 65536 + x * kx / 8)
  match source with
  | none => decBlack a.pic.depth8 comp
  | some q =>
    q.sample comp (clip 0 ((a.pic.w : Int) / kx - 1) (x + v.1 / kx)).toNat (clip 0 ((a.pic.h : Int) / ky - 1) (y + v.2 / ky)).toNat

/-- R261, R267: the samples of a component of the completed picture. -/
def DecAu.plane (a : DecAu) (input : DecInput) (source : Option DecPic) (motion : List (Nat × BlockMotion)) (comp : Nat) : Table Nat :=
  let (kx, ky) := decSub a.pic.chroma comp
  (List.range (a.pic.h / ky)).flatMap fun y => (List.range (a.pic.w / kx)).filterMap fun x =>
    let v := if input.lost.contains (a.ctuAt (x * kx) (y * ky)) then a.filledSample source motion comp x y
      else Config.decodedSample input comp x y
    if v = decBlack a.pic.depth8 comp then none else some (y * 65536 + x, v)

/-- R267: the motion of the completed picture; a concealed CTU carries none. -/
def DecAu.motionOf (a : DecAu) (input : DecInput) : List (Nat × BlockMotion) :=
  (List.range (a.pic.h / 8)).flatMap fun y => (List.range (a.pic.w / 8)).filterMap fun x =>
    if input.lost.contains (a.ctuAt (8 * x) (8 * y)) then none
    else (Config.blockMotion input (y * 65536 + x)).map fun m => (y * 65536 + x, m)

/-- CTUs of the items that class 2 lost, and those that no item covers (Table 11-3). -/
def DecAu.syntaxLost (a : DecAu) : List Nat := (a.items.flatMap (·.lost)).eraseDups

/-- See `DecAu.syntaxLost`. -/
def DecAu.missing (a : DecAu) : List Nat :=
  (List.range (a.grid.1 * a.grid.2)).filter fun k => !(a.items.any fun i => i.ctus.contains k)

/-- What the samples of an access unit depend on. -/
def DecStream.inputOf (x : DecStream) (a : DecAu) : DecInput :=
  { units := a.nals,
    refs := a.refs.filterMap fun p => (x.refPic a.pic.epoch p).map fun q =>
      { poc := p, y := q.planes.y, cb := q.planes.cb, cr := q.planes.cr, motion := q.motion },
    lost := (a.missing ++ a.syntaxLost).eraseDups, zeroed := (a.items.flatMap (·.zeroed)).eraseDups }

/-- R267: the source of concealment: the picture before in decoding order while it is held, else the last good output picture. -/
def DecStream.source (x : DecStream) (a : DecAu) : Option DecPic :=
  (x.pics.find? fun q => q.number + 1 == a.pic.number && q.epoch == a.pic.epoch && !q.substitute).or x.good

/-- Whether an access unit can be completed: its items have committed, its references are released, and, where it conceals, the picture
before it has been (DEDUCED: the source of R267 is held then; log entry 90). -/
def DecStream.whole (x : DecStream) (a : DecAu) : Bool :=
  a.items.all (·.done) && (a.refs.all fun p => (x.refPic a.pic.epoch p).isSome) &&
    ((x.inputOf a).lost.isEmpty || !(x.aus.any fun b => b.pic.number + 1 == a.pic.number && b.pic.epoch == a.pic.epoch))

/-- R269, R270: the map of a completed picture; `concealed`: cells concealed by picture number. -/
def DecAu.map (a : DecAu) (x : DecStream) (input : DecInput) (concealed : List (Nat × List Nat)) : Table Nat :=
  let own := (input.lost.flatMap a.cellsAt).foldl (fun t q => Table.set 0 t q 2) []
  let map := if a.rap = 1 then own else a.dirtyMap x input (a.grid.1 * a.grid.2) own
  match a.recovers with
  | none => map
  | some g =>
    let since := (concealed.filter fun q => decide (g ≤ q.1)).flatMap (·.2)
    Table.mapRows 0 map fun k v => if since.contains k then v else 0

/-- Pictures that stay: those that an access unit in decode references, those that the last one keeps, and the DPB + 2 released
last. -/
def DecStream.keep (x : DecStream) (n : Nat) : List DecPic :=
  x.pics.zipIdx.filterMap fun q =>
    if x.pics.length ≤ q.2 + n ∨ (q.1.epoch = x.epoch ∧ x.held.contains q.1.poc) ∨
        (x.aus.any fun a => a.pic.epoch == q.1.epoch && a.refs.contains q.1.poc) then some q.1 else none

/-- COMPLETION_ITEM (R261, R265 to R271): every item of a picture has committed: what is missing is concealed, the
map computed, the picture released. -/
def execCompletionItem (t stream : Nat) (s : State) : Host.Outcome State Fault Refusal :=
  let s := s.land t
  let x := s.decStream stream
  match x.aus.find? x.whole with
  | none => .next s
  | some a =>
    let input := x.inputOf a
    let motion := a.motionOf input
    let source := x.source a
    let concealed := if input.lost.isEmpty then x.concealed else x.concealed ++ [(a.pic.number, input.lost.flatMap a.cellsAt)]
    let map := a.map x input concealed
    let plane := a.plane input source motion
    let pic := { a.pic with cells := map, planes := { y := plane 0, cb := plane 1, cr := plane 2 }, motion := motion }
    let aus := x.aus.filter fun b => b.pic.number != a.pic.number
    let y := { x with aus := aus, pics := x.pics ++ [pic] }
    let awaits := (x.recovery.map (·.1)).toList ++ aus.filterMap (·.recovers)
    let y := { y with
      pics := y.keep (bits (s.sets.bright.dec0 stream) 44 40 + 2),
      concealed := concealed.filter fun q => awaits.any fun g => decide (g ≤ q.1),
      lastOut := some pic, lastGood := if map.isEmpty then some pic else x.lastGood }
    let s := (s.setDec stream y).count Obj.finPicsOut stream
    let s := if a.syntaxLost.isEmpty ∧ a.badUnits = 0 then s else s.decFault stream 2 a.pic.poc
    let s := if a.missing.isEmpty then s else (s.count Obj.finSlicesMissing stream).decFault stream 3 a.pic.poc
    let s := s.count Obj.finCtusConcealed stream input.lost.length
    .next (if map.isEmpty then s.put Obj.finLastGoodTs stream a.pic.ts else s)

/-! ### The picture a canvas frame shows -/

/-- R263: the first released picture in output order of slot `m`. -/
def DecStream.choose (x : DecStream) (num den : Nat) (m : Int) : Option DecPic :=
  (x.pics.filter fun q => !q.substitute && inSlot num den m q.ts).foldl (fun (best : Option DecPic) q =>
    match best with
    | none => some q
    | some b => if q.epoch < b.epoch ∨ (q.epoch = b.epoch ∧ q.poc < b.poc) then some q else some b) none

/-- R263, R264, R273: the choice of stream `d` for canvas frame `f` of aligned index `n`, made once; a stream in IDLE or WAIT_RAP offers
no picture. Its slots are hidden while it is LOST and LOSS_HIDE is set. -/
def State.decSelect (s : State) (d f n : Nat) : State :=
  let x := s.decStream d
  if x.usedFrame = some f then s
  else
    let c := s.setFor f
    let (num, den, delay) := c.decRate d
    match (if num = 0 ∨ den = 0 ∨ x.state ≠ 2 then none else x.choose num den (sourceFrame c num den delay n)) with
    | some p =>
      let s := s.setDec d { x with used := some p, usedFrame := some f, fresh := true, missRun := 0, lost := false,
                                   hideFrom := none }
      if x.lost then s.brewRec 0x3D0 0x031 d else s
    | none =>
      let run := x.missRun + 1
      let newly := !x.lost && decide (bits (c.dec0 d) 39 32 ≤ run)
      let lost := x.lost || newly
      let s := (s.setDec d { x with usedFrame := some f, fresh := false, missRun := run, lost := lost,
                                    hideFrom := if lost && bit (c.dec0 d) 31 then some (x.hideFrom.getD (add32 f 1)) else none }).count
        Obj.finPicsLate d
      if newly then s.report 0x3D0 .sourceLoss 0 d else s

/-- R272: what a rack does to stream `d`, if it is emptied: 0 IDLE; 1 WAIT_RAP; 2 WAIT_RAP with the same size and format, where the
last good output picture survives. -/
def decRackState (old new : CanvasSet) (d : Nat) : Option Nat :=
  if !new.decEn d then (if old.decEn d then some 0 else none)
  else if !old.decEn d then some 1
  else
    let a := old.dec0 d
    let b := new.dec0 d
    if bits a 29 1 ≠ bits b 29 1 then some 1
    else if bits a 44 40 = bits b 44 40 ∧ bits a 60 53 = bits b 60 53 then none else some 2

/-- R272: a stream is emptied by a rack, as `decRackState` says; its output status stays (R264). -/
def State.decReset (s : State) (d st : Nat) : State :=
  let s := (List.range 64).foldl (fun s t =>
    match (s.tun t).task with
    | some k => if k.isDecode ∧ k.s = d then s.attend t .abort else s
    | none => s) s
  let x := s.decStream d
  let empty := { DecStream.idle with missRun := x.missRun, lost := x.lost, hideFrom := x.hideFrom, epoch := x.epoch, nextPic := x.nextPic }
  let kept : DecStream := if st = 2 then { empty with lastGood := x.lastGood, lastOut := x.lastOut } else empty
  s.setDec d (if st = 0 then kept else kept.waitRap (s.sets.bright.sprop d))

end Sys2Proof.Machine
end

