-- ==== Sys2Proof/Machine/Sources.lean ====
section
/-! DEFINITION. What a layer slot reads: flow lines (R88, R90 to R93), decoded pictures (R254, R267), stills (R100); RGB
conversion (R113); slot entries and their scaling (R97, R98). -/
set_option Elab.async false
namespace Sys2Proof.Machine

/-- A pixel: three 12-bit components and 10-bit alpha (R88); Y, Cb, Cr, or R, G, B before conversion. -/
structure Px where
  y : Int
  cb : Int
  cr : Int
  a : Int
  deriving DecidableEq, Repr

/-- `n` bits at bit position `p` of a line, most significant first. -/
def lineBits (data : Table Byte) (p n : Nat) : Nat :=
  let o := p / 8
  let byte (i : Nat) : Nat := (Table.get 0 data (o + i)).toNat
  let w := byte 0 * 65536 + byte 1 * 256 + byte 2
  bits w (23 - p % 8) (24 - p % 8 - n)

/-- R113: narrow-range RGB to YCbCr by CSP_COLOUR. -/
def rgbToYcbcr (colour : Nat) (r g b : Int) : Int × Int × Int :=
  let k : List Int := if colour = 0 then [3483, 11718, 1183, -1920, -6459, 8379, 8379, -7611, -768]
    else [4304, 11108, 972, -2340, -6039, 8379, 8379, -7705, -674]
  let f (i : Nat) (o : Int) : Int :=
    clip 0 4095 (shiftRight (k.getD i 0 * (r - 256) + k.getD (i + 1) 0 * (g - 256) + k.getD (i + 2) 0 * (b - 256) + 8192) 14 + o)
  (f 0 256, f 3 2048, f 6 2048)

/-- R88: the chroma of pixel `x` of a line in 4:2:2 with `w` pixels; `c` gives the chroma samples at 12 bits. -/
def chroma422 (c : Nat → Int) (w x : Nat) : Int :=
  if x % 2 = 0 then c (x / 2) else shiftRight (c (x / 2) + c (min (x / 2 + 1) (w / 2 - 1)) + 1) 1

/-! ### Flows -/

/-- Word 0 of a flow entry (Table 4-1). -/
def CanvasSet.flow0 (c : CanvasSet) (f : Nat) : Nat := c.nat Obj.cmpFlowW0 f

/-- Word 1 of a flow entry. -/
def CanvasSet.flow1 (c : CanvasSet) (f : Nat) : Nat := c.nat Obj.cmpFlowW1 f

/-- Whether a flow is enabled. -/
def CanvasSet.flowEn (c : CanvasSet) (f : Nat) : Bool := decide (f < 64) && bit (c.flow0 f) 0

/-- Whether a flow is in FRAME mode. -/
def CanvasSet.flowFrames (c : CanvasSet) (f : Nat) : Bool := bit (c.flow0 f) 4

/-- R90: bits per pixel of a flow format. -/
def flowBpp (fmt : Nat) : Nat := if fmt = 0 then 20 else if fmt = 2 ∨ fmt = 4 then 36 else 30

/-- Width of a flow. -/
def CanvasSet.flowW (c : CanvasSet) (f : Nat) : Nat := bits (c.flow0 f) 18 6 + 1

/-- Height of a flow. -/
def CanvasSet.flowH (c : CanvasSet) (f : Nat) : Nat := bits (c.flow0 f) 31 19 + 1

/-- R90: LB(f), in bytes. -/
def CanvasSet.flowLb (c : CanvasSet) (f : Nat) : Nat := ceilDiv (c.flowW f * flowBpp (bits (c.flow0 f) 3 1)) 512 * 64

/-- Ring length of a flow in lines. -/
def CanvasSet.flowRing (c : CanvasSet) (f : Nat) : Nat := max 1 (bits (c.flow0 f) 43 32)

/-- R93: the flow frame of canvas frame `n`. -/
def CanvasSet.flowFrame (c : CanvasSet) (f n : Nat) : Int :=
  sourceFrame c (bits (c.flow1 f) 15 0) (max 1 (bits (c.flow1 f) 31 16)) (bits (c.flow1 f) 57 32) n

/-- R93: the timestamp of a flow frame. -/
def CanvasSet.flowTs (c : CanvasSet) (f : Nat) (m : Int) : Nat :=
  sourceTs (max 1 (bits (c.flow1 f) 15 0)) (max 1 (bits (c.flow1 f) 31 16)) m

/-- A pixel of a flow line. -/
def flowPx (fmt w : Nat) (data : Table Byte) (x : Nat) : Px :=
  if fmt = 0 then
    let base := x / 2 * 40
    let c (o i : Nat) : Int := (4 * lineBits data (i * 40 + o) 10 : Nat)
    { y := (4 * lineBits data (base + (if x % 2 = 0 then 10 else 30)) 10 : Nat), cb := chroma422 (c 0) w x,
      cr := chroma422 (c 20) w x, a := 1023 }
  else
    let n := if fmt = 2 ∨ fmt = 4 then 12 else 10
    let k := if n = 12 then 1 else 4
    let v (i : Nat) : Int := (k * lineBits data (x * 3 * n + i * n) n : Nat)
    if fmt ≤ 2 then { y := v 1, cb := v 0, cr := v 2, a := 1023 } else { y := v 0, cb := v 1, cr := v 2, a := 1023 }

/-! ### Decoded pictures -/

/-- A pixel of the output area of a decoded picture (R88, R254); j is clamped to the chroma rows of the output picture, `outH` luma rows
high (DEDUCED: the picture a slot sees is the output; log entry 90). -/
def DecPic.px (p : DecPic) (chroma colour outW outH : Nat) (x y : Nat) : Px :=
  let sw := if chroma = 2 then 1 else 2
  let k : Int := if p.depth8 then 16 else 4
  let smp (comp x y : Nat) : Int := k * (p.sample comp x y : Nat)
  let x0 := p.cropL
  let y0 := p.cropT
  let luma := smp 0 (x0 + x) (y0 + y)
  let row (comp i : Nat) : Int :=
    if chroma = 0 then
      let j := if y % 2 = 0 then y / 2 - 1 else min (y / 2 + 1) (outH / 2 - 1)
      shiftRight (3 * smp comp (x0 / 2 + i) (y0 / 2 + y / 2) + smp comp (x0 / 2 + i) (y0 / 2 + j) + 2) 2
    else smp comp (x0 / sw + i) (y0 + y)
  let c1 := if chroma = 2 then row 1 x else chroma422 (row 1) outW x
  let c2 := if chroma = 2 then row 2 x else chroma422 (row 2) outW x
  if p.rgb then
    let v := rgbToYcbcr colour c2 luma c1
    { y := v.1, cb := v.2.1, cr := v.2.2, a := 1023 }
  else { y := luma, cb := c1, cr := c2, a := 1023 }

/-! ### Stills -/

/-- A still of the Compositor area. -/
def State.still (s : State) (n : Nat) : Still := Table.get { allocated := 0, valid := false, data := [] } s.cmp.stills n

/-- R100: bytes of a still by its descriptor. -/
def stillBytes (desc : Nat) : Nat :=
  let w := bits desc 15 2 + 1
  let h := bits desc 29 16 + 1
  if bit desc 1 then 5 * (w / 2) * h else 5 * w * h

/-- A pixel of a still. -/
def stillPx (desc : Nat) (data : Bytes) (x y : Nat) : Px :=
  let w := bits desc 15 2 + 1
  if bit desc 1 then
    let word (i : Nat) : Nat := fieldBE data ((y * (w / 2) + i) * 5) 5
    let c (hi lo i : Nat) : Int := (4 * bits (word i) hi lo : Nat)
    { y := (4 * (if x % 2 = 0 then bits (word (x / 2)) 29 20 else bits (word (x / 2)) 9 0) : Nat),
      cb := chroma422 (c 39 30) w x, cr := chroma422 (c 19 10) w x, a := 1023 }
  else
    let word := fieldBE data ((y * w + x) * 5) 5
    { y := (4 * bits word 39 30 : Nat), cb := (4 * bits word 29 20 : Nat), cr := (4 * bits word 19 10 : Nat),
      a := (bits word 9 0 : Nat) }

/-! ### Layer slots, Table 4-2 -/

/-- A layer slot. -/
structure Layer where
  en : Bool
  kind : Nat
  src : Nat
  filter : Nat
  opacity : Nat
  sx : Nat
  sy : Nat
  sw : Nat
  sh : Nat
  dx : Nat
  dy : Nat
  dw : Nat
  dh : Nat
  solidY : Nat
  solidCb : Nat
  solidCr : Nat
  deriving DecidableEq, Repr

/-- Slot `l` of a set. -/
def CanvasSet.slot (c : CanvasSet) (l : Nat) : Layer :=
  let w0 := c.nat Obj.cmpSlotW0 l
  let w1 := c.nat Obj.cmpSlotW1 l
  let w2 := c.nat Obj.cmpSlotW2 l
  { en := decide (l < 16) && bit w0 0, kind := bits w0 2 1, src := bits w0 10 3, filter := bits w0 12 11,
    opacity := bits w0 22 13, sx := bits w0 36 23, sy := bits w0 50 37, sw := bits w1 13 0 + 1, sh := bits w1 27 14 + 1,
    dx := bits w1 43 28, dy := bits w1 58 44, dw := bits w2 15 0 + 1, dh := bits w2 30 16 + 1, solidY := bits w2 41 32,
    solidCb := bits w2 51 42, solidCr := bits w2 61 52 }

/-- Whether a canvas pixel lies in the slot's destination. -/
def Layer.covers (l : Layer) (x y : Nat) : Bool :=
  decide (l.dx ≤ x) && decide (x < l.dx + l.dw) && decide (l.dy ≤ y) && decide (y < l.dy + l.dh)

/-- R98: position of output sample `i` of `d` over `s` source samples: the integer part and the phase. -/
def scalePos (i s d : Nat) : Int × Nat :=
  let pos : Int := ((2 * i + 1) * s * 65536 / (2 * d) : Nat) - 32768
  (shiftRight pos 16, (shiftRight pos 10 % 64).toNat)

/-- R98: the bank a slot uses in a direction with `s` source and `d` output samples. -/
def Layer.bank (l : Layer) (s d : Nat) : Nat :=
  if l.filter = 2 then 4
  else if s ≤ d then 0
  else if 2 * s ≤ 3 * d then 1
  else if 2 * s ≤ 5 * d then 2
  else 3

/-- R98: coefficient of tap `t` at phase `p`. -/
def CanvasSet.slotTap (c : CanvasSet) (l : Layer) (horizontal : Bool) (p t : Nat) : Int :=
  if l.filter = 3 then
    let b := (Store.read c.objs Obj.cmpFilterUser 0).toBytes
    signed 16 (fieldBE b (2 * (if horizontal then p * 8 + t else 512 + p * 6 + t)) 2)
  else bankTap (l.bank (if horizontal then l.sw else l.sh) (if horizontal then l.dw else l.dh)) horizontal p t

/-- R94, R98: the crop lines that the vertical taps of output line `k` read, with their coefficients. -/
def CanvasSet.slotLines (c : CanvasSet) (l : Layer) (k : Nat) : List (Nat × Int) :=
  let (iy, py) := scalePos k l.sh l.dh
  let clampL (v : Int) : Nat := (clip 0 ((l.sh : Int) - 1) v).toNat
  if l.filter = 1 then [(clampL (if 32 ≤ py then iy + 1 else iy), 1024)]
  else
    ((List.range 6).filterMap fun (t : Nat) =>
      let k := c.slotTap l false py t
      if k = 0 then none else some (clampL (iy - 2 + t), k))

/-- R98: the crop columns that the horizontal taps of output column `i` read, with their coefficients. -/
def CanvasSet.slotColumns (c : CanvasSet) (l : Layer) (i : Nat) : List (Nat × Int) :=
  let (ix, px) := scalePos i l.sw l.dw
  let clampC (v : Int) : Nat := (clip 0 ((l.sw : Int) - 1) v).toNat
  if l.filter = 1 then [(clampC (if 32 ≤ px then ix + 1 else ix), 1024)]
  else
    ((List.range 8).filterMap fun (t : Nat) =>
      let k := c.slotTap l true px t
      if k = 0 then none else some (clampC (ix - 3 + t), k))

/-- R98: one filter step. -/
def tapSum (mx : Int) (l : List Int) : Int := clip 0 mx (shiftRight (l.foldl (· + ·) 0 + 512) 10)

/-- R98: the scaled pixel of a slot at canvas pixel (x, y), from its source pixels by crop position. -/
def CanvasSet.scaledPx (c : CanvasSet) (l : Layer) (src : Nat → Nat → Px) (x y : Nat) : Px :=
  let rows := c.slotLines l (y - l.dy)
  let cols := c.slotColumns l (x - l.dx)
  let comp (mx : Int) (f : Px → Int) : Int :=
    tapSum mx (cols.map fun q => q.2 * tapSum mx (rows.map fun r => r.2 * f (src q.1 r.1)))
  { y := comp 4095 (·.y), cb := comp 4095 (·.cb), cr := comp 4095 (·.cr), a := comp 1023 (·.a) }

end Sys2Proof.Machine
end

