-- ==== Sys2Proof/Machine/Sparge.lean ====
section
/-! DEFINITION. The Sparge DMA engine (R360 to R368). -/
set_option Elab.async false
namespace Sys2Proof.Machine

/-- One side of a descriptor: base address, space, run length, loop counts and signed steps (Table 15-2). -/
structure SpargeSide where
  addr : Nat
  space : Nat
  run : Nat
  c0 : Nat
  c1 : Nat
  c2 : Nat
  s0 : Int
  s1 : Int
  s2 : Int
  deriving DecidableEq, Repr

/-- A side from its address word, its counts word, its steps word and its loop 2 step. -/
def spargeSide (a c st : Nat) (s2 : Nat) : SpargeSide :=
  { addr := bits a 47 0, space := bits a 50 48, run := bits c 15 0 + 1, c0 := bits c 31 16 + 1,
    c1 := bits c 47 32 + 1, c2 := bits c 63 48 + 1, s0 := signed 32 (bits st 31 0), s1 := signed 32 (bits st 63 32),
    s2 := signed 32 s2 }

/-- The source side of a descriptor. -/
def spargeSource (w : List Nat) : SpargeSide :=
  spargeSide (w.getD 1 0) (w.getD 2 0) (w.getD 3 0) (bits (w.getD 7 0) 31 0)

/-- The destination side of a descriptor. -/
def spargeDest (w : List Nat) : SpargeSide :=
  spargeSide (w.getD 4 0) (w.getD 5 0) (w.getD 6 0) (bits (w.getD 7 0) 63 32)

/-- Bytes of a side. -/
def SpargeSide.total (d : SpargeSide) : Nat := d.run * d.c0 * d.c1 * d.c2

/-- The base address within the space: a Keg side's is its offset within the buffer (Table 15-3). -/
def SpargeSide.base (d : SpargeSide) : Nat := if d.space = 3 then d.addr / 2 ^ 24 else d.addr

/-- R363: the start of run `r` of a side, loops nested 2, 1, 0 from the outside. -/
def SpargeSide.runStart (d : SpargeSide) (r : Nat) : Int :=
  (d.base : Int) + (r / (d.c0 * d.c1) : Nat) * d.s2 + (r / d.c0 % d.c1 : Nat) * d.s1 + (r % d.c0 : Nat) * d.s0

/-- The lowest byte a side spans. -/
def SpargeSide.low (d : SpargeSide) : Int :=
  (d.base : Int) + min 0 ((d.c0 - 1 : Nat) * d.s0) + min 0 ((d.c1 - 1 : Nat) * d.s1) + min 0 ((d.c2 - 1 : Nat) * d.s2)

/-- The byte after the highest one a side spans. -/
def SpargeSide.high (d : SpargeSide) : Int :=
  (d.base : Int) + max 0 ((d.c0 - 1 : Nat) * d.s0) + max 0 ((d.c1 - 1 : Nat) * d.s1) + max 0 ((d.c2 - 1 : Nat) * d.s2)
    + d.run

/-- Block size B of a space (Table 15-3). -/
def spaceBlock (space : Nat) : Nat := if space = 2 then 8 else 64

/-- Bytes of a space; a Keg side's is its buffer (Table 15-3). -/
def State.spaceSize (s : State) (d : SpargeSide) : Nat :=
  match d.space with
  | 0 => 402653184
  | 1 => 8 * ddrCapacity (s.val Obj.memDdConfig)
  | 2 => 4194304
  | 3 => if s.handleValid (d.addr % 2 ^ 24) then kegSize (handlePool (d.addr % 2 ^ 24)) else 0
  | 4 => 25165824
  | _ => 0

/-- Table 15-2: whether a descriptor sets a reserved bit. -/
def reservedWords (w : List Nat) : Bool :=
  bits (w.getD 0 0) 31 16 != 0 || bits (w.getD 0 0) 63 48 != 0 || bits (w.getD 1 0) 63 51 != 0 || bits (w.getD 4 0) 63 51 != 0

/-- R363: whether a descriptor is refused with FORMAT. -/
def State.spargeFormat (s : State) (w : List Nat) : Bool :=
  let a := spargeSource w
  let b := spargeDest w
  let w0 := w.getD 0 0
  let sameSpace := a.space == b.space && (a.space != 3 || a.addr % 2 ^ 24 == b.addr % 2 ^ 24)
  reservedWords w || decide (5 < bits w0 15 10) || decide (4 < a.space) || decide (4 < b.space)
    || a.total != b.total
    || decide (a.low < 0) || decide (b.low < 0) || decide ((s.spaceSize a : Int) < a.high)
    || decide ((s.spaceSize b : Int) < b.high)
    || (sameSpace && decide (a.low < b.high) && decide (b.low < a.high))

/-- The length of the access that continues a side at stream position `p` (R364): a head, up to 4 whole blocks that
stay inside a 256-byte boundary, or a tail. -/
def SpargeSide.accessLength (d : SpargeSide) (p : Nat) : Nat :=
  let o := p % d.run
  let b := spaceBlock d.space
  let a := (d.runStart (p / d.run)).toNat
  let h := min d.run ((b - a % b) % b)
  if o < h then h - o
  else
    let blocks := (d.run - o) / b
    if blocks = 0 then d.run - o else min (min blocks 4 * b) (256 - (a + o) % 256)

/-- The address within the space of stream position `p`. -/
def SpargeSide.at_ (d : SpargeSide) (p : Nat) : Nat := (d.runStart (p / d.run)).toNat + p % d.run

/-- R326, R30: whether an address of the Floor Map region lies in the bright copy. The copies exchange roles at each rack; the lower one
is bright first (DESIGN CHOICE; log entry 3). -/
def State.inBrightCopy (s : State) (a : Nat) : Bool := a / 16777216 == s.sets.rack.count % 2

/-- A Brew Log record from its 32 bytes (Table 16-9). -/
def BrewRec.ofBytes (b : Bytes) : BrewRec :=
  { seq := fieldBE b 0 4, ctime := { frame := fieldBE b 4 4, line := fieldBE b 8 2 }, time := fieldBE b 10 10,
    source := fieldBE b 20 3 / 4096, event := fieldBE b 20 3 % 4096, flags := fieldBE b 23 1, args := fieldBE b 24 8 }

/-- R326, Table 14-1: a byte of working memory. The Floor Map copies hold the sets' words and the ring holds the Brew Log's records, most
significant byte first (DEDUCED from R5; log entry 3). -/
def State.workByte (s : State) (a : Nat) : Byte :=
  if a < 0x02000000 then
    let m := if s.inBrightCopy a then s.sets.bright.map else s.sets.green.map
    BitVec.ofNat 8 (m.get (a % 16777216 / 8) / 256 ^ (7 - a % 8))
  else if 0x13800000 ≤ a ∧ a < 0x14800000 then
    (Table.get BrewRec.zero s.brew.ring ((a - 0x13800000) / 32)).bytes.getD (a % 32) 0
  else Table.get 0 s.workMem a

/-- A word with byte `i`, from the most significant one, replaced. -/
def wordPut (v i : Nat) (b : Byte) : Nat := v - v / 256 ^ (7 - i) % 256 * 256 ^ (7 - i) + b.toNat * 256 ^ (7 - i)

/-- R326: writes a byte of working memory. -/
def State.workPut (s : State) (a : Nat) (b : Byte) : State :=
  if a < 0x02000000 then
    let put (c : CanvasSet) : CanvasSet :=
      { c with map := c.map.set (a % 16777216 / 8) (wordPut (c.map.get (a % 16777216 / 8)) (a % 8) b) }
    if s.inBrightCopy a then { s with sets := { s.sets with bright := put s.sets.bright } }
    else { s with sets := { s.sets with green := put s.sets.green } }
  else if 0x13800000 ≤ a ∧ a < 0x14800000 then
    let k := (a - 0x13800000) / 32
    let r := BrewRec.ofBytes ((Table.get BrewRec.zero s.brew.ring k).bytes.set (a % 32) b)
    { s with brew := { s.brew with ring := Table.insert s.brew.ring k r, badSlots := s.brew.badSlots.filter fun x => x != k } }
  else { s with workMem := Table.set 0 s.workMem a b }

/-- Writes bytes of working memory from address `a` on. -/
def State.workWrite : State → Nat → Bytes → State
  | s, _, [] => s
  | s, a, b :: rest => State.workWrite (s.workPut a b) (a + 1) rest

/-- One byte of a side's space. -/
def State.spaceByte (s : State) (d : SpargeSide) (a : Nat) : Byte :=
  match d.space with
  | 0 => s.workByte a
  | 1 => Table.get 0 s.storeMem a
  | 2 => Table.get 0 s.sramMem a
  | 3 => s.workByte (s.kegAddress (d.addr % 2 ^ 24) + a)
  | 4 => Table.get 0 s.steepMem a
  | _ => 0

/-- Writes bytes from address `a` on. -/
def putBytes : Table Byte → Nat → Bytes → Table Byte
  | m, _, [] => m
  | m, a, b :: rest => putBytes (Table.set 0 m a b) (a + 1) rest

/-- Writes bytes of a side's space. -/
def State.spaceWrite (s : State) (d : SpargeSide) (a : Nat) (bs : Bytes) : State :=
  match d.space with
  | 0 => s.workWrite a bs
  | 1 => { s with storeMem := putBytes s.storeMem a bs }
  | 2 => { s with sramMem := putBytes s.sramMem a bs }
  | 3 => s.workWrite (s.kegAddress (d.addr % 2 ^ 24) + a) bs
  | 4 => { s with steepMem := putBytes s.steepMem a bs }
  | _ => s

/-- A channel. -/
def State.spargeCh (s : State) (c : Nat) : SpargeChannel := Table.get SpargeChannel.idle s.sparge.channels c

/-- Replaces a channel. -/
def State.setSpargeCh (s : State) (c : Nat) (ch : SpargeChannel) : State :=
  { s with sparge := { s.sparge with channels := Table.set SpargeChannel.idle s.sparge.channels c ch } }

/-- A descriptor is posted (R363, Table 15-5): checked, then RUN, or IDLE with FORMAT and BUS_ERR detail 4. A
descriptor whose VALID is 0 is not ready, and the channel stays as it is. -/
def State.spargePost (s : State) (c : Nat) (w : List Nat) : State :=
  if bit (w.getD 0 0) 0 = false then s
  else if s.spargeFormat w then
    (s.setSpargeCh c { SpargeChannel.idle with words := w, ended := 3 }).report 0x580 .busErr 0 (4 * 256 + c)
  else s.setSpargeCh c { SpargeChannel.idle with state := .run, words := w, retriesLeft := bits (w.getD 0 0) 6 4 }

/-- Whether a channel may take a new descriptor. -/
def SpargeChannel.isFree (ch : SpargeChannel) : Bool := ch.state == .idle || ch.state == .done

/-- Reads the words of a descriptor at an SRAM offset, most significant byte first. -/
def State.sramWords (s : State) (a : Nat) : List Nat :=
  (List.range 8).map fun i => ofBytesBE ((List.range 8).map fun j => Table.get (0 : Byte) s.sramMem (a + 8 * i + j))

/-- DESCRIPTOR_POST (R363). -/
def execDescriptorPost (t channel : Nat) (words : List Nat) (s : State) : Host.Outcome State Fault Refusal :=
  let s := s.land t
  .next (s.when (decide (channel < 32) && (s.spargeCh channel).isFree) (fun s => s.spargePost channel words))

/-- Whether a channel's next burst reads: the stream is not read to its end and the funnel has room (R364). -/
def SpargeChannel.nextReads (ch : SpargeChannel) : Bool :=
  let a := spargeSource ch.words
  decide (ch.readPos < a.total) && decide (ch.funnel.length + a.accessLength ch.readPos ≤ 512)

/-- Whether a channel has a burst left to issue. -/
def SpargeChannel.hasBurst (ch : SpargeChannel) : Bool :=
  (ch.state == .run || ch.state == .waitReq) && decide (ch.writePos < (spargeDest ch.words).total)

/-- The request source of a channel's descriptor; 0 runs free (R366). -/
def SpargeChannel.req (ch : SpargeChannel) : Nat := bits (ch.words.getD 0 0) 15 10

/-- The issue priority in force (SPG_CH_PRIO). -/
def SpargeChannel.prio (ch : SpargeChannel) : Nat := bits (ch.words.getD 0 0) 3 1

/-- Performs a channel's next burst: a read fills the funnel, a write empties it (R364). -/
def State.spargeBurst (s : State) (c : Nat) : State :=
  let ch := { s.spargeCh c with state := .run, passed := 0 }
  let s := { s with sparge := { s.sparge with lastIssued := c } }
  if ch.nextReads then
    let a := spargeSource ch.words
    let n := a.accessLength ch.readPos
    let data := (List.range n).map fun i => s.spaceByte a (a.at_ ch.readPos + i)
    s.setSpargeCh c { ch with readPos := ch.readPos + n, funnel := ch.funnel ++ data,
                              flight := some { write := false, data := data } }
  else
    let b := spargeDest ch.words
    let n := b.accessLength ch.writePos
    let data := ch.funnel.take n
    let s := (s.spaceWrite b (b.at_ ch.writePos) data).count Obj.spgBytes 0 n
    s.setSpargeCh c { ch with writePos := ch.writePos + n, funnel := ch.funnel.drop n,
                              flight := some { write := true, data := data } }

/-- The channels with a burst ready, in ascending order after the channel issued last (R365). -/
def State.spargeReady (s : State) : List Nat :=
  let order := (List.range 32).map fun i => (s.sparge.lastIssued + 1 + i) % 32
  order.filter fun c => (s.spargeCh c).hasBurst

/-- R365: the channel to issue: one passed over in 64 decisions, else the first of the highest PRIO. -/
def State.spargeChoose (s : State) (ready : List Nat) : Option Nat :=
  match ready.find? fun c => decide (64 ≤ (s.spargeCh c).passed) with
  | some c => some c
  | none =>
    let top := (ready.map fun c => (s.spargeCh c).prio).foldl max 0
    ready.find? fun c => (s.spargeCh c).prio == top

/-- One issue decision among `ready`: a chosen channel whose request is low at the sample goes to WAIT_REQ and the
decision is made among the others (R366). -/
def spargeDecide (asserted : List Nat) : Nat → List Nat → State → State
  | 0, _, s => s
  | fuel + 1, ready, s =>
    match s.spargeChoose ready with
    | none => s
    | some c =>
      let ch := s.spargeCh c
      if ch.req ≠ 0 ∧ asserted.contains ch.req = false then
        spargeDecide asserted fuel (ready.filter (· != c)) (s.setSpargeCh c { ch with state := .waitReq })
      else
        let s := (ready.filter (· != c)).foldl (fun s d =>
          s.setSpargeCh d { s.spargeCh d with passed := (s.spargeCh d).passed + 1 }) s
        s.spargeBurst c

/-- BURST_ISSUE (R364 to R366): one burst of the chosen channel; `asserted` are the request sources asserted at the
sample. -/
def execBurstIssue (t : Nat) (asserted : List Nat) (s : State) : Host.Outcome State Fault Refusal :=
  let s := s.land t
  .next (spargeDecide asserted 32 s.spargeReady s)

/-- REQ_ASSERT (R366): the channel in WAIT_REQ on the source that issue order reaches first issues its burst. -/
def execReqAssert (t source : Nat) (s : State) : Host.Outcome State Fault Refusal :=
  let s := s.land t
  let waits := s.spargeReady.filter fun c => (s.spargeCh c).state == .waitReq && (s.spargeCh c).req == source
  .next (spargeDecide [source] 32 waits s)

/-- Draws `n` bytes that the manual leaves undefined. -/
def freeBytes (draw n : Nat) : Bytes := (List.range n).map fun i => BitVec.ofNat 8 (Config.freeValue (draw + i))

/-- A failed burst is taken back: a read wrote nothing of itself; the destination bytes of a write are undefined
(R367). -/
def State.spargeUndo (s : State) (c : Nat) : State :=
  let ch := s.spargeCh c
  match ch.flight with
  | none => s
  | some f =>
    if f.write then
      let b := spargeDest ch.words
      let p := ch.writePos - f.data.length
      let s := s.spaceWrite b (b.at_ p) (freeBytes s.draws f.data.length)
      let s := { s with draws := s.draws + f.data.length }
      let s := s.put Obj.spgBytes 0 (s.val Obj.spgBytes 0 - f.data.length : Nat)
      s.setSpargeCh c { ch with writePos := p, funnel := f.data ++ ch.funnel, flight := some { f with data := [] } }
    else
      s.setSpargeCh c { ch with readPos := ch.readPos - f.data.length,
                                funnel := ch.funnel.take (ch.funnel.length - f.data.length),
                                flight := some { f with data := [] } }

/-- The address, within its space, and the space of the burst a channel would issue next. -/
def SpargeChannel.burstAt (ch : SpargeChannel) : Nat × Nat :=
  match ch.flight with
  | some f =>
    if f.write then ((spargeDest ch.words).at_ ch.writePos, (spargeDest ch.words).space)
    else ((spargeSource ch.words).at_ ch.readPos, (spargeSource ch.words).space)
  | none => ((spargeSource ch.words).at_ ch.readPos, (spargeSource ch.words).space)

/-- BURST_FAIL (R367): the burst in flight of a running channel fails by an error tag or a timeout. With retries left it
waits 1 µs; else the channel halts with BUS_ERR. -/
def execBurstFail (t channel : Nat) (timeout : Bool) (s : State) : Host.Outcome State Fault Refusal :=
  let s := s.land t
  let ch := s.spargeCh channel
  if ch.state = .run ∧ ch.flight.isSome then
    let s := (s.count Obj.spgBusErrs).spargeUndo channel
    let ch := s.spargeCh channel
    if 0 < ch.retriesLeft then
      .next (s.setSpargeCh channel { ch with state := .retry, retriesLeft := ch.retriesLeft - 1, failedAt := s.now })
    else
      let at_ := ch.burstAt
      let s := s.setSpargeCh channel { ch with state := .halted, ended := 4 }
      let s := s.put Obj.spgChLastErr channel (at_.2 * 2 ^ 48 + at_.1 % 2 ^ 48 : Nat)
      .next (s.report 0x580 .busErr (at_.1 % 2 ^ 48) ((if timeout then 2 else 1) * 256 + channel))
  else .next s

/-- BURST_RETRY (R367): 1 µs after the failure the burst is reissued. -/
def execBurstRetry (t channel : Nat) (s : State) : Host.Outcome State Fault Refusal :=
  let s := s.land t
  let ch := s.spargeCh channel
  if ch.state = .retry ∧ ch.failedAt + 1000 ≤ s.now then
    .next ((s.count Obj.spgChRetries channel).spargeBurst channel)
  else .next s

/-- CHANNEL_RESUME (R367): a halted channel reissues the failing burst with a fresh retry count. -/
def execChannelResume (t channel : Nat) (s : State) : Host.Outcome State Fault Refusal :=
  let s := s.land t
  let ch := s.spargeCh channel
  if ch.state = .halted then
    let s := s.setSpargeCh channel { ch with retriesLeft := bits (ch.words.getD 0 0) 6 4, ended := 0 }
    .next (s.spargeBurst channel)
  else .next s

/-- CHANNEL_ABORT (R368): after the burst in flight the descriptor ends ABORTED; bytes written stay written. -/
def execChannelAbort (t channel : Nat) (s : State) : Host.Outcome State Fault Refusal :=
  let s := s.land t
  let ch := s.spargeCh channel
  if ch.state = .idle then .next s
  else .next (s.setSpargeCh channel { ch with state := .idle, flight := none, funnel := [], ended := 5 })

/-- DESCRIPTOR_DONE (R368): every destination write is acknowledged, and the read-back where RB asks for one; the
interrupt where IRQ asks for it; the next descriptor where CHAIN names one. -/
def execDescriptorDone (t channel : Nat) (s : State) : Host.Outcome State Fault Refusal :=
  let s := s.land t
  let ch := s.spargeCh channel
  if ch.state = .run ∧ (spargeDest ch.words).total ≤ ch.writePos then
    let w0 := ch.words.getD 0 0
    let irq := bit w0 8
    let s := s.setSpargeCh channel
      { ch with state := .done, flight := none, interrupt := ch.interrupt || irq, ended := 2 }
    if bit w0 9 then
      let s := s.spargePost channel (s.sramWords (bits w0 47 32 * 64))
      .next (s.setSpargeCh channel { s.spargeCh channel with interrupt := ch.interrupt || irq })
    else .next s
  else .next s

/-- Whether a side of a diagnostic descriptor lies in Maltster SRAM 0x3F_0000 to 0x3F_FFFF. -/
def SpargeSide.inWindow (d : SpargeSide) : Bool :=
  d.space == 2 && decide (0x3F0000 ≤ d.low) && decide (d.high ≤ 0x400000)

/-- The eight words of 64 bytes. -/
def wordsOf (b : Bytes) : List Nat := (List.range 8).map fun i => fieldBE b (8 * i) 8

/-- SPG_DIAG_DESC (R3, R360, Table 15-10): runs a descriptor on channel 31. -/
def spgDiagDesc (data : Bytes) (s : State) : Effect :=
  let w := wordsOf data
  if reservedWords w then (s, .reserved)
  else if (spargeSource w).inWindow = false ∨ (spargeDest w).inWindow = false then (s, .range)
  else if (s.spargeCh 31).isFree = false then (s, .busy)
  else (s.spargePost 31 w, .ok)

/-- SPG_DIAG_DESC. -/
def execSpgDiagDesc (t : Nat) (who : Path) (data : Bytes) (s : State) : Host.Outcome State Fault Refusal :=
  objectCommand t who Obj.spgDiagDesc 0 (.bytes data) (spgDiagDesc data) s

end Sys2Proof.Machine
end

