-- ==== Sys2Proof/Machine/Compositor.lean ====
section
/-! DEFINITION. The Compositor: reception and merge of flows (R89, R91, R92, R95), sample points (R94), composition (R102,
R103, R114, R115), lost pixels (R104), flow status (R105), the source-integrity flag (R106), raw egress (R107 to R109), what a
rack empties (R96, R104), stills (R100). -/
set_option Elab.async false
namespace Sys2Proof.Machine

/-! ### Reception -/

/-- A flow. -/
def Flow.idle : Flow :=
  { ring := [], top := none, accepted := [], buffers := [], status := 0, missRun := 0, hideFrom := none, frame := 0,
    anyPresent := false, anyMissing := false }

/-- A flow of the Compositor. -/
def State.flow (s : State) (f : Nat) : Flow := Table.get Flow.idle s.cmp.flows f

/-- Replaces a flow. -/
def State.setFlow (s : State) (f : Nat) (x : Flow) : State :=
  { s with cmp := { s.cmp with flows := Table.set Flow.idle s.cmp.flows f x } }

/-- R92: the empty entry. -/
def LineEntry.empty : LineEntry := { ts := 0, line := 0, received := 0, data := [] }

/-- R92: whether tag (ts, j) is earlier than the entry's, or the other way round. -/
def tagEarlier (ts j ts' j' : Nat) : Bool := frameEarlier ts ts' || (ts == ts' && decide (j < j'))

/-- The entry of a ring or of the frame buffers, if it holds anything. -/
def lineEntry (t : Table LineEntry) (k : Nat) : Option LineEntry := (t.find? fun p => p.1 == k).map (·.2)

/-- R96: the set a flow's contents follow: until the composition of frame F − 1 completes, the set of that frame. -/
def State.flowSet (s : State) (f : Nat) : CanvasSet :=
  match s.cmp.rackFrame with
  | some fr => if s.cmp.emptyFlows.contains f then s.setFor (sub32 fr 1) else s.sets.bright
  | none => s.sets.bright

/-- R93, R95: the flow frame with timestamp `ts` nearest to that of canvas frame `n`, if some canvas frame selects it. -/
def CanvasSet.selected (c : CanvasSet) (f ts n : Nat) : Option Int :=
  let num := bits (c.flow1 f) 15 0
  let den := max 1 (bits (c.flow1 f) 31 16)
  let m0 := c.flowFrame f n
  let d := signed 32 (sub32 ts (c.flowTs f m0))
  let guess := m0 + d * num / (den * 90000 : Nat)
  let m := [guess - 1, guess, guess + 1].find? fun m => c.flowTs f m == ts
  let first (m : Int) : Nat :=
    ((m * (den * giga * c.nat Obj.flrRateNum : Nat) + (bits (c.flow1 f) 57 32 * c.nat Obj.flrRateNum * num : Nat)) /
      (max 1 (c.nat Obj.flrRateDen * num * giga) : Nat)).toNat
  m.filter fun m => c.flowFrame f (first m) == m || c.flowFrame f (first m + 1) == m

/-- The sample row data headers of an ST 2110-20 payload: (length in bytes, line, offset in pixels), and the bytes after them;
none where the payload ends inside a header or holds more than 3. -/
def srdHeaders : Nat → Bytes → Option (List (Nat × Nat × Nat) × Bytes)
  | 0, _ => none
  | fuel + 1, b =>
    if b.length < 6 then none
    else
      let h := (fieldBE b 0 2, bits (fieldBE b 2 2) 14 0, bits (fieldBE b 4 2) 14 0)
      if bit (fieldBE b 4 2) 15 then (srdHeaders fuel (b.drop 6)).map fun r => (h :: r.1, r.2)
      else some ([h], b.drop 6)

/-- Pixels of a pgroup, by flow format. -/
def pgroupPixels (fmt : Nat) : Nat := if fmt = 1 ∨ fmt = 3 then 4 else 2

/-- Bytes of a pgroup, by flow format. -/
def pgroupBytes (fmt : Nat) : Nat := pgroupPixels fmt * flowBpp fmt / 8

/-- R92, R94: the parts of an accepted packet enter the ring; a pinned entry is not retagged. Gives whether one was refused
so.
Of a packet that names several lines, only the
part for a later or pinned entry is discarded; a timestamp 2^31 from the entry's is neither earlier nor later and retags it
(both: DESIGN CHOICE; log entry 89). -/
def ringWrite (fmt ring ts : Nat) (pinned : Nat → Bool) : List (Nat × Nat × Nat) → Bytes → Table LineEntry → Table LineEntry × Bool
  | [], _, t => (t, false)
  | (len, j, off) :: rest, b, t =>
    let k := j % ring
    let old := lineEntry t k
    let later := old.any fun e => tagEarlier ts j e.ts e.line
    let same := old.any fun e => e.ts == ts && e.line == j
    let refused := !later && !same && old.isSome && pinned k
    let t' :=
      if later ∨ refused then t
      else
        let e := if same then old.getD LineEntry.empty else { LineEntry.empty with ts := ts, line := j }
        let at_ := off / pgroupPixels fmt * pgroupBytes fmt
        Table.set LineEntry.empty t k { e with received := e.received + len, data := putBytes e.data at_ (b.take len) }
    let r := ringWrite fmt ring ts pinned rest (b.drop len) t'
    (r.1, refused || r.2)

/-- FLOW_PACKET_RX (R89, R91, R92, R95): a packet whose data is shorter than its sample row data headers say is discarded and counted
in CMP_FLOW_BAD, though R89 does not list that case (DESIGN CHOICE; log entry 83). A packet of a flow from path A or B, by its RTP sequence number, timestamp and payload
from the Extended Sequence Number on. -/
def execFlowPacketRx (t flow : Nat) (pathB : Bool) (seq ts : Nat) (payload : Bytes) (s : State) :
    Host.Outcome State Fault Refusal :=
  let s := s.land t
  let c := s.flowSet flow
  let x := s.flow flow
  let dual := bit (c.flow0 flow) 5
  let fmt := bits (c.flow0 flow) 3 1
  if s.cellar.safe ∨ c.flowEn flow = false ∨ (pathB ∧ !dual) then .next s
  else if c.flowFrames flow ∧ (c.selected flow ts (s.tbs.raster.index s.deviceTime)).isNone then .next s
  else
    match srdHeaders 3 (payload.drop 2) with
    | none => .next (s.count Obj.cmpFlowBad flow)
    | some (heads, data) =>
      if (heads.any fun h => decide (c.flowH flow ≤ h.2.1) ||
          decide (c.flowW flow < h.2.2 + ceilDiv h.1 (pgroupBytes fmt) * pgroupPixels fmt)) ∨ data.length < (heads.map (·.1)).sum then
        .next (s.count Obj.cmpFlowBad flow)
      else
        let n := fieldBE payload 0 2 * 65536 + seq % 65536
        let (verdict, top, accepted) :=
          if dual then mergeSeq 4096 ahead32 x.top x.accepted n else (SeqVerdict.accept, x.top, x.accepted)
        if verdict = .duplicate then .next (s.count Obj.cmpFlowDup flow)
        else if verdict = .old then .next (s.count Obj.cmpFlowBad flow)
        else
          let s := s.count (if pathB then Obj.cmpFlowPktsB else Obj.cmpFlowPktsA) flow
          let ring := c.flowRing flow
          let pinned (k : Nat) : Bool :=
            !c.flowFrames flow && s.cmp.rows.any fun r => r.pinned.any fun p => p.1 == flow && p.2 % ring == k
          let (t', refused) := ringWrite fmt ring ts pinned heads data x.ring
          let s := s.setFlow flow { x with top := top, accepted := accepted, ring := t' }
          .next (if refused then s.count Obj.cmpFlowOverrun flow else s)

/-- FRAME_BUFFER_COPY (R95): a complete line of the staging ring goes to buffer m mod 3; a pinned line is not replaced (R94). -/
def execFrameBufferCopy (t flow line : Nat) (s : State) : Host.Outcome State Fault Refusal :=
  let s := s.land t
  let c := s.flowSet flow
  let x := s.flow flow
  .next (
    match lineEntry x.ring (line % c.flowRing flow) with
    | none => s
    | some e =>
      if c.flowEn flow = false ∨ c.flowFrames flow = false ∨ e.line ≠ line ∨ e.received < c.flowLb flow then s
      else
        match c.selected flow e.ts (s.tbs.raster.index s.deviceTime) with
        | none => s
        | some m =>
          let k := (m % 3).toNat * 65536 + line
          let pinned := s.cmp.rows.any fun r => r.pinned.any fun p => p.1 == flow && p.2 == k
          match lineEntry x.buffers k with
          | some o =>
            if tagEarlier e.ts e.line o.ts o.line then s
            else if pinned ∧ o.ts ≠ e.ts then s.count Obj.cmpFlowOverrun flow
            else s.setFlow flow { x with buffers := Table.set LineEntry.empty x.buffers k e }
          | none => s.setFlow flow { x with buffers := Table.set LineEntry.empty x.buffers k e })

/-! ### What a rack empties -/

/-- R96: the ring offset of a flow. -/
def CanvasSet.ringOffset (c : CanvasSet) (f : Nat) : Nat :=
  (List.range f).foldl (fun acc g => if c.flowEn g then acc + bits (c.flow0 g) 43 32 * c.flowLb g else acc) 0

/-- R96: whether a rack empties a flow: its format, mode, size, ring length or ring offset changes, or it is switched. -/
def flowChanged (old new : CanvasSet) (f : Nat) : Bool :=
  if old.flowEn f ≠ new.flowEn f then true
  else new.flowEn f && (bits (old.flow0 f) 4 1 != bits (new.flow0 f) 4 1 || bits (old.flow0 f) 43 6 != bits (new.flow0 f) 43 6 ||
    old.ringOffset f != new.ringOffset f)

/-- The composition of the frames before a rack is complete: flows and decode streams are emptied (R96, R272), and the held
canvas turns black in a new format (R104). -/
def State.rackEmpties (s : State) : State :=
  let c := s.cmp
  if c.rackFrame.isNone then s
  else
    let s := c.emptyFlows.foldl (fun s f =>
      s.setFlow f (if s.sets.bright.flowEn f then { s.flow f with ring := [], buffers := [] } else Flow.idle)) s
    let s := c.resetStreams.foldl (fun s p => s.decReset p.1 p.2) s
    let s := if c.blacken then
        { s with cmp := { s.cmp with composing := { y := [], cb := [], cr := [] }, held := { y := [], cb := [], cr := [] },
                                     rawTail := [] } }
      else s
    { s with cmp := { s.cmp with rackFrame := none, emptyFlows := [], resetStreams := [], blacken := false } }.leaveGroups
      s.wantedGroups

/-- A rack to frame `f` takes effect: what it empties waits until the frames before are composed. -/
def State.rackCompositor (s : State) (old new : CanvasSet) (f : Nat) : State :=
  let flows := (List.range 64).filter (flowChanged old new)
  let streams := (List.range 32).filterMap fun d => (decRackState old new d).map fun st => (d, st)
  let s := { s with cmp := { s.cmp with rackFrame := some f, emptyFlows := flows, resetStreams := streams,
                                        blacken := codingStartRack old new } }
  if !old.hasCanvas || (s.cmp.rows.isEmpty && (s.cmp.frame != some (sub32 f 1) || s.cmp.nextRow == old.height)) then s.rackEmpties
  else s

/-! ### Sample points -/

/-- The canvas rows of a CTU row that a slot covers, relative to its destination. -/
def Layer.outLines (l : Layer) (row : Nat) : List Nat :=
  ((List.range 32).map fun i => 32 * row + i).filterMap fun y =>
    if l.dy ≤ y ∧ y < l.dy + l.dh then some (y - l.dy) else none

/-- R94: the source lines that a slot's vertical taps read for a CTU row. -/
def CanvasSet.rowNeeds (c : CanvasSet) (l : Layer) (row : Nat) : List Nat :=
  ((l.outLines row).flatMap fun k => (c.slotLines l k).map fun p => l.sy + p.1).eraseDups

/-- The enabled slots of a set. -/
def CanvasSet.slots (c : CanvasSet) : List (Nat × Layer) :=
  ((List.range 16).map fun i => (i, c.slot i)).filter fun p => p.2.en

/-- The key of line `j` of flow frame `m`: in the ring, or in the frame buffers. -/
def CanvasSet.lineKey (c : CanvasSet) (f : Nat) (m : Int) (j : Nat) : Nat :=
  if c.flowFrames f then (m % 3).toNat * 65536 + j else j % c.flowRing f

/-- Where a flow's lines are read. -/
def State.flowLines (s : State) (c : CanvasSet) (f : Nat) : Table LineEntry :=
  if c.flowFrames f then (s.flow f).buffers else (s.flow f).ring

/-- R94, R105: line `j` of flow `f` is needed at a sample point of aligned frame `n`: present lines are pinned in the first
row in composition, missing ones counted. `bad`: the line is uncorrectable. -/
def State.needLine (s : State) (c : CanvasSet) (f n j : Nat) (bad : Bool) : State × Bool :=
  let m := c.flowFrame f n
  let ts := c.flowTs f m
  let x := s.flow f
  let e := lineEntry (s.flowLines c f) (c.lineKey f m j)
  let there := e.any fun e => e.ts == ts && e.line == j && decide (c.flowLb f ≤ e.received)
  if there ∧ !bad then
    let pin := (f, if c.flowFrames f then c.lineKey f m j else j)
    let s := s.setFlow f { x with anyPresent := true }
    ({ s with cmp := { s.cmp with rows := match s.cmp.rows with
        | [] => []
        | r :: rest => { r with pinned := r.pinned ++ [pin] } :: rest } }, true)
  else
    let s := s.setFlow f { x with anyMissing := true }
    if there then (s, false)
    else if e.any fun e => tagEarlier ts j e.ts e.line then (s.count Obj.cmpFlowEarly f, false)
    else if e.any fun e => tagEarlier e.ts e.line ts j then (s.count Obj.cmpFlowLate f, false)
    else (s, false)

/-- R105: the status of a flow after the last sample point of frame `f`. Hiding ends there, where the frame first shows no missing
line: the rule does not say at which moment of that frame (DESIGN CHOICE; log entry 83).
A frame that needs no
line of the flow leaves its status, run and hiding as they are (DESIGN CHOICE; log entry 89). -/
def State.flowStatus (s : State) (c : CanvasSet) (f row : Nat) (k : Nat) : State :=
  let x := s.flow k
  if x.anyMissing then
    let run := x.missRun + 1
    let lost := !x.anyPresent
    let hide := bit (c.flow0 k) 52 && decide (bits (c.flow0 k) 51 44 ≤ run) && x.hideFrom.isNone
    let s := s.setFlow k { x with missRun := run, hideFrom := if hide then some (add32 f 1) else x.hideFrom,
                                  status := if lost then 2 else if x.status = 0 then 1 else x.status }
    if lost ∧ x.status ≠ 2 then s.report 0x200 .sourceLoss (faultAddr f row) k else s
  else if x.anyPresent then
    let s := s.setFlow k { x with missRun := 0, hideFrom := none, status := 1 }
    if x.status = 2 ∨ x.hideFrom.isSome then s.brewRec 0x200 0x030 k else s
  else s

/-- R105: whether a source is hidden in frame `f`. -/
def hiddenIn (h : Option Nat) (f : Nat) : Bool := h.any fun a => !(frameEarlier f a)

/-- R105: whether a slot is hidden in frame `f`. -/
def State.slotHidden (s : State) (l : Layer) (f : Nat) : Bool :=
  if l.kind = 1 then hiddenIn (s.flow l.src).hideFrom f
  else if l.kind = 2 then hiddenIn (s.decStream l.src).hideFrom f
  else false

/-- R94: a slot's lines at a sample point, with the source lines of it that cannot be read (slot, line, picture-store
channel): Table 4-5. -/
def State.sampleSlot (s : State) (c : CanvasSet) (f n row : Nat) (unreadable : List (Nat × Nat × Nat)) (i : Nat) (l : Layer)
    (seen : List (Nat × Nat × Bool)) : State × List (Nat × Nat × Bool) × List (Nat × Nat) :=
  (c.rowNeeds l row).foldl (fun acc j =>
    let (s, seen, missing) := acc
    let bad := unreadable.find? fun u => u.1 == i && u.2.1 == j
    match seen.find? fun q => q.1 == l.src && q.2.1 == j && l.kind == 1 with
    | some q => (s, seen, if q.2.2 then missing else missing ++ [(i, j)])
    | none =>
      let s := match bad with
        | none => s
        | some u =>
          if l.kind = 1 ∧ c.flowFrames l.src = false then s.report 0x560 .eccUncorr (faultAddr f row) 0
          else if l.kind ≠ 0 then s.report (0x520 + u.2.2) .eccUncorr (faultAddr f row) 0
          else s
      if l.kind = 1 then
        let r := s.needLine c l.src n j bad.isSome
        (r.1, seen ++ [(l.src, j, r.2)], if r.2 then missing else missing ++ [(i, j)])
      else (s, seen, if 2 ≤ l.kind ∧ bad.isSome then missing ++ [(i, j)] else missing)) (s, seen, [])

/-- The first sample point of a frame: the canvas composed last becomes the held canvas, the picture begins (R104, R128). -/
def State.frameStart (s : State) (f n : Nat) : State :=
  let s := s.rackEmpties
  let s := { s with cmp := { s.cmp with
    held := s.cmp.composing, frame := some f, nextRow := 0, integrityLost := [], concealed := [],
    flows := Table.mapRows Flow.idle s.cmp.flows fun _ (x : Flow) =>
      { x with frame := f, anyPresent := false, anyMissing := false } } }
  s.startPicture f n

/-- ROW_SAMPLE_POINT (R94, R103): the sample point of CTU row `row` of the present frame. -/
def execRowSamplePoint (t row : Nat) (unreadable : List (Nat × Nat × Nat)) (s : State) : Host.Outcome State Fault Refusal :=
  let s := s.land t
  let now := s.ctime
  let f := now.frame
  let c := s.setFor f
  let due := if s.cmp.frame = some f then s.cmp.nextRow else 0
  if s.inGap ∨ s.cellar.safe ∨ c.hasCanvas = false ∨ row ≠ due ∨ c.height ≤ row ∨ now.line < 32 * row + 32 then .next s
  else
    let n := s.indexOf f
    let s := if row = 0 then s.frameStart f n else s
    let work : RowWork := { frame := f, index := n, row := row, pinned := [], missing := [], written := 0, parity := [], lost := [], lines := 0 }
    let s := { s with cmp := { s.cmp with rows := work :: s.cmp.rows, nextRow := row + 1 } }
    let s := c.slots.foldl (fun s p =>
      if p.2.kind = 2 ∧ !(p.2.outLines row).isEmpty then s.decSelect p.2.src f n else s) s
    let (s, _, missing) := c.slots.foldl (fun (acc : State × List (Nat × Nat × Bool) × List (Nat × Nat)) p =>
      let (s, seen, missing) := acc
      let r := s.sampleSlot c f n row unreadable p.1 p.2 seen
      (r.1, r.2.1, missing ++ r.2.2)) (s, [], [])
    let s := { s with cmp := { s.cmp with rows := match s.cmp.rows with
      | [] => []
      | r :: rest => { r with missing := missing } :: rest } }
    let s := if row + 1 = c.height then
        (List.range 64).foldl (fun s k => if c.flowEn k then s.flowStatus c f row k else s) s
      else s
    .next (s.rowSampled f row)

/-! ### Composed pixels -/

/-- The source pixel of a slot at a position of its source (R88, R254, R100). -/
def State.sourcePx (s : State) (c : CanvasSet) (n : Nat) (l : Layer) (x y : Nat) : Px :=
  match l.kind with
  | 0 => { y := (4 * l.solidY : Nat), cb := (4 * l.solidCb : Nat), cr := (4 * l.solidCr : Nat), a := 1023 }
  | 1 =>
    let fmt := bits (c.flow0 l.src) 3 1
    let e := (lineEntry (s.flowLines c l.src) (c.lineKey l.src (c.flowFrame l.src n) y)).getD LineEntry.empty
    let p := flowPx fmt (c.flowW l.src) e.data x
    if fmt < 3 then p
    else
      let v := rgbToYcbcr (c.nat Obj.cspColour) p.y p.cb p.cr
      { p with y := v.1, cb := v.2.1, cr := v.2.2 }
  | 2 =>
    match (s.decStream l.src).used with
    | none => { y := 256, cb := 2048, cr := 2048, a := 1023 }
    | some p => p.px (bits (c.dec0 l.src) 3 2) (c.nat Obj.cspColour) (bits (c.dec0 l.src) 16 4 + 1) (bits (c.dec0 l.src) 29 17 + 1) x y
  | _ => stillPx (s.val Obj.cmpStillDesc l.src) (s.still l.src).data x y

/-- Whether a layer contributes to a pixel of frame `f` (R102). -/
def State.contributes (s : State) (l : Layer) (f x y : Nat) : Bool := l.en && l.covers x y && !s.slotHidden l f

/-- R102: one layer over the accumulated value of a component. -/
def blend (mode : Nat) (acc c a g : Int) : Int :=
  if mode = 0 then (c * a + acc * (1023 - a) + 511) / 1023
  else if mode = 1 then (2 * c * g + 1023) / 2046 + (acc * (1023 - a) + 511) / 1023
  else if mode = 2 then acc + (c * a + 511) / 1023
  else c

/-- R102: the composed pixel of stack `k`, in signed working values from the bottom layer up. -/
def State.composedPx (s : State) (c : CanvasSet) (w : RowWork) (x y : Nat) : Px :=
  let e := c.ctu (x / 32) (y / 32)
  let k := bits e 31 20
  let w0 := c.nat Obj.cmpStackW0 k
  let w1 := c.nat Obj.cmpStackW1 k
  let start : Int × Int × Int := ((bits w0 11 0 : Int) - 256, (bits w0 23 12 : Int) - 2048, (bits w0 35 24 : Int) - 2048)
  let r := (List.range (min 8 (bits w0 39 36))).foldl (fun (acc : Int × Int × Int) i =>
    let l := c.slot (bits w1 (8 * i + 3) (8 * i))
    if s.contributes l w.frame x y then
      let p := c.scaledPx l (fun cx cy => s.sourcePx c w.index l (l.sx + cx) (l.sy + cy)) x y
      let g : Int := l.opacity
      let a := (2 * p.a * g + 1023) / 2046
      let mode := bits w1 (8 * i + 5) (8 * i + 4)
      (clip (-256) 3839 (blend mode acc.1 (p.y - 256) a g), clip (-2048) 2047 (blend mode acc.2.1 (p.cb - 2048) a g),
        clip (-2048) 2047 (blend mode acc.2.2 (p.cr - 2048) a g))
    else acc) start
  { y := r.1 + 256, cb := r.2.1 + 2048, cr := r.2.2 + 2048, a := 1023 }

/-- The slots of a CTU's stack. -/
def CanvasSet.stackSlots (c : CanvasSet) (e : Nat) : List Nat :=
  let k := bits e 31 20
  (List.range (min 8 (bits (c.nat Obj.cmpStackW0 k) 39 36))).map fun i => bits (c.nat Obj.cmpStackW1 k) (8 * i + 3) (8 * i)

/-- R104: whether a pixel is lost: its line is missing, the line buffer of its slot has failed for the row, or its CTU is at or beyond `limit`, the first one not composed by the completion limit. -/
def State.pxLost (s : State) (c : CanvasSet) (w : RowWork) (limit x y : Nat) : Bool :=
  let e := c.ctu (x / 32) (y / 32)
  !ctuBlack e &&
    (decide (limit ≤ x / 32) ||
      (c.stackSlots e).any fun i =>
        let l := c.slot i
        s.contributes l w.frame x y &&
          (w.parity.contains i || (c.slotLines l (y - l.dy)).any fun p => w.missing.contains (i, l.sy + p.1)))

/-- The width in pixels. -/
def CanvasSet.pxW (c : CanvasSet) : Nat := 32 * c.width

/-- A sample of the held canvas that covers a pixel, 10 bits: component 0 Y, 1 Cb, 2 Cr. -/
def State.heldPx (s : State) (c : CanvasSet) (comp x y : Nat) : Nat :=
  let (sw, sh) := c.chromaSub
  let at_ := y / sh * 65536 + x / sw
  if comp = 0 then Table.get 64 s.cmp.held.y (y * 65536 + x)
  else if comp = 1 then Table.get 512 s.cmp.held.cb at_
  else Table.get 512 s.cmp.held.cr at_

/-- A component of a pixel. -/
def Px.comp (p : Px) : Nat → Int
  | 0 => p.y
  | 1 => p.cb
  | _ => p.cr

/-- A composed row: pixels by position, and lost ones. -/
structure RowPx where
  set : CanvasSet
  work : RowWork
  limit : Nat

/-- R114, R104: what the filters read at a pixel: black of a masked CTU, the held value of a lost pixel at 12 bits, else the
composed one. -/
def State.filterPx (s : State) (r : RowPx) (comp x y : Nat) : Int :=
  if ctuBlack (r.set.ctu (x / 32) (y / 32)) then (if comp = 0 then 256 else 2048)
  else if s.pxLost r.set r.work r.limit x y then ((4 * s.heldPx r.set comp x y : Nat) : Int)
  else (s.composedPx r.set r.work x y).comp comp

/-- R114, step 1: the horizontally filtered chroma at column `i` of the subsampled grid. -/
def State.chromaRow (s : State) (r : RowPx) (comp i y : Nat) : Int :=
  let at_ (v : Int) : Int := s.filterPx r comp (clip 0 ((r.set.pxW : Int) - 1) v).toNat y
  shiftRight (at_ (2 * i - 1) + 2 * at_ (2 * i) + at_ (2 * i + 1) + 2) 2

/-- Table 5-2. -/
def ditherB : List Nat := [0, 8, 2, 10, 12, 4, 14, 6, 3, 11, 1, 9, 15, 7, 13, 5]

/-- R115. -/
def CanvasSet.to10 (c : CanvasSet) (comp x y : Nat) (v : Int) : Nat :=
  if c.nat Obj.cspDither = 1 then
    let (ox, oy) := if comp = 0 then (0, 0) else if comp = 1 then (2, 1) else (1, 3)
    (min ((4 * v + (ditherB.getD ((y + oy) % 4 * 4 + (x + ox) % 4) 0 : Nat)) / 16) 1023).toNat
  else (min ((v + 2) / 4) 1023).toNat

/-- A sample of a target format (subsampling sw × sh, 10 or 12 bits): black in a masked CTU, held where a pixel it covers is
lost, else by R114 and R115. -/
def State.targetSample (s : State) (r : RowPx) (sw sh : Nat) (deep : Bool) (comp i j : Nat) : Nat :=
  let kx := if comp = 0 then 1 else sw
  let ky := if comp = 0 then 1 else sh
  let x := i * kx
  let y := j * ky
  let covered := (List.range ky).flatMap fun b => (List.range kx).map fun a => (x + a, y + b)
  if bit (r.set.ctu (x / 32) (y / 32)) 50 || ctuBlack (r.set.ctu (x / 32) (y / 32)) then
    (if comp = 0 then 64 else 512) * (if deep then 4 else 1)
  else if covered.any fun q => s.pxLost r.set r.work r.limit q.1 q.2 then
    s.heldPx r.set comp x y * (if deep then 4 else 1)
  else
    let v :=
      if kx = 1 then s.filterPx r comp x y
      else if ky = 1 then s.chromaRow r comp i y
      else shiftRight (s.chromaRow r comp i y + s.chromaRow r comp i (y + 1) + 1) 1
    if deep then v.toNat else r.set.to10 comp i j v

/-- The coded samples of a component of a CTU row, in the CTU columns before `upto` that are not written yet. -/
def State.codedPlane (s : State) (r : RowPx) (upto comp : Nat) (t : Table Nat) : Table Nat :=
  let (sw, sh) := r.set.chromaSub
  let kx := if comp = 0 then 1 else sw
  let ky := if comp = 0 then 1 else sh
  (List.range (32 / ky)).foldl (fun t b =>
    ((List.range (32 * upto / kx)).drop (32 * r.work.written / kx)).foldl (fun t i =>
      let j := 32 * r.work.row / ky + b
      Table.set (if comp = 0 then 64 else 512) t (j * 65536 + i) (s.targetSample r sw sh false comp i j)) t) t

/-! ### Raw egress -/

/-- Bits of a raw pgroup of `fmt` at pixel column `x` of line `y`, most significant first: samples of `w` bits. -/
def packSamples (w : Nat) (l : List Nat) : Nat := l.foldl (fun acc v => acc * 2 ^ w + v) 0

/-- R108: the bytes of one line of a group. -/
def State.rawLine (s : State) (r : RowPx) (fmt x0 w y : Nat) : Bytes :=
  let v (sw : Nat) (deep : Bool) (comp i : Nat) : Nat := s.targetSample r sw 1 deep comp i y
  if fmt = 0 then
    (List.range (w / 2)).flatMap fun i =>
      let x := x0 + 2 * i
      bytesBE 5 (packSamples 10 [v 2 false 1 (x / 2), v 2 false 0 x, v 2 false 2 (x / 2), v 2 false 0 (x + 1)])
  else
    let deep := fmt = 2
    let n := pgroupPixels fmt
    (List.range (w / n)).flatMap fun i =>
      bytesBE (pgroupBytes fmt) (packSamples (if deep then 12 else 10) ((List.range n).flatMap fun k =>
        let x := x0 + n * i + k
        [v 1 deep 1 x, v 1 deep 0 x, v 1 deep 2 x]))

/-- R108: pgroups of the packet that starts at pgroup `p` of a frame of `total` pgroups, `line` per line: the largest whole
number that fits `n`, of at most two lines. -/
def rawTake (n line total p : Nat) : Nat := min (min n (total - p)) ((p / line + 2) * line - p)

/-- R108: packets before pgroup `q` of a frame: those that end there or earlier. -/
def rawPackets (n line total q : Nat) : Nat → Nat → Nat → Nat
  | 0, _, k => k
  | fuel + 1, p, k =>
    let m := rawTake n line total p
    if m = 0 ∨ q < p + m then k else rawPackets n line total q fuel (p + m) (k + 1)

/-- R320: the RTP payload lengths of the packets of a frame from pgroup `p` on: the extended sequence number, one or two headers, data. -/
def rawLengths (n line total bytes : Nat) : Nat → Nat → List Nat
  | 0, _ => []
  | fuel + 1, p =>
    let m := rawTake n line total p
    if m = 0 then []
    else (2 + (if m ≤ (p / line + 1) * line - p then 6 else 12) + m * bytes) :: rawLengths n line total bytes fuel (p + m)

/-- Numbers of an enabled raw group (Table 4-6): format, tap, X0, Y0, width and height in pixels, pgroups per packet, per line
and per frame, and Pf. -/
structure RawGroup where
  g : Nat
  fmt : Nat
  tap : Nat
  x0 : Nat
  y0 : Nat
  w : Nat
  h : Nat
  per : Nat
  line : Nat
  total : Nat
  pf : Nat

/-- An enabled raw group of a set. -/
def CanvasSet.rawGroup (c : CanvasSet) (g : Nat) : RawGroup :=
  let w0 := c.nat Obj.cmpRawW0 g
  let w1 := c.nat Obj.cmpRawW1 g
  let fmt := bits w0 2 1
  let w := 32 * (bits w0 47 38 + 1)
  let h := 32 * (bits w0 57 48 + 1)
  let per := max 1 (bits w1 13 0 / pgroupBytes fmt)
  let line := w / pgroupPixels fmt
  let total := line * h
  { g := g, fmt := fmt, tap := bits w0 16 3, x0 := 32 * bits w0 27 17, y0 := 32 * bits w0 37 28, w := w, h := h, per := per,
    line := line, total := total, pf := rawPackets per line total total total 0 0 }

/-- The enabled raw groups of a set, ascending. -/
def CanvasSet.rawGroups (c : CanvasSet) : List Nat :=
  ((Store.rows c.objs Obj.cmpRawW0).filter fun p => decide (1 ≤ p.1) && bit p.2.toNat 0).map (·.1)

/-- R108: packet `k` of a group: pgroups `p` to `p + m`, their bytes.
S of R109, whose parts the rule does not list, is taken as the bytes of the frame: 56 and 6 a header,
the data, 4 with a tag, 20 more in IPv6 (DESIGN CHOICE; log entry 89). -/
def State.rawPacket (s : State) (c : CanvasSet) (w : RowWork) (z : RawGroup) (k p m : Nat) (data : Bytes) : State :=
  let w1 := c.nat Obj.cmpRawW1 z.g
  let es := (w.frame * z.pf + k) % 4294967296
  let first := min m ((p / z.line + 1) * z.line - p)
  let srd (n line px : Nat) (more : Bool) : Bytes :=
    bytesBE 2 (n * pgroupBytes z.fmt) ++ bytesBE 2 line ++ bytesBE 2 (ofBool more * 32768 + px)
  let heads := srd first (p / z.line) (p % z.line * pgroupPixels z.fmt) (decide (first < m)) ++
    (if first < m then srd (m - first) (p / z.line + 1) 0 false else [])
  let payload := bytesBE 1 0x90 ++ bytesBE 1 (ofBool (k + 1 == z.pf) * 128 + bits w1 20 14) ++ bytesBE 2 (es % 65536)
    ++ bytesBE 4 (rtpTime (c.nat Obj.flrRateNum) (c.nat Obj.flrRateDen) w.index) ++ bytesBE 4 (bits w1 63 32)
    ++ bytesBE 4 0xBEDE0003 ++ bytesBE 1 (c.nat Obj.asmExtIdCt * 16 + 8) ++ bytesBE 4 w.frame ++ zeros 5 ++ zeros 2
    ++ bytesBE 2 (es / 65536) ++ heads ++ data
  let size := 56 + heads.length + data.length + (if c.tapTagged z.tap then 4 else 0) + (if c.tapV6 z.tap then 20 else 0)
  let s := s.countOctets z.tap es [2 + heads.length + data.length]
  let (s, h) := s.kegAlloc 3 size
  match h with
  | none => s.count Obj.cmpRawDry
  | some h =>
    let pkt : Pkt :=
      { stream := 4097 + z.g, frame := w.frame, index := w.index, es := es,
        rawNs := some (k * c.nat Obj.flrRateDen * giga / (c.nat Obj.flrRateNum * z.pf)),
        launch := z.y0 + 32 + c.nat Obj.tapLaunchLines, payload := payload, ctAt := 16, gapCount := 0, gapCause := 0, chain := [],
        kegs := [h] }
    { s with tap := { s.tap with offers := s.tap.offers ++ [(z.tap, pkt)] } }

/-- The packets that the bytes at hand complete; the rest waits for the next row. -/
def State.rawSend (c : CanvasSet) (w : RowWork) (z : RawGroup) (avail : Nat) : Nat → Nat → Nat → Bytes → State → State
  | 0, _, _, b, s => { s with cmp := { s.cmp with rawTail := Table.set [] s.cmp.rawTail z.g b } }
  | fuel + 1, k, p, b, s =>
    let m := rawTake z.per z.line z.total p
    if m = 0 ∨ avail < p + m then { s with cmp := { s.cmp with rawTail := Table.set [] s.cmp.rawTail z.g b } }
    else
      let n := m * pgroupBytes z.fmt
      State.rawSend c w z avail fuel (k + 1) (p + m) (b.drop n) (s.rawPacket c w z k p m (b.take n))

/-- R108: a composed row's part of a group. -/
def State.rawRow (s : State) (r : RowPx) (g : Nat) : State :=
  let c := r.set
  let z := c.rawGroup g
  let y := 32 * r.work.row
  if y < z.y0 ∨ z.y0 + z.h ≤ y then s
  else
    let before := (y - z.y0) * z.line
    let tail := if before = 0 then [] else Table.get [] s.cmp.rawTail g
    let data := tail ++ (List.range 32).flatMap fun i => s.rawLine r z.fmt z.x0 z.w (y + i)
    let p := before - tail.length / pgroupBytes z.fmt
    State.rawSend c r.work z (before + 32 * z.line) (z.total + 1) (rawPackets z.per z.line z.total p z.total 0 0) p data s

/-! ### Rows -/

/-- R106: whether a hidden slot's destination intersects columns x0 to x1 (CTUs) of a row. -/
def State.hiddenMeets (s : State) (c : CanvasSet) (f row x0 x1 : Nat) : Bool :=
  c.slots.any fun p =>
    let l := p.2
    s.slotHidden l f && decide (l.dx < 32 * x1) && decide (32 * x0 < l.dx + l.dw) && decide (l.dy < 32 * row + 32) &&
      decide (32 * row < l.dy + l.dh)

/-- R236: whether a pixel that is composed reads a cell of a decoded picture whose state is not 0 (R264, R271). -/
def State.pxConcealed (s : State) (c : CanvasSet) (w : RowWork) (x y : Nat) : Bool :=
  let e := c.ctu (x / 32) (y / 32)
  !ctuBlack e && (c.stackSlots e).any fun i =>
    let l := c.slot i
    l.kind == 2 && s.contributes l w.frame x y &&
      (match (s.decStream l.src).used with
       | none => false
       | some p => !(s.decStream l.src).fresh || (c.slotLines l (y - l.dy)).any fun a => (c.slotColumns l (x - l.dx)).any fun b =>
           Table.get 0 p.cells ((p.cropT + l.sy + a.1) / 32 * cellsOf p.w + (p.cropL + l.sx + b.1) / 32) != 0)

/-- The row in composition with number `row`: the oldest. -/
def State.rowWork (s : State) (row : Nat) : Option RowWork := s.cmp.rows.reverse.find? fun r => r.row == row

/-- The row of a frame in composition takes a new record. -/
def State.setRow (s : State) (w : RowWork) : State :=
  { s with cmp := { s.cmp with rows := s.cmp.rows.map fun q => if q.frame = w.frame ∧ q.row = w.row then w else q } }

/-- Table 4-5, R104: line buffers that report a parity error for the row: each is reported once, and its pixels in the row are lost,
those of the CTUs written before too, which are written anew. -/
def State.parityFound (s : State) (w : RowWork) (slots : List Nat) : State × RowWork :=
  let new := (slots.filter fun i => !w.parity.contains i).eraseDups
  (new.foldl (fun s _ => s.report 0x200 .parity (faultAddr w.frame w.row) 0) s,
    { w with parity := w.parity ++ new, written := if new.isEmpty then w.written else 0 })

/-- R106: segments of a row of a frame lose their source-integrity flag. -/
def State.loseIntegrity (s : State) (f row : Nat) (bad : List Nat) : State :=
  { s with cmp := { s.cmp with integrityLost := (s.cmp.integrityLost ++ bad.map fun k => segKey k row).eraseDups },
           dsp := { s.dsp with segs := s.dsp.segs.map fun q =>
             if q.frame = f ∧ q.y = row ∧ bad.contains q.s then { q with si := false } else q } }

/-- R103: the CTUs of a row before column `upto` are written: samples, lost CTUs, the flags of the segments they belong to. -/
def State.composeCols (s : State) (w : RowWork) (upto limit : Nat) : State :=
  let c := s.setFor w.frame
  let r : RowPx := { set := c, work := w, limit := limit }
  let cols := (List.range upto).drop w.written
  let px (cx : Nat) : List (Nat × Nat) :=
    (List.range 32).flatMap fun b => (List.range 32).map fun a => (32 * cx + a, 32 * w.row + b)
  let lost := cols.filter fun cx => (px cx).any fun q => s.pxLost c w limit q.1 q.2
  let concealed := cols.filter fun cx => (px cx).any fun q => s.pxConcealed c w q.1 q.2
  let segs := (c.rowEntries w.row).filter fun e => !(e.columnsAmong cols).isEmpty
  let bad := segs.filter fun e => !(e.columnsAmong lost).isEmpty || s.hiddenMeets c w.frame w.row e.x0 (e.x0 + e.w)
  let con := segs.filter fun e => !(e.columnsAmong concealed).isEmpty
  let key (e : Entry) : Nat := segKey e.s w.row
  let composing : Planes :=
    { y := s.codedPlane r upto 0 s.cmp.composing.y, cb := s.codedPlane r upto 1 s.cmp.composing.cb,
      cr := s.codedPlane r upto 2 s.cmp.composing.cr }
  let new := lost.filter fun cx => !w.lost.contains cx
  let s := if new.isEmpty then s else s.count Obj.cmpLostCtus 0 new.length
  let s := { s with cmp := { s.cmp with composing := composing, concealed := (s.cmp.concealed ++ con.map key).eraseDups } }
  (s.loseIntegrity w.frame w.row (bad.map (·.s))).setRow { w with written := max w.written upto, lost := w.lost ++ new }

/-- A row is complete: its other CTUs are written, its raw packets built; its lines are no longer pinned, and when the frames before
a rack are complete, what it empties is emptied. -/
def State.composeRow (s : State) (w : RowWork) (limit : Nat) : State :=
  let c := s.setFor w.frame
  let r : RowPx := { set := c, work := w, limit := limit }
  let s := s.composeCols w c.width limit
  let s := c.rawGroups.foldl (fun s g => s.rawRow r g) s
  let s := { s with cmp := { s.cmp with rows := s.cmp.rows.filter fun q => !(q.frame == w.frame && q.row == w.row) } }
  match s.cmp.rackFrame with
  | none => s
  | some f =>
    if w.row + 1 = c.height ∧ w.frame = sub32 f 1 ∧ !(s.cmp.rows.any fun q => frameEarlier q.frame f) then s.rackEmpties else s

/-- R165: a line boundary counts towards the composition limit of every row. -/
def State.rowBoundary (s : State) : State :=
  { s with cmp := { s.cmp with rows := s.cmp.rows.map fun w => { w with lines := w.lines + 1 } } }

/-- ROW_COMPOSITION_DONE (R103): every CTU of a row in composition is written; `parity`: slots whose line buffer reported a
parity error for the row (Table 4-5). Nothing is composed in a gap (R76). -/
def execRowCompositionDone (t row : Nat) (parity : List Nat) (s : State) : Host.Outcome State Fault Refusal :=
  let s := s.land t
  .next (
    match s.rowWork row with
    | none => s
    | some w =>
      if s.inGap then s
      else
        let r := s.parityFound w parity
        r.1.composeRow r.2 (s.setFor w.frame).width)

/-- COMPOSITION_LIMIT (R103, R104, R165): 32 line boundaries after its sample point a row is not complete; CTUs from column `late.fromCx`
on are lost, but for those written before. -/
def execCompositionLimit (t row : Nat) (late : LateRow) (s : State) : Host.Outcome State Fault Refusal :=
  let s := s.land t
  .next (
    match s.rowWork row with
    | none => s
    | some w =>
      if s.inGap ∨ w.lines < 32 then s
      else
        let r := s.parityFound w late.parity
        let s := (r.1.report 0x200 .deadlineMiss (faultAddr w.frame row) 0).count Obj.cmpLateRows
        s.composeRow r.2 (max late.fromCx w.written))

/-- SEGMENT_COMPOSED (R103, R166): the last CTU of a segment is written, with every CTU of its row to the left of it, and the
Compositor reports the segment to the Dispatcher. -/
def execSegmentComposed (t seg : Nat) (done : ComposedRow) (s : State) : Host.Outcome State Fault Refusal :=
  let s := s.land t
  match s.findSeg seg done.y fun g => !g.composed with
  | none => .next s
  | some g =>
    if s.inGap then .next s
    else
      let s := match s.cmp.rows.find? fun r => r.frame == g.frame && r.row == done.y with
        | none => s
        | some w =>
          let r := s.parityFound w done.parity
          r.1.composeCols r.2 (g.x0 + g.w) (s.setFor g.frame).width
      let key := segKey seg done.y
      .next (s.modSeg g fun q => { q with composed := true, si := !s.cmp.integrityLost.contains key,
                                          anom := q.anom ||| (2 * ofBool (s.cmp.concealed.contains key)) })

/-! ### Stills -/

/-- Bytes of the three frame buffers of a FRAME-mode flow (R95). -/
def CanvasSet.frameBuffers (c : CanvasSet) (f : Nat) : Nat := if c.flowEn f ∧ c.flowFrames f then 3 * c.flowH f * c.flowLb f else 0

/-- R100: bytes of the Compositor area in use, but for still `row`. -/
def State.areaUsed (s : State) (row : Option Nat) : Nat :=
  let locked := s.greenLocked
  let flows := (List.range 64).map fun f =>
    if locked then max (s.sets.bright.frameBuffers f) (s.sets.green.frameBuffers f) else s.sets.bright.frameBuffers f
  let stills := s.cmp.stills.map fun p => if row = some p.1 then 0 else p.2.allocated
  flows.sum + stills.sum

/-- Whether an enabled slot of a set names a still. -/
def CanvasSet.namesStill (c : CanvasSet) (n : Nat) : Bool := c.slots.any fun p => p.2.kind == 3 && p.2.src == n

/-- Replaces a still. -/
def State.setStill (s : State) (n : Nat) (x : Still) : State :=
  { s with cmp := { s.cmp with stills := Table.set { allocated := 0, valid := false, data := [] } s.cmp.stills n x } }

/-- The effect of a write of CMP_STILL_DESC (R100).
The read-only VALID bit of a write is ignored (DESIGN CHOICE; log entry 89). -/
def cmpStillDesc (row v : Nat) (s : State) : Effect :=
  if bit v 1 ∧ bits v 15 2 % 2 = 0 then (s, .range)
  else if s.greenLocked ∧ s.sets.green.namesStill row then (s, .greenLocked)
  else if 1048576 * s.cmp.areaMib < s.areaUsed (some row) + stillBytes v then (s, .failed)
  else if s.sets.bright.namesStill row then (s, .busy)
  else
    ((s.setStill row { allocated := stillBytes v, valid := false, data := [] }).put Obj.cmpStillDesc row (setBits v 0 0 0 : Nat),
      .ok)

/-- CMP_STILL_DESC (R100). -/
def execCmpStillDesc (t : Nat) (who : Path) (row v : Nat) (s : State) : Host.Outcome State Fault Refusal :=
  objectCommand t who Obj.cmpStillDesc row (.num v) (cmpStillDesc row v) s

/-- The effect of a write of CMP_STILL_DATA (R100). -/
def cmpStillData (row : Nat) (data : Bytes) (s : State) : Effect :=
  let x := s.still row
  if x.allocated ≠ 0 ∧ x.allocated < data.length then (s, .tooLong)
  else if x.allocated ≠ 0 ∧ data.length < x.allocated then (s, .length)
  else if s.greenLocked ∧ s.sets.green.namesStill row then (s, .greenLocked)
  else if x.allocated = 0 then (s, .state)
  else if s.sets.bright.namesStill row then (s, .busy)
  else (s.setStill row { x with valid := true, data := data }, .ok)

/-- CMP_STILL_DATA (R100). -/
def execCmpStillData (t : Nat) (who : Path) (row : Nat) (data : Bytes) (s : State) : Host.Outcome State Fault Refusal :=
  objectCommand t who Obj.cmpStillData row (.bytes data) (cmpStillData row data) s

end Sys2Proof.Machine
end

