-- ==== Sys2Proof/Machine/FloorMap.lean ====
section
/-! DEFINITION. The Floor Map (chapter 1): the load of a set (R11), the canonical region form (R28, R29), the check
(R24, R25, Table 1-6, R457), and the commands that fill, load and check the green map (R26, R27). -/
set_option Elab.async false
namespace Sys2Proof.Machine

/-! ### The map of a set -/

/-- The CTUs of a canvas of `w` × `h`, in ascending row number. -/
def ctusIn (w h : Nat) : List (Nat × Nat) := (List.range h).flatMap fun cy => (List.range w).map fun cx => (cx, cy)

/-- The CTUs of the set's canvas, in ascending row number. -/
def CanvasSet.ctus (c : CanvasSet) : List (Nat × Nat) := ctusIn c.width c.height

/-- R11: C, the sum of the costs of all CTUs of the canvas; 0 without a canvas. -/
def CanvasSet.totalCost (c : CanvasSet) : Nat :=
  if c.hasCanvas then (c.ctus.map fun p => c.entryCost (c.ctu p.1 p.2)).sum else 0

/-- R11: FLR_RATE_DEN × Na × 1.6 GHz, the cycles per FLR_RATE_NUM pictures. -/
def CanvasSet.cycleBudget (c : CanvasSet) : Nat := c.nat Obj.flrRateDen * (64 - c.nat Obj.dspSpares) * 1600000000

/-- R11: the load in permille. -/
def CanvasSet.load (c : CanvasSet) : Nat := 1000 * c.totalCost * c.nat Obj.flrRateNum / c.cycleBudget

/-! ### Region forms -/

/-- A region of a region form, Table 1-7. -/
structure Region where
  x : Nat
  y : Nat
  w : Nat
  h : Nat
  v : Nat
  deriving DecidableEq, Repr

/-- The runs of equal entries of a canvas row from column `x` on, as (left column, width, value). -/
def runsOf (f : Nat → Nat) (x : Nat) : Nat → List (Nat × Nat × Nat)
  | 0 => []
  | n + 1 =>
    match runsOf f (x + 1) n with
    | (a, w, v) :: rest => if v = f x then (x, w + 1, v) :: rest else (x, 1, f x) :: (a, w, v) :: rest
    | [] => [(x, 1, f x)]

/-- R29: adds a run of row `cy`: it lengthens the region that ends above it with the same columns and value, or starts
one. -/
def addRun (cy : Nat) (rs : List Region) (run : Nat × Nat × Nat) : List Region :=
  let fits := fun (r : Region) => r.x == run.1 && r.w == run.2.1 && r.v == run.2.2 && r.y + r.h == cy
  if rs.any fits then rs.map fun r => if fits r then { r with h := r.h + 1 } else r
  else rs ++ [{ x := run.1, y := cy, w := run.2.1, h := 1, v := run.2.2 }]

/-- R29: the regions of the canonical form, in order of creation. -/
def CanvasSet.regions (c : CanvasSet) : List Region :=
  (List.range c.height).foldl (fun rs cy => (runsOf (fun cx => c.ctu cx cy) 0 c.width).foldl (addRun cy) rs) []

/-- The 16 bytes of a region, Table 1-7. -/
def Region.bytes (r : Region) : Bytes := bytesBE 2 r.x ++ bytesBE 2 r.y ++ bytesBE 2 r.w ++ bytesBE 2 r.h ++ bytesBE 8 r.v

/-- R28: a region form with its digest. -/
def regionForm (w h : Nat) (rs : List Region) : Bytes :=
  let b := bytesBE 4 0x464C5247 ++ bytesBE 2 1 ++ zeros 2 ++ bytesBE 2 w ++ bytesBE 2 h ++ bytesBE 4 rs.length ++ zeros 16
    ++ rs.flatMap Region.bytes
  b ++ sha384 b

/-- R29: the canonical region form of the set's map. -/
def CanvasSet.regionForm (c : CanvasSet) : Bytes := Sys2Proof.Machine.regionForm c.width c.height c.regions

/-- The size of the canonical form (R28). -/
def CanvasSet.regionBytes (c : CanvasSet) : Nat := 80 + 16 * c.regions.length

/-- FLR_PERSIST_BYTES: the size of the canonical form; 0, its default in Table 1-5, for a set without a canvas, whose Floor Map
is ignored (R8) (DEDUCED; log entry 79). -/
def CanvasSet.persistBytes (c : CanvasSet) : Nat := if c.hasCanvas then c.regionBytes else 0

/-- Region `i` of a form. -/
def regionAt (b : Bytes) (i : Nat) : Region :=
  let o := 32 + 16 * i
  { x := fieldBE b o 2, y := fieldBE b (o + 2) 2, w := fieldBE b (o + 4) 2, h := fieldBE b (o + 6) 2,
    v := fieldBE b (o + 8) 8 }

/-- Whether two regions share a CTU. -/
def Region.overlaps (a b : Region) : Bool :=
  decide (a.x < b.x + b.w) && decide (b.x < a.x + a.w) && decide (a.y < b.y + b.h) && decide (b.y < a.y + a.h)

/-- Whether some region of a list shares a CTU with a later one. -/
def anyOverlap : List Region → Bool
  | [] => false
  | r :: rest => rest.any r.overlaps || anyOverlap rest

/-- R27, Table 1-8: the status of a load on a canvas of `w` × `h`, and the regions. -/
def regionStatus (w h : Nat) (b : Bytes) : Nat × List Region :=
  let n := fieldBE b 12 4
  let whole := decide (b.length = 80 + 16 * n)
  let rs := if whole then (List.range n).map (regionAt b) else []
  let form := whole && fieldBE b 0 4 == 0x464C5247 && fieldBE b 4 2 == 1 && fieldBE b 6 2 == 0 && fieldBE b 16 16 == 0
    && slice b (32 + 16 * n) 48 == sha384 (b.take (32 + 16 * n))
  let code :=
    if form = false then 1
    else if fieldBE b 8 2 ≠ w ∨ fieldBE b 10 2 ≠ h then 2
    else if rs.any fun r => r.w == 0 || r.h == 0 || decide (w < r.x + r.w) || decide (h < r.y + r.h) then 3
    else if anyOverlap rs then 4
    else if (rs.map fun r => r.w * r.h).sum ≠ w * h then 5
    else if rs.any fun r => setsReserved Obj.flrMap (.num r.v) || !inRange Obj.flrMap 0 (.num r.v) then 6
    else 0
  (code, rs)

/-- R27: every row of a region takes its value. -/
def Region.fill (m : FloorMap) (r : Region) : FloorMap :=
  (ctusIn r.w r.h).foldl (fun m p => m.set ((r.y + p.2) * 2048 + r.x + p.1) r.v) m

/-- What the canonical form gives back: the rows inside the canvas (R29, R30). -/
def CanvasSet.canonicalMap (c : CanvasSet) : FloorMap := c.regions.foldl Region.fill { fill := 0, rows := [] }

/-! ### The check, Table 1-6 -/

/-- Rules 3 to 6, 8 and 9 name an entry, rules 7 and 10 to 13 a row: the first that fails, with its code. -/
def firstFail (code : Nat) (l : List Nat) (bad : Nat → Bool) : Option (Nat × Nat) := (l.find? bad).map fun w => (code, w)

/-- Rule 1 (R8). -/
def CanvasSet.geometryBad (c : CanvasSet) : Bool :=
  !((c.width == 0 || decide (4 ≤ c.width) && decide (c.width ≤ 2048))
    && (c.height == 0 || decide (2 ≤ c.height) && decide (c.height ≤ 1024)))

/-- Rule 2 (R9). -/
def CanvasSet.rateBad (c : CanvasSet) : Bool :=
  let num := c.nat Obj.flrRateNum
  let den := c.nat Obj.flrRateDen
  let lt := c.nat Obj.flrTotalLines
  decide (den = 0) || decide (65535 < den) || decide (1001 * num < 24000 * den) || decide (240 * den < num)
    || (c.hasCanvas && (decide (lt < 32 * c.height + 16) || decide (65535 < lt)))

/-- Rule 3: a reserved bit, crop on a filler, or entry 4,095 as a receiver (R12). -/
def CanvasSet.entryReserved (c : CanvasSet) (s : Nat) : Bool :=
  let w0 := c.nat Obj.flrSubW0 s
  let w1 := c.nat Obj.flrSubW1 s
  setsReserved Obj.flrSubW0 (.num w0) || setsReserved Obj.flrSubW1 (.num w1)
    || (bit w0 51 && bits w1 31 0 != 0) || (s == 4095 && !bit w0 51)

/-- Rule 4: rectangle size (R12). -/
def Entry.sizeBad (e : Entry) : Bool :=
  decide (e.w < 4) || decide (256 < e.w) || decide (e.h < 2) || decide (128 < e.h)

/-- Rule 6: whether two rectangles share a CTU. -/
def Entry.overlaps (a b : Entry) : Bool :=
  decide (a.x0 < b.x0 + b.w) && decide (b.x0 < a.x0 + a.w) && decide (a.y0 < b.y0 + b.h) && decide (b.y0 < a.y0 + a.h)

/-- Rule 8: crop (R14), of a receiver. -/
def CanvasSet.cropBad (c : CanvasSet) (e : Entry) : Bool :=
  let chroma := c.nat Obj.cspChroma
  !e.fill && ((decide (chroma ≤ 1) && (e.cropL % 2 != 0 || e.cropR % 2 != 0))
    || (chroma == 0 && (e.cropT % 2 != 0 || e.cropB % 2 != 0))
    || decide (32 * e.w < e.cropL + e.cropR + 64) || decide (32 * e.h < e.cropT + e.cropB + 32))

/-- The entry of a list with an index. -/
def entryNamed (es : List Entry) (s : Nat) : Option Entry := es.find? fun e => e.s == s

/-- R18: the SUBPIC that CTU (cx, cy) must carry. -/
def subpicAt (es : List Entry) (cx cy : Nat) : Nat :=
  match es.find? fun e => e.holds cx cy with
  | some e => if e.fill then 0xFFF else e.s
  | none => 0xFFF



/-- Rules 3 to 13 of Table 1-6: the first failure, (0, 0) where none fails. -/
def CanvasSet.mapRules (c : CanvasSet) : Nat × Nat :=
  let es := c.entries
  let ss := es.map (·.s)
  let onEntry := fun (p : Entry → Bool) (s : Nat) => (entryNamed es s).any p
  let rows := c.ctus.map fun p => p.2 * 2048 + p.1
  let onRow := fun (p : Nat → Bool) (row : Nat) => p (c.map.get row)
  let found := [firstFail 3 ss c.entryReserved, firstFail 4 ss (onEntry Entry.sizeBad)]
    ++ [firstFail 5 ss (onEntry fun e => decide (c.width < e.x0 + e.w) || decide (c.height < e.y0 + e.h))]
    ++ [firstFail 6 ss (onEntry fun e => es.any fun a => decide (a.s < e.s) && a.overlaps e)]
    ++ [firstFail 7 rows fun row => !(es.any fun e => e.holds (row % 2048) (row / 2048))]
    ++ [firstFail 8 ss (onEntry c.cropBad)]
    ++ [firstFail 9 ss (onEntry fun e => !e.fill && (!c.tapEn e.tap
          || es.any fun a => decide (a.s < e.s) && !a.fill && a.tap == e.tap))]
    ++ [firstFail 10 rows fun row => bits (c.map.get row) 11 0 != subpicAt es (row % 2048) (row / 2048)]
    ++ [firstFail 11 rows (onRow fun v => setsReserved Obj.flrMap (.num v) || !inRange Obj.flrMap 0 (.num v))]
    ++ [firstFail 12 rows (onRow fun v => !ctuBlack v && !bit (c.nat Obj.cmpStackW0 (bits v 31 20)) 40)]
    ++ [firstFail 13 rows (onRow fun v => bits v 45 32 != 0 && !bit (c.nat Obj.cmpRawW0 (bits v 45 32)) 0)]
  (found.findSome? id).getD (0, 0)

/-- R24, R457: code and location of the first failure, and the load where rules 1 and 2 pass (R11). -/
def CanvasSet.floorCheck (c : CanvasSet) : Nat × Nat × Option Nat :=
  if c.geometryBad then (1, 0, none)
  else if c.rateBad then (2, 0, none)
  else if c.hasCanvas = false then (0, 0, some 0)
  else
    let r := c.mapRules
    let overBudget := decide (c.cycleBudget < c.totalCost * c.nat Obj.flrRateNum)
    if r.1 ≠ 0 then (r.1, r.2, some c.load) else (if overBudget then 14 else 0, 0, some c.load)

/-- What a check that ends writes: the load (R11), and code and location unless it is stale. -/
def State.floorResult (s : State) (r : Nat × Nat × Option Nat) : State :=
  let s := (s.put Obj.flrCheckRule 0 r.1).put Obj.flrCheckWhere 0 r.2.1
  match r.2.2 with
  | some l => s.put Obj.flrLoadPermille 0 l
  | none => s

/-! ### Commands -/

/-- Replaces the green map as one indivisible write (R26); the absent flag clears (R49). -/
def State.setGreenMap (s : State) (m : FloorMap) : State :=
  let s := { s with sets := { s.sets with green := { s.sets.green with map := m }, mapAbsent := false } }
  s.greenTouched.checkTouched

/-- FLR_FILL's own effect (Table 1-5). -/
def flrFill (v : Nat) (s : State) : Effect :=
  if s.greenLocked then (s, .greenLocked) else (s.setGreenMap { fill := v, rows := [] }, .ok)

/-- FLR_FILL. -/
def execFlrFill (t : Nat) (who : Path) (v : Nat) (s : State) : Host.Outcome State Fault Refusal :=
  objectCommand t who Obj.flrFill 0 (.num v) (flrFill v) s

/-- FLR_REGIONS' own effect (R27). -/
def flrRegions (b : Bytes) (s : State) : Effect :=
  if s.greenLocked then (s, .greenLocked)
  else
    let r := regionStatus s.sets.green.width s.sets.green.height b
    let s := s.put Obj.flrLoadStatus 0 r.1
    if r.1 ≠ 0 then (s, .failed) else (s.setGreenMap (r.2.foldl Region.fill s.sets.green.map), .ok)

/-- FLR_REGIONS. -/
def execFlrRegions (t : Nat) (who : Path) (form : Bytes) (s : State) : Host.Outcome State Fault Refusal :=
  objectCommand t who Obj.flrRegions 0 (.bytes form) (flrRegions form) s

/-- FLR_CHECK's own effect: a check starts on the green set as it stands, or restarts (R25). -/
def flrCheck (s : State) : Effect :=
  let run : CheckRun := { set := s.sets.green, absent := s.sets.mapAbsent, stale := false }
  ({ s with sets := { s.sets with check := some run } }.put Obj.flrCheckStatus 0 1, .ok)

/-- FLR_CHECK. -/
def execFlrCheck (t : Nat) (who : Path) (v : Nat) (s : State) : Host.Outcome State Fault Refusal :=
  objectCommand t who Obj.flrCheck 0 (.num v) flrCheck s

/-- FLR_CHECK_COMPLETE: the running check ends (R11, R24, R25, R457). -/
def execFlrCheckComplete (t : Nat) (s : State) : Host.Outcome State Fault Refusal :=
  let s := s.land t
  match s.sets.check with
  | none => .next s
  | some run =>
    let s := { s with sets := { s.sets with check := none } }
    if run.stale then .next (s.put Obj.flrCheckStatus 0 4)
    else
      let r := run.set.floorCheck
      .next ((s.floorResult r).put Obj.flrCheckStatus 0 (if r.1 = 0 then 2 else 3))

end Sys2Proof.Machine
end

