-- ==== Sys2Proof/Machine/SetImage.lean ====
section
/-! DEFINITION. The set digest (R43), the digest of the stills (Table 10-3), and the size of a set in a Cask slot (R30,
R431). -/
set_option Elab.async false
namespace Sys2Proof.Machine

/-- R43: the bytes of the RG objects but the Floor Map. -/
def CanvasSet.objectBytes (c : CanvasSet) : Bytes :=
  setObjects.flatMap fun o => (List.range o.rowCount).flatMap fun r => encodeValue o.ty (Store.read c.objs o r)

/-- R43: the set digest. -/
def CanvasSet.digest (c : CanvasSet) : Bytes := sha384 (c.objectBytes ++ c.regionForm)

/-- SET_GREEN_DIGEST (R43): 48 zero bytes once a green write followed the last validation. -/
def State.greenDigest (s : State) : Bytes :=
  match s.sets.validated with
  | some c => c.digest
  | none => zeros 48

/-- STILLS of Table 10-3: over descriptors and data of all VALID stills in ascending index. -/
def State.stillsDigest (s : State) : Bytes :=
  let valid := s.cmp.stills.filter fun p => p.2.valid
  (sha384 (valid.flatMap fun p => bytesBE 8 (setBit (s.val Obj.cmpStillDesc p.1) 0 true) ++ p.2.data)).take 8

/-- R431: whether a table row is stored: some word of it, in the subindices of its index, is not zero. -/
def CanvasSet.rowPresent (c : CanvasSet) (index row : Nat) : Bool :=
  setObjects.any fun o => o.index == index && decide (row < o.rowCount) &&
    (encodeValue o.ty (Store.read c.objs o row)).any fun b => b != 0

/-- R431: bytes of a slot's objects and bitmaps. A table's bitmap has one bit a row (DEDUCED; log entry 41). -/
def CanvasSet.slotBytes (c : CanvasSet) : Nat :=
  let tables := setObjects.filter fun o => o.rows != 0
  let plain := (setObjects.filter fun o => o.rows == 0).map fun o => (encodeValue o.ty (Store.read c.objs o 0)).length
  let words := tables.map fun o =>
    ((List.range o.rowCount).map fun r =>
      if c.rowPresent o.index r then (encodeValue o.ty (Store.read c.objs o r)).length else 0).sum
  let maps := ((tables.map fun o => (o.index, o.rowCount)).eraseDups).map fun p => ceilDiv p.2 8
  plain.sum + words.sum + maps.sum

end Sys2Proof.Machine
end

