-- ==== Sys2Proof/Machine/Agree.lean ====
section
/-! DEFINITION. Agreement of the twin pair (R246, Table 10-6): answers, proposals received, answers received, and the end of
a rack, an effort change, a nudge or a patch switch that the partner refuses. -/
set_option Elab.async false
namespace Sys2Proof.Machine

/-- The body of an ANSWER, Table 10-3. -/
def Answer.body (a : Answer) : Bytes :=
  bytesBE 4 a.pid ++ bytesBE 1 a.kind ++ bytesBE 1 a.verdict ++ bytesBE 1 a.reason ++ zeros 1 ++ bytesBE 4 a.f ++ bytesBE 4 a.arg

/-- R246: answers a proposal; the answer is kept for a repeated PID. -/
def State.answer (s : State) (p : Proposal) (verdict reason f arg : Nat) : State :=
  let a : Answer := { epoch := p.epoch, pid := p.pid, kind := p.kind, verdict := verdict, reason := reason, f := f, arg := arg }
  (s.modTwin fun x => { x with answered := x.answered ++ [a], held := x.held.filter fun q => !(q.epoch == p.epoch && q.pid == p.pid) }).twinSend 4
    a.body

/-- R246: a proposal without an answer yet is held. -/
def State.hold (s : State) (p : Proposal) : State :=
  s.modTwin fun x => { x with held := (x.held.filter fun q => !(q.epoch == p.epoch && q.pid == p.pid)) ++ [p] }

/-- R246: whether ⟨f−2:0⟩ is reached, after which nothing is agreed for frame f. -/
def State.agreeClosed (s : State) (f : Nat) : Bool := s.reached { frame := sub32 f 2, line := 0 }

/-! ### Racks -/

/-- Table 2-3: the rack is SCHEDULED: the groups of the green flow table are joined (R289), its next hops resolved (R290). -/
def State.rackScheduled (s : State) : State :=
  let s := (s.unpropose 1 0).changeRack fun r => { r with state := .scheduled }
  (s.joinGroups s.wantedGroups).resolveSoon

/-- Table 10-6, RACK. A partner's proposal that differs also answers an own one that is open, which ends refused. -/
def State.considerRack (s : State) (p : Proposal) : State :=
  let r := s.sets.rack
  let refuse (reason : Nat) : State :=
    let s := s.answer p 1 reason p.f 0
    if r.state = .agreeing then (s.unpropose 1 0).endRack .twinRefused else s
  match r.state with
  | .idle | .validating | .reseeding => s.hold p
  | .agreeing | .scheduled =>
    if p.digest ≠ s.greenDigest then refuse 1
    else if p.stills ≠ s.stillsDigest then refuse 3
    else
      let f := laterFrame r.frame p.f
      let s := (s.changeRack fun r => { r with frame := f }).answer p 0 0 f 0
      if r.state = .agreeing then s.rackScheduled else s

/-- Table 10-6: proposals held for a rack whose own validation failed are refused with REASON 2. -/
def State.refuseHeldRacks (s : State) : State :=
  (s.twn.held.filter fun p => p.kind == 1).foldl (fun s p => s.answer p 1 2 p.f 0) s

/-! ### Effort -/

/-- R182: agreement on level `level` for frame `f`; a level equal to the one in force withdraws the change. -/
def State.effortAgreed (s : State) (level f : Nat) : State :=
  let kept := s.dsp.effortPending.filter fun x => x.agreed && frameEarlier x.frame f
  let s := s.unpropose 2 0
  if level = s.dsp.effort then
    { s with dsp := { s.dsp with effortPending := s.dsp.effortPending.filter fun x => x.agreed } }.effortSettled
  else
    { s with dsp := { s.dsp with effortPending := kept ++ [{ level := level, frame := f, agreed := true }] } }

/-- The own effort change that waits for agreement. -/
def State.effortOpen (s : State) : Option EffortChange := s.dsp.effortPending.find? fun x => !x.agreed

/-- Table 10-6, EFFORT: the later F and the lower of the two requests; this device's request is what governor and cap ask
for. -/
def State.considerEffort (s : State) (p : Proposal) : State :=
  let level := max p.arg s.effortWanted
  let f := match s.effortOpen with
    | some x => laterFrame x.frame p.f
    | none => p.f
  (s.answer p 0 0 f level).effortAgreed level f

/-! ### Nudges -/

/-- Table 10-6, NUDGE. A device that joins looks at the set it will rack to (R249). -/
def State.considerNudge (s : State) (p : Proposal) : State :=
  if (if s.twn.state = .joining then s.sets.green else s.sets.bright).isReceiver p.subj = false then s.answer p 1 4 p.f 0
  else
    let n := s.nudge p.subj
    let set (s : State) (f : Nat) (st : NudgeState) : State :=
      ((s.setNudge p.subj { n with state := st, fn := f, agreed := true }).unpropose 3 p.subj).answer p 0 0 f 0
    match n.state with
    | .idle => set (s.brewRec 0x350 0x051 (p.subj * 2 ^ 32 + p.f)) p.f .scheduled
    | .active => set (s.brewRec 0x350 0x051 (p.subj * 2 ^ 32 + p.f)) p.f .queued
    | .scheduled | .queued => set (s.count Obj.rakNudgeAbsorbed) (laterFrame n.fn p.f) n.state

/-! ### Patch switches -/

/-- The DIGEST of a PATCH proposal: SHA-384 of the payload, zeros for a removal. -/
def PatchBank.proposalDigest (b : PatchBank) : Bytes := if b.digest.isEmpty then zeros 48 else b.digest

/-- A patch switch ends without taking effect: TUN_PATCH_RESULT says why. -/
def State.endPatch (s : State) (res : RackResult) : State :=
  let s := s.unpropose 4 0
  { s with tuns := { s.tuns with switch := none, patchResult := res } }

/-- The patch switch is agreed for frame `f`. -/
def State.patchAgreed (s : State) (f : Nat) : State :=
  let s := s.unpropose 4 0
  { s with tuns := { s.tuns with switch := s.tuns.switch.map fun (w : PatchSwitch) => { w with frame := f, agreed := true },
                                 patchFrame := f } }

/-- Table 10-6, PATCH. -/
def State.considerPatch (s : State) (p : Proposal) : State :=
  match s.tuns.switch with
  | none => s.hold p
  | some w =>
    if w.bank.patchId = p.arg ∧ w.bank.proposalDigest = p.digest then
      let f := laterFrame w.frame p.f
      (s.answer p 0 0 f p.arg).patchAgreed f
    else
      let s := s.answer p 1 5 p.f p.arg
      if w.agreed then s else s.endPatch .twinRefused

/-! ### Proposals and answers -/

/-- R246: takes up a proposal that has no answer yet. One whose ⟨F−2:0⟩ is past can no longer be agreed: it is refused with REASON 0, since
Table 10-6 has no code for that (DESIGN CHOICE; log entry 91). -/
def State.consider (s : State) (p : Proposal) : State :=
  if s.agreeClosed p.f then s.answer p 1 0 p.f p.arg
  else if p.kind = 1 then s.considerRack p
  else if p.kind = 2 then s.considerEffort p
  else if p.kind = 3 then s.considerNudge p
  else if p.kind = 4 then s.considerPatch p
  else s

/-- R246: the held proposals are looked at again. -/
def State.serveHeld (s : State) : State := s.twn.held.foldl (fun s p => s.consider p) s

/-- R246: whether the device takes part in agreement: in every state but OFF; a JOINING device from its first SYNC_REQ on. -/
def State.takesPart (s : State) : Bool :=
  s.twn.state != .off && (s.twn.state != .joining || s.twn.syncReqAt.isSome)

/-- PROPOSE received: a repeated PID gets the same answer. -/
def State.proposed (s : State) (p : Proposal) : State :=
  if s.takesPart = false then s
  else
    match s.twn.answered.find? fun a => a.epoch == p.epoch && a.pid == p.pid with
    | some a => s.twinSend 4 a.body
    | none => s.consider p

/-- R246: an ANSWER to an open proposal. A CONFIRM completes where its F and ARG equal the own values after combining; a
later F is adopted. A nudge start that is refused stays, not agreed, and is proposed again at its timeout (R206). -/
def State.answered (s : State) (a : Answer) : State :=
  match s.twn.proposals.find? fun p => p.pid == a.pid && p.kind == a.kind with
  | none => s
  | some p =>
    if s.agreeClosed p.f then s
    else
      let f := laterFrame p.f a.f
      if a.verdict ≠ 0 then
        if p.kind = 1 then (s.unpropose 1 0).endRack .twinRefused
        else if p.kind = 4 then s.endPatch .twinRefused
        else s.unpropose p.kind p.subj
      else if f ≠ a.f then s
      else if p.kind = 1 then
        if s.sets.rack.state = .agreeing then (s.changeRack fun r => { r with frame := f }).rackScheduled else s.unpropose 1 0
      else if p.kind = 2 then (if max p.arg a.arg = a.arg then s.effortAgreed a.arg f else s)
      else if p.kind = 3 then
        let n := s.nudge p.subj
        (s.setNudge p.subj { n with fn := f, agreed := true }).unpropose 3 p.subj
      else s.patchAgreed f

end Sys2Proof.Machine
end

