-- ==== Sys2Proof/Machine/CaskRegions.lean ====
section
/-! DEFINITION. The Cask's regions (R430, Table 17-7) and what an error in one of them does at once (R433, Table 17-8). -/
set_option Elab.async false
namespace Sys2Proof.Machine

/-- Table 17-7: code, offset, bytes. -/
def caskRegions : List (Nat × Nat × Nat) :=
  [(1, 0x000000, 0x600000), (2, 0x600000, 0x600000), (3, 0xC00000, 0x100000), (4, 0xD00000, 0x200000),
   (5, 0xF00000, 0x40000), (6, 0xF40000, 0x10000), (7, 0xF50000, 0x10000), (8, 0xF60000, 0x20000)]

/-- The region that holds an offset; 0 for the unused part. -/
def caskRegion (off : Nat) : Nat :=
  ((caskRegions.find? fun r => decide (r.2.1 ≤ off) && decide (off < r.2.1 + r.2.2)).map (·.1)).getD 0

/-- The offset of a region. -/
def caskBase (code : Nat) : Nat := ((caskRegions.find? fun r => r.1 == code).map (·.2.1)).getD 0

/-- CSK_REGION_STATE only gets worse. -/
def State.caskRegionState (s : State) (code v : Nat) : State :=
  { s with cask := { s.cask with regions := Table.modify 0 s.cask.regions code fun x => max x v } }

/-- R433: an uncorrectable word, or a write that fails its read-back. -/
def State.caskErr (s : State) (off : Nat) : State := s.report 0x610 .caskErr off (caskRegion off * 256)

/-- The slot of a number. -/
def State.setSlot (s : State) (k : Nat) : Slot := if k = 0 then s.sets.slotA else s.sets.slotB

/-- Replaces a slot. -/
def State.putSlot (s : State) (k : Nat) (x : Slot) : State :=
  { s with sets := if k = 0 then { s.sets with slotA := x } else { s.sets with slotB := x } }

/-- Table 17-8: a set slot is damaged. -/
def State.slotDamaged (s : State) (k : Nat) : State :=
  (s.putSlot k { s.setSlot k with state := 3 }).caskRegionState (k + 1) 3

end Sys2Proof.Machine
end

