-- ==== Sys2Proof/Machine/Wort.lean ====
section
/-! DEFINITION. Wort lines: pushing, popping, flushing (R376 to R380). -/
set_option Elab.async false
namespace Sys2Proof.Machine

/-- R377: messages whose producer waits enter the line while credits cover them, oldest first. -/
def WortLine.letIn (depth : Nat) : Nat → WortLine → WortLine
  | 0, l => l
  | fuel + 1, l =>
    match l.waiting with
    | [] => l
    | m :: rest =>
      if l.fill + m.size ≤ depth then WortLine.letIn depth fuel { l with msgs := l.msgs ++ [m], waiting := rest }
      else l

/-- The line once its first message is gone: the next one has no popped word, and waiting messages enter. -/
def WortLine.dropFirst (depth : Nat) (l : WortLine) : WortLine :=
  WortLine.letIn depth l.waiting.length { l with msgs := l.msgs.drop 1, popped := 0 }

/-- A marker message with a count, saturating at 0xFFFF_FFFF (R378). -/
def wortMarker (n : Nat) : WortMsg := { words := [min n 4294967295], marker := true, bad := false }

/-- PUSH (R376 to R378): a message of 1 to 8 words enters its line by the line's mode; a line beyond the assignment and
a message of another length do not exist. -/
def execPush (t line : Nat) (words : List Nat) (s : State) : Host.Outcome State Fault Refusal :=
  let s := s.land t
  .next (s.when (decide (line < 128) && decide (1 ≤ words.length) && decide (words.length ≤ 8))
    (fun s => s.push line (words.map (· % 2 ^ 64))))

/-- R380, what an entry's check bits say as it is popped (0 good, 1 corrected, 2 uncorrectable): counts and report, and
the line with its first message as it is delivered. -/
def State.wortEcc (s : State) (line ecc : Nat) : State :=
  if ecc = 1 then s.count Obj.wrtEccCorr line
  else if ecc = 2 then
    let l := s.wortLine line
    let msgs :=
      match l.msgs with
      | [] => []
      | m :: rest =>
        if wortDropMode line then wortMarker 1 :: rest
        else { m with bad := true } :: rest
    let s := s.setWort line { l with msgs := msgs, popped := if wortDropMode line then 0 else l.popped }
    (s.count Obj.wrtEccUncorr line).report 0x5A0 .eccUncorr 0 line
  else s

/-- POP (R376, R380): the consumer takes the next word of the oldest message. -/
def execPop (t line ecc : Nat) (s : State) : Host.Outcome State Fault Refusal :=
  let s := s.land t
  if (s.wortLine line).msgs.isEmpty then .next s
  else
    let s := s.wortEcc line ecc
    let l := s.wortLine line
    match l.msgs with
    | [] => .next s
    | m :: _ =>
      let l := { l with popped := l.popped + 1 }
      let s := s.setWort line (if m.size ≤ l.popped then l.dropFirst (wortDepth line) else l)
      .next (s.send (.word line (m.words.getD (l.popped - 1) 0) m.marker m.bad))

/-- R379, writing 1: every message the consumer has not begun is discarded, and pushes are until 0 is written. -/
def wortFlushSet (line : Nat) (s : State) : Effect :=
  if wortDropMode line = false then (s, .state)
  else
    let l := s.wortLine line
    if l.flushing then (s, .ok)
    else
      let kept := if l.popped = 0 then [] else l.msgs.take 1
      let s := s.setWort line
        { l with msgs := kept, flushing := true, flushed := l.msgs.length - kept.length }
      (s.put Obj.wrtFlush line 1, .ok)

/-- R379, writing 0: a marker with the messages the flush discarded, and messages are accepted again. -/
def wortFlushClear (line : Nat) (s : State) : Effect :=
  if wortDropMode line = false then (s, .state)
  else
    let l := s.wortLine line
    if l.flushing then
      let s := s.setWort line
        { l with msgs := l.msgs ++ [wortMarker l.flushed], flushing := false, flushed := 0 }
      ((s.count Obj.wrtMarkers line).put Obj.wrtFlush line 0, .ok)
    else (s, .ok)

/-- WRT_FLUSH by its written value. -/
def wortFlush (line v : Nat) (s : State) : Effect := if v = 1 then wortFlushSet line s else wortFlushClear line s

/-- WRT_FLUSH_SET (R379). -/
def execWrtFlushSet (t : Nat) (who : Path) (line : Nat) (s : State) : Host.Outcome State Fault Refusal :=
  objectCommand t who Obj.wrtFlush line (.num 1) (wortFlushSet line) s

/-- WRT_FLUSH_CLEAR (R379). -/
def execWrtFlushClear (t : Nat) (who : Path) (line : Nat) (s : State) : Host.Outcome State Fault Refusal :=
  objectCommand t who Obj.wrtFlush line (.num 0) (wortFlushClear line) s

end Sys2Proof.Machine
end

