-- ==== Sys2Proof/Machine/Ingress.lean ====
section
/-! DEFINITION. Received frames: ingress classification (R285 to R288), the flow table (R291), policers (R292, R293), and
the firmware's answers to punted frames (R289). -/
set_option Elab.async false
namespace Sys2Proof.Machine

/-! ### A frame's headers -/

/-- A received Ethernet frame, destination MAC to FCS: its bytes, whether it carries one 802.1Q tag, that tag's PCP and VID,
its EtherType, and where its payload starts. -/
structure EthFrame where
  bytes : Bytes
  tagged : Bool
  pcp : Nat
  vid : Nat
  ty : Nat
  off : Nat
  deriving DecidableEq, Repr

/-- R286: a frame's Ethernet header; a tag with VID 0 counts as none. -/
def ethFrame (b : Bytes) : EthFrame :=
  if fieldBE b 12 2 = 0x8100 then
    let tci := fieldBE b 14 2
    let vid := bits tci 11 0
    { bytes := b, tagged := vid != 0, pcp := if vid = 0 then 0 else bits tci 15 13, vid := vid, ty := fieldBE b 16 2, off := 18 }
  else { bytes := b, tagged := false, pcp := 0, vid := 0, ty := fieldBE b 12 2, off := 14 }

/-- An IP packet: version 6, source and destination, protocol or first next header, DSCP, offset and length of what follows
the header, whether it is a fragment or carries options. -/
structure IpPacket where
  v6 : Bool
  src : Nat
  dst : Nat
  proto : Nat
  dscp : Nat
  off : Nat
  len : Nat
  plain : Bool
  deriving DecidableEq, Repr

/-- Step 7 of Table 12-6: the IP header of a frame; none where version, length or the IPv4 header checksum is wrong. -/
def EthFrame.ip (e : EthFrame) : Option IpPacket :=
  let b := e.bytes
  let room := b.length - 4 - e.off
  let o := e.off
  if e.ty = 0x0800 then
    let ihl := bits (fieldBE b o 1) 3 0
    let total := fieldBE b (o + 2) 2
    if bits (fieldBE b o 1) 7 4 = 4 ∧ 5 ≤ ihl ∧ 4 * ihl ≤ total ∧ total ≤ room ∧ onesSum (slice b o (4 * ihl)) = 0xFFFF then
      some { v6 := false, src := fieldBE b (o + 12) 4, dst := fieldBE b (o + 16) 4, proto := fieldBE b (o + 9) 1,
             dscp := bits (fieldBE b (o + 1) 1) 7 2, off := o + 4 * ihl, len := total - 4 * ihl,
             plain := decide (ihl = 5) && decide (bits (fieldBE b (o + 6) 2) 13 0 = 0) }
    else none
  else
    let len := fieldBE b (o + 4) 2
    if bits (fieldBE b o 1) 7 4 = 6 ∧ 40 + len ≤ room then
      some { v6 := true, src := fieldBE b (o + 8) 16, dst := fieldBE b (o + 24) 16, proto := fieldBE b (o + 6) 1,
             dscp := bits (fieldBE b o 2) 11 6, off := o + 40, len := len, plain := true }
    else none

/-- Step 8 of Table 12-6: whether an IP packet is UDP the flow table looks at. -/
def EthFrame.udp (e : EthFrame) (p : IpPacket) : Bool :=
  let d := slice e.bytes p.off p.len
  let ulen := fieldBE d 4 2
  let sum := fieldBE d 6 2
  let width := if p.v6 then 16 else 4
  let pseudo := bytesBE width p.src ++ bytesBE width p.dst ++ bytesBE 4 ulen ++ bytesBE 4 17
  decide (p.proto = 17) && p.plain && decide (8 ≤ ulen) && decide (ulen ≤ p.len)
    && (if sum = 0 then !p.v6 else onesSum (pseudo ++ d.take ulen) == 0xFFFF)

/-! ### Flow table and policers -/

/-- R291: whether a frame matches an enabled entry. -/
def State.flowMatches (s : State) (c : CanvasSet) (port vid dport : Nat) (p : IpPacket) (r : Nat) : Bool :=
  let w := c.flow r 0
  let n := bits w 22 16
  bit w 1 == p.v6 && c.flowDst r == p.dst && bits w 39 24 == dport
    && (n == 127 || n == port || (decide (n < 96) && s.portFailover n == port && s.pathPort n == port))
    && (!bit w 3 || bits w 15 4 == vid) && (!bit w 2 || c.flowSrc r == p.src)

/-- R291: which of two matching rows wins, the lower one on a tie: SRC_MATCH, then a PORT other than 127, then VID_MATCH. -/
def CanvasSet.flowRank (c : CanvasSet) (r : Nat) : Nat :=
  let w := c.flow r 0
  4 * ofBool (bit w 2) + 2 * ofBool (bits w 22 16 != 127) + ofBool (bit w 3)

/-- R291: the row a frame finds. -/
def State.flowLookup (s : State) (port vid dport : Nat) (p : IpPacket) : Option Nat :=
  let c := s.sets.bright
  (c.flowRows.filter fun r => s.flowMatches c port vid dport p r).foldl (fun best r =>
    match best with
    | none => some r
    | some x => if c.flowRank x < c.flowRank r then some r else some x) none

/-- Word `k` of a policer of a set (Table 12-8). -/
def CanvasSet.policer (c : CanvasSet) (r k : Nat) : Nat := c.nat (if k = 0 then Obj.lnkPolW0 else Obj.lnkPolW1) r

/-- An empty policer. -/
def Policer.empty : Policer := { tc := 0, tp := 0, last := 0 }

/-- R293: the colour (0 green, 1 yellow, 2 red) of a frame of `len` bytes with pre-colour `pre` at time `t`, and the
policer after it. -/
def policeOne (w0 w1 len pre t : Nat) (z : Policer) : Nat × Policer :=
  let dt : Int := min ((t : Int) - z.last) (2 ^ 34)
  let tc : Int := min (z.tc + dt * (bits w0 31 0 : Nat)) ((bits w1 23 0 : Nat) * 8000000)
  let tp : Int := min (z.tp + dt * (bits w0 63 32 : Nat)) ((bits w1 47 24 : Nat) * 8000000)
  let b : Int := (len : Int) * 8000000
  if pre = 2 ∨ tp < b then (2, { tc := tc, tp := tp, last := t })
  else if pre = 1 ∨ tc < b then (1, { tc := tc, tp := tp - b, last := t })
  else (0, { tc := tc - b, tp := tp - b, last := t })

/-- R293: the pre-colour of a frame under a policer. -/
def CanvasSet.preColour (c : CanvasSet) (w1 : Nat) (e : EthFrame) (dscp : Nat) : Nat :=
  if bit w1 49 = false then 0
  else if bit w1 50 then
    bits (((Store.read c.objs Obj.lnkDscpColour 0).toBytes.getD (dscp / 4) 0).toNat) (7 - 2 * (dscp % 4)) (6 - 2 * (dscp % 4))
  else if e.tagged then bits (c.nat Obj.lnkPcpColour) (2 * e.pcp + 1) (2 * e.pcp) else 0

/-- R293: a policer decides whether a frame passes, and counts its colour. -/
def State.police (s : State) (r : Nat) (e : EthFrame) (dscp : Nat) : State × Bool :=
  let c := s.sets.bright
  let w1 := c.policer r 1
  let x := policeOne (c.policer r 0) w1 e.bytes.length (c.preColour w1 e dscp) s.deviceTime (Table.get Policer.empty s.links.policers r)
  let s := { s with links := { s.links with policers := Table.set Policer.empty s.links.policers r x.2 } }
  if x.1 = 0 then (s.count Obj.lnkPolGreen r, true)
  else if x.1 = 1 then (s.count Obj.lnkPolYellow r, !bit w1 51)
  else (s.count Obj.lnkPolRed r, false)

/-- R294: at the swap line policers follow the new set: a newly enabled one starts with full buckets, another keeps its
tokens within its sizes. -/
def State.policersSwap (s : State) (old new : CanvasSet) : State :=
  (Store.rows new.objs Obj.lnkPolW1).foldl (fun s p =>
    let r := p.1
    let w1 := new.policer r 1
    let cbs : Int := (bits w1 23 0 : Nat) * 8000000
    let pbs : Int := (bits w1 47 24 : Nat) * 8000000
    let z := Table.get Policer.empty s.links.policers r
    let z := if bit w1 48 = false then z
      else if bit (old.policer r 1) 48 then { z with tc := min z.tc cbs, tp := min z.tp pbs }
      else { tc := cbs, tp := pbs, last := s.deviceTime }
    { s with links := { s.links with policers := Table.set Policer.empty s.links.policers r z } }) s

/-! ### Classification, Table 12-6 -/

/-- Where a received frame goes. -/
inductive IngressTo where
  | fcs | discard | twin | timebase | maltster | strel
  | flow (row : Nat)
  deriving DecidableEq, Repr

/-- Whether a frame arrived on a PTP port with a transport that satisfies `ok`. -/
def State.ptpPort (s : State) (port : Nat) (ok : Nat → Bool) : Bool :=
  (port == s.val Obj.tbsPtpPortA || port == s.val Obj.tbsPtpPortB) && ok (s.val Obj.tbsPtpTransport)

/-- R286: whether the VID is that of the port's IP interface. -/
def State.interfaceVid (s : State) (port : Nat) (e : EthFrame) : Bool :=
  let want := if port = 96 then s.val Obj.lnkMgVid
    else if bit (s.portWord port 0) 47 then bits (s.portWord port 0) 43 32 else 0
  e.vid == want

/-- The unicast addresses of a port, of one IP version. -/
def State.portAddresses (s : State) (port : Nat) (v6 : Bool) : List Nat :=
  if v6 then s.ipv6InUse port else if s.portIpv4 port = 0 then [] else [s.portIpv4 port]

/-- The multicast groups a port listens to for ICMP, ICMPv6, IGMP and MLD: those it joined, and those these protocols use:
all systems, the IGMPv3 and MLDv2 routers' group, and the solicited-node groups of its addresses. -/
def State.portGroups (s : State) (port : Nat) (v6 : Bool) : List Nat :=
  ((s.links.members.filter fun m => m.port == port && m.v6 == v6).map (·.group)) ++
    (if v6 then
      [0xFF02 * 2 ^ 112 + 1, 0xFF02 * 2 ^ 112 + 0x16] ++
        [s.portLinkLocal port, s.portIpv6 port].map fun a => 0xFF02 * 2 ^ 112 + 0x1FF000000 + bits a 23 0
     else [0xE0000001, 0xE0000016])

/-- Whether the frame is ICMP, ICMPv6 or IGMP, MLD behind a hop-by-hop header included. -/
def EthFrame.control (e : EthFrame) (p : IpPacket) : Bool :=
  if p.v6 then p.proto == 58 || (p.proto == 0 && fieldBE e.bytes p.off 1 == 58) else p.proto == 1 || p.proto == 2

/-- Steps 7 to 13 of Table 12-6, for an IP packet. -/
def State.ingressIp (s : State) (port : Nat) (e : EthFrame) : IngressTo :=
  match e.ip with
  | none => .discard
  | some p =>
    let dport := fieldBE e.bytes (p.off + 2) 2
    let udp := e.udp p
    match (if udp ∧ port < 96 then s.flowLookup port e.vid dport p else none) with
    | some r => .flow r
    | none =>
      let mine := (s.portAddresses port p.v6).contains p.dst && s.interfaceVid port e
      if udp ∧ mine ∧ (dport = 319 ∨ dport = 320) ∧ s.ptpPort port (fun x => decide (x < 2)) then .timebase
      else if udp ∧ mine ∧ dport = s.val Obj.setStrelPort ∧ (port = 96 ∨ bit (s.portWord port 0) 8) then .strel
      else if e.control p ∧ s.interfaceVid port e ∧ (mine ∨ (s.portGroups port p.v6).contains p.dst) then .maltster
      else .discard

/-- R287: where a received frame goes. -/
def State.ingress (s : State) (port : Nat) (fcsGood : Bool) (e : EthFrame) : IngressTo :=
  let n := e.bytes.length
  let mtu := if port = 96 then 1500 else bits (s.portWord port 0) 23 10
  if fcsGood = false then .fcs
  else if n < 64 ∨ mtu + (if e.off = 18 then 22 else 18) < n then .discard
  else if e.ty = 0x8808 ∨ e.ty = 0x88A8 ∨ e.ty = 0x8100 then .discard
  else if port < 96 ∧ s.portTwin port then (if e.ty = 0x88B5 then .twin else .discard)
  else if e.ty = 0x88B5 then .discard
  else if e.ty = 0x88F7 ∧ s.ptpPort port (· == 2) then .timebase
  else if e.ty = 0x0806 then (if s.portV4 port ∧ s.interfaceVid port e then .maltster else .discard)
  else if e.ty = 0x0800 ∨ e.ty = 0x86DD then s.ingressIp port e
  else .discard

/-- A discard, counted on a link port. -/
def State.rxDiscard (s : State) (port : Nat) : State := if port < 96 then s.count Obj.lnkPortRxDiscards port else s

/-- R288: whether a frame to the Maltster passes the port's limit, and its tokens after it. -/
def State.puntAllowed (s : State) (port : Nat) : State × Bool :=
  if port = 96 then (s, true)
  else
    let p := s.port port
    let tokens := min (p.puntTokens + (s.now - p.puntAt) * s.val Obj.lnkPuntLimit) (64 * giga)
    if tokens < giga then
      (((s.setPort port { p with puntTokens := tokens, puntAt := s.now }).count Obj.lnkPuntDrops).count Obj.lnkPortPuntDrops port, false)
    else (s.setPort port { p with puntTokens := tokens - giga, puntAt := s.now }, true)

/-- R289: a frame waits for the firmware, with a descriptor on a punt line (lines 76 to 79). -/
def State.punt (s : State) (port : Nat) (b : Bytes) : State :=
  { s with links := { s.links with punted := s.links.punted ++ [(port, b)] } }.push (76 + port % 4) [port]

/-- R291 to R293: a frame that found row `r`. -/
def State.flowFrame (s : State) (port r : Nat) (e : EthFrame) : State :=
  let c := s.sets.bright
  let w := c.flow r 0
  let s := s.count Obj.lnkFlowHits r
  let dscp := (e.ip.map (·.dscp)).getD 0
  let x := if bit w 59 then s.police (bits (c.flow r 1) 11 0) e dscp else (s, true)
  let kind := bits w 43 40
  if x.2 = false ∨ kind = 0 then x.1.rxDiscard port
  else x.1.send (.passed port (if kind = 1 then "Compositor" else if kind = 2 then "Decode" else "RTCP") (bits w 57 44)
    (bits w 58 58) s.deviceTime)

/-- RX_FRAME (R285 to R293): a frame received on a port that is UP, or on the management port (96) with its link up, is
classified, policed, and passed or discarded. In SAFE only the Timebase and the management port receive (R288). -/
def execRxFrame (t port : Nat) (fcsGood : Bool) (frame : Bytes) (s : State) : Host.Outcome State Fault Refusal :=
  let s := s.land t
  let stamp := s.deviceTime
  if (if port = 96 then s.val Obj.lnkMgLink = 0 else s.portUp port = false) then .next s
  else
    let s := if port < 96 then s.count Obj.lnkPortRxFrames port else s
    let e := ethFrame frame
    .next (
      match s.ingress port fcsGood e with
      | .fcs => if port < 96 then s.count Obj.lnkPortRxFcs port else s
      | .discard => s.rxDiscard port
      | .timebase => s.send (.passed port "Timebase" 0 0 stamp)
      | .twin => if s.cellar.safe then s.rxDiscard port else s.send (.passed port "Twin" 0 0 stamp)
      | .flow r => if s.cellar.safe then s.rxDiscard port else s.flowFrame port r e
      | .strel =>
        if s.cellar.safe ∧ port < 96 then s.rxDiscard port
        else
          let x := s.puntAllowed port
          if x.2 then x.1.send (.passed port "Strel" 0 0 stamp) else x.1
      | .maltster =>
        if s.cellar.safe ∧ port < 96 then s.rxDiscard port
        else
          let x := s.puntAllowed port
          if x.2 then x.1.punt port frame else x.1)

/-! ### The firmware's answers (R289) -/

/-- The answer to an ARP packet: a reply to a request for the port's address. -/
def State.answerArp (s : State) (port : Nat) (b : Bytes) : State :=
  if fieldBE b 6 2 = 1 ∧ fieldBE b 24 4 = s.portIpv4 port then
    s.sendOwn port "ARP" [2, s.portMac port, s.portIpv4 port, fieldBE b 8 6, fieldBE b 14 4] (s.portIpv4 port)
  else s

/-- R289: the version of the querier that a query shows: an IGMP query of 8 bytes is version 1 or, with a response time, version 2; a
listener query shorter than 28 bytes is MLDv1. An older querier counts as present for 260 s, the Older Version Querier Present
Timeout with the defaults of RFC 3376 and RFC 3810 (PRESUMED; log entry 92). A change of version cancels the port's pending reports. -/
def State.noteQuerier (s : State) (port : Nat) (v6 : Bool) (b : Bytes) : State :=
  let p := s.port port
  let until_ := s.now + 260 * giga
  let p' : Port :=
    if v6 then (if b.length < 28 then { p with mld1Until := until_ } else p)
    else if 12 ≤ b.length then p
    else if fieldBE b 1 1 = 0 then { p with igmp1Until := until_ }
    else { p with igmp2Until := until_ }
  let s' := s.setPort port p'
  if s'.groupProtocol port v6 = s.groupProtocol port v6 then s'
  else { s' with links := { s'.links with
    reports := s'.links.reports.filter fun r => !(r.member.port == port && r.member.v6 == v6) } }

/-- Membership reports in answer to a query, each after a delay the host chooses. -/
def State.answerQuery (s : State) (port : Nat) (v6 : Bool) (b : Bytes) : State :=
  let s := s.noteQuerier port v6 b
  (s.links.members.filter fun m => m.port == port && m.v6 == v6).foldl (fun s m =>
    { s.drawn with links := { s.links with reports :=
        s.links.reports ++ [{ member := m, leave := false, left := 0,
                              due := s.now + Config.freeValue s.draws % (10 * giga) }] } }) s

/-- The answer to an ICMP or IGMP packet. -/
def State.answerV4 (s : State) (port : Nat) (p : IpPacket) (b : Bytes) : State :=
  if p.proto = 2 then (if fieldBE b 0 1 = 0x11 then s.answerQuery port false b else s)
  else if fieldBE b 0 1 = 8 then s.sendOwn port "ICMP" [0, p.src, fieldBE b 4 2, fieldBE b 6 2] (s.portIpv4 port) (some (false, p.src)) else s

/-- The answer to an ICMPv6 packet: neighbour solicitation and advertisement, duplicate detection, router
advertisement, echo, listener query; redirects are ignored. -/
def State.answerV6 (s : State) (port : Nat) (p : IpPacket) (b : Bytes) : State :=
  let ty := fieldBE b 0 1
  let target := fieldBE b 8 16
  let tentative := (s.port port).dadFrom.isSome
  let dup (s : State) : State :=
    if target = s.portLinkLocal port then s.dadDuplicate port false
    else if target = s.portIpv6 port then s.dadDuplicate port true
    else s
  if ty = 135 then
    if tentative ∧ p.src = 0 then dup s
    else if (s.ipv6InUse port).contains target then s.sendOwn port "NA" [target, s.portMac port, p.src] target (some (true, p.src))
    else s
  else if ty = 136 then (if tentative then dup s else s)
  else if ty = 134 then
    if fieldBE b 6 2 ≠ 0 then s.setPort port { s.port port with router6 := p.src }
    else if (s.port port).router6 = p.src then s.setPort port { s.port port with router6 := 0 }
    else s
  else if ty = 128 then s.sendOwn port "ICMPv6" [129, p.src, fieldBE b 4 2, fieldBE b 6 2] (if isMulticast true p.dst then s.portLinkLocal port else p.dst) (some (true, p.src))
  else if ty = 130 then s.answerQuery port true b
  else s

/-- PUNT_FRAME (R289): the firmware takes the oldest punted frame and answers it. -/
def execPuntFrame (t : Nat) (s : State) : Host.Outcome State Fault Refusal :=
  let s := s.land t
  match s.links.punted with
  | [] => .next s
  | (port, b) :: rest =>
    let line := 76 + port % 4
    let s := { s with links := { s.links with punted := rest } }
    let s := s.setWort line ((s.wortLine line).dropFirst (wortDepth line))
    let e := ethFrame b
    .next (
      if e.ty = 0x0806 then s.answerArp port (b.drop e.off)
      else
        match e.ip with
        | none => s
        | some p =>
          let d := slice b p.off p.len
          if p.v6 then s.answerV6 port p (if p.proto = 0 then d.drop (8 * (fieldBE d 1 1 + 1)) else d)
          else s.answerV4 port p d)

end Sys2Proof.Machine
end

