-- ==== Sys2Proof/Machine/Validate.lean ====
section
/-! DEFINITION. Green-set validation (R42): the Floor Map check, then the rules of each subsystem in ascending object index
(Tables 12-9, 4-7, 5-12, 7-2, 8-4, 9-8, R253, 11-6, 13-6, 14-7). A failed rule names an object and a row. -/
set_option Elab.async false
namespace Sys2Proof.Machine

/-- The first object a failed rule names, as index × 256 + subindex, and its row. -/
abbrev Failure := Option (Nat × Nat)

/-- The first of some rows that fails a rule naming `o`. -/
def failRow (o : Obj) (rows : List Nat) (bad : Nat → Bool) : Failure := (rows.find? bad).map fun r => (o.code, r)

/-- A rule that names one object, not a table. -/
def failOne (o : Obj) (bad : Bool) : Failure := if bad then some (o.code, 0) else none

/-- The first failure of rules in order. -/
def firstOf (l : List Failure) : Failure := l.findSome? id

/-- R33: the single-value ranges of some objects, rows ascending. -/
def CanvasSet.ranges (c : CanvasSet) (os : List Obj) : Failure :=
  firstOf (os.map fun o =>
    ((Store.rows c.objs o).find? fun p => setsReserved o p.2 || !inRange o p.1 p.2 || (formRefusal o p.2).isSome).map
      fun p => (o.code, p.1))

/-- The listed rows of an object for which `p` holds of the value, ascending. -/
def CanvasSet.rowsWhere (c : CanvasSet) (o : Obj) (p : Nat → Bool) : List Nat :=
  ((Store.rows c.objs o).filter fun r => p r.2.toNat).map (·.1)

/-- The enabled taps of a set (EN of Table 13-1). -/
def CanvasSet.taps (c : CanvasSet) : List Nat := c.rowsWhere Obj.tapW0 fun v => bit v 0

/-- The enabled receiver entries. -/
def CanvasSet.receivers (c : CanvasSet) : List Entry := c.entries.filter fun e => !e.fill

/-- Line rate of a port in kbit/s. -/
def State.portRate (s : State) (n : Nat) : Nat := 1000000 * modeGbps (s.portMode n)

/-- MTU of a port. -/
def State.portMtu (s : State) (n : Nat) : Nat := bits (s.portWord n 0) 23 10

/-! ### The Link Fabric, Table 12-9 -/

/-- Whether a colour map holds the reserved entry 3 (R293): two bits an entry. -/
def mapHasThree (v n : Nat) : Bool := (List.range n).any fun i => bits v (2 * i + 1) (2 * i) == 3

/-- What two enabled flow rows may not share: V6, DST, DPORT, PORT, VID_MATCH, VID, SRC_MATCH, SRC. -/
def CanvasSet.flowKey (c : CanvasSet) (r : Nat) : List Nat :=
  let w := c.flow r 0
  [bits w 1 1, c.flowDst r, bits w 39 24, bits w 22 16, bits w 3 3, bits w 15 4, bits w 2 2, c.flowSrc r]

/-- R289: a multicast DST needs a named port whose interface has its address family enabled. -/
def State.flowPortBad (s : State) (c : CanvasSet) (r : Nat) : Bool :=
  let w := c.flow r 0
  let n := bits w 22 16
  let v6 := bit w 1
  (n != 127 && !s.portUsable n)
    || (isMulticast v6 (c.flowDst r) && (n == 127 || !bit (s.portWord n 3) (if v6 then 15 else 14)))

/-- The ports whose entries use policer `k`. -/
def State.policerPorts (s : State) (c : CanvasSet) (k : Nat) : List Nat :=
  (List.range 96).filter fun n => s.portUsable n && c.flowRows.any fun r =>
    bit (c.flow r 0) 59 && bits (c.flow r 1) 11 0 == k && (bits (c.flow r 0) 22 16 == 127 || bits (c.flow r 0) 22 16 == n)

/-- R292: an enabled policer's rates and bursts; the largest frame of a port is MTU + 22 bytes (R285). -/
def State.policerBad (s : State) (c : CanvasSet) (k : Nat) : Bool :=
  let w0 := c.nat Obj.lnkPolW0 k
  let w1 := c.nat Obj.lnkPolW1 k
  bits w0 31 0 == 0 || decide (bits w0 63 32 < bits w0 31 0) || decide (bits w1 47 24 < bits w1 23 0)
    || (s.policerPorts c k).any fun n => decide (bits w1 23 0 < s.portMtu n + 22)

/-- The ports that a set uses: those of its enabled flow rows and taps. -/
def CanvasSet.usesPorts (c : CanvasSet) : List Nat :=
  (c.flowRows.filterMap fun r => let n := bits (c.flow r 0) 22 16; if n < 96 then some n else none)
    ++ c.taps.flatMap fun p => (c.tapPaths p ++ (if c.tapMon p then [2] else [])).map (c.tapPort p)

/-- R284: whether a port's FAILOVER breaks its rule. -/
def State.failoverBad (s : State) (n : Nat) : Bool :=
  let q := s.portFailover n
  q != 255 && (q == n || !s.portUsable q || decide (s.portRate q < s.portRate n))

/-- Table 12-9. Reserved fields of a flow row's word 1 are in the rule that names 0x2240:02. -/
def State.validLinks (s : State) (c : CanvasSet) : Failure :=
  let rows := c.flowRows
  firstOf [c.ranges [Obj.lnkPcpColour, Obj.lnkDscpColour],
    failOne Obj.lnkPcpColour (mapHasThree (c.nat Obj.lnkPcpColour) 8),
    failOne Obj.lnkDscpColour (mapHasThree (ofBytesBE (Store.read c.objs Obj.lnkDscpColour 0).toBytes) 64),
    c.ranges [Obj.lnkFlowW0],
    (c.ranges [Obj.lnkFlowW1]).map fun f => (Obj.lnkFlowW0.code, f.2),
    failRow Obj.lnkFlowW0 rows fun r => !bit (c.flow r 0) 1 &&
      (c.flow r 2 != 0 || c.flow r 4 != 0 || bits (c.flow r 3) 63 32 != 0 || bits (c.flow r 5) 63 32 != 0),
    failRow Obj.lnkFlowW0 rows (s.flowPortBad c),
    failRow Obj.lnkFlowW0 rows fun r => rows.any fun q => decide (q < r) && c.flowKey q == c.flowKey r,
    failRow Obj.lnkFlowW1 rows fun r => bit (c.flow r 0) 59 && !bit (c.nat Obj.lnkPolW1 (bits (c.flow r 1) 11 0)) 48,
    c.ranges [Obj.lnkPolW1],
    failRow Obj.lnkPolW0 (c.rowsWhere Obj.lnkPolW1 fun v => bit v 48) (s.policerBad c),
    failRow Obj.lnkPortW0 ((List.range 96).filter c.usesPorts.contains) s.failoverBad]

/-! ### The Compositor, Table 4-7 -/

/-- R89, R90, R96: whether an enabled flow's entry breaks its limits. -/
def CanvasSet.flowBad (c : CanvasSet) (f : Nat) : Bool :=
  let w0 := c.flow0 f
  let num := bits (c.flow1 f) 15 0
  let den := bits (c.flow1 f) 31 16
  decide (4 < bits w0 3 1) || (bits w0 3 1 == 0 && c.flowW f % 2 != 0) || !rateOk num den
    || (!c.flowFrames f && num * c.nat Obj.flrRateDen != c.nat Obj.flrRateNum * den)
    || decide (bits w0 43 32 < 8) || bits w0 51 44 == 0

/-- R96: bytes of the rings of the enabled flows up to `f`. -/
def CanvasSet.ringTotal (c : CanvasSet) (f : Nat) : Nat :=
  ((List.range (f + 1)).map fun i => if c.flowEn i then bits (c.flow0 i) 43 32 * c.flowLb i else 0).sum

/-- The size of a slot's source, where the source is enabled or valid (R97). -/
def State.slotSource (s : State) (c : CanvasSet) (l : Layer) : Option (Nat × Nat) :=
  if l.kind = 1 then (if c.flowEn l.src then some (c.flowW l.src, c.flowH l.src) else none)
  else if l.kind = 2 then
    (if c.decEn l.src then some (bits (c.dec0 l.src) 16 4 + 1, bits (c.dec0 l.src) 29 17 + 1) else none)
  else
    let d := s.val Obj.cmpStillDesc l.src
    if (s.still l.src).valid then some (bits d 15 2 + 1, bits d 29 16 + 1) else none

/-- R97, R98: whether an enabled slot's source, rectangles and ratios break their rules.
The ratios are not applied to KIND 0, whose
source fields are zero (DESIGN CHOICE; log entry 89). -/
def State.slotBad (s : State) (c : CanvasSet) (l : Layer) : Bool :=
  let outside := decide (32 * c.width < l.dx + l.dw) || decide (32 * c.height < l.dy + l.dh)
  if l.kind = 0 then outside || l.src != 0 || l.sx != 0 || l.sy != 0 || l.sw != 1 || l.sh != 1
  else
    match s.slotSource c l with
    | none => true
    | some (w, h) => outside || decide (w < l.sx + l.sw) || decide (h < l.sy + l.sh)
        || decide (16 * l.sw < l.dw) || decide (8 * l.dw < l.sw) || decide (16 * l.sh < l.dh) || decide (8 * l.dh < l.sh)

/-- R99: e, half-entries per pixel. -/
def State.slotHalves (s : State) (c : CanvasSet) (l : Layer) : Nat :=
  if l.kind = 0 then 0
  else if l.kind = 1 then
    let fmt := bits (c.flow0 l.src) 3 1
    if fmt = 0 then 2 else if fmt = 2 ∨ fmt = 4 then 4 else 3
  else if l.kind = 2 then (if bits (c.dec0 l.src) 3 2 = 2 then 3 else 2)
  else if bit (s.val Obj.cmpStillDesc l.src) 1 then 2 else 4

/-- R103: the row budget of the Compositor in cycles. -/
def CanvasSet.brow (c : CanvasSet) : Int :=
  (32 * c.nat Obj.flrRateDen * giga / (c.nat Obj.flrRateNum * c.nat Obj.flrTotalLines) : Nat) - 512

/-- R99, R103: whether a slot's line buffer or cycles exceed their limits. -/
def State.slotHeavy (s : State) (c : CanvasSet) (l : Layer) : Bool :=
  let nv := min (ceilDiv (31 * l.sh) l.dh + 7) l.sh
  let cycles := fun (row : Nat) => ceilDiv ((l.outLines row).length * max l.dw (ceilDiv l.sw 2)) 32
  decide (262144 < ceilDiv (l.sw * s.slotHalves c l) 2 * nv)
    || (List.range c.height).any fun row => decide (c.brow < (cycles row : Int))

/-- R101: whether an enabled stack breaks its rules. -/
def CanvasSet.stackBad (c : CanvasSet) (k : Nat) : Bool :=
  let n := bits (c.nat Obj.cmpStackW0 k) 39 36
  let w1 := c.nat Obj.cmpStackW1 k
  let used := (List.range (min n 8)).map fun i => bits w1 (8 * i + 3) (8 * i)
  decide (8 < n) || used.any (fun l => !(c.slot l).en) || used.eraseDups.length != used.length
    || (List.range 8).any fun i => decide (n ≤ i) && bits w1 (8 * i + 7) (8 * i) != 0

/-- R103: the stack of the first CTU of the first row that costs the blender more than its budget. -/
def CanvasSet.blenderBad (c : CanvasSet) : Failure :=
  ((List.range (if c.hasCanvas then c.height else 0)).find? fun y =>
    decide (c.brow < (16 * ((List.range c.width).filter fun x => !ctuBlack (c.ctu x y)).length : Nat))).map
      fun y => (Obj.cmpStackW0.code, bits (c.ctu 0 y) 31 20)

/-- R107: whether a CTU of map row `row` lies in a group's rectangle. -/
def CanvasSet.rawHolds (c : CanvasSet) (g row : Nat) : Bool :=
  let z := c.rawGroup g
  let x := row % 2048
  let y := row / 2048
  decide (z.x0 ≤ 32 * x) && decide (32 * x < z.x0 + z.w) && decide (z.y0 ≤ 32 * y) && decide (32 * y < z.y0 + z.h)

/-- R107, R300: whether a raw group breaks its own rules.
Of two groups that share a tap the later row is named (DESIGN CHOICE; log entry 89). -/
def CanvasSet.rawBad (c : CanvasSet) (g : Nat) : Bool :=
  let z := c.rawGroup g
  let w1 := c.nat Obj.cmpRawW1 g
  decide (32 * c.width < z.x0 + z.w) || decide (32 * c.height < z.y0 + z.h)
    || decide (bits w1 13 0 < 512) || decide (8952 < bits w1 13 0) || decide (bits w1 20 14 < 96) || !c.tapEn z.tap
    || (c.receivers.any fun e => e.tap == z.tap)
    || c.rawGroups.any fun q => decide (q < g) && (c.rawGroup q).tap == z.tap

/-- R107: the first CTU whose RAWGRP disagrees with the groups' rectangles. -/
def CanvasSet.rawMapBad (c : CanvasSet) : Failure :=
  let gs := c.rawGroups
  failRow Obj.cmpRawW0 (c.ctus.map fun p => p.2 * 2048 + p.1) fun row =>
    gs.any fun g => c.rawHolds g row != (bits (c.map.get row) 45 32 == g)

/-- Table 4-7. -/
def State.validCompositor (s : State) (c : CanvasSet) : Failure :=
  let flows := (List.range 64).filter c.flowEn
  let slots := c.slots.map (·.1)
  firstOf [c.ranges [Obj.cmpFlowW0, Obj.cmpFlowW1],
    failRow Obj.cmpFlowW0 flows c.flowBad,
    failRow Obj.cmpFlowW0 flows fun f => decide (24117248 < c.ringTotal f),
    c.ranges [Obj.cmpSlotW0, Obj.cmpSlotW1, Obj.cmpSlotW2],
    failRow Obj.cmpSlotW0 slots fun l => s.slotBad c (c.slot l),
    failRow Obj.cmpSlotW0 slots fun l => s.slotHeavy c (c.slot l),
    c.ranges [Obj.cmpFilterUser, Obj.cmpStackW0, Obj.cmpStackW1],
    failRow Obj.cmpStackW0 (c.rowsWhere Obj.cmpStackW0 fun v => bit v 40) c.stackBad,
    c.blenderBad,
    c.ranges [Obj.cmpRawW0, Obj.cmpRawW1],
    failRow Obj.cmpRawW0 [0] fun _ => c.nat Obj.cmpRawW0 0 != 0 || c.nat Obj.cmpRawW1 0 != 0,
    failRow Obj.cmpRawW0 c.rawGroups c.rawBad,
    c.rawMapBad,
    failOne Obj.cmpAreaMib (decide (s.cmp.areaMib * 1048576 <
      ((List.range 64).map c.frameBuffers).sum + (s.cmp.stills.map fun p => p.2.allocated).sum))]

/-! ### The coded stream, Table 5-12 -/

/-- R120: whether a vertical edge of one entry lies strictly inside the other. -/
def Entry.stripesClash (a b : Entry) : Bool :=
  let inside := fun (x : Nat) (e : Entry) => decide (e.x0 < x) && decide (x < e.x0 + e.w)
  inside b.x0 a || inside (b.x0 + b.w) a || inside a.x0 b || inside (a.x0 + a.w) b

/-- Table 5-12. -/
def CanvasSet.validCoded (c : CanvasSet) : Failure :=
  let es := c.entries
  let rec_ := c.nat Obj.cspRecorderTap
  firstOf [c.ranges [Obj.cspChroma, Obj.cspColour, Obj.cspDither, Obj.cspRecorderTap, Obj.cspPsEveryAu, Obj.cspPlacementSei,
      Obj.cspDph, Obj.cspCbQpOffset, Obj.cspCrQpOffset, Obj.cspDbkBeta, Obj.cspDbkTc],
    failRow Obj.flrSubW0 (es.map (·.s)) fun n => (entryNamed es n).any fun b => es.any fun a => decide (a.s < n) && a.stripesClash b,
    failRow Obj.flrSubW0 (c.receivers.map (·.s)) fun n => c.level n == 0,
    c.ranges [Obj.cspSubLevelFloor],
    failOne Obj.cspRecorderTap (rec_ != 65535 && (!c.tapEn rec_ || (c.receivers.any fun e => e.tap == rec_)
      || c.rawGroups.any fun g => (c.rawGroup g).tap == rec_)),
    if c.nat Obj.cspColour = 2 then c.ranges [Obj.cspMdcv, Obj.cspCll] else none]

/-! ### The Dispatcher, Table 7-2 -/

/-- R170: Wr, one CTU-row period in Tun cycles. -/
def CanvasSet.rowCycles (c : CanvasSet) : Nat :=
  32 * c.nat Obj.flrRateDen * 1600000000 / (c.nat Obj.flrRateNum * c.nat Obj.flrTotalLines)

/-- R170: Cy, the sum of the worst-case costs of the segments of canvas row `y`. -/
def CanvasSet.rowCost (c : CanvasSet) (y : Nat) : Nat := ((c.rowEntries y).map fun e => e.w * c.codedCost).sum

/-- R170: (Na − Nd) × Wr. -/
def CanvasSet.rowBudget (c : CanvasSet) : Nat :=
  (64 - c.nat Obj.dspSpares - c.nat Obj.dspDecodeTuns) * c.rowCycles

/-- DSP_ROW_LOAD_PERMILLE. -/
def CanvasSet.rowLoad (c : CanvasSet) : Nat :=
  ((List.range (if c.hasCanvas then c.height else 0)).map fun y => 1000 * c.rowCost y / c.rowBudget).foldl max 0

/-- Table 7-2. -/
def CanvasSet.validDispatch (c : CanvasSet) : Failure :=
  let es := c.entries
  let rows := List.range (if c.hasCanvas then c.height else 0)
  firstOf [c.ranges [Obj.dspSpares, Obj.dspDecodeTuns, Obj.dspLateLines, Obj.dspRespareMax],
    failOne Obj.dspDecodeTuns (decide (63 < c.nat Obj.dspSpares + c.nat Obj.dspDecodeTuns)),
    failRow Obj.flrSubW0 (es.map (·.s)) fun n => (entryNamed es n).any fun e => decide (c.rowCycles < e.w * c.codedCost + 1024),
    failRow Obj.dspSpares rows fun y => decide (c.rowBudget < c.rowCost y)]

/-! ### Gravity and the Rake, Table 8-4 -/

/-- Table 8-4. -/
def State.validGravity (s : State) (c : CanvasSet) : Failure :=
  let rs := c.receivers.map (·.s)
  firstOf [c.ranges [Obj.grvQpBase, Obj.grvQpMin, Obj.grvQpMax, Obj.grvActStrength, Obj.grvActPivot, Obj.grvActRange],
    failOne Obj.grvQpBase (decide (c.int Obj.grvQpBase < c.int Obj.grvQpMin) || decide (c.int Obj.grvQpMax < c.int Obj.grvQpBase)),
    c.ranges [Obj.grvSubQpOffset, Obj.grvQpd],
    failRow Obj.flrSubW0 rs fun n => c.tapRate (c.entry n).tap == 0 || decide (c.capBits n ≤ 0),
    failRow Obj.flrSubW0 rs fun n => decide (c.capBits n < (c.need (s.bright Obj.rakPeriod) n : Int)),
    c.ranges [Obj.rakPeriod, Obj.rakQpOffset]]

/-! ### The Assembler, Table 9-8 -/

/-- Whether pp of a tap exceeds the MTU of a path's port. -/
def State.mtuBad (s : State) (c : CanvasSet) (p pp : Nat) : Bool :=
  (c.tapPaths p).any fun path => decide (s.portMtu (c.tapPort p path) < pp + (if c.tapV6 p then 83 else 63))

/-- R220: the SSRCs of receiver streams, the canvas stream and raw groups. -/
def CanvasSet.ssrcs (c : CanvasSet) : List Nat :=
  c.receivers.map (fun e => c.ssrc e.s) ++ (if c.nat Obj.cspRecorderTap < 16384 then [c.ssrc 4096] else [])
    ++ c.rawGroups.map fun g => bits (c.nat Obj.cmpRawW1 g) 63 32

/-- Table 9-8. The rule on the extension IDs names three objects, of which SET_VALID_OBJECT holds the first (R42). -/
def State.validAssembler (s : State) (c : CanvasSet) : Failure :=
  let rs := c.receivers.map (·.s)
  let all := c.ssrcs
  let twice := fun (x : Nat) => decide (1 < (all.filter fun y => y == x).length)
  let rec_ := c.nat Obj.cspRecorderTap
  let ids := [c.nat Obj.asmExtIdCt, c.nat Obj.asmExtIdSg, c.nat Obj.asmExtIdGm]
  firstOf [failOne Obj.asmExtIdCt (ids.any (fun n => n == 0 || decide (14 < n)) || ids.eraseDups.length != 3),
    c.ranges [Obj.asmGapMarkers, Obj.asmRecorderPt, Obj.asmRecorderPp, Obj.asmSubPt],
    failRow Obj.asmSubSsrc rs fun n => twice (c.ssrc n),
    failRow Obj.asmSubSsrc [0] fun _ => all.any twice,
    c.ranges [Obj.asmSubPp],
    failRow Obj.asmSubPp rs fun n => s.mtuBad c (c.entry n).tap (c.fragment n),
    failRow Obj.asmSubPp rs fun n =>
      let k := c.largestAu n
      decide (3 < k.1.length) || decide (1 < k.2.length),
    failOne Obj.asmRecorderPp (decide (rec_ < 16384) && s.mtuBad c rec_ (c.fragment 4096))]

/-! ### Twin operation (R253) and contribution decode (Table 11-6) -/

/-- Whether `n` is a twin port. -/
def State.isTwinPort (s : State) (n : Nat) : Bool := decide (n < 96) && s.portEnabled n && s.portTwin n

/-- R253. -/
def State.validTwin (s : State) (c : CanvasSet) : Failure :=
  let mode := c.nat Obj.twnMode
  firstOf [c.ranges [Obj.twnMode],
    failOne Obj.twnMode (s.sets.bright.hasCanvas && ((mode == 0) != (s.bright Obj.twnMode == 0))),
    failOne Obj.twnMode (mode != 0 && (!s.isTwinPort s.twn.portA || !s.isTwinPort s.twn.portB || s.twn.portA == s.twn.portB
      || s.twinKey.isEmpty))]

/-- R255: whether an enabled stream's word 0 breaks its limits; Main 10 4:4:4 of H.266 holds 4:2:2, HEVC has no 4:4:4 (R254). -/
def CanvasSet.decBad (c : CanvasSet) (d : Nat) : Bool :=
  let w := c.dec0 d
  let pt := bits w 52 46
  decide (2 < bits w 3 2) || (bit w 1 && bits w 3 2 == 2) || bits w 39 32 == 0 || bits w 44 40 == 0
    || decide (16 < bits w 44 40) || bits w 60 53 == 0 || (pt != 0 && decide (pt < 96))

/-- Table 11-6's load of the enabled streams, as a fraction. -/
def CanvasSet.decLoad (c : CanvasSet) : Nat × Nat :=
  ((List.range 32).filter c.decEn).foldl (fun acc d =>
    let w := c.dec0 d
    let k := if bits w 3 2 = 2 then 1536 else 1024
    let cost := ceilDiv ((bits w 16 4 + 1) * (bits w 29 17 + 1) * k) 1024
    let r := c.decRate d
    (acc.1 * r.2.1 + cost * r.1 * acc.2, acc.2 * r.2.1)) (0, 1)

/-- R258: whether a FIN_STR_SPROP value is not a list of parameter sets of the codec. -/
def CanvasSet.spropBad (c : CanvasSet) (d : Nat) : Bool :=
  let b := (Store.read c.objs Obj.finStrSprop d).toBytes
  let us := spropUnits b.length b
  decide (4096 < b.length) || (us.map fun u => u.length + 2).sum != b.length
    || us.any fun u => decide (u.length < 2) || !isParamSet (bit (c.dec0 d) 1) u

/-- Table 11-6. -/
def State.validDecode (s : State) (c : CanvasSet) : Failure :=
  let ds := (List.range 32).filter c.decEn
  let load := c.decLoad
  let nd := c.nat Obj.dspDecodeTuns
  firstOf [c.ranges [Obj.finStrW0], failRow Obj.finStrW0 ds c.decBad,
    c.ranges [Obj.finStrW1], failRow Obj.finStrW1 ds fun d => !rateOk (c.decRate d).1 (c.decRate d).2.1,
    failRow Obj.finStrW0 ds fun d =>
      decide (s.val Obj.finAreaMib * 1048576 < ((ds.filter fun i => decide (i ≤ d)).map c.decNeed).sum),
    failOne Obj.dspDecodeTuns (!ds.isEmpty && (nd == 0 || decide (nd * 1500000000 * load.2 < load.1))),
    failRow Obj.finStrSprop (List.range 32) c.spropBad]

/-! ### The Taproom, Table 13-6 -/

/-- R108: bytes from the RTP header on of the largest packet of a raw group, as `rawPacket` builds it. -/
def rawLargest (z : RawGroup) : Nat → Nat → Nat
  | 0, _ => 0
  | fuel + 1, p =>
    let m := rawTake z.per z.line z.total p
    if m = 0 then 0
    else
      let first := min m ((p / z.line + 1) * z.line - p)
      max (30 + (if first < m then 12 else 6) + m * pgroupBytes z.fmt) (rawLargest z fuel (p + m))

/-- R323: the largest charge of a named tap: pp + hp of a coded stream, the largest packet of a raw group; none for a tap
that R300 does not name. -/
def CanvasSet.largestCharge (c : CanvasSet) (p : Nat) : Option Nat :=
  match c.receivers.find? fun e => e.tap == p with
  | some e => some (c.fragment e.s + c.overhead p)
  | none =>
    if c.nat Obj.cspRecorderTap = p then some (c.fragment 4096 + c.overhead p)
    else
      match c.rawGroups.find? fun g => (c.rawGroup g).tap == p with
      | some g => let z := c.rawGroup g; some (c.charge p (rawLargest z z.total 0))
      | none => none

/-- R300: the taps that producers name, ascending. -/
def CanvasSet.namedTaps (c : CanvasSet) : List Nat :=
  let l := c.receivers.map (·.tap) ++ (if c.nat Obj.cspRecorderTap < 16384 then [c.nat Obj.cspRecorderTap] else [])
    ++ c.rawGroups.map fun g => (c.rawGroup g).tap
  (l.foldl (fun t p => Table.insert t p ()) ([] : Table Unit)).map (·.1)

/-- Table 13-6: whether an enabled tap's word 0 breaks its rules. -/
def State.tapBad (s : State) (c : CanvasSet) (p : Nat) : Bool :=
  let w := c.tap p 0
  bits w 57 50 == 0 || (c.tapTagged p && (bits w 40 29 == 0 || bits w 40 29 == 4095))
    || (c.tapPaths p ++ (if c.tapMon p then [2] else [])).any (fun path => !s.portUsable (c.tapPort p path))
    || (c.tapDual p && c.tapPort p 0 == c.tapPort p 1)

/-- The enabled taps with a path on a port, once for each path. -/
def CanvasSet.tapsOn (c : CanvasSet) (n : Nat) : List Nat :=
  c.taps.flatMap fun p => ((c.tapPaths p).filter fun path => c.tapPort p path == n).map fun _ => p

/-- R323: the sum of RATE over the tap paths on a port, in kbit/s. -/
def CanvasSet.portLoad (c : CanvasSet) (n : Nat) : Nat := ((c.tapsOn n).map c.tapRate).sum

/-- Table 13-6: whether a port's load or class rates break their rules. -/
def State.portSchedBad (s : State) (c : CanvasSet) (n : Nat) : Bool :=
  let sum := c.portLoad n
  let rate := s.portRate n
  let w1 := c.nat Obj.tapPortW1 n
  let w2 := c.nat Obj.tapPortW2 n
  decide (rate < sum) || (bit (c.nat Obj.tapPortW0 n) 0 &&
    (decide (bits w1 63 32 < sum) || decide (rate < bits w1 31 0 + bits w1 63 32 + bits w2 31 0 + bits w2 63 32)
      || (c.tapsOn n).any fun p => decide (bits (c.nat Obj.tapPortW3 n) 23 0 < (c.largestCharge p).getD 0)))

/-- Table 13-6. -/
def State.validTaproom (s : State) (c : CanvasSet) : Failure :=
  let named := c.namedTaps
  let either := (named ++ c.taps).foldl (fun t p => Table.insert t p ()) ([] : Table Unit)
  let raw := fun (p : Nat) => c.rawGroups.find? fun g => (c.rawGroup g).tap == p
  firstOf [c.ranges [Obj.tapLaunchLines, Obj.tapSrFrames, Obj.tapCname, Obj.tapW0],
    failRow Obj.tapW0 (either.map (·.1)) fun p => !c.tapEn p || s.tapBad c p,
    failRow Obj.tapW1 named fun p => c.tapRate p == 0 || decide (c.tapPeak p < c.tapRate p)
      || (c.tapPaths p).any fun path => decide (s.portRate (c.tapPort p path) < c.tapPeak p),
    failRow Obj.tapW1 named fun p => (raw p).any fun g =>
      let z := c.rawGroup g
      decide (1000 * c.tapRate p < 8 * z.pf * (c.largestCharge p).getD 0 * c.nat Obj.flrRateNum / c.nat Obj.flrRateDen),
    c.ranges [Obj.tapW3],
    failRow Obj.tapW3 named fun p =>
      let x := (c.largestCharge p).getD 0
      decide (c.tapBurst p < x) || decide (c.tapQuantum p < x) || decide (c.tapQmax p < 64),
    c.ranges [Obj.tapPortW0, Obj.tapPortW3],
    failRow Obj.tapPortW0 (List.range 96) (s.portSchedBad c)]

/-! ### Memory, Table 14-7 -/

/-- Rk + Rs + Ck + Cs. -/
def State.storeChunks (s : State) (c : CanvasSet) : Nat :=
  let r := s.storeShares c
  r.1 + r.2.1 + r.2.2.1 + r.2.2.2

/-- Table 14-7. -/
def State.validMemory (s : State) (c : CanvasSet) : Failure :=
  let num := c.nat Obj.flrRateNum
  let lt := c.nat Obj.flrTotalLines
  let lines : Int := (lt : Int) - 32 * c.height - 32
  firstOf [failOne Obj.memDdConfig (decide (ddrCapacity (s.val Obj.memDdConfig) < 2048 * s.storeChunks c)),
    failOne Obj.memDdPauseUs (c.hasCanvas &&
      decide (lines * (c.nat Obj.flrRateDen * giga : Nat) < ((s.val Obj.memDdPauseUs + 10) * 1000 * num * lt : Nat)))]

/-! ### The whole validation -/

/-- R42: the cross-object rules in ascending object index. -/
def State.validRules (s : State) (c : CanvasSet) : Failure :=
  firstOf [s.validLinks c, s.validCompositor c, c.validCoded, c.validDispatch, s.validGravity c, s.validAssembler c,
    s.validTwin c, s.validDecode c, s.validTaproom c, s.validMemory c]

/-- R42: SET_VALID_CODE, SET_VALID_OBJECT, SET_VALID_ROW, and the result of the Floor Map check where it ran. -/
def State.validate (s : State) (run : CheckRun) : Nat × Nat × Nat × Option (Nat × Nat × Option Nat) :=
  if run.absent then (3, 0, 0, none)
  else
    let r := run.set.floorCheck
    if r.1 ≠ 0 then (1, 0, 0, some r)
    else
      match s.validRules run.set with
      | some (o, row) => (2, o, row, some r)
      | none => (0, 0, 0, some r)

end Sys2Proof.Machine
end

