-- ==== Sys2Proof/Machine/Sets.lean ====
section
/-! DEFINITION. The green and bright sets: racks (R44 to R47, Table 2-3), validation (R42), discard (R41), Cask slots (R48,
R49), the boot rack (R40). -/
set_option Elab.async false
namespace Sys2Proof.Machine

/-! ### Requests -/

/-- R42: a validation of the green set as it stands starts, or restarts. -/
def State.startValidation (s : State) : State :=
  { s with sets := { s.sets with validation := some { set := s.sets.green, absent := s.sets.mapAbsent, stale := false } } }.put
    Obj.setValidStatus 0 1

/-- Table 2-3, IDLE: a rack to target `target` begins. The boot rack that two devices agree in PAIRING takes the twin forms
(R47). -/
def State.requestRack (s : State) (target : Nat) : State :=
  (s.changeRack fun r => { r with state := .validating, target := target, paired := s.twn.state == .pairing }).startValidation

/-- SET_RACK (R44, R413). -/
def setRack (v : Nat) (s : State) : Effect :=
  if s.trust.lifecycle = 3 then (s, .state)
  else if s.sets.rack.state ≠ .idle then (s, .busy)
  else if s.cellar.safe then (s, .state)
  else (s.requestRack v, .ok)

/-- SET_RACK. -/
def execSetRack (t : Nat) (who : Path) (v : Nat) (s : State) : Host.Outcome State Fault Refusal :=
  objectCommand t who Obj.setRack 0 (.num v) (setRack v) s

/-- R45, R47: whether the rack takes the twin-mode forms. -/
def State.rackTwin (s : State) : Bool := s.twinMode || (s.sets.rack.paired && s.twn.state != .solo)

/-- SET_RACK_CANCEL (R47). -/
def setRackCancel (s : State) : Effect :=
  if s.rackTwin then (s, .state)
  else
    match s.sets.rack.state with
    | .validating | .scheduled => ((s.endRack .cancelled).moveGroups, .ok)
    | _ => (s, .state)

/-- SET_RACK_CANCEL. -/
def execSetRackCancel (t : Nat) (who : Path) (v : Nat) (s : State) : Host.Outcome State Fault Refusal :=
  objectCommand t who Obj.setRackCancel 0 (.num v) setRackCancel s

/-- SET_DISCARD (R41). -/
def setDiscard (s : State) : Effect :=
  if s.greenLocked then (s, .greenLocked)
  else
    ({ s with sets := { s.sets with green := s.sets.bright, mapAbsent := false } }.greenTouched.checkTouched, .ok)

/-- SET_DISCARD. -/
def execSetDiscard (t : Nat) (who : Path) (v : Nat) (s : State) : Host.Outcome State Fault Refusal :=
  objectCommand t who Obj.setDiscard 0 (.num v) setDiscard s

/-- SET_VALIDATE (R42). -/
def setValidate (s : State) : Effect := (s.startValidation, .ok)

/-- SET_VALIDATE. -/
def execSetValidate (t : Nat) (who : Path) (v : Nat) (s : State) : Host.Outcome State Fault Refusal :=
  objectCommand t who Obj.setValidate 0 (.num v) setValidate s

/-! ### Validation ends -/

/-- R45: frame F for target `target` with `lead` = D, or the result that says why it cannot be met. -/
def rackFrame (fv lead target : Nat) : Except RackResult Nat :=
  if target = 0 then .ok (add32 fv lead)
  else if frameEarlier target (add32 fv lead) then .error .late
  else if 16777216 < sub32 target fv then .error .far
  else .ok target

/-- R45: D. -/
def State.rackLead (s : State) (twin : Bool) : Nat :=
  let lead := s.val Obj.setRackLead
  if twin then max lead 4 else lead

/-- Table 2-3: validation of the rack's set passed. -/
def State.rackPassed (s : State) : State :=
  let twin := s.rackTwin
  match rackFrame s.ctime.frame (s.rackLead twin) s.sets.rack.target with
  | .error res => s.refuseHeldRacks.endRack res
  | .ok f =>
    let s := s.changeRack fun r => { r with frame := f, state := if twin then .agreeing else r.state }
    if twin then (s.propose 1 0 f 0 s.greenDigest s.stillsDigest).serveHeld else s.rackScheduled

/-- SET_VALIDATION_DONE (R42, R44): the running validation ends. A rack's validation waits for canvas lock (R452). -/
def execSetValidationDone (t : Nat) (s : State) : Host.Outcome State Fault Refusal :=
  let s := s.land t
  let racking := s.sets.rack.state == .validating
  match s.sets.validation with
  | none => .next s
  | some run =>
    if racking ∧ !s.tbs.canvasLock then .next s
    else
      let s := { s with sets := { s.sets with validation := none } }
      if run.stale then .next (s.put Obj.setValidStatus 0 4)
      else
        let r := s.validate run
        let s : State := match r.2.2.2 with
          | some x => s.floorResult x
          | none => s
        let s := (s.put Obj.setValidCode 0 r.1).put Obj.setValidStatus 0 (if r.1 = 0 then 2 else 3)
        let s := (s.put Obj.setValidObject 0 r.2.1).put Obj.setValidRow 0 r.2.2.1
        let s := { s with sets := { s.sets with validated := some run.set } }
        .next (if !racking then s else if r.1 = 0 then s.rackPassed else s.refuseHeldRacks.endRack .invalid)

/-- RACK_AGREE_TIMEOUT (Table 2-3): ⟨F−2:0⟩ is reached without an answer. -/
def execRackAgreeTimeout (t : Nat) (s : State) : Host.Outcome State Fault Refusal :=
  let s := s.land t
  .next (
    if s.sets.rack.state = .agreeing ∧ s.agreeClosed s.sets.rack.frame then (s.unpropose 1 0).endRack .twinTimeout else s)

/-! ### The swap -/

/-- The raster of a set (R72): 1,000 lines without a canvas. -/
def CanvasSet.raster (c : CanvasSet) : Nat × Nat × Nat :=
  (c.nat Obj.flrRateNum, c.nat Obj.flrRateDen, if c.hasCanvas then c.nat Obj.flrTotalLines else 1000)

/-- R75, R76: a rack to frame `f` that changes the raster ends the old raster with frame f − 1; the gap lasts until the new
anchor. -/
def State.reanchor (s : State) (new : CanvasSet) (f : Nat) : State :=
  let r := s.tbs.raster
  let z := new.raster
  if z = (r.num, r.den, r.lt) then s
  else
    let e := s.indexOf (sub32 f 1) + 1
    let nk := ceilDiv (e * r.den * z.1) (r.num * z.2.1)
    let next : Raster := { num := z.1, den := z.2.1, lt := z.2.2, nk := nk, fk := f % 4294967296 }
    let gap : Gap :=
      { reads := { frame := sub32 f 1, line := r.lt - 1 }, fromNs := r.lineStart e 0, untilNs := next.lineStart nk 0, next := next }
    { s with tbs := { s.tbs with gap := some gap } }

/-- R46: the swap makes the green set bright for frame `f`, in frame numbers of the raster in force. The set it replaces is kept
for the work of frames before `f`; the green set reads as it was racked until the copy of R46 unlocks it. Every unit takes over
what changes. -/
def State.swapSets (s : State) (f : Nat) (agreed : Bool) : State :=
  let old := s.sets.bright
  let new := s.sets.green
  let s := { s with sets := { s.sets with bright := new, old := s.sets.old ++ [(f, old)] } }
  let s := s.changeRack fun r =>
    { r with state := .reseeding, frame := f, result := .done, count := add32 r.count 1, swapAtGap := false,
             copying := s.frameDone (sub32 f 1) }
  let s := ((((s.streamsRack old new f).rakeRack old new).rackCompositor old new f).policersSwap old new).hierSwap old new
  let start := codingStartRack old new
  let s := { s with coding := { s.coding with started := s.coding.started && !start && new.hasCanvas } }
  let s : State := (if start then s.restartPacersAt f else s)
  let s := s.capacity
  let s := (List.range 64).foldl (fun s t =>
    let u := (s.tun t).state
    if u = .gated ∨ u = .failed ∨ u = .retired then s else s.attend t .context) s
  let mode := new.nat Obj.twnMode
  let s : State := if s.twn.state = .off then (if mode = 0 then s else s.startPairing)
    else if mode = 0 then s.modTwin fun x => { x with state := .off, cause := 0, listenUntil := none }
    else if s.twn.state = .pairing ∧ agreed then s.modTwin fun x => { x with state := .paired }
    else s
  s.rackEnded

/-- RACK_SWAP (Table 2-3): line ⟨F−1:32·Hb⟩ is reached. -/
def execRackSwap (t : Nat) (s : State) : Host.Outcome State Fault Refusal :=
  let s := s.land t
  let r := s.sets.rack
  .next (if r.state = .scheduled ∧ s.calTurn s.rackEntry then
    ((s.swapSets r.frame s.rackTwin).reanchor s.sets.green r.frame).calTicked else s)

/-- RESEED_COMPLETE (R46): the copy of the new bright set into the freed copy is complete. -/
def execReseedComplete (t : Nat) (s : State) : Host.Outcome State Fault Refusal :=
  let s := s.land t
  let r := s.sets.rack
  .next (
    if r.state = .reseeding ∧ r.copying then
      { s with sets := { s.sets with green := s.sets.bright, mapAbsent := false } }.changeRack fun r =>
        { r with state := .idle, paired := false, copying := false }
    else s)

/-! ### Cask slots (R48, R49) -/

/-- R48: whether a save or load runs. -/
def State.slotBusy (s : State) : Bool := s.sets.savePending.isSome || s.sets.saving.isSome || s.sets.loading.isSome

/-- SET_SAVE (R48): the snapshot is taken at the next line boundary. -/
def setSave (v : Nat) (s : State) : Effect :=
  if s.slotBusy then (s, .busy)
  else ({ s with sets := { s.sets with savePending := some v } }.put Obj.setSaveStatus 0 1, .ok)

/-- SET_SAVE. -/
def execSetSave (t : Nat) (who : Path) (v : Nat) (s : State) : Host.Outcome State Fault Refusal :=
  objectCommand t who Obj.setSave 0 (.num v) (setSave v) s

/-- R30: the bytes of a region form that the Cask's share holds, FLR_PERSIST_LIMIT. -/
def State.persistLimit (s : State) : Nat := s.val Obj.flrPersistLimit

/-- SET_SAVE_DONE (R30, R48, R431): the save ends; `written`: every word of it read back right (R433). -/
def execSetSaveDone (t : Nat) (written : Bool) (s : State) : Host.Outcome State Fault Refusal :=
  let s := s.land t
  match s.sets.saving with
  | none => .next s
  | some (k, c) =>
    let s := { s with sets := { s.sets with saving := none } }
    if 2097024 < c.slotBytes then .next (s.put Obj.setSaveStatus 0 3)
    else if written = false then .next (((s.caskErr (caskBase (k + 1))).slotDamaged k).put Obj.setSaveStatus 0 3)
    else
      let size := c.regionBytes
      let s := s.put Obj.setSaveStatus 0 2
      if size ≤ s.persistLimit then .next ((s.putSlot k { state := 1, image := { c with map := c.canonicalMap } }).put Obj.flrPersistStatus 0 0)
      else
        .next (((s.putSlot k { state := 2, image := { c with map := { fill := 0, rows := [] } } }).put Obj.flrPersistStatus 0 1).brewRec
          0x008 0x021 size)

/-- SET_LOAD (R49). -/
def setLoad (v : Nat) (s : State) : Effect :=
  if s.greenLocked then (s, .greenLocked)
  else if s.slotBusy then (s, .busy)
  else if (s.setSlot v).state = 0 ∨ (s.setSlot v).state = 3 then (s, .noData)
  else ({ s with sets := { s.sets with loading := some v } }, .ok)

/-- SET_LOAD. -/
def execSetLoad (t : Nat) (who : Path) (v : Nat) (s : State) : Host.Outcome State Fault Refusal :=
  objectCommand t who Obj.setLoad 0 (.num v) (setLoad v) s

/-- R40, R49: a slot's image becomes the green set; a missing Floor Map reads 0 and is flagged absent. A running validation or
check becomes stale here, as the load lands, and not when SET_LOAD is accepted: R42 speaks of a green-changing command that
"lands" (DEDUCED; log entry 79).
Rows outside the canvas, which no stored form holds, read 0 (DESIGN CHOICE; log entry 89). -/
def State.loadSlot (s : State) (x : Slot) : State :=
  { s with sets := { s.sets with green := x.image, mapAbsent := x.state == 2 } }.greenTouched.checkTouched

/-- SET_LOAD_DONE (R49): the load ends. A slot damaged, or a green set locked, since it began stays as it is (DESIGN CHOICE;
log entry 42). -/
def execSetLoadDone (t : Nat) (s : State) : Host.Outcome State Fault Refusal :=
  let s := s.land t
  match s.sets.loading with
  | none => .next s
  | some k =>
    let s := { s with sets := { s.sets with loading := none } }
    let x := s.setSlot k
    .next (if s.greenLocked ∨ x.state = 0 ∨ x.state = 3 then s else s.loadSlot x)

/-- BOOT_RACK_REQUEST (R40, R249): the Maltster requests the boot rack once canvas lock is set and the twin listen has ended.
A device that joins a partner racks by SYNC instead. A request that is due while another rack is in progress, or in SAFE, is
dropped: R40 says nothing of it (DESIGN CHOICE; log entry 79). -/
def execBootRackRequest (t : Nat) (s : State) : Host.Outcome State Fault Refusal :=
  let s := s.land t
  .next (
    if s.sets.bootRackDue ∧ s.tbs.canvasLock ∧ s.twn.listenUntil.isNone ∧ s.twn.state ≠ .joining then
      let s := { s with sets := { s.sets with bootRackDue := false } }
      if s.sets.rack.state = .idle ∧ !s.cellar.safe then s.requestRack 0 else s
    else s)

end Sys2Proof.Machine
end

