-- ==== Sys2Proof/Machine/Cellar.lean ====
section
/-! DEFINITION. Cellar Watch: the collector (R382 to R393), SAFE (R394, R395), the forces (R397, R398). -/
set_option Elab.async false
namespace Sys2Proof.Machine

/-! ### Checks and reactions -/

/-- R386, step 1: source IDs in use: those under which a chapter reports a fault (DEDUCED; log entry 43). -/
def sourceInUse (x : Nat) : Bool :=
  [0x000, 0x010, 0x020, 0x200, 0x280, 0x340, 0x350, 0x380, 0x3C0, 0x3D0, 0x400, 0x560, 0x580, 0x590, 0x5A0, 0x600, 0x610,
    0x700].contains x
    || (decide (0x100 ≤ x) && decide (x < 0x160)) || (decide (0x300 ≤ x) && decide (x < 0x340))
    || (decide (0x390 ≤ x) && decide (x < 0x3C0)) || (decide (0x500 ≤ x) && decide (x < 0x50C))
    || (decide (0x520 ≤ x) && decide (x < 0x528)) || (decide (0x540 ≤ x) && decide (x < 0x560))

/-- R386, step 1. -/
def FaultMsg.valid (m : FaultMsg) : Bool :=
  sourceInUse m.source && decide (1 ≤ m.kind) && decide (m.kind ≤ 0x19) && m.cls == kindClass m.kind && m.reserved == 0

/-- R387: the lowest-numbered enabled exception that matches. -/
def State.exception (s : State) (m : FaultMsg) : Option Nat :=
  ((List.range 32).map fun i => s.val Obj.cwtExc i).find? fun e =>
    bit e 35 && decide (bits e 11 0 ≤ m.source) && decide (m.source ≤ bits e 23 12) && bits e 31 24 == m.kind

/-- R389, R390: the reaction in force. With a parity error in the entry it reads, a message is given its kind's default
reaction (Table 16-6). -/
def State.reaction (s : State) (m : FaultMsg) (parity : Bool) : Nat :=
  let floor := kindFloor m.source m.kind m.detail
  if m.inj then
    let r := if parity then kindReaction m.kind else s.val Obj.cwtRehearse m.kind
    if s.trust.lifecycle = 2 ∧ 1 < r then 1 else r
  else if parity then max (kindReaction m.kind) floor
  else
    match s.exception m with
    | some e => max (bits e 34 32) floor
    | none => max (s.val Obj.cwtReact m.kind) floor

/-! ### SAFE -/

/-- The 20 bytes of a message with its time (R382). -/
def FaultMsg.stamped (m : FaultMsg) (time : Nat) : Bytes := m.bytes ++ bytesBE 8 time

/-- Rewrites the collector's state. -/
def State.modCellar (s : State) (f : Cellar → Cellar) : State := { s with cellar := f s.cellar }

/-- R395, steps 1 to 3: emission stops, HEALTHY is released, tickets are revoked, composition stops, a rack ends. -/
def State.stopForSafe (s : State) : State :=
  let s : State := s.modCellar fun x => { x with safe := true }
  let s : State := { s with pwr := { s.pwr with healthy := false } }
  let s : State := s.revokeAll
  let s : State := { s with cmp := { s.cmp with rows := [] } }
  let s : State := s.prbsStopAll
  if s.sets.rack.state = .idle then s else (s.unpropose 1 0).endRack .safe

/-- R395: entry to SAFE caused by `m`. -/
def State.enterSafe (s : State) (m : FaultMsg) : State :=
  if s.cellar.safe then s
  else
    let s : State := s.stopForSafe.brewRec 0x000 0x005 (m.source * 4096 + m.kind)
    { s with brew := { s.brew with ckptDue := true } }

/-- SAFE_ENTRY (R394, R395): the dedicated signal takes the device into SAFE. -/
def execSafeEntry (t : Nat) (s : State) : Host.Outcome State Fault Refusal :=
  let s := s.land t
  match s.cellar.safeSignal with
  | none => .next s
  | some m => .next (s.enterSafe m)

/-- R395: what a write of 1 to CWT_SAFE_ENTER reports. -/
def cwtSafeEnter (s : State) : Effect :=
  (s.report 0x010 .safeCommanded (s.ctime.frame % 4294967296 * 65536 + s.ctime.line) 0, .ok)

/-- CWT_SAFE_ENTER (R395). -/
def execCwtSafeEnter (t : Nat) (who : Path) (v : Nat) (s : State) : Host.Outcome State Fault Refusal :=
  objectCommand t who Obj.cwtSafeEnter 0 (.num v) cwtSafeEnter s

/-! ### Notices and reactions -/

/-- The error register 0x1001 (R62). -/
def State.errorRegister (s : State) : Nat :=
  ofBool (s.cellar.safe || s.cellar.realLatch.held.isSome) + 8 * ofBool s.pwr.warn
    + 16 * ofBool ((List.range 96).any s.laneIsDown) + 128 * ofBool s.silenced

/-- R61, R62: an EMCY, unless inside the inhibit time; none in STOPPED, or without a node-ID. -/
def State.emcy (s : State) (m : FaultMsg) : State :=
  let due := s.can.lastEmcy.all fun a => decide (a + 100000 * s.val Obj.inhibitTimeEmcy ≤ s.now)
  if due = false ∨ s.can.nmt = .stopped ∨ s.can.nmt = .disabled then s
  else { s with can := { s.can with lastEmcy := some s.now } }.send (.emcy 0xFF00 s.errorRegister m.bytes)

/-- Table 16-4, NOTIFY: EMCY, Strel notice, interrupt source of the class. -/
def State.notify (s : State) (m : FaultMsg) : State :=
  let s := (s.emcy m).notice 0 m.bytes
  let u := s.cellar.unacked
  { s with cellar := { s.cellar with unacked := if u.contains m.cls then u else u ++ [m.cls] } }

/-- Table 16-4, RETIRE: the unit that a source names. -/
def State.retireUnit (s : State) (x : Nat) : State :=
  if 0x300 ≤ x ∧ x < 0x340 then s.retireReaction (x - 0x300)
  else if 0x390 ≤ x ∧ x < 0x3C0 then s.setLane (x - 0x390) { s.lane (x - 0x390) with state := 2 }
  else if 0x540 ≤ x ∧ x < 0x560 then s.setBank (x - 0x540) .retired
  else if 0x520 ≤ x ∧ x < 0x528 then
    (if s.ddrLive (x - 0x520) then (s.modDdr (x - 0x520) fun d => { d with pending := true, retiring := true }).armPause else s)
  else if 0x100 ≤ x ∧ x < 0x160 then
    let n := x - 0x100
    let p := s.port n
    let s := s.setPort n { p with heldDown := true, state := if p.state = .disabled then .disabled else .down, since := s.now }
    if p.state = .up then ((s.count Obj.lnkPortDowns n).rehome n).moveGroups else s
  else s

/-- Table 16-4: the reaction is carried out. -/
def State.react (s : State) (m : FaultMsg) (r : Nat) : State :=
  if r = 2 then s.retireUnit m.source
  else if r = 3 ∧ 0x100 ≤ m.source ∧ m.source < 0x160 then
    let n := m.source - 0x100
    ((s.setPort n { s.port n with forcedOver := true }).rehome n).moveGroups
  else if r = 4 then s.silenceFault
  else if r = 5 then s.enterSafe m
  else s

/-! ### The collector -/

/-- R391: the latch of a message, and whether the message took it. -/
def State.latch (s : State) (m : FaultMsg) (time : Nat) : State × Bool :=
  if m.cls < s.val Obj.cwtLatchClass then (s, false)
  else
    let l := if m.inj then s.cellar.injLatch else s.cellar.realLatch
    let took := l.held.isNone
    let l : Latch := if took then { l with held := some (m, time) } else { l with overflow := true }
    ({ s with cellar := if m.inj then { s.cellar with injLatch := l } else { s.cellar with realLatch := l } }, took)

/-- R392: the recorded pair of a message. -/
def State.recordedPair (s : State) (m : FaultMsg) : Option Recorded :=
  s.cellar.recorded.find? fun x => x.source == m.source && x.kind == m.kind

/-- R392: replaces the recorded pair of a message: it becomes the newest of at most 64. -/
def State.recordPair (s : State) (m : FaultMsg) (x : Recorded) : State :=
  let rest := s.cellar.recorded.filter fun y => !(y.source == m.source && y.kind == m.kind)
  { s with cellar := { s.cellar with recorded := (x :: rest).take 64 } }

/-- R392: whether a real message is coalesced. -/
def State.coalesces (s : State) (m : FaultMsg) (r : Nat) : Bool :=
  !m.inj && decide (r ≤ 1) &&
    (s.recordedPair m).any fun x => decide (s.now < x.at_ + 1000 * s.val Obj.cwtHoldoffUs)

/-- R408: the fault record of an accepted message, on line 96. -/
def State.faultRecord (s : State) (m : FaultMsg) (restart took : Bool) : State :=
  s.push 96 (BrewRec.words
    { seq := 0, ctime := s.ctime, time := fieldBE (time80 s.deviceTime) 0 10, source := m.source, event := 0x800 + m.kind,
      flags := ofBool m.inj + 2 * m.cls + 16 * ofBool restart + 32 * ofBool took,
      args := m.detail % 65536 * 2 ^ 48 + m.address % 2 ^ 48 })

/-- R386: the collector's steps for one message; `parity`: the reaction entry it reads has a parity error. -/
def State.collect (s : State) (m : FaultMsg) (parity : Bool) : State :=
  if m.valid = false then s.report 0x000 .collectorSelf 0 1
  else
    let s := (s.count Obj.cwtFaults).count Obj.cwtKindCount m.kind
    let time := s.deviceTime / giga % 4294967296 * 4294967296 + s.deviceTime % giga
    let l := s.latch m time
    let signalled := decide (l.1.cellar.safeSignal = some m)
    let s := l.1
    let s := if signalled then
        (s.enterSafe m).modCellar fun x => { x with safeCause := some (m, time), safeSignal := none }
      else s
    let s := if parity then s.report 0x000 .collectorSelf 0 2 else s
    let r := s.reaction m parity
    if s.coalesces m r then
      let s := (s.recordedPair m).elim s fun x => { s with cellar := { s.cellar with
        recorded := s.cellar.recorded.map fun y => if y == x then { y with coalesced := true } else y } }
      s.count Obj.cwtCoalesced
    else
      let restart := !m.inj && (s.recordedPair m).any (·.coalesced)
      let s := s.faultRecord m restart l.2
      let s := if m.inj then s
        else s.recordPair m { source := m.source, kind := m.kind, at_ := s.now, coalesced := false }
      let s := if m.kind = 0x18 then { s with cellar := { s.cellar with selfUnacked := true } } else s
      let s := if 1 ≤ r then s.notify m else s
      let s := s.react m r
      if r = 5 ∧ s.cellar.safeCause.isNone then { s with cellar := { s.cellar with safeCause := some (m, time) } } else s

/-- R385: the fault line served next: the first one after the last that holds a message. -/
def State.nextFaultLine (s : State) : Option Nat :=
  ((List.range 16).map fun i => 80 + (s.cellar.lastLine - 80 + 1 + i) % 16).find? fun l => !(s.wortLine l).msgs.isEmpty

/-- FAULT_MESSAGE (R385, R386): the collector takes one message. `damaged`: its line finds it uncorrectable (R380);
`parity`: the reaction entry that it reads has a parity error (Table 16-6). -/
def execFaultMessage (t : Nat) (damaged parity : Bool) (s : State) : Host.Outcome State Fault Refusal :=
  let s := s.land t
  match s.nextFaultLine with
  | none => .next s
  | some line =>
    let s := if damaged then s.wortEcc line 2 else s
    let l := s.wortLine line
    let s := s.setWort line (l.dropFirst (wortDepth line))
    let s := { s with cellar := { s.cellar with lastLine := line } }
    match l.msgs with
    | [] => .next s
    | m :: _ =>
      .next (if m.bad then s.report 0x000 .collectorSelf line 3 else s.collect (FaultMsg.ofWords m.words) parity)

/-- COLLECTOR_SELFTEST (R393): every CWT_SELFTEST_S seconds. -/
def execCollectorSelftest (t : Nat) (passed : Bool) (s : State) : Host.Outcome State Fault Refusal :=
  let s := s.land t
  .next (
    if s.now < s.cellar.lastSelftest + giga * s.val Obj.cwtSelftestS then s
    else
      let fails := if passed then 0 else s.cellar.selftestFails + 1
      let s := { s with cellar := { s.cellar with selftestFails := fails, lastSelftest := s.now } }
      if fails = 2 then s.report 0x000 .collectorSelf 0 4 else s)

/-! ### Latches and acknowledgement -/

/-- CWT_CLEAR (R391): bit 0 the real latch, bit 1 the injected one. -/
def cwtClear (v : Nat) (s : State) : Effect :=
  let s := if bit v 0 then { s with cellar := { s.cellar with realLatch := { held := none, overflow := false } } } else s
  let s := if bit v 1 then { s with cellar := { s.cellar with injLatch := { held := none, overflow := false } } } else s
  (if bits v 1 0 = 0 then s else s.brewRec 0x000 0x008 (bits v 1 0), .ok)

/-- CLEAR_REAL_LATCH (R391). -/
def execClearRealLatch (t : Nat) (who : Path) (s : State) : Host.Outcome State Fault Refusal :=
  objectCommand t who Obj.cwtClear 0 (.num 1) (cwtClear 1) s

/-- CLEAR_INJECTED_LATCH (R391). -/
def execClearInjectedLatch (t : Nat) (who : Path) (s : State) : Host.Outcome State Fault Refusal :=
  objectCommand t who Obj.cwtClear 0 (.num 2) (cwtClear 2) s

/-- CWT_ACK (Table 16-11): bit c acknowledges class c, bit 7 COLLECTOR_SELF. -/
def cwtAck (v : Nat) (s : State) : Effect :=
  ({ s with cellar := { s.cellar with unacked := s.cellar.unacked.filter fun c => !(decide (c < 7) && bit v c),
                                      selfUnacked := s.cellar.selfUnacked && !bit v 7 } }, .ok)

/-- ACK_CLASS (R399). -/
def execAckClass (t : Nat) (who : Path) (cls : Nat) (s : State) : Host.Outcome State Fault Refusal :=
  objectCommand t who Obj.cwtAck 0 (.num ((2 ^ cls : Nat) : Int)) (cwtAck (2 ^ cls)) s

/-- ACK_COLLECTOR_SELF (R399). -/
def execAckCollectorSelf (t : Nat) (who : Path) (s : State) : Host.Outcome State Fault Refusal :=
  objectCommand t who Obj.cwtAck 0 (.num 128) (cwtAck 128) s

/-! ### Forces (R397) -/

/-- Table 16-7: how many targets a code has. -/
def forceTargets (code : Nat) : Nat := if code = 1 then 64 else if code = 2 then 96 else if code = 3 then 48 else 1

/-- CWT_FORCE (R397): CODE in [7:0], TARGET in [15:8]. Forces 1 on an idle Tun and 2 act at once; the others wait. -/
def cwtForce (v : Nat) (s : State) : Effect :=
  let code := bits v 7 0
  let target := bits v 15 8
  if code < 1 ∨ 5 < code ∨ forceTargets code ≤ target then (s, .range)
  else if s.trust.lifecycle ≠ 1 ∧ s.trust.lifecycle ≠ 2 then (s, .state)
  else if s.cellar.force.isSome then (s, .busy)
  else
    let s := { s with cellar := { s.cellar with force := some (code, target) } }
    if code = 1 ∧ (s.tun target).task.isNone then
      ((((s.reportAs true (0x300 + target) .eccUncorr 0 0).count Obj.tunFaults target).forceActed).tunFault target, .ok)
    else if code = 2 then
      ((match s.portOfLane target with
        | some n => (if (s.port n).state = PortState.disabled then s else s.portDown n 1 target true)
        | none => s).forceActed, .ok)
    else (s, .ok)

/-- A write of a code and target to CWT_FORCE. -/
def forceCommand (t : Nat) (who : Path) (code target : Nat) (s : State) : Host.Outcome State Fault Refusal :=
  objectCommand t who Obj.cwtForce 0 (.num ((code + 256 * target : Nat) : Int)) (cwtForce (code + 256 * target)) s

/-- FORCE_TUN_FAULT (R397, code 1). -/
def execForceTunFault (t : Nat) (who : Path) (target : Nat) (s : State) : Host.Outcome State Fault Refusal :=
  forceCommand t who 1 target s

/-- FORCE_LANE_LOSS (R397, code 2). -/
def execForceLaneLoss (t : Nat) (who : Path) (target : Nat) (s : State) : Host.Outcome State Fault Refusal :=
  forceCommand t who 2 target s

/-- FORCE_TASTER_MISMATCH (R397, code 3). -/
def execForceTasterMismatch (t : Nat) (who : Path) (target : Nat) (s : State) : Host.Outcome State Fault Refusal :=
  forceCommand t who 3 target s

/-- FORCE_TWIN_DIGEST (R397, code 4). -/
def execForceTwinDigest (t : Nat) (who : Path) (s : State) : Host.Outcome State Fault Refusal := forceCommand t who 4 0 s

/-- FORCE_DEADLINE_MISS (R397, code 5). -/
def execForceDeadlineMiss (t : Nat) (who : Path) (s : State) : Host.Outcome State Fault Refusal := forceCommand t who 5 0 s

end Sys2Proof.Machine
end

