-- ==== Sys2Proof/Machine/Images.lean ====
section
/-! DEFINITION. Signed images (R417, R418, Tables 17-3 to 17-5), vendor key entries (R415), anti-rollback counters (R416). -/
set_option Elab.async false
namespace Sys2Proof.Machine

/-- Rewrites the trust state. -/
def State.modTrust (s : State) (f : Trust → Trust) : State := { s with trust := f s.trust }

/-! ### Fields of an image, Table 17-3 -/

/-- TYPE. -/
def imageType (b : Bytes) : Nat := fieldBE b 6 2

/-- KEY_IDX. -/
def imageKey (b : Bytes) : Nat := fieldBE b 8 1

/-- FLAGS [0], AUTO. -/
def imageAuto (b : Bytes) : Bool := bit (fieldBE b 9 1) 0

/-- SVN. -/
def imageSvn (b : Bytes) : Nat := fieldBE b 12 4

/-- SERIAL. -/
def imageSerial (b : Bytes) : Nat := fieldBE b 16 4

/-- PAYLOAD_LEN. -/
def imageLength (b : Bytes) : Nat := fieldBE b 20 4

/-- PAYLOAD. -/
def imagePayload (b : Bytes) : Bytes := slice b 256 (imageLength b)

/-- PATCH_ID u32 and SHA-384 of the payload, as SEC_FW_PATCH_ACTIVE and TUN_PATCH_ACTIVE give them. -/
def patchForm (id : Nat) (digest : Bytes) : Bytes := bytesBE 4 id ++ digest

/-- The 52 bytes of a firmware patch image, zeros for none (Table 17-9). -/
def fwForm : Option Bytes → Bytes
  | none => zeros 52
  | some b => patchForm (Config.fwPatchId (imagePayload b)) (sha384 (imagePayload b))

/-! ### Fuses -/

/-- The value of an anti-rollback counter. -/
def State.counter (s : State) (k : Nat) : Nat := Table.get 0 s.trust.counters k

/-- R416: begins to blow fuse `fuse` up to `target`; nothing for one that has reached it. -/
def State.blow (s : State) (fuse target : Nat) : State :=
  if s.trust.blowing.any fun b => b.fuse == fuse && decide (target ≤ b.target) then s
  else s.modTrust fun x => { x with blowing := x.blowing ++ [{ fuse := fuse, target := target, since := s.now }] }

/-- R416, R419: a counter rises to an SVN; a value that would not raise it leaves it. -/
def State.raiseCounter (s : State) (k svn : Nat) : State := if svn ≤ s.counter k then s else s.blow k svn

/-- R416, R419: the counter of an applied image with AUTO rises. -/
def State.applied (s : State) (counter : Nat) (image : Bytes) : State :=
  if imageAuto image then s.raiseCounter counter (imageSvn image) else s

/-- ROLLBACK_FUSE_BLOWN (R415, R416): 100 µs after it began, one bit is blown. -/
def execRollbackFuseBlown (t : Nat) (s : State) : Host.Outcome State Fault Refusal :=
  let s := s.land t
  match s.trust.blowing with
  | [] => .next s
  | b :: rest =>
    if s.now < b.since + 100000 then .next s
    else if 64 ≤ b.fuse then
      .next (s.modTrust fun x =>
        { x with revoked := x.revoked ++ [b.fuse - 64], blowing := rest.map fun (y : Blow) => { y with since := s.now } })
    else
      let v := s.counter b.fuse + 1
      let more : List Blow := if b.target ≤ v then [] else [{ b with since := s.now }]
      .next (s.modTrust fun x =>
        { x with counters := Table.set 0 x.counters b.fuse v,
                 blowing := more ++ rest.map fun (y : Blow) => { y with since := s.now } })

/-- R415: whether vendor entry `k` is not revoked. -/
def State.entryUsable (s : State) (k : Nat) : Bool :=
  !s.trust.revoked.contains k && !s.trust.blowing.any fun b => b.fuse == 64 + k

/-! ### The checks of Table 17-5 -/

/-- Table 17-4: counter of a type; 64 for IDENTITY, which has none. -/
def typeCounter (ty : Nat) : Nat :=
  if ty = 1 then 1 else if ty = 2 then 0 else if ty = 3 then 2 else if ty = 4 then 3 else if ty = 5 then 4 else 64

/-- Table 17-4: the role of a type. -/
def typeRole (ty : Nat) : Role := if ty = 4 then .viewer else if ty = 6 then .vendor else .brewer

/-- Limits of PAYLOAD_LEN: type 1, the 64 KiB recipe area of the patch store less the 3,956 bytes of header and signatures
(R430; DEDUCED, log entry 45); type 2, R420; types 5 and 6, the lengths of R425 and R426; types 3 and 4 state none. -/
def typeLimit (ty : Nat) : Nat :=
  if ty = 1 then 61580 else if ty = 2 then 979084 else if ty = 5 then 80 else if ty = 6 then 161 else 4294967295

/-- R425: whether the fields of a VENDOR_GRANT payload have the stated values (log entry 45). -/
def grantForm (b : Bytes) : Bool :=
  let p := imagePayload b
  p.length == 80 && fieldBE p 0 4 == imageSerial b && decide (fieldBE p 4 1 ≤ 3) && fieldBE p 5 3 == 0
    && decide (1 ≤ fieldBE p 8 4) && decide (fieldBE p 8 4 ≤ 604800) && fieldBE p 28 4 == 0

/-- FORMAT. -/
def imageFormat (job : ImageJob) : Bool :=
  let b := job.image
  let ty := imageType b
  decide (256 ≤ b.length) && b.length == 3956 + imageLength b && fieldBE b 0 4 == 0x4E475349 && fieldBE b 4 2 == 1
    && bits (fieldBE b 9 1) 7 1 == 0 && fieldBE b 11 1 == 0 && fieldBE b 24 8 == 0 && fieldBE b 177 3 == 0 && fieldBE b 240 16 == 0
    && (if job.sec then decide (2 ≤ ty) && decide (ty ≤ 6) else ty == 1)
    && decide (imageLength b ≤ typeLimit ty) && decide (imageSvn b ≤ 128)
    && (ty == 6 || fieldBE b 10 1 == typeCounter ty)
    && (ty != 5 || grantForm b) && (ty != 6 || imageLength b == 161) && (ty != 3 || decide (1 ≤ imageLength b))

/-- KEY (R415). A KEY_REVOKE image names the entry it revokes in its payload's first byte (log entry 46). -/
def State.imageKeyOk (s : State) (b : Bytes) : Bool :=
  let k := imageKey b
  let named := fieldBE (imagePayload b) 0 1
  decide (k < 4) && Config.vendorKeyHash k == sha384 (slice b 80 97 ++ slice b 180 60) && s.entryUsable k
    && (imageType b != 3 || decide (named < 4) && named != k
        && (List.range 4).any fun j => j != named && s.entryUsable j)

/-- The ECDSA public key of R426. -/
def State.idEcdsa (s : State) : Bytes := Config.ecdsaPublic (deviceKey s.trust.secret "NG-ID-ECDSA")

/-- The HSS public key of R426. -/
def State.idHss (s : State) : Bytes := Config.hssPublic (deviceKey s.trust.secret "NG-ID-HSS")

/-- DEVICE. An IDENTITY image must also carry the device's own serial number and keys (R426). -/
def State.imageDevice (s : State) (b : Bytes) : Bool :=
  let ty := imageType b
  let n := imageSerial b
  let p := imagePayload b
  (n == Config.serial || (n == 0 && decide (ty ≤ 3)))
    && (ty != 6 || (fieldBE p 0 4 == Config.serial && slice p 4 97 == s.idEcdsa && slice p 101 60 == s.idHss))

/-- ROLLBACK: Table 17-4's rule on SVN and AUTO. -/
def State.imageRollback (s : State) (b : Bytes) : Bool :=
  let ty := imageType b
  if ty = 6 then true
  else if ty ≤ 2 then decide (s.counter (typeCounter ty) ≤ imageSvn b)
  else imageSvn b == s.counter (typeCounter ty) + 1 && imageAuto b

/-- STATE: lifecycle (Table 17-1) and role. -/
def State.imageState (s : State) (job : ImageJob) : Bool :=
  let ty := imageType job.image
  (s.trust.lifecycle == 1 || (s.trust.lifecycle == 2 && ty != 6)) && decide ((typeRole ty).code ≤ job.role.code)

/-- Table 17-5: the status of an image. `stored` says whether the Cask took it. -/
def State.imageStatus (s : State) (job : ImageJob) (stored : Bool) : Nat :=
  let b := job.image
  if imageFormat job = false then 2
  else if s.imageKeyOk b = false then 3
  else if s.imageDevice b = false then 4
  else if s.imageRollback b = false then 5
  else if sha384 (imagePayload b) ≠ slice b 32 48 then 6
  else if Config.ecdsaVerify (slice b 80 97) (sha384 (b.take 256)) (slice b (256 + imageLength b) 96) = false then 7
  else if Config.hssVerify (slice b 180 60) (b.take 256) (slice b (352 + imageLength b) 3604) = false then 8
  else if s.imageState job = false then 9
  else if (imageType b = 2 ∨ imageType b = 6) ∧ !stored then 10
  else 1

/-- R418: the verifier is busy with an image, or with one accepted that has not acted yet. -/
def State.verifierBusy (s : State) : Bool := s.trust.checking.isSome || s.trust.accepted.isSome

/-- R418: the check of an image begins. -/
def State.checkImage (s : State) (who : Path) (sec : Bool) (image : Bytes) : State :=
  s.modTrust fun x => { x with checking := some { image := image, sec := sec, role := (s.roleOf who).getD .viewer, since := s.now } }

/-- R418: a failed check. -/
def State.imageFailed (s : State) (status ty : Nat) : State :=
  (s.report 0x600 .sigFail 0 (status * 256 + ty % 256)).count Obj.secSigFails

end Sys2Proof.Machine
end

