-- ==== Sys2Proof/Machine/Tuns.lean ====
section
/-! DEFINITION. A Tun's sequencer (R145 to R150), attention (R155), commit (R156, R157), taste verdicts (R229, R230), faults
(R159), self-test (R162, R163, R184). -/
set_option Elab.async false
namespace Sys2Proof.Machine

/-! ### Steps and grains -/

/-- The patch bank that a Tun's recipe uses: the one its assignment names, else the one in use (R151). -/
def State.tunBank (s : State) (x : Tun) : PatchBank :=
  s.bankNamed (match x.task with | some k => k.bank | none => s.tuns.inUse)

/-- R150: the patch step that replaces ROM step `a`, if a match register holds `a`. -/
def PatchBank.substitute (b : PatchBank) (a : Nat) : Option Nat :=
  (b.matches_.find? fun m => bit m 26 && bits m 15 0 == a).bind fun m => b.steps[bits m 25 16]?

/-- R145, R150: the step the sequencer fetches at address `a`. -/
def PatchBank.step (b : PatchBank) (a : Nat) : Nat :=
  if a < 0x8000 then (b.substitute a).getD (Config.romStep a)
  else (b.steps[a - 0x8000]?).getD (Config.romStep a)

/-- The grain a step names (R145, R147). -/
def PatchBank.grain (b : PatchBank) (w : Nat) : Nat :=
  let g := bits w 12 0
  if g < 0x1000 then Config.romGrain g else (b.grains[g - 0x1000]?).getD (Config.romGrain g)

/-- Whether a Tun's sequencer runs. -/
def Tun.running (x : Tun) : Bool :=
  !x.stopped && x.state != .gated && (x.bistFrom.isSome || (x.state != .failed && x.state != .retired))

/-- Whether the step at a running Tun's address has sequencing code `q` (Table 6-5). -/
def State.stepIs (s : State) (tun q : Nat) : Bool :=
  let x := s.tun tun
  decide (tun < 64) && x.running && bits ((s.tunBank x).step x.cur) 15 13 == q

/-- The condition groups that operations of a unit set (Table 6-7). -/
def unitGroups (unit : Nat) : List Nat := if unit = 3 then [7] else if unit = 4 then [9] else if unit = 9 then [1, 2] else []

/-- Table 6-7: what an operation gives its groups as far as the table fixes it: SPLIT [2:0] is a split code, 0 to 5; CBF [3] is any of
the three before it. -/
def groupValue (group v : Nat) : Nat :=
  if group = 2 then v / 8 % 6 + 8 * (v % 2) else if group = 7 then v % 8 + 8 * ofBool (v % 8 != 0) else v % 16

/-- R148: the condition groups after a slot issued: the groups of its unit, and ALU where SETC is set, take what the operation
gives, which is Birentari's: free values. CABAC sets PARSE in decode mode only; its bit [2] is kept elsewhere (R161). -/
def issueCond (isDecode : Bool) (g base draw : Nat) (c : Table Nat) : Table Nat :=
  let unit := bits g (base + 3) base
  let groups := (unitGroups unit).filter fun q => q != 9 || isDecode
  let c := groups.foldl (fun c q => Table.set 0 c q (groupValue q (Config.freeValue (draw + q)))) c
  if unit ≠ 0 ∧ bit g (base + 74) then Table.set 0 c 0 (Config.freeValue (draw + 8) % 16) else c

/-- Table 6-2: the regions of local SRAM, by first 64-bit word and words: RDATA, SRC, REFWIN, PRED, RECON, OUTQ, CTX, CAND, DEC. -/
def sramRegions : List (Nat × Nat) :=
  [(0x0000, 8192), (0x2000, 1536), (0x2600, 25600), (0x8A00, 4096), (0x9A00, 6144), (0xB200, 2048), (0xBA00, 1024), (0xBE00, 8192),
   (0xDE00, 8704)]

/-- R140: the word of local SRAM that an operation of the LSU names, which is Birentari's choice: in a region of Table 6-2 that the mode
uses; DEC is unused in encode. -/
def sramWord (encode : Bool) (draw : Nat) : Nat :=
  let r := sramRegions.getD (Config.freeValue draw % (if encode then 8 else 9)) (0, 1)
  r.1 + Config.freeValue (draw + 1) % r.2

/-- R140, Table 6-1: a slot that names the LSU stores a 64-bit word in local SRAM, or loads one: which, where and what is
Birentari's. -/
def issueStore (encode : Bool) (g base draw : Nat) (m : Table Nat) : Table Nat :=
  if bits g (base + 3) base = 6 ∧ Config.freeValue (draw + 10) % 2 = 1 then
    Table.set 0 m (sramWord encode (draw + 11)) (Config.freeValue (draw + 13) % 2 ^ 64)
  else m

/-- R140, R147: the scalar and vector registers after a slot issued: a slot that names a unit writes its scalar destination, and its
vector destination in the vector form: with the words that a load of the LSU reads, else with free values. -/
def issueRegs (encode : Bool) (m : Table Nat) (g base draw : Nat) (r : Table Nat) : Table Nat :=
  let unit := bits g (base + 3) base
  let loads := unit == 6 && Config.freeValue (draw + 10) % 2 == 0
  let at_ := sramWord encode (draw + 11)
  let scalar := if loads then Table.get 0 m at_ else Config.freeValue draw
  let vector := if loads then (List.range 8).foldl (fun acc n => acc * 2 ^ 64 + Table.get 0 m (at_ + n)) 0 else Config.freeValue (draw + 1)
  if unit = 0 then r
  else
    let r := Table.set 0 r (bits g (base + 17) (base + 12)) (scalar % 4294967296)
    if bit g (base + 76) then Table.set 0 r (64 + bits g (base + 33) (base + 30)) (vector % 2 ^ 512) else r

/-- Draws of one issued slot. -/
def slotDraws : Nat := 16

/-- R147: what issuing a grain does to registers, condition groups and local SRAM: slot A, then slot B. LCLOAD loads a loop
counter. -/
def Tun.issue (x : Tun) (draw g : Nat) : Tun :=
  let isDecode := x.task.any (·.isDecode)
  let encode := x.task.any fun k => !k.isDecode
  let b := draw + slotDraws
  let lc := (x.lc ++ List.replicate 4 0).take 4
  let m := issueStore encode g 32 draw x.sram
  { x with regs := issueRegs encode m g 128 b (issueRegs encode x.sram g 32 draw x.regs),
           cond := issueCond isDecode g 128 b (issueCond isDecode g 32 draw x.cond), sram := issueStore encode g 128 b m,
           lc := if bit g 9 then lc.set (bits g 8 7) (bits g (32 + 57) (32 + 42)) else lc }

/-- Draws of one issued grain. -/
def issueDraws : Nat := 2 * slotDraws

/-- R350: the blocks of 8 × 8 samples of a CTU's component. -/
def ctuBlocks (chroma comp cx cy : Nat) : List (Nat × Nat) :=
  let w := if comp = 0 ∨ chroma = 2 then 4 else 2
  let h := if comp = 0 ∨ chroma ≠ 0 then 4 else 2
  (List.range (w * h)).map fun i => (cx * w + i % w, cy * h + i / w)

/-- R350, R351: the identities of the reconstruction lines of a task's CTUs `lo` to `hi`: their blocks in the picture's slot, or the lines of
a work item's. -/
def State.taskLines (s : State) (k : Task) (lo hi : Nat) : List Nat :=
  if k.isDecode then
    match s.decItem k.s k.frame k.y with
    | some (_, i) => ((i.ctus.take hi).drop lo).flatMap (Config.itemLines k.s k.frame)
    | none => []
  else
    match s.picture k.pic with
    | none => []
    | some p =>
      let c := s.setFor k.frame
      let e := c.entry k.s
      let ch := c.nat Obj.cspChroma
      ((List.range hi).drop lo).flatMap fun dx => [0, 1, 2].flatMap fun comp =>
        (ctuBlocks ch comp (e.x0 + dx) k.y).map fun b => Config.blockLine p.slot comp b.1 b.2

/-- R157: Kilderkin buffers for `n` more slice buffers, as far as the pools give them. -/
def State.tunKegs (t : Nat) : Nat → State → State × Bool
  | 0, s => (s, true)
  | n + 1, s =>
    match s.kegAlloc (8 * t) 4096 with
    | (s, none) => (s, false)
    | (s, some h) =>
      let x := s.tun t
      State.tunKegs t n (s.setTun t { x with task := x.task.map fun k => { k with kegs := k.kegs ++ [h] } })

/-- R157: bytes of a slice that wait in OUTQ, 16 KiB long, for Keg buffers; where it is full the recipe waits for room. -/
def Task.waits (k : Task) : Nat := k.sent - 4096 * k.kegs.length

/-- R156, R157: a task's output up to `ctus` CTUs and `sent` slice bytes is staged: reconstruction in staging lines, slice bytes through OUTQ
in Keg buffers; whether every byte is in one. A dry pool is asked again. -/
def State.stageTo (s : State) (t ctus sent : Nat) : State × Bool :=
  match (s.tun t).task with
  | none => (s, true)
  | some k =>
    let s := s.stageTask k.ticket (s.taskLines k k.staged ctus)
    let s := s.setTun t { s.tun t with task := some { k with staged := max k.staged ctus, sent := max k.sent sent } }
    let s := if k.isDecode then s.modItem k.s k.frame k.y fun i => { i with progress := max i.progress ctus } else s
    let (s, ok) := State.tunKegs t (ceilDiv (max k.sent sent) 4096 - k.kegs.length) s
    (s.setTun t { s.tun t with kegWait := if ok then none else some s.now }, ok)

/-- R156, R157: an OUT operation in a slot stages what the recipe has finished since, which is its pace: CTUs and slice bytes as far as
OUTQ has room; in WPP no CTU that the row above does not yet allow (R260). -/
def State.issueOut (s : State) (t draw g base : Nat) : State :=
  let x := s.tun t
  match x.task with
  | none => s
  | some k =>
    if bits g (base + 3) base ≠ 10 ∨ x.kegWait.isSome ∨ x.outq.isSome ∨ (s.dsp.commits.any fun c => c.tun == t) then s
    else
      let may := if k.isDecode then (match s.decItem k.s k.frame k.y with | some (a, i) => a.mayDecode i | none => 0) else k.ctus
      let size := if k.isDecode then 0 else (k.input.slice k.input.code).length
      let n := Config.freeValue (draw + 14) % (may - k.staged + 1)
      let m := Config.freeValue (draw + 15) % (min (size - k.sent) (16384 - k.waits) + 1)
      (s.stageTo t (k.staged + n) (k.sent + m)).1

/-- Issues the grain of the step at a Tun's address, with what the sequencing makes of the Tun; the draws are taken. -/
def State.stepTun (s : State) (tun : Nat) (f : Tun → Tun) : State :=
  let x := s.tun tun
  let b := s.tunBank x
  let g := b.grain (b.step x.cur)
  let d := s.draws
  let x := (f x).issue d g
  (({ s.setTun tun x with draws := d + issueDraws }.issueOut tun d g 32).issueOut tun (d + slotDraws) g 128)

/-- R139, R162: time in BIST brings a Tun to its next phase. -/
def State.tunPhase (s : State) (tun : Nat) : State := s.setTun tun ((s.tun tun).atPhase s.now)

/-- The CTU that a Tun's recipe codes: which one of the segment is Birentari's pace, a free value. -/
def Task.ctuNow (k : Task) (draw : Nat) : Option CtuIn := k.input.ctus[Config.freeValue draw % max 1 k.input.ctus.length]?

/-- R148: the value of a condition group. MODE of a Tun without a task is what CONTEXT preloaded. Readiness of the units, the CTU in coding, and the moment at which the budget is spent, a
trim is needed or a syntax error is met within the task are the recipe's pace: free values, where the task meets them at
all. -/
def State.condition (s : State) (x : Tun) (csel : Nat) : Nat :=
  let free := s.draws + issueDraws
  let soon (b : Bool) : Nat := if b then Config.freeValue free % 2 else 0
  if csel = 3 then Config.freeValue free % 16
  else if csel = 4 then
    ofBool (!x.attn.isEmpty) + 2 * ofBool (x.attn.contains .abort) + 4 * ofBool (x.attn.contains .respare) +
      8 * ofBool (x.attn.contains .context)
  else if csel = 5 then
    match x.task.bind (·.ctuNow free) with
    | some k => k.hint + 4 * ofBool k.mask + 8 * ofBool k.refresh
    | none => 0
  else if csel = 6 then
    match x.task with
    | some k => (match k.ctuNow free with | some u => u.effort | none => k.effort) + 4 * (s.setFor k.frame).nat Obj.cspChroma
    | none => x.context.effort + 4 * x.context.chroma
  else if csel = 8 then
    match x.task with
    | some k =>
      if k.isDecode then 0
      else
        let a := k.input.code
        (if k.input.spent then 1 else soon a.spent) + 2 * soon (a.trims != 0)
    | none => 0
  else if csel = 9 then
    let v := Table.get 0 x.cond 9
    setBit v 2 (x.task.any (fun k => k.isDecode && !(s.itemCtusLost k).isEmpty) && Config.freeValue free % 2 == 1)
  else if csel = 10 then Table.get 0 x.cond 10 + 4 * ofBool x.kegWait.isSome
  else if csel = 11 then
    let lc := (x.lc ++ List.replicate 4 0).take 4
    (lc.zipIdx.map fun q => if q.1 = 0 then 2 ^ q.2 else 0).sum
  else if 12 ≤ csel then 0
  else Table.get 0 x.cond csel

/-- NEXT (R146). -/
def execNextStep (t tun : Nat) (s : State) : Host.Outcome State Fault Refusal :=
  let s := (s.land t).tunPhase tun
  .next (if s.stepIs tun 0 then s.stepTun tun fun x => { x with cur := (x.cur + 1) % 65536 } else s)

/-- BRANCH (R146). -/
def execBranchStep (t tun : Nat) (s : State) : Host.Outcome State Fault Refusal :=
  let s := (s.land t).tunPhase tun
  .next (
    if s.stepIs tun 1 = false then s
    else
      let x := s.tun tun
      let b := s.tunBank x
      let w := b.step x.cur
      let g := b.grain w
      let c := s.condition x (bits g 3 0) % 2 ^ min 4 (bits g 6 4)
      let s := s.stepTun tun fun x => { x with cur := x.cur / 256 * 256 + (bits w 23 16 ||| c) }
      { s with draws := s.draws + 1 })

/-- JUMP (R146). -/
def execJumpStep (t tun : Nat) (s : State) : Host.Outcome State Fault Refusal :=
  let s := (s.land t).tunPhase tun
  .next (
    if s.stepIs tun 2 then
      let x := s.tun tun
      let w := (s.tunBank x).step x.cur
      s.stepTun tun fun x => { x with cur := bits w 23 16 * 256 }
    else s)

/-- The address of a fault about Tun `t`: F and y of its task, 0 without one. -/
def State.tunAddr (s : State) (t : Nat) : Nat :=
  match (s.tun t).task with
  | some k => faultAddr k.frame k.y
  | none => 0

/-- R159: a fault of Table 6-12 that poisons a task. -/
def State.tunReport (s : State) (t : Nat) (inj : Bool) (k : Kind) (detail : Nat) : State :=
  ((s.reportAs inj (0x300 + t) k (s.tunAddr t) detail).count Obj.tunFaults t).tunFault t

/-- CALL (R146): a ninth nested push raises TIMEOUT, and the sequencer stops (Table 6-12). -/
def execCallStep (t tun : Nat) (s : State) : Host.Outcome State Fault Refusal :=
  let s := (s.land t).tunPhase tun
  .next (
    if s.stepIs tun 3 = false then s
    else
      let x := s.tun tun
      let w := (s.tunBank x).step x.cur
      if 8 ≤ x.stack.length then
        let s := s.tunReport tun false .timeout x.cur
        s.setTun tun { s.tun tun with stopped := true }
      else s.stepTun tun fun x => { x with cur := bits w 23 16 * 256, stack := (x.cur + 1) % 65536 :: x.stack })

/-- LOOP (R146). -/
def execLoopStep (t tun : Nat) (s : State) : Host.Outcome State Fault Refusal :=
  let s := (s.land t).tunPhase tun
  .next (
    if s.stepIs tun 6 = false then s
    else
      let x := s.tun tun
      let b := s.tunBank x
      let w := b.step x.cur
      let g := b.grain w
      let i := bits g 8 7
      let v := x.lc.getD i 0
      s.stepTun tun fun x =>
        if v = 0 then { x with cur := (x.cur + 1) % 65536 }
        else { x with cur := x.cur / 256 * 256 + bits w 23 16, lc := ((x.lc ++ List.replicate 4 0).take 4).set i (v - 1) })

/-! ### Attention -/

/-- The Dispatcher learns of a poisoned task that still holds a current ticket (R171), then its staged output is discarded. -/
def State.drainEnd (s : State) (t : Nat) : State := (s.taskPoisoned t).endDiscard t

/-- R155: RECALL: BIST stops with result RECALLED, and the Tun is READY. -/
def State.recalled (s : State) (t : Nat) : State :=
  let s := (s.acknowledge t .recall).unmark t
  (s.setTun t { s.tun t with bistFrom := none, bistResult := 3, bistPhase := 0, bistEnd := s.deviceTime, attn := [] }).tunFree t

/-- R155, Table 6-10: what CONTEXT preloads of the bright set and the effort in force. The Floor Map copies exchange roles at each rack
(R326); the first bright one is the lower (DESIGN CHOICE; log entry 90). -/
def State.contextNow (s : State) : TunContext :=
  { version := s.sets.rack.count, effort := s.dsp.effort, chroma := s.sets.bright.nat Obj.cspChroma,
    map := s.sets.rack.count % 2 * 16777216 }

/-- R155, Table 6-10: CONTEXT. -/
def State.preload (s : State) (t : Nat) : State :=
  if (s.tun t).attn.contains .context then (s.setTun t { s.tun t with context := s.contextNow }).acknowledge t .context else s

/-- Whether a Tun holds ABORT or RESPARE for its task. -/
def Tun.abortPosted (x : Tun) : Bool := x.task.isSome && (x.attn.contains .abort || x.attn.contains .respare)

/-- R155: the handler ends with END: ABORT or RESPARE first, then CONTEXT, then RECALL, which acts in self-test only. -/
def State.handlerEnd (s : State) (t : Nat) : State :=
  let s := s.setTun t { s.tun t with handling := none }
  if (s.tun t).abortPosted then (if (s.tun t).state = .draining then s.drainEnd t else s.endDiscard t)
  else
    let s := (s.abortsDone t).preload t
    if (s.tun t).attn.contains .recall then
      if (s.tun t).state = .selftest then s.recalled t else s.acknowledge t .recall
    else s

/-- R155: the handler ends with RETURN: CONTEXT is done. A RECALL in self-test has stopped the BIST. -/
def State.handlerReturn (s : State) (t : Nat) : State :=
  if (s.tun t).abortPosted then s.setTun t { s.tun t with handling := none } else s.handlerEnd t

/-- R155: attention is taken at a yield step: the sequencer pushes the next address and goes to 0x0100. A ninth push raises
TIMEOUT, as that of CALL does (DEDUCED; log entry 22). -/
def State.takeAttention (s : State) (t : Nat) : State :=
  let x := s.tun t
  if 8 ≤ x.stack.length then
    let s := s.tunReport t false .timeout x.cur
    s.setTun t { s.tun t with stopped := true }
  else s.setTun t { x with cur := 0x0100, stack := (x.cur + 1) % 65536 :: x.stack, handling := some (x.stack.length + 1) }

/-- R155, R397, Table 6-11: what a yield step does: a force of a Tun fault acts, attention that is pending is
taken unless the handler runs already, a draining task for which none is pending ends. -/
def State.yieldAction (s : State) (t : Nat) : State :=
  let x := s.tun t
  let forced := s.forced 1 t && x.task.isSome
  let s := if forced then
      let s := ((s.reportAs true (0x300 + t) .eccUncorr (s.tunAddr t) 0).count Obj.tunFaults t).forceActed
      if x.state = .draining then s else s.tunFault t
    else s
  if !x.attn.isEmpty ∧ x.handling.isNone then s.takeAttention t
  else if x.state = .draining ∧ x.handling.isNone then s.drainEnd t
  else s.setTun t { s.tun t with cur := (x.cur + 1) % 65536 }

/-- RETURN (R146). A pop of the empty stack, to which the manual gives no value, takes a free value. The RETURN of the attention
handler ends it (R155). -/
def execReturnStep (t tun : Nat) (s : State) : Host.Outcome State Fault Refusal :=
  let s := (s.land t).tunPhase tun
  .next (
    if s.stepIs tun 4 then
      let free := Config.freeValue (s.draws + issueDraws) % 65536
      let handler := (s.tun tun).handling == some (s.tun tun).stack.length
      let s := (s.stepTun tun fun x => { x with cur := x.stack.headD free, stack := x.stack.tail }).drawn
      if handler then s.handlerReturn tun else s
    else s)

/-- YIELD (R146, R154, R155): the interval since the yield step before, or the start of the task, is kept when it is the
longest; attention is taken. -/
def execYieldStep (t tun : Nat) (s : State) : Host.Outcome State Fault Refusal :=
  let s := (s.land t).tunPhase tun
  .next (
    if s.stepIs tun 5 = false then s
    else
      let x := s.tun tun
      let gap := (s.now - x.yieldAt) * 8 / 5
      let s := if x.task.isSome ∧ s.val Obj.tunMaxYieldGap tun < gap then s.put Obj.tunMaxYieldGap tun (min gap 65535 : Nat) else s
      let s := s.stepTun tun fun x => { x with yieldAt := s.now }
      s.yieldAction tun)

/-- YIELD_WATCHDOG (R154): 2,048 cycles (1,280 ns) without a yield step while a task runs. The wait for a dry pool passes yield
steps (R157). -/
def execYieldWatchdog (t tun : Nat) (s : State) : Host.Outcome State Fault Refusal :=
  let s := s.land t
  let x := s.tun tun
  .next (
    if x.task.isNone ∨ x.kegWait.isSome ∨ s.now < x.yieldAt + 1280 then s
    else
      let s := s.setTun tun { x with stopped := true }
      let s := if x.stopped then s else s.tunReport tun false .timeout x.cur
      (s.setTun tun { s.tun tun with state := .draining }).drainEnd tun)

/-- END (R146): the sequencer goes to the idle entry. The attention handler's END carries out what was posted (R155); elsewhere
the task is complete: one whose commit record waits for its verdict ends with that (Table 6-11), one that never committed
is discarded (DEDUCED; log entry 22). -/
def execEndStep (t tun : Nat) (s : State) : Host.Outcome State Fault Refusal :=
  let s := (s.land t).tunPhase tun
  .next (
    if s.stepIs tun 7 = false then s
    else
      let x := s.tun tun
      let waits := x.outq.isSome || s.dsp.commits.any fun c => c.tun == tun
      let s := s.stepTun tun fun x => { x with cur := 0, stack := [] }
      if x.handling.isSome then s.handlerEnd tun
      else if x.task.isNone ∨ waits then s
      else if x.state = .draining then s.drainEnd tun
      else s.endDiscard tun)

/-! ### Commit -/

/-- R156, R229: a commit record reaches the Dispatcher once its slice bytes are in Keg buffers: it waits for its verdict, or is
decided at once when its task is untasted or poisoned. -/
def State.submitCommit (s : State) (t : Nat) (r : CommitRec) : State :=
  match (s.tun t).task with
  | none => s
  | some k =>
    let (s, ok) := s.stageTo t k.ctus r.slice.length
    if ok = false then s.setTun t { s.tun t with outq := some r }
    else
      let s := s.setTun t { s.tun t with outq := none }
      let lane := s.laneOf r.ticket
      let r := { r with lane := lane, windowEnd := s.now + s.val Obj.asmTasteWindowNs }
      if k.poisoned then s.drainEnd t
      else if lane.isNone then s.decideCommit r 0
      else { s with dsp := { s.dsp with commits := s.dsp.commits ++ [r] } }

/-- R138, R156, R200, R227: the commit record of a task, which its inputs determine: the slice NAL unit and its length, Gravity's flag,
trimmed CTUs and planar forms, how each CTU was coded, and the traces. -/
def Task.record (k : Task) (tun : Nat) : CommitRec :=
  let a := k.input.code
  let slice := k.input.slice a
  { tun := tun, ticket := k.ticket, slice := slice, length := slice.length, spent := a.spent, trims := a.trims, floors := a.floors,
    forms := a.forms, traces := k.input.traces a.forms, lane := none, windowEnd := 0 }

/-- R138, R156: whether an OUT operation carries the exhaustion flag, trimmed CTUs and planar forms that the task's inputs determine. A
work item of a decode has none of them. The slice bytes are what the OUT unit wrote, right or wrong: the Taster checks them. -/
def Task.sends (k : Task) (tun : Nat) (spent : Bool) (trims floors : Nat) : Bool :=
  k.isDecode ||
    (let r := k.record tun
     spent == r.spent && trims == r.trims && floors == r.floors)

/-- COMMIT (R156): the OUT operation of Tun `tun`'s recipe, by which the rest of its output is staged (R351). A decode work item commits its
pictures' area, in WPP once the row above allows all of it (R260).
A record whose counts are not those that the task's inputs determine is none that the Tun sends (DEDUCED from R138; log entry 33). -/
def execCommit (t tun : Nat) (slice : Bytes) (spent : Bool) (trims floors : Nat) (s : State) : Host.Outcome State Fault Refusal :=
  let s := s.land t
  let x := s.tun tun
  .next (
    match x.task with
    | none => s
    | some k =>
      if x.stopped ∨ x.outq.isSome ∨ x.kegWait.isSome ∨ (s.dsp.commits.any fun c => c.tun == tun) ∨ !k.sends tun spent trims floors then s
      else if k.isDecode then
        if s.itemWhole k = false then s
        else
          let s := (s.stageTo tun k.ctus 0).1
          if k.poisoned then s.drainEnd tun else s.commitItem tun k
      else s.submitCommit tun { k.record tun with slice := slice })

/-- TUN_KEG_RETRY (R157): 64 cycles (40 ns) after a dry answer the recipe, in a loop that passes a yield step, tries again; attention
is taken there. -/
def execTunKegRetry (t tun : Nat) (s : State) : Host.Outcome State Fault Refusal :=
  let s := s.land t
  let x := s.tun tun
  .next (
    match x.kegWait with
    | none => s
    | some at_ =>
      if s.now < at_ + 40 then s
      else
        let s := s.setTun tun { x with yieldAt := s.now }
        if x.abortPosted ∧ x.handling.isNone then s.takeAttention tun
        else if x.state = .draining then s.drainEnd tun
        else
          match x.outq with
          | some r => s.submitCommit tun r
          | none => (s.stageTo tun 0 0).1)

/-! ### Verdicts -/

/-- A commit record under taste. -/
def State.commitOf (s : State) (t : Nat) : Option CommitRec := s.dsp.commits.find? fun c => c.tun == t

/-- Takes a Tun's commit record from those under taste. -/
def State.takeCommit (s : State) (t : Nat) : State :=
  { s with dsp := { s.dsp with commits := s.dsp.commits.filter fun c => c.tun != t } }

/-- R230: a lane refuses Tun `t`'s task, its report apart. -/
def State.tasteRefuse (s : State) (t lane : Nat) (k : Task) : State :=
  let s := (s.count Obj.asmTasteFails).count Obj.asmLaneFails lane
  let s := s.unbind k.ticket
  let l := s.lane lane
  let s := s.setLane lane { l with state := if l.state = 2 then 2 else 1, testFrom := s.now, reported := l.reported ++ [(k.s, k.y, k.frame)] }
  let s := s.setTun t { s.tun t with bistPending := true }
  let s := s.poisonTask t
  if (s.commitOf t).isSome then (s.takeCommit t).drainEnd t else s

/-- R230: a check of the lane that tastes Tun `t`'s task fails. -/
def State.tasteFail (s : State) (t check : Nat) (inj : Bool) : State :=
  match (s.tun t).task with
  | none => s
  | some k =>
    match s.laneOf k.ticket with
    | none => s
    | some lane =>
      (s.reportAs inj (0x390 + lane) .tasteMismatch (faultAddr k.frame k.y) (check * 4096 + k.s)).tasteRefuse t lane k

/-- Bits of a slice. -/
def CommitRec.bits (r : CommitRec) : Nat := 8 * r.slice.length

/-- R228, check 6: whether the slice of a receiver entry leaves the segments below less than their reserve. -/
def State.overBudget (s : State) (r : CommitRec) : Bool :=
  match (s.tun r.tun).task with
  | some k => (s.setFor k.frame).isReceiver k.s && decide (k.input.avail < ((r.bits + k.input.later : Nat) : Int))
  | none => false

/-- R227, R228, checks 1 to 5: the first check of Table 9-7 that the bytes a lane has decoded fail, `n` of them. The bytes that the task's
inputs determine pass: H.266 decodes what was coded (DEDUCED; log entry 90). Others are compared as their parse says. -/
def Task.laneCheck (k : Task) (r : CommitRec) (n : Nat) : Option Nat :=
  let i := k.input
  let right := k.record r.tun
  let whole := decide (r.slice.length ≤ n)
  let got := r.slice.take n
  if got = right.slice.take n ∧ (whole = false ∨ r.slice = right.slice) then none
  else
    let p := Config.parseSlice i got
    let header := sliceHeader i.gdr i.s (i.y - i.y0) i.h i.qs (i.sao r.forms)
    if (decide (2 ≤ n) && got.take 2 != nalHeader (if i.gdr then nutGdr else nutTrail)) || (whole && r.slice.length != r.length) then some 1
    else if p.header.any fun h => h != header then some 2
    else if p.bins.zipIdx.any fun q => some (crc32c (q.1.flatMap fun b => bytesBE 2 (binWord b))) != r.traces[q.2]? then some 3
    else if whole && (p.ends != List.replicate (i.w - 1) false ++ [true]) then some 4
    else if whole && !p.trailing then some 5
    else none

/-- R228: the first check that the slice of a commit record fails, with `n` bytes of it decoded. -/
def State.laneFails (s : State) (r : CommitRec) (n : Nat) : Option Nat :=
  match (s.tun r.tun).task.bind fun k => k.laneCheck r n with
  | some check => some check
  | none => if s.overBudget r then some 6 else none

/-- TASTE_VERDICT (R228, R229): the lane has decoded the slice of a commit record. `verdict`: 1 to 5, a check that its own decode fails, as
a defective lane's may. A force of R397 makes the lane's next verdict FAIL with check 3. -/
def execTasteVerdict (t tun verdict : Nat) (s : State) : Host.Outcome State Fault Refusal :=
  let s := s.land t
  .next (
    match s.commitOf tun with
    | none => s
    | some r =>
      if (r.lane.any fun l => s.forced 3 l) then (s.tasteFail tun 3 true).forceActed
      else if 1 ≤ verdict ∧ verdict ≤ 5 then s.tasteFail tun verdict false
      else
        match s.laneFails r r.slice.length with
        | some check => s.tasteFail tun check false
        | none => (s.takeCommit tun).decideCommit r r.bits)

/-- TASTE_WINDOW_END (R229): the window ends; the lane abandons the slice with `decoded` bytes tasted, and the verdict is
PARTIAL where every check made so far holds. -/
def execTasteWindowEnd (t tun decoded : Nat) (s : State) : Host.Outcome State Fault Refusal :=
  let s := s.land t
  .next (
    match s.commitOf tun with
    | none => s
    | some r =>
      if s.now < r.windowEnd then s
      else
        match s.laneFails r (min decoded r.slice.length) with
        | some check => s.tasteFail tun check false
        | none => (s.takeCommit tun).decideCommit r (8 * min decoded r.slice.length))

/-- TASTE_MISMATCH (R230): a check, 1 to 5, fails while the slice is still being written, or before its verdict. -/
def execTasteMismatch (t tun check : Nat) (s : State) : Host.Outcome State Fault Refusal :=
  let s := s.land t
  .next (if check = 0 ∨ 5 < check then s else s.tasteFail tun check false)

/-! ### Faults and self-test -/

/-- The kinds of Table 6-12 by number. -/
def tunKind : Nat → Option Kind
  | 2 => some .eccUncorr
  | 3 => some .parity
  | 5 => some .busErr
  | _ => none

/-- Table 6-7: what a fault sets in the group ERR. -/
def Tun.errBit (x : Tun) (k : Kind) : Tun :=
  let v := Table.get 0 x.cond 10
  if k = .eccUncorr then { x with cond := Table.set 0 x.cond 10 (v ||| 1) }
  else if k = .busErr then { x with cond := Table.set 0 x.cond 10 (v ||| 2) }
  else x

/-- R159, R352: a Grist read of the Tun returns an error tag: `detail` is the Grist's bank, with 32 × (1 + the identity) added where the
word is an uncorrectable one of a staging line, which the Grist then reports too; BUS_ERR gives the bank. -/
def State.tunBusErr (s : State) (tun detail : Nat) : State :=
  if detail < 32 then s.tunReport tun false .busErr detail
  else
    let line := detail / 32 - 1
    (s.gristError line false).tunReport tun false .busErr (s.bankOf line)

/-- TUN_POISON (R159): a fault of Table 6-12: 1 ECC_CORR, 2 ECC_UNCORR, 3 PARITY, 4 TIMEOUT of the yield watchdog, whose detail is cur,
5 BUS_ERR (tunBusErr). Without a task only 1 to 3 can be found. Kind 6 is a decode's reference read that meets an uncorrectable word, which poisons
nothing (R259): `detail` is its channel + 8 × the block that read it. -/
def execTunPoison (t tun kind detail : Nat) (s : State) : Host.Outcome State Fault Refusal :=
  let s := s.land t
  let x := s.tun tun
  .next (
    if 64 ≤ tun ∨ !(x.state == .ready || x.state == .encode || x.state == .decode || x.state == .draining) then s
    else if kind = 1 then (s.report (0x300 + tun) .eccCorr (s.tunAddr tun) detail).count Obj.tunEccCorr tun
    else if kind = 6 then
      match x.task with
      | some k => if k.isDecode then s.refUnreadable k (detail % 8) (detail / 8) else s
      | none => s
    else if kind = 4 then
      if x.task.isNone ∨ x.stopped ∨ x.kegWait.isSome ∨ s.now < x.yieldAt + 1280 then s
      else (s.setTun tun { x with stopped := true }).tunReport tun false .timeout x.cur
    else
      match tunKind kind with
      | none => s
      | some k =>
        if x.task.isNone ∧ 4 ≤ kind then s
        else if kind = 5 then (s.setTun tun (x.errBit k)).tunBusErr tun detail
        else (s.setTun tun (x.errBit k)).tunReport tun false k detail)

/-- TUN_BIST_DONE (R162): a Tun's BIST ends after 40 ms, its five phases over: `phase` 0, or the first phase of Table 6-14 that
failed. Its local SRAM is cleared; its patch banks are those of the Maltster. -/
def execTunBistDone (t tun phase : Nat) (s : State) : Host.Outcome State Fault Refusal :=
  let s := s.land t
  let x := s.tun tun
  .next (
    match x.bistFrom with
    | none => s
    | some from_ =>
      if s.now < from_ + 40000000 then s
      else
        let s := s.unmark tun
        let y : Tun := { x.clear 0 s.now with
          bistStage := 4, sram := [],
          bistFrom := none, bistHeld := false, bistPending := false, bistResult := if phase = 0 then 1 else 2,
          bistPhase := phase, bistEnd := s.deviceTime, attn := [], lastPass := if phase = 0 then some s.now else none }
        if phase = 0 then
          if x.bistHeld then s.setTun tun y else (s.setTun tun y).tunFree tun
        else
          let s := (s.report (0x300 + tun) .digestMismatch 0 phase).count Obj.tunFaults tun
          (s.setTun tun { y with state := if x.bistHeld then x.state else .failed }).capacity)

/-- The effect of TUN_SELFTEST (R163). -/
def tunSelftest (u : Nat) (s : State) : Effect :=
  let x := s.tun u
  if x.state = .selftest ∨ x.bistFrom.isSome then (s, .busy)
  else if x.state = .failed ∨ x.state = .retired then (s.beginBist u 2, .ok)
  else if x.state = .ready ∧ s.na < s.tunsActive then (s.beginBist u 2, .ok)
  else (s.setTun u { x with bistPending := true }, .ok)

/-- TUN_SELFTEST (R163). -/
def execTunSelftest (t : Nat) (who : Path) (v : Nat) (s : State) : Host.Outcome State Fault Refusal :=
  objectCommand t who Obj.tunSelftest 0 (.num v) (tunSelftest v) s

/-- The effect of TUN_REINSTATE (R158). -/
def tunReinstate (u : Nat) (s : State) : Effect :=
  let x := s.tun u
  if (x.state = .failed ∨ x.state = .retired) ∧ (x.lastPass.any fun a => decide (s.now ≤ a + 60 * giga)) then
    ((s.setTun u { x with bistFrom := none, bistHeld := false }).tunFree u, .ok)
  else (s, .state)

/-- TUN_REINSTATE (R158). -/
def execTunReinstate (t : Nat) (who : Path) (v : Nat) (s : State) : Host.Outcome State Fault Refusal :=
  objectCommand t who Obj.tunReinstate 0 (.num v) (tunReinstate v) s

/-- CLOCK_GROUP_ENABLE (R184): in the BIST step of start-up, a group of 8 Tuns leaves GATED, 5 µs times its number after the step
began and after the groups below it. -/
def execClockGroupEnable (t group : Nat) (s : State) : Host.Outcome State Fault Refusal :=
  let s := s.land t
  .next (
    if s.pwr.phase ≠ 2 ∨ 8 ≤ group ∨ s.now < s.pwr.phaseAt + 5000 * group ∨
        ((List.range (8 * group)).any fun u => (s.tun u).state == .gated) then s
    else
      (List.range 8).foldl (fun s i =>
        let u := 8 * group + i
        if (s.tun u).state = .gated then s.beginBist u 0 else s) s)

end Sys2Proof.Machine
end

