-- ==== Sys2Proof/Machine/Patches.lean ====
section
/-! DEFINITION. Recipe patches (R152, R153): payload checks, the switch, and the completion of an image check (R418, R419). -/
set_option Elab.async false
namespace Sys2Proof.Machine

/-- The words of a table in a payload: `n` words of `w` bytes from offset `o`. -/
def patchWords (p : Bytes) (o w n : Nat) : List Nat := (List.range n).map fun k => fieldBE p (o + w * k) w

/-- Table 6-9: NMATCH, NSTEP, NGRAIN. -/
def patchCounts (p : Bytes) : Nat × Nat × Nat := (fieldBE p 6 2, fieldBE p 8 2, fieldBE p 10 2)

/-- The bank that a payload spells. -/
def patchBank (image : Bytes) : PatchBank :=
  let p := imagePayload image
  let n := patchCounts p
  { patchId := fieldBE p 16 4, digest := sha384 p, matches_ := patchWords p 32 4 n.1,
    steps := patchWords p (32 + 4 * n.1) 3 n.2.1, grains := patchWords p (32 + 4 * n.1 + 3 * n.2.1) 28 n.2.2,
    svn := imageSvn image, auto_ := imageAuto image }

/-- R152, checks 4 and 5: MADDR below 0x8000 and not repeated, PIDX below NSTEP. Reserved bits are zero by check 1. -/
def patchMatchesOk (ms : List Nat) (nstep : Nat) : Bool :=
  let addrs := ms.map fun m => bits m 15 0
  ms.all (fun m => decide (bits m 15 0 < 0x8000) && decide (bits m 25 16 < nstep)) && addrs.eraseDups.length == addrs.length

/-- R152, checks 6 and 7 on one step (Table 6-4): its grain exists, and a JUMP or CALL names a page that exists. -/
def patchStepOk (nstep ngrain step : Nat) : Bool :=
  let g := bits step 12 0
  let seq := bits step 15 13
  let page := bits step 23 16
  decide (g < 0x1000 + ngrain)
    && (!(seq == 2 || seq == 3) || decide (page < 0x80) || decide ((page - 0x80) * 256 < nstep))

/-- R152, check 8: the slots name different units, unless both name NOP. -/
def patchGrainOk (g : Nat) : Bool := bits g 35 32 != bits g 131 128 || bits g 35 32 == 0

/-- R152, check 1 on the words: reserved fields of match registers (Table 6-8) and grains (Table 6-6). -/
def patchReserved (ms grains : List Nat) : Bool :=
  ms.all (fun m => bits m 31 27 == 0) &&
    grains.all fun g => bits g 31 11 == 0 && bits g 127 109 == 0 && bits g 223 205 == 0

/-- R152: TUN_PATCH_STATUS of a payload. -/
def patchStatus (image : Bytes) : Nat :=
  let p := imagePayload image
  let n := patchCounts p
  let b := patchBank image
  if fieldBE p 0 4 ≠ 0x54504348 ∨ fieldBE p 4 2 ≠ 1 ∨ fieldBE p 20 12 ≠ 0 then 3
  else if 64 < n.1 ∨ 1024 < n.2.1 ∨ 256 < n.2.2 ∨ p.length ≠ 32 + 4 * n.1 + 3 * n.2.1 + 28 * n.2.2 then 3
  else if patchReserved b.matches_ b.grains = false then 3
  else if fieldBE p 12 4 ≠ Config.romVersion then 4
  else if patchMatchesOk b.matches_ n.2.1 = false then 5
  else if b.steps.all (patchStepOk n.2.1 n.2.2) = false then 6
  else if b.grains.all patchGrainOk = false then 7
  else 1

/-! ### The check of an image -/

/-- R153: a switch is scheduled, or the frames before the last one have not all committed. -/
def State.switchBusy (s : State) : Bool := s.tuns.switch.isSome || s.tuns.switchTail.isSome

/-- TUN_PATCH_IMAGE (R152, R153, R413). -/
def tunPatchImage (who : Path) (image : Bytes) (s : State) : Effect :=
  if s.trust.lifecycle = 3 then (s, .state)
  else if s.verifierBusy ∨ s.switchBusy then (s, .busy)
  else (s.checkImage who false image, .ok)

/-- TUN_PATCH_IMAGE. -/
def execTunPatchImage (t : Nat) (who : Path) (image : Bytes) (s : State) : Host.Outcome State Fault Refusal :=
  objectCommand t who Obj.tunPatchImage 0 (.bytes image) (tunPatchImage who image) s

/-- SEC_IMAGE (R413, R418). -/
def secImage (who : Path) (image : Bytes) (s : State) : Effect :=
  if s.trust.lifecycle = 3 then (s, .state)
  else if s.verifierBusy then (s, .busy)
  else (s.checkImage who true image, .ok)

/-- SEC_IMAGE. -/
def execSecImage (t : Nat) (who : Path) (image : Bytes) (s : State) : Host.Outcome State Fault Refusal :=
  objectCommand t who Obj.secImage 0 (.bytes image) (secImage who image) s

/-- R152, R419: a recipe patch leaves the check. An image that fails leaves nothing staged (DEDUCED; log entry 47). -/
def State.recipeChecked (s : State) (image : Bytes) (status : Nat) : State :=
  let p := if status = 1 then patchStatus image else 2
  { s with tuns := { s.tuns with patchStatus := p, staged := if p = 1 then some (patchBank image) else none } }

/-- Table 17-8: the firmware area of the patch store lost its image. -/
def State.firmwareAreaLost (s : State) : State :=
  (s.modTrust fun x => { x with fwStored := none, fwRemove := false }).caskRegionState 3 3

/-- IMAGE_CHECK_DONE (R418, R419): the check ends; `stored` says whether the Cask took an image that is to be kept. -/
def execImageCheckDone (t : Nat) (stored : Bool) (s : State) : Host.Outcome State Fault Refusal :=
  let s := s.land t
  match s.trust.checking with
  | none => .next s
  | some job =>
    let status := s.imageStatus job stored
    let ty := imageType job.image
    let s := s.modTrust fun x => { x with checking := none }
    let s := (s.put Obj.secImageStatus 0 status).put Obj.secImageType 0 (ty % 256 : Nat)
    let s := if status = 1 then s else s.imageFailed status ty
    let s := if status = 10 then (s.caskErr (caskBase 3)).count Obj.cskEccUncorr else s
    let s := if status = 10 ∧ ty = 2 then s.firmwareAreaLost else s
    .next (
      if !job.sec then s.recipeChecked job.image status
      else if status = 1 then s.modTrust fun x => { x with accepted := some job }
      else s)

/-! ### The switch -/

/-- R153: a switch to `bank` with target `target`. -/
def State.scheduleSwitch (s : State) (bank : PatchBank) (target : Nat) : State :=
  let twin := s.twinMode
  match rackFrame s.ctime.frame (s.rackLead twin) target with
  | .error res => { s with tuns := { s.tuns with patchResult := res } }
  | .ok f =>
    let s : State := { s with tuns := { s.tuns with
      switch := some { frame := f, bank := bank, agreed := !twin }, patchFrame := f } }
    if twin then (s.propose 4 0 f bank.patchId bank.proposalDigest (zeros 8)).serveHeld else s

/-- TUN_PATCH_APPLY (R153). -/
def tunPatchApply (v : Nat) (s : State) : Effect :=
  if s.switchBusy then (s, .busy)
  else
    match s.tuns.staged with
    | none => (s, .noData)
    | some b => (s.scheduleSwitch b v, .ok)

/-- TUN_PATCH_APPLY. -/
def execTunPatchApply (t : Nat) (who : Path) (v : Nat) (s : State) : Host.Outcome State Fault Refusal :=
  objectCommand t who Obj.tunPatchApply 0 (.num v) (tunPatchApply v) s

/-- TUN_PATCH_REMOVE (R153): as the earliest frame. -/
def tunPatchRemove (s : State) : Effect :=
  if s.switchBusy then (s, .busy) else (s.scheduleSwitch PatchBank.empty 0, .ok)

/-- TUN_PATCH_REMOVE. -/
def execTunPatchRemove (t : Nat) (who : Path) (v : Nat) (s : State) : Host.Outcome State Fault Refusal :=
  objectCommand t who Obj.tunPatchRemove 0 (.num v) tunPatchRemove s

/-- R153, R419: `w` takes effect: the free bank of every Tun holds it and serves every assignment from now on. -/
def State.switchBank (s : State) (w : PatchSwitch) : State :=
  let f := w.frame
  let free := 1 - s.tuns.inUse
  let x := s.tuns
  let x : TunArray := if free = 0 then { x with bank0 := w.bank } else { x with bank1 := w.bank }
  let kept := if w.bank.digest.isEmpty then none else some w.bank
  let x : TunArray :=
    { x with inUse := free, switch := none, patchResult := .done, patchFrame := f,
             switchTail := if s.frameDone (sub32 f 1) then none else some (sub32 f 1),
             persisted := if s.val Obj.tunPatchPersist = 1 then kept else x.persisted }
  let s : State := { s with tuns := x }
  if w.bank.auto_ then s.raiseCounter 1 w.bank.svn else s

/-- PATCH_SWITCH (R153): frame F begins to be assigned. -/
def execPatchSwitch (t : Nat) (s : State) : Host.Outcome State Fault Refusal :=
  let s := s.land t
  .next (
    match s.tuns.switch with
    | some w => if w.agreed ∧ s.calTurn (s.switchEntry w) then s.calTicked.switchBank w else s
    | none => s)

/-- PATCH_AGREE_TIMEOUT (R246): not agreed before ⟨F−2:0⟩. -/
def execPatchAgreeTimeout (t : Nat) (s : State) : Host.Outcome State Fault Refusal :=
  let s := s.land t
  .next (
    match s.tuns.switch with
    | some w => if !w.agreed ∧ s.agreeClosed w.frame then s.endPatch .twinTimeout else s
    | none => s)

end Sys2Proof.Machine
end

