-- ==== Sys2Proof/Machine/Security.lean ====
section
/-! DEFINITION. Lifecycle, accepted images, access keys, attestation and the Cask's scrub (chapter 17). -/
set_option Elab.async false
namespace Sys2Proof.Machine

/-- Bytewise XOR. -/
def xorBytes (a b : Bytes) : Bytes := List.zipWith (fun x y => x ^^^ y) a b

/-- The accepted image, if it has type `ty`. -/
def State.acceptedOf (s : State) (ty : Nat) : Option Bytes :=
  (s.trust.accepted.filter fun j => imageType j.image == ty).map (·.image)

/-- The verifier is free again. -/
def State.imageDone (s : State) : State := s.modTrust fun x => { x with accepted := none }

/-! ### Accepted images -/

/-- FIRMWARE_PATCH (R420). -/
def execFirmwarePatch (t : Nat) (s : State) : Host.Outcome State Fault Refusal :=
  let s := s.land t
  .next (
    match s.acceptedOf 2 with
    | some b => (s.modTrust fun x => { x with fwStored := some b, fwRemove := false }).imageDone
    | none => s)

/-- KEY_REVOKE (R415, R416). -/
def execKeyRevoke (t : Nat) (s : State) : Host.Outcome State Fault Refusal :=
  let s := s.land t
  .next (
    match s.acceptedOf 3 with
    | some b => ((s.blow (64 + fieldBE (imagePayload b) 0 1) 1).applied 2 b).imageDone
    | none => s)

/-- The access keys of R421 without those of VIEWER, OPERATOR and BREWER; the claim key in BREWER slot 0. -/
def State.claimKeys (s : State) : Table Bytes :=
  Table.insert (s.trust.keys.filter fun p => decide (12 ≤ p.1)) 8 (claimKey s.trust.secret)

/-- KEY_RESET (R424). -/
def execKeyReset (t : Nat) (s : State) : Host.Outcome State Fault Refusal :=
  let s := s.land t
  .next (
    match s.acceptedOf 4 with
    | some b =>
      let s := s.modTrust fun x => { x with keys := s.claimKeys }
      ({ s with strel := { s.strel with auth := [] } }.applied 3 b).imageDone
    | none => s)

/-- R425: the VENDOR key of a grant. -/
def State.grantKey (s : State) (b : Bytes) : Bytes :=
  let p := imagePayload b
  xorBytes (slice p 32 48)
    (hkdf384 (slice p 12 16) (deviceKey s.trust.secret "NG-VWRAP") (ascii "VENDOR-GRANT" ++ bytesBE 4 (imageSerial b)) 48)

/-- VENDOR_GRANT (R425). -/
def execVendorGrant (t : Nat) (s : State) : Host.Outcome State Fault Refusal :=
  let s := s.land t
  .next (
    match s.acceptedOf 5 with
    | some b =>
      let p := imagePayload b
      let k : VendorKey := { key := s.grantKey b, expires := s.now + fieldBE p 8 4 * giga }
      let s := s.modTrust fun x => { x with vendor := Table.insert x.vendor (fieldBE p 4 1) k }
      (s.applied 4 b).imageDone
    | none => s)

/-- VENDOR_GRANT_EXPIRY (R425). -/
def execVendorGrantExpiry (t slot : Nat) (s : State) : Host.Outcome State Fault Refusal :=
  let s := s.land t
  .next (s.modTrust fun x => { x with vendor := x.vendor.filter fun p => p.1 != slot || decide (s.now < p.2.expires) })

/-- SEC_VENDOR_EXPIRY (R425): seconds left of the VENDOR key that lasts longest. -/
def State.vendorExpiry (s : State) : Nat :=
  s.trust.vendor.foldl (fun m p => max m (ceilDiv (p.2.expires - s.now) giga)) 0

/-- IDENTITY (R426). -/
def execIdentity (t : Nat) (s : State) : Host.Outcome State Fault Refusal :=
  let s := s.land t
  .next (
    match s.acceptedOf 6 with
    | some b => (s.modTrust fun x => { x with identity := some b }).imageDone
    | none => s)

/-! ### Lifecycle (R412, R413) -/

/-- BLANK_TO_MANUFACTURE (R413): the on-die random source gives the device secret. -/
def execBlankToManufacture (t : Nat) (s : State) : Host.Outcome State Fault Refusal :=
  let s := s.land t
  .next (
    if s.trust.lifecycle = 0 then
      (s.modTrust fun x => { x with lifecycle := 1, secret := fit 32 (Config.newSecret s.draws) }).drawn
    else s)

/-- R390, R413: the rehearsal entries whose reaction is above NOTIFY are cleared: they are LOG (DEDUCED; log entry 88). -/
def State.clearRehearsals (s : State) : State :=
  (List.range Obj.cwtRehearse.rowCount).foldl (fun s r =>
    if 1 < s.val Obj.cwtRehearse r then (s.put Obj.cwtRehearse r 0).keep Obj.cwtRehearse r (.num 0) else s) s

/-- SEC_LIFECYCLE_ADVANCE (R413). TWN_KEY is no access key of a role and stays (DEDUCED; log entry 88). -/
def secLifecycleAdvance (s : State) : Effect :=
  if s.trust.lifecycle ≠ 1 ∨ s.trust.identity.isNone then (s, .state)
  else ((s.modTrust fun x => { x with lifecycle := 2, keys := s.claimKeys.filter fun p => p.1 == 8 || p.1 == 16, vendor := [] }).clearRehearsals, .ok)

/-- SEC_LIFECYCLE_ADVANCE. -/
def execSecLifecycleAdvance (t : Nat) (who : Path) (v : Nat) (s : State) : Host.Outcome State Fault Refusal :=
  objectCommand t who Obj.secLifecycleAdvance 0 (.num v) secLifecycleAdvance s

/-- The empty slot. -/
def Slot.empty : Slot := { state := 0, image := CanvasSet.default }

/-- SEC_RETIRE (R413): SAFE is entered as by a command (log entry 48). No VENDOR key is left, there being no VENDOR role in RETIRED
(Table 17-1). -/
def secRetire (v : Nat) (s : State) : Effect :=
  if v ≠ Config.serial then (s, .range)
  else if s.trust.lifecycle ≠ 2 then (s, .state)
  else
    let s := s.modTrust fun x => { x with lifecycle := 3, keys := [], vendor := [], accepted := none }
    let s := { s with strel := { s.strel with auth := [] } }
    let s := { s with sets := { s.sets with slotA := Slot.empty, slotB := Slot.empty, saving := none, savePending := none, loading := none } }
    cwtSafeEnter s

/-- SEC_RETIRE. -/
def execSecRetire (t : Nat) (who : Path) (v : Nat) (s : State) : Host.Outcome State Fault Refusal :=
  objectCommand t who Obj.secRetire 0 (.num v) (secRetire v) s

/-- SEC_ROLLBACK_COMMIT (R416). -/
def secRollbackCommit (v : Nat) (s : State) : Effect :=
  let bank := s.bankNamed s.tuns.inUse
  if v = 1 then (if bank.digest.isEmpty then (s, .noData) else (s.raiseCounter 1 bank.svn, .ok))
  else if v = 0 then
    match s.trust.fwActive with
    | some b => (s.raiseCounter 0 (imageSvn b), .ok)
    | none => (s, .noData)
  else (s, .noData)

/-- SEC_ROLLBACK_COMMIT. -/
def execSecRollbackCommit (t : Nat) (who : Path) (v : Nat) (s : State) : Host.Outcome State Fault Refusal :=
  objectCommand t who Obj.secRollbackCommit 0 (.num v) (secRollbackCommit v) s

/-- SEC_FW_PATCH_REMOVE (R420). -/
def secFwPatchRemove (s : State) : Effect := (s.modTrust fun x => { x with fwRemove := x.fwStored.isSome }, .ok)

/-- SEC_FW_PATCH_REMOVE. -/
def execSecFwPatchRemove (t : Nat) (who : Path) (v : Nat) (s : State) : Host.Outcome State Fault Refusal :=
  objectCommand t who Obj.secFwPatchRemove 0 (.num v) secFwPatchRemove s

/-! ### Access keys (R421 to R423) -/

/-- The session of a path. -/
def State.sessionOf (s : State) : Path → Option Session
  | .strel id => s.session id
  | _ => none

/-- R422: the key that a wrapped key unwraps to. -/
def Session.unwrap (z : Session) (seq : Nat) (wk : Bytes) : Bytes :=
  xorBytes wk (hkdf384 z.salt z.ks (ascii "STREL-WRAP" ++ bytesBE 4 z.id ++ bytesBE 4 seq) 48)

/-- SEC_KEY_INSTALL (R422). -/
def secKeyInstall (who : Path) (seq : Nat) (data : Bytes) (s : State) : Effect :=
  let role := fieldBE data 0 1
  let slot := fieldBE data 1 1
  if fieldBE data 2 2 ≠ 0 then (s, .reserved)
  else if 3 < slot ∨ 3 < role then (s, .range)
  else
    match s.sessionOf who with
    | none => (s, .state)
    | some z =>
      let k := z.unwrap seq (slice data 4 48)
      if z.role.code < role then (s, .role)
      else if role = 3 ∨ k = zeros 48 then (s, .range)
      else
        let s := s.modTrust fun x => { x with keys := Table.insert x.keys (4 * role + slot) k }
        ({ s with strel := { s.strel with auth := Table.erase s.strel.auth (4 * role + slot) } }, .ok)

/-- SEC_KEY_INSTALL. -/
def execSecKeyInstall (t : Nat) (who : Path) (seq : Nat) (data : Bytes) (s : State) : Host.Outcome State Fault Refusal :=
  objectCommand t who Obj.secKeyInstall 0 (.bytes data) (secKeyInstall who seq data) s

/-- TWN_KEY (R422): no path without a session can write it. -/
def twnKey (who : Path) (seq : Nat) (data : Bytes) (s : State) : Effect :=
  match s.sessionOf who with
  | none => (s, .state)
  | some z => (s.modTrust fun x => { x with keys := Table.insert x.keys 16 (z.unwrap seq data) }, .ok)

/-- TWN_KEY. -/
def execTwnKey (t : Nat) (who : Path) (seq : Nat) (data : Bytes) (s : State) : Host.Outcome State Fault Refusal :=
  objectCommand t who Obj.twnKey 0 (.bytes data) (twnKey who seq data) s

/-- SEC_KEY_ERASE (R423, R425). -/
def secKeyErase (v : Nat) (s : State) : Effect :=
  let role := bits v 15 8
  let slot := bits v 7 0
  if 3 < role ∨ 3 < slot then (s, .range)
  else if role = 3 then (s.modTrust fun x => { x with vendor := Table.erase x.vendor slot }, .ok)
  else
    let keys := Table.erase s.trust.keys (4 * role + slot)
    if role = 2 ∧ !(keys.any fun p => decide (8 ≤ p.1) && decide (p.1 < 12)) then (s, .state)
    else (s.modTrust fun x => { x with keys := keys }, .ok)

/-- SEC_KEY_ERASE. -/
def execSecKeyErase (t : Nat) (who : Path) (v : Nat) (s : State) : Host.Outcome State Fault Refusal :=
  objectCommand t who Obj.secKeyErase 0 (.num v) (secKeyErase v) s

/-- SEC_KEY_SLOTS (R421). -/
def State.keySlots (s : State) : Nat :=
  let fixed := (s.trust.keys.filter fun p => decide (p.1 < 16)).map (·.1)
  ((fixed ++ s.trust.vendor.map fun p : Nat × VendorKey => 12 + p.1).eraseDups.map fun b => 2 ^ b).sum

/-! ### Attestation (R427 to R429) -/

/-- The nonce of a session, or of the CAN path. -/
def State.attNonce (s : State) (who : Path) : Option Bytes :=
  match who with
  | .strel id => (s.session id).bind (·.attNonce)
  | .can => s.can.attNonce
  | .firmware => none

/-- The last report signed for a session, or for the CAN path. -/
def State.attReport (s : State) (who : Path) : Bytes :=
  match who with
  | .strel id => ((s.session id).map (·.attReport)).getD []
  | .can => s.can.attReport
  | .firmware => []

/-- SEC_ATT_NONCE (R428). -/
def secAttNonce (who : Path) (data : Bytes) (s : State) : Effect :=
  if s.trust.lifecycle = 3 then (s, .state)
  else
    match who with
    | .strel id =>
      match s.session id with
      | some z => (s.setSession { z with attNonce := some data }, .ok)
      | none => (s, .noSession)
    | .can => ({ s with can := { s.can with attNonce := some data } }, .ok)
    | .firmware => (s, .ok)

/-- SEC_ATT_NONCE. -/
def execSecAttNonce (t : Nat) (who : Path) (data : Bytes) (s : State) : Host.Outcome State Fault Refusal :=
  objectCommand t who Obj.secAttNonce 0 (.bytes data) (secAttNonce who data) s

/-- TUN_PATCH_ACTIVE (Table 6-15). -/
def State.tunPatchForm (s : State) : Bytes :=
  let b := s.bankNamed s.tuns.inUse
  if b.digest.isEmpty then zeros 52 else patchForm b.patchId b.digest

/-- Bytes 0 to 303 of a report, Table 17-6. -/
def State.attBody (s : State) (nonce : Bytes) (leaf : Nat) : Bytes :=
  let flags := ofBool s.cellar.safe + 2 * ofBool s.silenced + 4 * ofBool s.trust.fwSkipped
  bytesBE 4 0x4E474154 ++ bytesBE 2 1 ++ bytesBE 1 s.trust.lifecycle ++ bytesBE 1 flags ++ bytesBE 4 Config.serial
    ++ bytesBE 4 s.brew.bootCount ++ nonce ++ time80 s.deviceTime ++ s.ctime.bytes ++ bytesBE 4 Config.revision
    ++ bytesBE 4 Config.romVersion ++ fwForm s.trust.fwActive ++ s.tunPatchForm ++ s.sets.bright.digest
    ++ (List.range 64).flatMap (fun k => bytesBE 1 (s.counter k)) ++ bytesBE 4 (leaf % 1073741824) ++ zeros 12

/-- R427: a signed report, both signatures by the keys of Table 17-2. -/
def State.attSigned (s : State) (nonce : Bytes) (leaf : Nat) : Bytes :=
  let b := s.attBody nonce leaf
  b ++ fit 96 (Config.ecdsaSign (deviceKey s.trust.secret "NG-ID-ECDSA") (sha384 b) s.draws)
    ++ fit 3284 (Config.hssSign (deviceKey s.trust.secret "NG-ID-HSS") b leaf)

/-- Keeps the report of a session, or of the CAN path. -/
def State.keepReport (s : State) (who : Path) (r : Bytes) : State :=
  match who with
  | .strel id =>
    match s.session id with
    | some z => s.setSession { z with attReport := r }
    | none => s
  | .can => { s with can := { s.can with attReport := r } }
  | .firmware => s

/-- R429: leaf q is used; the reserved limit, a new bottom tree and exhaustion follow. -/
def State.leafUsed (s : State) : State :=
  s.modTrust fun x =>
    let q := x.qNext + 1
    { x with qNext := q, qRes := if x.qNext < x.qRes then x.qRes else x.qNext + 64, attAt := some s.now,
             attState := if 1073741824 ≤ q then 2 else if q % 1024 = 0 then 1 else x.attState, treeFrom := s.now }

/-- SEC_ATT_REPORT (R428, R429): the state and the report's bytes from `offset` on, or why not. -/
def State.readReport (s : State) (who : Path) (offset : Nat) : State × Except Status Bytes :=
  if s.trust.lifecycle = 0 ∨ s.trust.lifecycle = 3 then (s, .error .state)
  else if offset ≠ 0 then
    let r := s.attReport who
    (s, if r.isEmpty then .error .noData else if r.length < offset then .error .range else .ok (r.drop offset))
  else if s.trust.attState = 2 then (s, .error .state)
  else if s.trust.attState = 1 ∨ s.trust.attAt.any (fun a => decide (s.now < a + giga)) then (s, .error .busy)
  else
    match s.attNonce who with
    | none => (s, .error .noData)
    | some n =>
      let r := s.attSigned n s.trust.qNext
      ((s.keepReport who r).leafUsed.drawn, .ok r)

/-- SEC_ATT_REPORT. -/
def execSecAttReport (t : Nat) (who : Path) (offset : Nat) (s : State) : Host.Outcome State Fault Refusal :=
  let s := (s.land t).accessed who
  match s.accessRefusal who Obj.secAttReport 0 false with
  | some st => .next (s.send (.answer who st []))
  | none =>
    let r := s.readReport who offset
    .next (match r.2 with
      | .error st => r.1.send (.answer who st [])
      | .ok b => r.1.send (.answer who .ok b))

/-- BOTTOM_TREE_DONE (R429). -/
def execBottomTreeDone (t : Nat) (s : State) : Host.Outcome State Fault Refusal :=
  let s := s.land t
  .next (if s.trust.attState = 1 then s.modTrust fun x => { x with attState := 0 } else s)

/-! ### The Cask's scrub (R433, Table 17-8) -/

/-- The record of the checkpoint ring, oldest first, that a word belongs to reads with SEQ 0 (Table 17-8). -/
def State.ckptWordLost (s : State) (off : Nat) : State :=
  let b := s.brew
  ({ s with brew := { b with ckpt := b.ckpt.modify ((off - caskBase 4) / 32) fun _ => BrewRec.zero, ckptFailed := true } }).brewRec
    0x000 0x006 1

/-- Table 17-8: an uncorrectable word at `off`, in one copy or (`both`) in both copies of a two-copy region. -/
def State.caskLost (s : State) (off : Nat) (both : Bool) : State :=
  let r := caskRegion off
  if r = 1 ∨ r = 2 then s.slotDamaged (r - 1)
  else if r = 3 then
    (if off < caskBase 3 + 983040 then s.firmwareAreaLost
     else ({ s with tuns := { s.tuns with persisted := none } } : State).caskRegionState 3 3)
  else if r = 4 then (s.ckptWordLost off).caskRegionState 4 3
  else if r = 5 then ({ s with cask := { s.cask with training := none } } : State).caskRegionState 5 3
  else if r = 0 then s
  else if both = false then s.caskRegionState r 2
  else if r = 6 then (s.modTrust fun x => { x with attState := 2 }).caskRegionState 6 3
  else if r = 7 then
    ({ (s.modTrust fun x => { x with keys := [] }) with strel := { s.strel with auth := [] } } : State).caskRegionState 7 3
  else ({ s with cask := { s.cask with live := [] } } : State).caskRegionState 8 3

/-- CASK_SCRUB (R433): what the patrol finds in the word at `offset`: 0 clean, 1 corrected, 2 uncorrectable, 3 uncorrectable
in both copies of a two-copy region. -/
def execCaskScrub (t offset result : Nat) (s : State) : Host.Outcome State Fault Refusal :=
  let s := s.land t
  let s := { s with cask := { s.cask with scrub := (offset + 8) % 16777216 } }
  .next (
    if result = 0 then s
    else if result = 1 then (s.count Obj.cskEccCorr).caskRegionState (caskRegion offset) 1
    else ((s.count Obj.cskEccUncorr).caskErr offset).caskLost offset (result == 3))

end Sys2Proof.Machine
end

