-- ==== Sys2Proof/Machine/Sessions.lean ====
section
/-! DEFINITION. Strel messages and sessions (R50 to R58): opening, closing, sequence numbers, notices selected. The requests
that access objects stand in `Requests.lean`. -/
set_option Elab.async false
namespace Sys2Proof.Machine

/-! ### Messages (R50) -/

/-- R50, R288, R297, R452: whether Strel hears a message on the port it arrived on. -/
def State.hears (s : State) (p : Peer) : Bool :=
  s.strel.listening && !s.pwr.held &&
    (p.via == 96 || (decide (p.via < 96) && s.portUp p.via && bit (s.portWord p.via 0) 8 && !s.cellar.safe))

/-- R50: a datagram that is not discarded for its form: MAGIC, VERSION, the bytes that LENGTH promises and, where the
opcode has one, the MAC. A datagram with RESP set is no request (log entry 56). -/
def StrelMsg.formed (m : StrelMsg) (mac : Bool) : Bool :=
  m.magic == 0x5354 && m.version == 1 && m.payload.length == m.length && (!mac || decide (16 ≤ m.mac.length))
    && !bit m.flags 0

/-- Whether the datagram exceeds SET_STREL_MAX_MSG. -/
def State.tooLong (s : State) (m : StrelMsg) : Bool :=
  decide (s.val Obj.setStrelMaxMsg < 16 + m.payload.length + m.mac.length)

/-- R57: an unauthenticated error response. -/
def State.refuse (s : State) (m : StrelMsg) (opcode : Nat) (st : Status) : State :=
  s.strelOut m.peer opcode 1 st.code m.session m.seq [] []

/-- `n` bytes of the on-die random source. -/
def State.random (s : State) (n : Nat) : Bytes := (Config.random s.draws n ++ zeros n).take n

/-! ### Keys and failures (R53, R54) -/

/-- The access key of a role's slot: the keys region of the Cask (R421), or a VENDOR grant (R425). -/
def State.accessKey (s : State) (role slot : Nat) : Option Bytes :=
  let kept := (s.trust.keys.find? fun p => p.1 == 4 * role + slot).map (·.2)
  if role = 3 then
    match s.trust.vendor.find? fun p : Nat × VendorKey => p.1 == slot with
    | some p => some p.2.key
    | none => if s.trust.lifecycle = 1 then kept else none
  else kept

/-- The failures of a role's slot. -/
def State.authSlot (s : State) (role slot : Nat) : AuthSlot :=
  Table.get { fails := [], lockedUntil := none } s.strel.auth (4 * role + slot)

/-- Whether a slot is locked. -/
def State.authLocked (s : State) (role slot : Nat) : Bool :=
  (s.authSlot role slot).lockedUntil.any fun u => decide (s.now < u)

/-- R53, R54, R63: a proof fails: it is counted and recorded, and the fifth within 60 s locks the slot for 60 s. -/
def State.authFailed (s : State) (role slot : Nat) (can : Bool) : State :=
  let args := ofBool can * 65536 + role * 256 + slot
  let s := (s.count Obj.setAuthFails).brewRec 0x008 0x023 args
  let fails := ((s.authSlot role slot).fails.filter fun a => decide (s.now < a + 60 * giga)) ++ [s.now]
  let set (x : AuthSlot) (s : State) : State :=
    { s with strel := { s.strel with
      auth := Table.set { fails := [], lockedUntil := none } s.strel.auth (4 * role + slot) x } }
  if 5 ≤ fails.length then
    (set { fails := [], lockedUntil := some (s.now + 60 * giga) } s).brewRec 0x008 0x024 args
  else set { s.authSlot role slot with fails := fails } s

/-- AUTH_LOCK_EXPIRY (R54): 60 s have passed. -/
def execAuthLockExpiry (t role slot : Nat) (s : State) : Host.Outcome State Fault Refusal :=
  let s := s.land t
  let x := s.authSlot role slot
  .next (
    if x.lockedUntil.any (fun u => decide (u ≤ s.now)) then
      { s with strel := { s.strel with
        auth := Table.set { fails := [], lockedUntil := none } s.strel.auth (4 * role + slot) { x with lockedUntil := none } } }
    else s)

/-! ### Opening (R53) -/

/-- The session IDs in use. -/
def Strel.ids (x : Strel) : List Nat := x.provisional.map (·.id) ++ x.sessions.map (·.id)

/-- A fresh session ID: not 0, and naming no session. -/
def Strel.freshId (x : Strel) (c : Nat) : Nat :=
  (((List.range 24).map fun i => (c + i) % 4294967296).find? fun k => k != 0 && !x.ids.contains k).getD 0

/-- The lowest free row of SET_SESSION_INFO. -/
def Strel.freeRow (x : Strel) : Nat :=
  ((List.range 16).find? fun r => !x.sessions.any fun z => z.row == r).getD 0

/-- What a HELLO breaks of its form (R52, R53), of the device's room, and of the lock (log entry 56). -/
def State.helloRefusal (s : State) (m : StrelMsg) : Option Status :=
  let role := fieldBE m.payload 0 1
  let slot := fieldBE m.payload 1 1
  if s.tooLong m then some .tooLong
  else if m.session ≠ 0 ∨ m.seq ≠ 0 ∨ m.status ≠ 0 ∨ m.payload.length ≠ 36 then some .badFormat
  else if bits m.flags 7 4 ≠ 0 ∨ fieldBE m.payload 2 2 ≠ 0 then some .reserved
  else if 3 < role ∨ 3 < slot then some .range
  else if 16 ≤ s.strel.sessions.length ∨ 4 ≤ s.strel.provisional.length then some .sessionFull
  else if s.authLocked role slot then some .authLocked
  else none

/-- R53: the CHALLENGE. -/
def State.challenge (s : State) (m : StrelMsg) : State :=
  let id := s.strel.freshId (Config.sessionId s.draws)
  let s := s.drawn
  let dn := s.random 32
  let p : Provisional :=
    { id := id, role := (Role.ofCode (fieldBE m.payload 0 1)).getD .viewer, slot := fieldBE m.payload 1 1, cn := slice m.payload 4 32,
      dn := dn, peer := m.peer, deadline := s.now + 5 * giga }
  let s : State := { s.drawn with strel := { s.strel with provisional := s.strel.provisional ++ [p] } }
  s.strelOut m.peer 0x02 1 0 id 0 (dn ++ bytesBE 4 Config.serial) []

/-- HELLO (R53). -/
def execHello (t : Nat) (m : StrelMsg) (s : State) : Host.Outcome State Fault Refusal :=
  let s := s.land t
  .next (
    if s.hears m.peer = false ∨ m.formed false = false then s
    else
      match s.helloRefusal m with
      | some st => s.refuse m 0x01 st
      | none => s.challenge m)

/-- SESSION ‖ ROLE ‖ SLOT of R53 and R55. -/
def Provisional.tag (p : Provisional) : Bytes := bytesBE 4 p.id ++ bytesBE 1 p.role.code ++ bytesBE 1 p.slot

/-- R53: the proof a client of key `k` sends. -/
def Provisional.proof (p : Provisional) (k : Bytes) : Bytes := hmac384 k (ascii "STREL-PROOF" ++ p.tag ++ p.cn ++ p.dn)

/-- R55: the session that a proof under `k` opens. -/
def Provisional.opened (p : Provisional) (k : Bytes) (row now : Nat) : Session :=
  let salt := p.cn ++ p.dn
  { id := p.id, row := row, role := p.role, slot := p.slot, peer := p.peer, lastSeq := 0, kept := none,
    keys := hkdf384 salt k (ascii "STREL-KEYS" ++ p.tag) 96, ks := k, salt := salt, idleDeadline := now + 60 * giga,
    classes := 0, noticeSeq := 0, rowSelect := [], transfer := none, attNonce := none, attReport := [], heldW0 := [],
    heldUntil := [] }

/-- R58, class [2]: a session opens or closes. The body is not given: session ID and 1 or 0 (log entry 57). -/
def State.sessionNotice (s : State) (id opened : Nat) : State :=
  (s.brewRec 0x008 0x022 (opened * 2 ^ 32 + id)).notice 2 (bytesBE 4 id ++ bytesBE 1 opened)

/-- The provisional session of an ID is discarded. -/
def State.forget (s : State) (id : Nat) : State :=
  { s with strel := { s.strel with provisional := s.strel.provisional.filter fun p => p.id != id } }

/-- R53: GRANTED. -/
def State.grant (s : State) (p : Provisional) (k : Bytes) (seq : Nat) : State :=
  let z := p.opened k s.strel.freeRow s.now
  let s : State := { s with strel := { s.strel with sessions := s.strel.sessions ++ [z] } }
  (s.strelSend z 0x04 1 0 seq (bytesBE 2 (s.val Obj.setIdleTimeout) ++ bytesBE 2 (s.val Obj.setStrelMaxMsg) ++ zeros 4)).sessionNotice
    z.id 1

/-- R53: a PROOF for a provisional session. A right proof that arrives while 16 sessions are open is refused with SESSION_FULL,
as its HELLO would be: R53 names that status for the HELLO only (DESIGN CHOICE; log entry 79). -/
def State.prove (s : State) (m : StrelMsg) (p : Provisional) : State :=
  let s := s.forget p.id
  match s.accessKey p.role.code p.slot with
  | some k =>
    if m.payload ≠ p.proof k then (s.authFailed p.role.code p.slot false).refuse m 0x03 .authFail
    else if 16 ≤ s.strel.sessions.length then s.refuse m 0x03 .sessionFull
    else s.grant p k m.seq
  | none => (s.authFailed p.role.code p.slot false).refuse m 0x03 .authFail

/-- PROOF (R53). -/
def execProof (t : Nat) (m : StrelMsg) (s : State) : Host.Outcome State Fault Refusal :=
  let s := s.land t
  .next (
    if s.hears m.peer = false ∨ m.formed false = false then s
    else
      match s.strel.provisional.find? fun p => p.id == m.session && decide (s.now ≤ p.deadline) with
      | none => s.refuse m 0x03 .noSession
      | some p =>
        if p.peer.same m.peer = false then s else if s.tooLong m then s.refuse m 0x03 .tooLong else s.prove m p)

/-- PROOF_TIMEOUT (R53): 5 s without a PROOF. -/
def execProofTimeout (t id : Nat) (s : State) : Host.Outcome State Fault Refusal :=
  let s := s.land t
  .next (if s.strel.provisional.any (fun p => p.id == id && decide (p.deadline ≤ s.now)) then s.forget id else s)

/-! ### Closing (R57) -/

/-- A session closes: its transfer and held words go with it. The device sends no CLOSE of its own: R57 counts a CLOSE "from
either side" among the closings, and says nowhere when the device would send one (DESIGN CHOICE; log entry 79). -/
def State.closeSession (s : State) (id : Nat) : State :=
  if (s.session id).isNone then s
  else
    ({ s with strel := { s.strel with sessions := s.strel.sessions.filter fun z => z.id != id } } : State).sessionNotice id 0

/-- Every session closes. -/
def State.closeAll (s : State) : State := (s.strel.sessions.map (·.id)).foldl State.closeSession s

/-- SESSION_IDLE_TIMEOUT (R57): 60 s without an executed or repeated request. -/
def execSessionIdleTimeout (t id : Nat) (s : State) : Host.Outcome State Fault Refusal :=
  let s := s.land t
  .next (if (s.session id).any (fun z => decide (z.idleDeadline ≤ s.now)) then s.closeSession id else s)

/-- SET_SESSION_KILL (R57); an ID that names no session is out of range (log entry 56). -/
def setSessionKill (v : Nat) (s : State) : Effect :=
  if (s.session v).isNone then (s, .range) else (s.closeSession v, .ok)

/-- SET_SESSION_KILL. -/
def execSetSessionKill (t : Nat) (who : Path) (v : Nat) (s : State) : Host.Outcome State Fault Refusal :=
  objectCommand t who Obj.setSessionKill 0 (.num v) (setSessionKill v) s

/-- SET_STREL_PORT (R57): the port changes with the next line boundary; every session closes with the write. -/
def setStrelPort (v : Nat) (s : State) : Effect := (s.closeAll.stage Obj.setStrelPort 0 (.num v), .ok)

/-- SET_STREL_PORT. -/
def execSetStrelPort (t : Nat) (who : Path) (v : Nat) (s : State) : Host.Outcome State Fault Refusal :=
  objectCommand t who Obj.setStrelPort 0 (.num v) (setStrelPort v) s

/-- SET_SESSION_INFO (Table 2-9): a row without a session reads as zeros. -/
def State.sessionInfo (s : State) (row : Nat) : Bytes :=
  match s.strel.sessions.find? fun z => z.row == row with
  | none => zeros 32
  | some z =>
    bytesBE 4 z.id ++ bytesBE 1 z.role.code ++ bytesBE 1 z.slot ++ bytesBE 2 ((z.idleDeadline - s.now) / giga)
      ++ bytesBE 16 z.peer.addr ++ bytesBE 2 z.peer.port ++ zeros 6

/-! ### Requests (R51, R55, R56) -/

/-- What a request answers: the device, the status, whether LAST is set, and the payload. -/
structure StrelReply where
  s : State
  status : Status
  last : Bool
  payload : Bytes

/-- A reply with no payload. -/
def replyStatus (s : State) (st : Status) : StrelReply := { s := s, status := st, last := false, payload := [] }

/-- R55: whether the MAC of a message is right for a session. -/
def Session.macOk (z : Session) (opcode : Nat) (m : StrelMsg) : Bool :=
  m.mac.take 16 == strelMac z.inKey (strelHeader opcode m.flags m.status m.length m.session m.seq) m.payload

/-- The largest SEQ. -/
def seqMax : Nat := 4294967295

/-- R56: whether a request is executed: SEQ = E + 1, or a CLOSE once E has reached its end. -/
def Session.executes (z : Session) (opcode seq : Nat) : Bool :=
  (decide (z.lastSeq < seqMax) && seq == z.lastSeq + 1) || (z.lastSeq == seqMax && opcode == 0x05)

/-- Whether a status is one of steps 1 to 4 of R454, which no form of the data precedes. -/
def Status.early : Status → Bool
  | .noObject | .noSubindex | .access | .role | .row => true
  | _ => false

/-- Whether a status is one of step 5 of R454. -/
def Status.ofForm : Status → Bool
  | .length | .tooLong | .badFormat => true
  | _ => false

/-- R454: the reply to a request, whose own run answers `r`: steps 1 to 4, then the form (a datagram longer than
SET_STREL_MAX_MSG by R50, a STATUS that is not 0), then a reserved flag of the header. Nothing is done to any object where one of
these refuses. -/
def State.headed (s : State) (m : StrelMsg) (r : StrelReply) : StrelReply :=
  if r.status.early then r
  else if s.tooLong m then replyStatus s .tooLong
  else if m.status ≠ 0 then replyStatus s .badFormat
  else if r.status.ofForm then r
  else if bits m.flags 7 4 ≠ 0 then replyStatus s .reserved
  else r

/-- R51, R56: a request runs; its response is kept and sent, and the idle time starts again. -/
def State.runRequest (s : State) (z : Session) (opcode : Nat) (m : StrelMsg) (run : Session → State → StrelReply) : State :=
  let r := s.headed m (run z s)
  let flags := 1 + (if r.last then 4 else 0)
  let z' : Session := (r.s.session z.id).getD z
  let z' : Session := { z' with lastSeq := m.seq, kept := some (opcode, flags, r.status.code, r.payload),
                                idleDeadline := r.s.now + 60 * giga }
  (r.s.setSession z').strelSend z' opcode flags r.status.code m.seq r.payload

/-- A message of opcode `opcode` that names a session (R50, R55 to R57, R454). A SEQ of 0 right after GRANTED is E with no kept
response: the model answers BAD_SEQ (DESIGN CHOICE; log entry 79). -/
def sessionRequest (t opcode : Nat) (m : StrelMsg) (run : Session → State → StrelReply) (s : State) :
    Host.Outcome State Fault Refusal :=
  let s := s.land t
  .next (
    if s.hears m.peer = false ∨ m.formed true = false then s
    else
      match s.session m.session with
      | none => s.refuse m opcode .noSession
      | some z =>
        if z.peer.same m.peer = false then s
        else if z.macOk opcode m = false then s.count Obj.setAuthFails
        else if z.executes opcode m.seq then (s.setSession { z with peer := m.peer }).runRequest { z with peer := m.peer } opcode m run
        else
          let z := { z with peer := m.peer }
          match z.kept with
          | some k =>
            if m.seq = z.lastSeq then
              let z' := { z with idleDeadline := s.now + 60 * giga }
              (s.setSession z').strelSend z' k.1 k.2.1 k.2.2.1 m.seq k.2.2.2
            else s.strelSend z opcode 1 Status.badSeq.code m.seq (bytesBE 4 (add32 z.lastSeq 1))
          | none => s.strelSend z opcode 1 Status.badSeq.code m.seq (bytesBE 4 (add32 z.lastSeq 1)))

/-- A request without a payload. -/
def emptyRequest (m : StrelMsg) (s : State) : StrelReply := replyStatus s (if m.payload.isEmpty then .ok else .badFormat)

/-- PING (R57). -/
def execPing (t : Nat) (m : StrelMsg) (s : State) : Host.Outcome State Fault Refusal :=
  sessionRequest t 0x06 m (fun _ s => emptyRequest m s) s

/-- R57: a CLOSE that was executed closes the session, once its response has left. -/
def State.closeIfAsked (s : State) (id : Nat) : State :=
  if (s.session id).any (fun z => z.kept == some (0x05, 1, 0, [])) then s.closeSession id else s

/-- CLOSE (R57). -/
def execClose (t : Nat) (m : StrelMsg) (s : State) : Host.Outcome State Fault Refusal :=
  match sessionRequest t 0x05 m (fun _ s => emptyRequest m s) s with
  | .next s => .next (s.closeIfAsked m.session)
  | o => o

/-- SUBSCRIBE (R58). -/
def subscribe (m : StrelMsg) (z : Session) (s : State) : StrelReply :=
  let c := fieldBE m.payload 0 4
  if m.payload.length ≠ 4 then replyStatus s .badFormat
  else if bits c 31 3 ≠ 0 then replyStatus s .reserved
  else replyStatus (s.setSession { z with classes := c }) .ok

/-- SUBSCRIBE. -/
def execSubscribe (t : Nat) (m : StrelMsg) (s : State) : Host.Outcome State Fault Refusal :=
  sessionRequest t 0x20 m (subscribe m) s

end Sys2Proof.Machine
end

