-- ==== Sys2Proof/Machine/CanPath.lean ====
section
/-! DEFINITION. The CAN path (R59 to R63): NMT, heartbeats, the unlock of a role. USDO transfers stand in `Requests.lean`. -/
set_option Elab.async false
namespace Sys2Proof.Machine

/-- NMT state codes in a heartbeat (CiA 301). -/
def NmtState.code : NmtState → Nat
  | .disabled => 0 | .preOperational => 0x7F | .operational => 0x05 | .stopped => 0x04

/-- R61: an NMT command; a node-ID of 0 leaves the CAN path disabled (R59). The boot-up message goes with every entry to
PRE-OPERATIONAL. -/
def State.nmt (s : State) (new : NmtState) : State :=
  if s.can.nmt = .disabled ∨ s.can.nmt = new then s
  else
    let s : State := { s with can := { s.can with nmt := new } }
    if new = .preOperational then s.send .canBootUp else s

/-- NMT_START. -/
def execNmtStart (t : Nat) (s : State) : Host.Outcome State Fault Refusal := .next ((s.land t).nmt .operational)

/-- NMT_STOP. -/
def execNmtStop (t : Nat) (s : State) : Host.Outcome State Fault Refusal := .next ((s.land t).nmt .stopped)

/-- NMT_ENTER_PRE_OPERATIONAL. -/
def execNmtEnterPreOperational (t : Nat) (s : State) : Host.Outcome State Fault Refusal :=
  .next ((s.land t).nmt .preOperational)

/-- R61: the communication objects 0x1015 and 0x1017 return to their defaults; role VIEWER; no ROW_SELECT values; the data rate
written last comes into force (Table 2-10); PRE-OPERATIONAL is entered anew. -/
def State.resetCommunication (s : State) : State :=
  if s.can.nmt = .disabled then s
  else
    let s := (s.putValue Obj.inhibitTimeEmcy 0 (rowDefault Obj.inhibitTimeEmcy 0)).putValue Obj.heartbeatTime 0 (rowDefault Obj.heartbeatTime 0)
    let s : State := { s with
      staged := Table.erase (Table.erase s.staged (Obj.inhibitTimeEmcy.key 0)) (Obj.heartbeatTime.key 0),
      can := { s.can with nmt := .preOperational, role := .viewer, rowSelect := [], lastEmcy := none,
                          lastHeartbeat := s.now, dataRate := (s.written Obj.setCanDataRate 0).toNat } }
    s.send .canBootUp

/-- NMT_RESET_COMMUNICATION. -/
def execNmtResetCommunication (t : Nat) (s : State) : Host.Outcome State Fault Refusal := .next (s.land t).resetCommunication

/-- NMT_RESET_NODE: as reset communication. -/
def execNmtResetNode (t : Nat) (s : State) : Host.Outcome State Fault Refusal := .next (s.land t).resetCommunication

/-- CAN_HEARTBEAT (R60, R61): each 0x1017 milliseconds; 0 disables. -/
def execCanHeartbeat (t : Nat) (s : State) : Host.Outcome State Fault Refusal :=
  let s := s.land t
  let ms := s.val Obj.heartbeatTime
  .next (
    if s.can.nmt = .disabled ∨ ms = 0 ∨ s.now < s.can.lastHeartbeat + 1000000 * ms then s
    else ({ s with can := { s.can with lastHeartbeat := s.now } } : State).send (.canHeartbeat s.can.nmt.code))

/-! ### Unlocking (R63) -/

/-- A read of SET_CAN_NONCE: a fresh nonce, which voids the previous one. -/
def State.readCanNonce (s : State) : State × Except Status Bytes :=
  let n := s.random 32
  ({ s.drawn with can := { s.can with nonce := some (n, s.now + 5 * giga) } }, .ok n)

/-- SET_CAN_NONCE. -/
def execSetCanNonce (t : Nat) (who : Path) (s : State) : Host.Outcome State Fault Refusal :=
  let s := (s.land t).accessed who
  match s.accessRefusal who Obj.setCanNonce 0 false with
  | some st => .next (s.send (.answer who st []))
  | none =>
    let r := s.readCanNonce
    .next (match r.2 with
      | .error st => r.1.send (.answer who st [])
      | .ok b => r.1.send (.answer who .ok b))

/-- CAN_NONCE_EXPIRY: 5 s without use. -/
def execCanNonceExpiry (t : Nat) (s : State) : Host.Outcome State Fault Refusal :=
  let s := s.land t
  .next (if s.can.nonce.any (fun p => decide (p.2 ≤ s.now)) then { s with can := { s.can with nonce := none } } else s)

/-- R63: the proof a node with key `k` sends. -/
def canProof (k : Bytes) (node role slot : Nat) (dn cn : Bytes) : Bytes :=
  hmac384 k (ascii "CAN-UNLOCK" ++ bytesBE 1 node ++ bytesBE 1 role ++ bytesBE 1 slot ++ dn ++ cn)

/-- R63: whether a proof opens a role: a nonce not yet 5 s old, a key in the slot, the proof right, the role permitted. -/
def State.canUnlocks (s : State) (role slot : Nat) (cn p : Bytes) : Bool :=
  match s.can.nonce, s.accessKey role slot with
  | some (dn, until_), some k =>
    decide (s.now ≤ until_) && p == canProof k s.pwr.nodeId role slot dn cn && decide (role ≤ s.val Obj.setCanMaxRole)
      && decide (role ≤ 2)
  | _, _ => false

/-- SET_CAN_PROOF (R63). The nonce is used with it. A ROLE or SLOT above 3 names no key slot: RANGE, and nothing counts towards
R54, where R63 says only that a failed proof does (DESIGN CHOICE; log entry 79). -/
def setCanProof (data : Bytes) (s : State) : Effect :=
  let role := fieldBE data 0 1
  let slot := fieldBE data 1 1
  if fieldBE data 2 2 ≠ 0 then (s, .reserved)
  else if 3 < role ∨ 3 < slot then (s, .range)
  else if s.authLocked role slot then (s, .authLocked)
  else
    let good := s.canUnlocks role slot (slice data 4 32) (slice data 36 48)
    let s : State := { s with can := { s.can with nonce := none } }
    if good then ({ s with can := { s.can with role := (Role.ofCode role).getD .viewer } }, .ok)
    else (s.authFailed role slot true, .authFail)

/-- SET_CAN_PROOF. -/
def execSetCanProof (t : Nat) (who : Path) (data : Bytes) (s : State) : Host.Outcome State Fault Refusal :=
  objectCommand t who Obj.setCanProof 0 (.bytes data) (setCanProof data) s

/-- The CAN role returns to VIEWER. -/
def State.lockCan (s : State) : State := { s with can := { s.can with role := .viewer } }

/-- SET_CAN_LOCK. -/
def setCanLock (s : State) : Effect := (s.lockCan, .ok)

/-- A write of SET_CAN_LOCK. -/
def execSetCanLock (t : Nat) (who : Path) (v : Nat) (s : State) : Host.Outcome State Fault Refusal :=
  objectCommand t who Obj.setCanLock 0 (.num v) setCanLock s

/-- CAN_ROLE_TIMEOUT (R63): 60 s without a USDO request. -/
def execCanRoleTimeout (t : Nat) (s : State) : Host.Outcome State Fault Refusal :=
  let s := s.land t
  .next (if s.can.lastRequest + 60 * giga ≤ s.now then s.lockCan else s)

end Sys2Proof.Machine
end

