-- ==== Sys2Proof/Machine/TimeStep.lean ====
section
/-! DEFINITION. Time steps and gaps of the raster (R76, R78, R79). -/
set_option Elab.async false
namespace Sys2Proof.Machine

/-- R78: the gap a step to device time `at_` opens, until the next aligned boundary; the raster reads the last line of the
frame before `frame`. -/
def Raster.stepGap (r : Raster) (at_ frame : Nat) : Gap :=
  { reads := { frame := sub32 frame 1, line := r.lt - 1 }, fromNs := at_, untilNs := r.lineStart (r.index at_ + 1) 0, next := r }

/-- The raster that a gap ended. -/
def Gap.past (g : Gap) (r : Raster) : PastRaster :=
  { raster := r, reads := g.reads, fromNs := g.fromNs, untilNs := g.untilNs, frame := g.next.fk }

/-- R79: a rack whose frame the step carried into the past ends LATE; one whose swap line alone it carried there swaps at the
end of the gap. `first` is the first frame after the gap, `old` the canvas time the step found. -/
def State.rackStepped (s : State) (first : Nat) (old : CTime) : State :=
  let r := s.sets.rack
  if r.state ≠ .agreeing ∧ r.state ≠ .scheduled then s
  else if frameEarlier r.frame first then ((s.unpropose 1 0).endRack .late).moveGroups
  else if r.state = .scheduled ∧ r.frame = first ∧ CTime.earlier old (s.swapLine r.frame) then
    s.changeRack fun x => { x with swapAtGap := true }
  else s

/-- TIME_STEP (R78, R79): the step planned by R77 is applied at line 0 of the next frame. -/
def execTimeStep (t : Nat) (s : State) : Host.Outcome State Fault Refusal :=
  let s := s.land t
  .next (
    match s.tbs.stepPending with
    | none => s
    | some (d, n) =>
      let r := s.tbs.raster
      if s.tbs.gap.isSome ∨ r.index s.deviceTime ≤ n then s
      else
        let old := s.ctime
        let s := s.jump d
        let new := r.ctime s.deviceTime
        let g := r.stepGap s.deviceTime old.frame
        let s := { s with tbs := { s.tbs with gap := some g, stepPending := none } }
        let s := ((s.noteStep d).calSweep old new).rackStepped (add32 new.frame 1) old
        s.restartPacers)

/-- RASTER_GAP_END (R76, R79, R83): the raster runs again, from the anchor of the gap; instants that the gap carried into the past
are missed. -/
def execRasterGapEnd (t : Nat) (s : State) : Host.Outcome State Fault Refusal :=
  let s := s.land t
  .next (
    match s.tbs.gap with
    | none => s
    | some g =>
      if s.deviceTime < g.untilNs then s
      else
        let plan := s.tbs.stepPending.map fun p => (p.1, g.next.nk - 1)
        let moved := g.next != s.tbs.raster
        let s := { s with tbs := { s.tbs with raster := g.next, gap := none, stepPending := if moved then plan else s.tbs.stepPending,
                                              prior := if moved then s.tbs.prior ++ [g.past s.tbs.raster] else s.tbs.prior } }
        let s := s.calSweep g.place s.ctime
        let s : State := if moved then s.restartPacers else s
        let r : Rack := s.sets.rack
        let s : State := if r.state = .scheduled ∧ r.swapAtGap then
            (s.swapSets r.frame s.rackTwin).reanchor s.sets.green r.frame
          else s
        s.fallbacksReady s.readyFallbacks)

end Sys2Proof.Machine
end

