-- ==== Sys2Proof/Machine/Twin.lean ====
section
/-! DEFINITION. The Twin function: the link (R237, R238), pair conditions (R243), presence and solo (R247, R248), rejoining
(R245), proposals and answers (R246), start-up and joining (R249). -/
set_option Elab.async false
namespace Sys2Proof.Machine

/-! ### Frames -/

/-- R237, R238: a frame of TYPE `ty` passes the receiver's checks, and is the first copy of its SEQ. Only a HEARTBEAT replaces the known
EPOCH. -/
def State.twinAccept (s : State) (ty : Nat) (m : TwinMsg) : Option State :=
  let known := s.twn.theirEpoch == some m.epoch
  let copy := s.twn.otherSeq.any fun q => q.1 == m.epoch && decide (m.seq ≤ q.2)
  if s.cellar.safe ∨ m.magic ≠ 0x5457 ∨ m.version ≠ 1 ∨ twinMac s.twinKey ty m ≠ m.mac ∨ (known ∧ m.seq ≤ s.twn.theirSeq) ∨ copy then none
  else
    let s := s.modTwin fun x => { x with lastValid := s.now, theirMac := m.peer }
    some (
      if known then s.modTwin fun x => { x with theirSeq := m.seq }
      else if ty = 1 then s.modTwin fun x => { x with theirEpoch := some m.epoch, theirSeq := m.seq, otherSeq := none }
      else s.modTwin fun x => { x with otherSeq := some (m.epoch, m.seq) })

/-- A received frame of a type: the checks of R238, then its effect where its body has the stated length. -/
def twinFrame (t ty : Nat) (m : TwinMsg) (ok : Bool) (f : State → State) (s : State) : Host.Outcome State Fault Refusal :=
  let s := s.land t
  .next (
    match s.twinAccept ty m with
    | none => s
    | some s => if ok then f s else s)

/-- R237, R249: a HEARTBEAT's body. -/
def State.heartBody (s : State) : Bytes :=
  bytesBE 8 s.coding.lastN ++ s.sets.bright.digest.take 16 ++ bytesBE 4 (s.bankNamed s.tuns.inUse).patchId
    ++ bytesBE 1 s.dsp.effort ++ bytesBE 1 s.tbs.state.code ++ bytesBE 1 (ofBool s.tbs.canvasLock + 2 * ofBool s.twn.okIn)
    ++ zeros 1 ++ s.stillsDigest

/-- HEARTBEAT_TX (R237): every 10 µs from PAIRING on. -/
def execHeartbeatTx (t : Nat) (s : State) : Host.Outcome State Fault Refusal :=
  let s := s.land t
  .next (
    if s.twn.state ≠ .off ∧ s.twn.lastHeartbeat + 10000 ≤ s.now then
      (s.modTwin fun x => { x with lastHeartbeat := s.now }).twinSend 1 s.heartBody
    else s)

/-! ### Presence -/

/-- R247, Table 10-7: the row that link and TWIN_OK_IN give. -/
def State.presence (s : State) : Nat :=
  if s.twn.linkUp then (if s.twn.okIn then 1 else 2) else if s.twn.okIn then 4 else 3

/-- R248, R250: the device enters SOLO: every change it waits to agree takes effect alone (R246), no segment waits for a
record (R240). -/
def State.enterSolo (s : State) : State :=
  let s := s.modTwin fun x => { x with state := .solo, cause := 0, manual := false, rejoin := none, proposals := [] }
  let s := { s with asm := { s.asm with accepted := s.asm.accepted.map fun (a : AccSeg) => { a with released := true, holdUntil := none } } }
  let s := if s.sets.rack.state = .agreeing then s.rackScheduled else s
  let s := { s with dsp := { s.dsp with effortPending := s.dsp.effortPending.map fun (x : EffortChange) => { x with agreed := true } } }
  let s := { s with rake := { s.rake with nudges := Table.mapRows Nudge.idle s.rake.nudges fun _ (n : Nudge) =>
    if n.state = NudgeState.scheduled ∨ n.state = NudgeState.queued then { n with agreed := true } else n } }
  { s with tuns := { s.tuns with switch := s.tuns.switch.map fun (w : PatchSwitch) => { w with agreed := true } } }.assemble

/-- Table 10-7, Table 10-8: what the device does in a row. -/
def State.presenceAct (s : State) (row : Nat) : State :=
  if s.twn.state = .paired then
    if row = 3 then s.enterSolo
    else if row = 4 then (if s.twn.role = 0 then s.enterSolo else s.silence 3 0 s.ctime.frame 0 0)
    else s
  else if s.twn.state = .silenced ∧ row = 3 ∧ s.val Obj.twnTakeover = 1 then s.enterSolo
  else s

/-- R247: a conclusion is drawn, and recorded when it changes. -/
def State.conclude (s : State) : State :=
  if s.twn.state = .off then s
  else
    let row := s.presence
    let s := if row = s.twn.conclusion then s
      else (s.modTwin fun x => { x with conclusion := row }).brewRec 0x3C0 0x072 row
    s.presenceAct row

/-- TWIN_OK_IN_CHANGE (R247): the level of TWIN_OK_IN after its 20 µs filter. -/
def execTwinOkInChange (t : Nat) (high : Bool) (s : State) : Host.Outcome State Fault Refusal :=
  let s := s.land t
  .next (s.modTwin fun x => { x with okIn := high }).conclude

/-- R237: the link is down, its report apart: what was heard over it ends, and a conclusion is drawn. -/
def State.linkLost (s : State) : State :=
  ((s.modTwin fun x =>
    { x with linkUp := false, validRun := 0, heart := none, pairGoodFrom := none, pairFails := [], rejoin := none,
             partnerRejoin := none, synced := false, syncReqAt := none }).count Obj.twnLinkLosses).conclude

/-- TWIN_LINK_DOWN (R237, R251): 5 intervals without a valid frame. -/
def execTwinLinkDown (t : Nat) (s : State) : Host.Outcome State Fault Refusal :=
  let s := s.land t
  .next (
    if s.twn.linkUp ∧ s.twn.lastValid + 50000 ≤ s.now then
      (s.report 0x3C0 .timeout 0 0).linkLost
    else s)

/-! ### Heartbeats received -/

/-- Table 10-3: what a HEARTBEAT says. -/
def TwinMsg.heart (m : TwinMsg) : Heart :=
  let b := m.body
  { state := m.state, role := bits m.role 0 0, frame := m.frame, picN := fieldBE b 0 8, bright := slice b 8 16,
    patchId := fieldBE b 24 4, effort := fieldBE b 28 1, tbs := fieldBE b 29 1, flags := fieldBE b 30 1, stills := slice b 32 8 }

/-- R243: the pair conditions a HEARTBEAT fails. -/
def State.pairFailures (s : State) (h : Heart) : List Nat :=
  let f := s.ctime.frame
  [(1, h.bright != s.sets.bright.digest.take 16), (2, h.patchId != (s.bankNamed s.tuns.inUse).patchId),
   (3, h.stills != s.stillsDigest), (4, h.effort != s.dsp.effort), (5, h.frame != f && h.frame != sub32 f 1)].filterMap
    fun p : Nat × Bool => if p.2 then some p.1 else none

/-- R243: whether the rule silences this device. -/
def State.pairLoses (s : State) (h : Heart) : Bool :=
  let own := s.tbs.state == .locked
  let theirs := h.tbs == TbsState.locked.code
  if own != theirs then theirs else s.twn.role == 1

/-- R243, R251: a condition has failed on 100 heartbeats in a row. -/
def State.pairFailed (s : State) (h : Heart) (c : Nat) : State :=
  let s := (s.put Obj.twnPairFail 0 c).report 0x3C0 .digestMismatch 0 (8 * 4096 + c)
  if s.twn.state = .paired ∧ s.pairLoses h then s.silence 2 0 s.ctime.frame 0 0 else s

/-- R243: the checks on one HEARTBEAT. -/
def State.pairCheck (s : State) (h : Heart) : State :=
  let bad := s.pairFailures h
  let fails : Table Nat := bad.foldl (fun t c => Table.set 0 t c (Table.get 0 s.twn.pairFails c + 1)) []
  let s := s.modTwin fun x =>
    { x with pairFails := fails, pairGoodFrom := if bad.isEmpty then some (x.pairGoodFrom.getD s.now) else none }
  bad.foldl (fun s c => if Table.get 0 fails c = 100 then s.pairFailed h c else s) s

/-- R249: sends SYNC_REQ. -/
def State.syncRequest (s : State) : State :=
  (s.modTwin fun x => { x with syncReqAt := some s.now, sync := none, syncEntries := [], syncNext := 0, syncComplete := false }).twinSend
    7 (zeros 8)

/-- R245: a device that needs a SYNC before its run counts. -/
def State.wantsSync (s : State) : Bool :=
  s.twn.state == .joining || (s.twn.state == .silenced && (s.twn.cause == 3 || s.twn.cause == 4) && !s.twn.synced)

/-- R234, R237, R248: what follows from a HEARTBEAT beside the pair conditions. A run of heartbeats ends where an interval
of 10 µs passes without a frame (DEDUCED; log entry 49). -/
def State.heartBeat (s : State) (h : Heart) (last : Nat) : State :=
  let run := if s.twn.validRun = 0 ∨ last + 20000 ≤ s.now then 1 else s.twn.validRun + 1
  let up := s.twn.linkUp || decide (16 ≤ run)
  let s := s.modTwin fun x => { x with
    heart := some h, validRun := min run 16, linkUp := up,
    role := if h.role = x.role then ofBool (decide (Config.partnerSerial < Config.serial)) else x.role }
  let s := s.conclude
  let s := if up ∧ s.twn.state = .solo ∧ h.state = 5 ∧ s.twn.role = 1 then s.silence 3 0 s.ctime.frame 0 0 else s
  if up ∧ s.wantsSync ∧ s.twn.syncReqAt.isNone then s.syncRequest else s

/-- HEARTBEAT (R237, R243). -/
def execHeartbeat (t : Nat) (m : TwinMsg) (s : State) : Host.Outcome State Fault Refusal :=
  let last := s.twn.lastValid
  twinFrame t 1 m (m.body.length == 40) (fun s =>
    let h := m.heart
    (s.heartBeat h last).pairCheck h) s

/-! ### Digests -/

/-- DIGESTS (R239): up to 48 records of the partner; segments that agreement releases go to their packets (R210). -/
def execDigests (t : Nat) (m : TwinMsg) (s : State) : Host.Outcome State Fault Refusal :=
  let n := fieldBE m.body 0 2
  twinFrame t 2 m (decide (1 ≤ n) && decide (n ≤ 48) && m.body.length == 4 + 28 * n) (fun s =>
    if s.exchanges = false then s
    else ((List.range n).foldl (fun s i =>
      let r := { DigestRec.ofBytes (slice m.body (4 + 28 * i) 28) with emitted := m.state == 3 || m.state == 5 }
      (s.modTwin fun x => { x with theirs := x.theirs.filter (fun q => !q.same r) ++ [r] }).pairRecord r) s).assemble) s

/-- DIGEST_MISSING (R239): ⟨F+2:0⟩ is reached; records of frame F without a partner's are missing. -/
def execDigestMissing (t frame : Nat) (s : State) : Host.Outcome State Fault Refusal :=
  let s := s.land t
  .next (
    if s.reached { frame := add32 frame 2, line := 0 } then
      let lost := s.twn.own.filter fun r => r.frame == frame
      let s := s.modTwin fun x => { x with own := x.own.filter (fun r => r.frame != frame),
                                           theirs := x.theirs.filter fun r => r.frame != frame }
      if lost.isEmpty then s else (s.count Obj.twnMissing 0 lost.length).runBroken frame
    else s)

/-! ### Agreement -/

/-- Table 10-3: the proposal a PROPOSE carries. -/
def TwinMsg.proposal (m : TwinMsg) : Proposal :=
  let b := m.body
  { epoch := m.epoch, pid := fieldBE b 0 4, kind := fieldBE b 4 1, subj := fieldBE b 6 2, f := fieldBE b 8 4, arg := fieldBE b 12 4,
    digest := slice b 16 48, stills := slice b 64 8, sentAt := 0 }

/-- PROPOSE (R246). -/
def execPropose (t : Nat) (m : TwinMsg) (s : State) : Host.Outcome State Fault Refusal :=
  twinFrame t 3 m (m.body.length == 72) (fun s => s.proposed m.proposal) s

/-- Table 10-3: the answer an ANSWER carries. -/
def TwinMsg.answer (m : TwinMsg) : Answer :=
  let b := m.body
  { epoch := m.epoch, pid := fieldBE b 0 4, kind := fieldBE b 4 1, verdict := fieldBE b 5 1, reason := fieldBE b 6 1, f := fieldBE b 8 4, arg := fieldBE b 12 4 }

/-- ANSWER (R246). -/
def execAnswer (t : Nat) (m : TwinMsg) (s : State) : Host.Outcome State Fault Refusal :=
  twinFrame t 4 m (m.body.length == 16) (fun s => s.answered m.answer) s

/-- PROPOSE_REPEAT (R246): open proposals are repeated every 100 µs until ⟨F−2:0⟩. -/
def execProposeRepeat (t : Nat) (s : State) : Host.Outcome State Fault Refusal :=
  let s := s.land t
  let due := s.twn.proposals.filter fun p => decide (p.sentAt + 100000 ≤ s.now) && !s.agreeClosed p.f
  .next (due.foldl (fun s p =>
    (s.modTwin fun x => { x with proposals := x.proposals.map fun (q : Proposal) => if q.pid = p.pid then { q with sentAt := s.now } else q }).twinSend
      3 p.body) s)

/-! ### Silence and rejoin -/

/-- SILENCE (R244): the partner has fallen silent. -/
def execSilence (t : Nat) (m : TwinMsg) (s : State) : Host.Outcome State Fault Refusal :=
  twinFrame t 5 m (m.body.length == 12) (fun s =>
    s.modTwin fun x => { x with heart := x.heart.map fun (h : Heart) => { h with state := 4 } }) s

/-- TWN_SILENCE written with 1 (R244): a device in PAIRED is silenced, one that is silenced already is held so. Table 10-8 gives the other
states no row for it (DEDUCED: nothing changes there; log entry 91). -/
def silenceSet (s : State) : Effect :=
  if s.twn.state = .paired then (s.silence 6 0 s.ctime.frame 0 0, .ok)
  else if s.twn.state = .silenced then (s.modTwin fun x => { x with manual := true, rejoin := none }, .ok)
  else (s, .ok)

/-- TWN_SILENCE_SET (R244). -/
def execTwnSilenceSet (t : Nat) (who : Path) (s : State) : Host.Outcome State Fault Refusal :=
  objectCommand t who Obj.twnSilence 0 (.num 1) silenceSet s

/-- TWN_SILENCE written with 0 (R245): the cause MANUAL no longer holds the device. -/
def silenceClear (s : State) : Effect := (s.modTwin fun x => { x with manual := false }, .ok)

/-- TWN_SILENCE_CLEAR (R245). -/
def execTwnSilenceClear (t : Nat) (who : Path) (s : State) : Host.Outcome State Fault Refusal :=
  objectCommand t who Obj.twnSilence 0 (.num 0) silenceClear s

/-- R245: whether a silenced device may rejoin. -/
def State.mayRejoin (s : State) : Bool :=
  s.twn.state == .silenced && s.twn.linkUp && s.partnerEmits && s.twn.pairGoodFrom.any (fun a => decide (a + 1000000 ≤ s.now))
    && decide (s.rake.p ≤ s.twn.matchRun) && s.runCounts && !s.twn.manual && s.twn.rejoin.isNone

/-- TWIN_REJOIN (R245). -/
def execTwinRejoin (t : Nat) (s : State) : Host.Outcome State Fault Refusal :=
  let s := s.land t
  .next (
    if s.mayRejoin then
      let fr := add32 s.ctime.frame 2
      (s.modTwin fun x => { x with rejoin := some fr }).twinSend 6 (bytesBE 4 fr ++ bytesBE 4 s.twn.matchRun)
    else s)

/-- REJOIN (R245): the partner transmits again from FR on. -/
def execRejoin (t : Nat) (m : TwinMsg) (s : State) : Host.Outcome State Fault Refusal :=
  twinFrame t 6 m (m.body.length == 8) (fun s => s.modTwin fun x => { x with partnerRejoin := some (fieldBE m.body 0 4) }) s

/-- R245: the heads of a path in a class that belong to earlier pictures are discarded. -/
def discardEarlier (p path cls fr : Nat) : Nat → State → State
  | 0, s => s
  | fuel + 1, s =>
    match s.pathHead p path cls with
    | none => s
    | some h =>
      if frameEarlier h.pkt.frame fr then
        let s := { s with tap := { s.tap with wheel := s.tap.wheel.filter fun w => !(w.tap == p && w.path == path && w.cls == cls) } }
        discardEarlier p path cls fr fuel (s.passHead p path cls false)
      else s

/-- R245: queued packets of pictures before `fr` are discarded on every tap. -/
def State.discardBefore (s : State) (fr : Nat) : State :=
  (s.tap.taps.map (·.1)).foldl (fun s p =>
    [(0, 0), (0, 1), (0, 2), (1, 0), (1, 1), (1, 2), (2, 3)].foldl (fun s (pc : Nat × Nat) =>
      discardEarlier p pc.1 pc.2 fr (((s.tapAt p).queue pc.2).pkts.length + 1) s) s) s

/-- R245, R250: at ⟨FR:0⟩ the device transmits again, from the first packet of frame FR on. -/
def State.resume (s : State) (fr : Nat) : State :=
  let s := (s.discardBefore fr).modTwin fun x => { x with state := .paired, cause := 0, rejoin := none, resumeFrom := some fr }
  (s.count Obj.twnRejoins).brewRec 0x3C0 0x071 fr

/-- REJOIN_LINE (R245, Table 10-8). -/
def execRejoinLine (t : Nat) (s : State) : Host.Outcome State Fault Refusal :=
  let s := s.land t
  let due (f : Option Nat) : Bool := f.any fun fr => s.reached { frame := fr, line := 0 }
  let own := s.twn.rejoin
  let s' := if due own ∧ s.twn.state = .silenced then s.resume (own.getD 0) else s
  .next (
    if due s.twn.partnerRejoin then
      s'.modTwin fun x => { x with state := if x.state = .solo then .paired else x.state, partnerRejoin := none }
    else s')

/-! ### SYNC (R249) -/

/-- k and P after `m` more pictures. -/
def rakeAhead (period : Nat) : Nat → Rake → Rake
  | 0, r => r
  | m + 1, r =>
    let x := r.next false period
    rakeAhead period m { r with k := x.1, p := x.2.1 }

/-- A start agreed for frame `fn` as it stands at frame `fj`: state code, frame, index j. -/
def startAt (fn first fj p : Nat) : Nat × Nat × Nat :=
  let start := laterFrame fn first
  if frameEarlier fj start then (1, fn, 0) else if sub32 fj start < p then (2, start, sub32 fj start) else (0, 0, 0)

/-- R249: a nudge as it stands for the picture of frame `fj`, `m` pictures after the picture `fp` begun last. A QUEUED nudge is
sent with its Fn (log entry 50). -/
def Nudge.at_ (n : Nudge) (fp m fj p : Nat) : Nat × Nat × Nat :=
  match n.state with
  | .idle => (0, 0, 0)
  | .active => if n.j + m < n.p then (2, n.fs, n.j + m) else (0, 0, 0)
  | .scheduled => if n.agreed then startAt n.fn (add32 fp 1) fj p else (0, 0, 0)
  | .queued =>
    if n.j + m < n.p then (if n.agreed then (3, n.fn, n.j + m) else (2, n.fs, n.j + m))
    else if n.agreed then startAt n.fn (add32 n.fs n.p) fj p else (0, 0, 0)

/-- CSP_SUB_STATE: 0 none, 1 emitting, 2 paused. -/
def State.subState (s : State) (k : Nat) : Nat :=
  let x := s.stream k
  if !x.active then 0 else if x.paused then 2 else 1

/-- R249: the ES of a stream at FJ: it follows from packets not produced yet, a free value (log entry 51). -/
def State.esAhead (s : State) (i : Nat) : Nat := Config.freeValue (s.draws + i) % 4294967296

/-- R249: the state in force for the picture of frame `fj`. -/
def State.syncState (s : State) (fj : Nat) : SyncState :=
  let fp := (s.dsp.pictures.head?.map (·.frame)).getD s.ctime.frame
  let m := sub32 fj fp
  let r := rakeAhead (s.bright Obj.rakPeriod) m s.rake
  let past := s.dsp.effortPending.filter fun x => x.agreed && !frameEarlier fj x.frame
  let later := s.dsp.effortPending.find? fun x => x.agreed && frameEarlier fj x.frame
  let level := (past.getLast?.map (·.level)).getD s.dsp.effort
  let bank := (s.tuns.switch.filter fun w => w.agreed && !frameEarlier fj w.frame).map (·.bank)
  { fj := fj, n := s.coding.nextN + m - 1, nk := s.tbs.raster.nk, fk := s.tbs.raster.fk, k := r.k, p := r.p, effort := level,
    effPend := (later.map (·.level)).getD level, effF := (later.map (·.frame)).getD 0,
    patchId := (bank.getD (s.bankNamed s.tuns.inUse)).patchId, canvasEs := s.esAhead 0 }

/-- The entry records of SYNC: one for each receiver entry. -/
def State.syncRecords (s : State) (fj : Nat) : List SyncEntry :=
  let fp := (s.dsp.pictures.head?.map (·.frame)).getD s.ctime.frame
  (s.sets.bright.entries.filter fun e => !e.fill).zipIdx.map fun (e, i) =>
    let n := (s.nudge e.s).at_ fp (sub32 fj fp) fj s.rake.p
    { s := e.s, stream := s.subState e.s, nudge := n.1, es := s.esAhead (i + 1), f := n.2.1, j := n.2.2 }

/-- An entry record's 16 bytes. -/
def SyncEntry.bytes (e : SyncEntry) : Bytes :=
  bytesBE 2 e.s ++ bytesBE 1 e.stream ++ bytesBE 1 e.nudge ++ bytesBE 4 e.es ++ bytesBE 4 e.f ++ bytesBE 4 e.j

/-- The 44-byte state. -/
def SyncState.bytes (y : SyncState) : Bytes :=
  bytesBE 8 y.n ++ bytesBE 8 y.nk ++ bytesBE 4 y.fk ++ bytesBE 4 y.k ++ bytesBE 4 y.p ++ bytesBE 1 y.effort ++ bytesBE 1 y.effPend
    ++ zeros 2 ++ bytesBE 4 y.effF ++ bytesBE 4 y.patchId ++ bytesBE 4 y.canvasEs

/-- Sends the fragments from number `frag` on. -/
def State.syncSend (y : SyncState) : Nat → Nat → List SyncEntry → State → State
  | 0, _, _, s => s
  | fuel + 1, frag, es, s =>
    let last := es.length ≤ 80
    let body := bytesBE 4 y.fj ++ bytesBE 2 frag ++ bytesBE 1 (if last then 1 else 0) ++ zeros 1
      ++ (if frag = 0 then y.bytes else []) ++ (es.take 80).flatMap SyncEntry.bytes
    let s := s.twinSend 8 body
    if last then s else State.syncSend y fuel (frag + 1) (es.drop 80) s

/-- SYNC_REQ (R249): a device in PAIRED or SOLO answers. -/
def execSyncReq (t : Nat) (m : TwinMsg) (s : State) : Host.Outcome State Fault Refusal :=
  twinFrame t 7 m true (fun s =>
    if s.twn.state = .paired ∨ s.twn.state = .solo then
      let fj := add32 s.ctime.frame 4
      let es := s.syncRecords fj
      let sent := State.syncSend (s.syncState fj) (es.length + 1) 0 es s
      { sent with draws := sent.draws + es.length + 1 }
    else s) s

/-- The 44-byte state at offset 8 of FRAG 0. -/
def syncStateOf (b : Bytes) : SyncState :=
  { fj := fieldBE b 0 4, n := fieldBE b 8 8, nk := fieldBE b 16 8, fk := fieldBE b 24 4, k := fieldBE b 28 4, p := fieldBE b 32 4,
    effort := fieldBE b 36 1, effPend := fieldBE b 37 1, effF := fieldBE b 40 4, patchId := fieldBE b 44 4, canvasEs := fieldBE b 48 4 }

/-- The entry records from offset `o` on. -/
def syncEntriesOf (b : Bytes) (o : Nat) : List SyncEntry :=
  (List.range ((b.length - o) / 16)).map fun i =>
    let e := slice b (o + 16 * i) 16
    { s := fieldBE e 0 2, stream := fieldBE e 2 1, nudge := fieldBE e 3 1, es := fieldBE e 4 4, f := fieldBE e 8 4, j := fieldBE e 12 4 }

/-- R249: the raster that a SYNC gives the green set. -/
def State.syncRaster (s : State) (y : SyncState) : Raster :=
  let z := s.sets.green.raster
  { num := z.1, den := z.2.1, lt := z.2.2, nk := y.nk, fk := y.fk }

/-- The device time at which frame FJ starts. -/
def State.syncStart (s : State) (y : SyncState) : Nat :=
  let r := s.syncRaster y
  r.lineStart (r.nk + sub32 y.fj r.fk) 0

/-- R249: whether the green digest equals the partner's bright digest. -/
def State.syncFits (s : State) : Bool := s.twn.heart.any fun h => h.bright == s.sets.green.digest.take 16

/-- R249: the last fragment is here. A set that differs is recorded and nothing is applied; neither is a SYNC whose FJ has
passed. -/
def State.syncWhole (s : State) : State :=
  match s.twn.sync with
  | none => s
  | some y =>
    if !s.syncFits then
      let s := s.modTwin fun x => { x with sync := none, syncEntries := [] }
      if s.twn.state = .joining then s.brewRec 0x3C0 0x073 0 else s
    else if s.syncStart y ≤ s.deviceTime then s.modTwin fun x => { x with sync := none, syncEntries := [] }
    else s.modTwin fun x => { x with syncComplete := true }

/-- SYNC (R249): a fragment; fragments count in the order of FRAG. -/
def execSync (t : Nat) (m : TwinMsg) (s : State) : Host.Outcome State Fault Refusal :=
  let b := m.body
  let frag := fieldBE b 4 2
  let o := if frag = 0 then 52 else 8
  twinFrame t 8 m (decide (o ≤ b.length) && (b.length - o) % 16 == 0) (fun s =>
    if s.wantsSync = false ∨ s.twn.syncComplete ∨ frag ≠ s.twn.syncNext then s
    else if frag ≠ 0 ∧ s.twn.sync.all (fun y => y.fj != fieldBE b 0 4) then s
    else
      let s := s.modTwin fun x =>
        { x with sync := if frag = 0 then some (syncStateOf b) else x.sync, syncNext := frag + 1,
                 syncEntries := (if frag = 0 then [] else x.syncEntries) ++ syncEntriesOf b o }
      if fieldBE b 6 1 = 0 then s else s.syncWhole) s

/-- SYNC_REQ_RETRY (R249): 1 s after the last SYNC_REQ without a SYNC to apply. -/
def execSyncReqRetry (t : Nat) (s : State) : Host.Outcome State Fault Refusal :=
  let s := s.land t
  .next (
    if s.wantsSync ∧ !s.twn.syncComplete ∧ s.twn.syncReqAt.any (fun a => decide (a + giga ≤ s.now)) then s.syncRequest else s)

/-- The nudge that an entry record gives: one that starts at FJ begins with the next picture. -/
def SyncEntry.nudgeOf (e : SyncEntry) (fj p : Nat) : Nudge :=
  if e.nudge = 1 ∨ (e.nudge = 2 ∧ e.j = 0) then
    { Nudge.idle with state := .scheduled, fn := e.f, agreed := true, taken := e.nudge == 2 }
  else if e.nudge = 2 then { Nudge.idle with state := .active, fs := e.f, p := p, j := e.j - 1 }
  else if e.nudge = 3 then
    { Nudge.idle with state := .queued, fn := e.f, agreed := true, fs := sub32 fj e.j, p := p, j := e.j - 1 }
  else Nudge.idle

/-- R249: an entry record applied: stream state, ES, nudge; a nudge agreed since the SYNC was built stands. -/
def State.syncEntry (s : State) (y : SyncState) (kept : Table Nudge) (e : SyncEntry) : State :=
  let x := s.stream e.s
  let s := s.setStream e.s { x with active := e.stream != 0, paused := e.stream == 2, spsDue := e.stream == 2, endAfter := none }
  let s := s.setAsmStream e.s { s.asmStream e.s with es := e.es, started := true, restart := none }
  let old := Table.get Nudge.idle kept e.s
  s.setNudge e.s (if old.state ≠ .idle ∧ old.agreed then old else e.nudgeOf y.fj y.p)

/-- R249: effort by a SYNC. A change agreed after the SYNC was built, whose frame is then FJ or later, stands as if the SYNC had carried it:
one that has taken effect by FJ gives the level; one that waits withdraws a SYNC's change of its frame or later (R181). -/
def Dispatcher.syncEffort (d : Dispatcher) (y : SyncState) : Dispatcher :=
  let past := d.effortPending.filter fun x => !frameEarlier y.fj x.frame
  let later := d.effortPending.filter fun x => frameEarlier y.fj x.frame
  let level := match past.getLast? with
    | some x => x.level
    | none => if d.effortFrame = y.fj ∧ d.effortFrame ≠ 0 then d.effort else y.effort
  let carried : List EffortChange :=
    if y.effPend = y.effort ∨ later.any (fun x => !frameEarlier y.effF x.frame) then []
    else [{ level := y.effPend, frame := y.effF, agreed := true }]
  { d with effort := level, effortPending := carried ++ later }

/-- R249: the coding state of a SYNC takes the place of R128's; the references hold 512. -/
def State.syncCoding (s : State) (y : SyncState) (es : List SyncEntry) (kept : Table Nudge) : State :=
  let s := { s with coding := { s.coding with started := true, nextN := y.n, firstPic := s.coding.nextPic } }
  let s := { s with dsp := s.dsp.syncEffort y }
  let s := { s with rake := { s.rake with k := if y.k = 0 then y.p - 1 else y.k - 1, p := y.p, noSweep := [] } }
  let s := es.foldl (fun s e => s.syncEntry y kept e) s
  let z := s.stream 4096
  let s := s.setStream 4096 { z with paused := false, spsDue := false, endAfter := none }
  s.setAsmStream 4096 { s.asmStream 4096 with es := y.canvasEs, started := true, restart := none }

/-- SYNC_APPLY (R249): at FJ the device racks alone. A rack of its own in progress leaves the SYNC unused. -/
def execSyncApply (t : Nat) (s : State) : Host.Outcome State Fault Refusal :=
  let s := s.land t
  .next (
    match s.twn.sync with
    | none => s
    | some y =>
      if !s.twn.syncComplete ∨ !s.wantsSync ∨ s.deviceTime < s.syncStart y then s
      else if s.sets.rack.state ≠ .idle then s.modTwin fun x => { x with sync := none, syncEntries := [], syncComplete := false }
      else
        let r := s.syncRaster y
        let es := s.twn.syncEntries
        let kept := s.rake.nudges
        let s := { s with sets := { s.sets with bootRackDue := false } }
        let s := { s with tbs := { s.tbs with raster := r, gap := none } }
        let s := ((s.swapSets y.fj false).syncCoding y es kept).restartPacers
        let s := s.modTwin fun x =>
          { x with synced := true, matchRun := 0, sync := none, syncEntries := [], syncComplete := false, syncNext := 0 }
        s.silence 4 0 y.fj 0 0)

/-! ### Start-up -/

/-- R249: no partner was found; the device racks alone and emits, or stays silent beside a partner it cannot hear. -/
def State.standAlone (s : State) : State :=
  let row := if s.twn.okIn then 4 else 3
  let s := if row = s.twn.conclusion then s
    else (s.modTwin fun x => { x with conclusion := row }).brewRec 0x3C0 0x072 row
  if row = 3 ∨ s.twn.role = 0 then s.enterSolo else s.silence 3 0 s.ctime.frame 0 0

/-- PAIRING_LISTEN_END (R249): the 20 ms end; the device proceeds by what it heard. -/
def execPairingListenEnd (t : Nat) (s : State) : Host.Outcome State Fault Refusal :=
  let s := s.land t
  .next (
    if s.twn.state = .pairing ∧ s.twn.listenUntil.any (fun a => decide (a ≤ s.now)) then
      let s := s.modTwin fun x => { x with listenUntil := none }
      match s.twn.heart with
      | some h =>
        if s.twn.linkUp ∧ h.state = 1 then s
        else if s.twn.linkUp ∧ (h.state = 3 ∨ h.state = 5) then (s.modTwin fun x => { x with state := .joining }).syncRequest
        else s.standAlone
      | none => s.standAlone
    else s)

end Sys2Proof.Machine
end

