-- ==== Sys2Proof/Machine/Injection.lean ====
section
/-! DEFINITION. Injected fault messages (R396): what the collector accepts, and what the named unit does at AT 1. -/
set_option Elab.async false
namespace Sys2Proof.Machine

/-- Table 6-12: the kinds after which a Tun's task is poisoned. -/
def tunPoisonKind (k : Nat) : Bool := [0x02, 0x03, 0x04, 0x05].contains k

/-- R396: a Tun acts as on its own detection of a kind of Table 6-12. -/
def State.tunActs (s : State) (t kind : Nat) : State :=
  if kind = 0x01 then s.count Obj.tunEccCorr t
  else if tunPoisonKind kind then (s.count Obj.tunFaults t).tunFault t
  else if kind = 0x07 then
    ((s.count Obj.tunFaults t).setTun t { s.tun t with state := .failed }).capacity
  else s

/-- R396: a port acts as on its own detection of LANE_DOWN. -/
def State.portActs (s : State) (n cause : Nat) : State :=
  let p := s.port n
  if p.state = .up ∨ p.state = .hold then
    let s := s.setPort n { p with state := .down, cause := cause, since := s.now, reported := true }
    if p.state = .up then ((s.count Obj.lnkPortDowns n).rehome n).moveGroups else s
  else s

/-- R396: a lane acts as on its own detection: a failed known-answer test takes it out of service, a failed check refuses the
task it tastes. -/
def State.laneActs (s : State) (lane kind : Nat) : State :=
  if kind = 0x07 then s.setLane lane { s.lane lane with state := 2 }
  else if kind = 0x08 then
    match (List.range 64).find? fun t => (s.tun t).task.any fun k => s.laneOf k.ticket == some lane with
    | some t => (s.tun t).task.elim s fun k => s.tasteRefuse t lane k
    | none => s
  else s

/-- R396: the Dispatcher acts on the segment of the address: at its hard limit, or at its deadline. -/
def State.dispatcherActs (s : State) (m : FaultMsg) : State :=
  match s.dsp.segs.find? fun g => faultAddr g.frame g.y == m.address && g.s == m.detail % 4096 with
  | none => s
  | some g =>
    if m.kind = 0x09 then
      if m.detail / 4096 = 3 then (if g.fallback then s.modSeg g fun q => { q with ticket := none, failed := true } else s)
      else if g.fallback then s
      else (if g.ticket.isSome then s.attend g.tun .abort else s).becomeFallback g
    else if m.kind = 0x0A then (s.modSeg g fun q => { q with late := true }).count Obj.dspSegsLate
    else s

/-- R396: the twin link is lost; or a pair condition or a digest fails (detail [15:12]: 8, or the rule of Table 10-4). The records
of an injected mismatch do not differ, so rule 4 decides between the devices (DESIGN CHOICE; log entry 87). -/
def State.twinActs (s : State) (m : FaultMsg) : State :=
  if m.kind = 0x04 then
    if s.twn.linkUp then s.linkLost else s
  else if m.kind = 0x07 ∧ s.twn.state = .paired ∧ s.partnerEmits then
    if s.twn.role = 1 then
      (if m.detail / 4096 = 8 then s.silence 2 0 s.ctime.frame 0 0
       else s.silence 1 4 (m.address / 65536) (m.detail % 4096) (m.address % 65536))
    else s
  else s

/-- R396: the package sensors and AVS. -/
def State.packageActs (s : State) (m : FaultMsg) : State :=
  if m.kind = 0x0F then { s with pwr := { s.pwr with warn := true } }
  else if m.kind = 0x05 then
    if m.detail / 256 = 3 then { s with pwr := { s.pwr with excluded := s.pwr.excluded ++ [m.detail % 256] } }
    else (s.modPwr fun p => { p with avsRuns := false, vt := p.vout }).count Obj.pwrAvsErrs
  else s

/-- R396: data movement acts as on its own detection (Table 15-9). -/
def State.moverActs (s : State) (m : FaultMsg) : State :=
  if m.source = 0x580 ∧ m.kind = 0x05 then
    let c := m.detail % 256
    let ch := s.spargeCh c
    if c < 32 ∧ ch.state = .run then s.setSpargeCh c { ch with state := .halted, ended := 4 } else s
  else if m.source = 0x590 then
    if m.kind = 0x0D then shed (s.val Obj.tapShedPkts) (s.count Obj.kegPoolDry (m.detail / 256))
    else if m.kind = 0x0C then s.count Obj.kegDoubleFrees
    else if m.kind = 0x05 then (if m.detail % 256 = 1 then s.count Obj.kegBadHandles else s)
    else s
  else if m.source = 0x5A0 ∧ m.kind = 0x02 then s.count Obj.wrtEccUncorr (m.detail % 256)
  else s

/-- R396: memory acts as on its own detection (Table 14-6). -/
def State.memoryActs (s : State) (m : FaultMsg) : State :=
  let x := m.source
  if x < 0x50C then
    let c := x - 0x500
    if m.kind = 0x01 then s.count Obj.memQdEccCorr c
    else if m.kind = 0x02 then s.count Obj.memQdEccUncorr c
    else if m.kind = 0x0B then s.modQdr c fun q => { q with state := 3, pending := false }
    else s
  else if 0x520 ≤ x ∧ x < 0x528 then
    let c := x - 0x520
    if m.kind = 0x01 then s.count Obj.memDdEccCorr c
    else if m.kind = 0x02 then s.count Obj.memDdEccUncorr c
    else if m.kind = 0x0B ∧ (s.ddr c).state ≠ .retired then s.ddrGone c 1 m
    else s
  else if 0x540 ≤ x ∧ x < 0x560 ∧ m.kind = 0x07 then s.setBank (x - 0x540) .retired
  else s

/-- R396: the Timebase acts as on the loss of its reference. -/
def State.timebaseActs (s : State) (kind : Nat) : State :=
  if kind = 0x04 ∧ s.tbs.state = .locked then
    { s with tbs := { s.tbs with state := .holdover, goodRun := 0, badRun := 0, holdoverFrom := s.now } }.brewRec 0x020 0x010
      (TbsState.locked.code * 256 + TbsState.holdover.code)
  else s

/-- R396: the Compositor acts on a flow that is lost, or a row that is late. -/
def State.sourceActs (s : State) (m : FaultMsg) : State :=
  if m.kind = 0x11 ∧ m.detail < 64 then s.setFlow m.detail { s.flow m.detail with status := 2 }
  else if m.kind = 0x09 then s.count Obj.cmpLateRows
  else s

/-- R396: a decode stream acts as on its own detection: lost, a missing reference, a missing slice, or a class of Table 11-3 that takes
it to WAIT_RAP (the class in detail [15:8], the stream in [7:0]; a SOURCE_LOSS gives the stream alone). -/
def State.decodeActs (s : State) (m : FaultMsg) : State :=
  let d := m.detail % 256
  let x := s.decStream d
  if 32 ≤ d then s
  else if m.kind = 0x11 then s.setDec d { x with lost := true }
  else if m.kind = 0x13 then s.count Obj.finRefsMissing d
  else if m.kind = 0x12 ∧ m.detail / 256 = 3 then s.count Obj.finSlicesMissing d
  else if m.kind = 0x12 ∧ (m.detail / 256 = 5 ∨ m.detail / 256 = 6) ∧ x.state ≠ 0 then s.setDec d (x.waitRap (s.sets.bright.sprop d))
  else s

/-- R396: the Taproom acts on the tap of the address: a drop is counted; an unserved number is counted and asks for a nudge (R319). -/
def State.taproomActs (s : State) (m : FaultMsg) : State :=
  let p := m.address % 65536
  if 16384 ≤ p then s
  else if m.kind = 0x0E then s.count Obj.tapDrops p
  else if m.kind = 0x15 then
    let s := s.count Obj.tapNackUnserved
    match (List.range 4096).find? fun k => s.sets.bright.streamTap k == some p with
    | some k => s.nudgeRequest k s.ctime.frame
    | none => s
  else s

/-- R396: the units of one source each. -/
def State.loneUnitActs (s : State) (m : FaultMsg) : State :=
  let x := m.source
  if x = 0x020 then s.timebaseActs m.kind
  else if x = 0x200 then s.sourceActs m
  else if x = 0x340 then s.dispatcherActs m
  else if x = 0x350 then (if m.kind = 0x14 then (s.count Obj.grvSpentTotal).count Obj.grvSubSpent (m.detail % 4096) else s)
  else if x = 0x3C0 then s.twinActs m
  else if x = 0x3D0 then s.decodeActs m
  else if x = 0x400 then s.taproomActs m
  else if x = 0x600 then (if m.kind = 0x16 then s.count Obj.secSigFails else s)
  else if x = 0x610 then (if m.kind = 0x17 then (s.count Obj.cskEccUncorr).caskLost m.address false else s)
  else if x = 0x700 then s.packageActs m
  else s

/-- R396, AT 1: what the named unit does on its own detection of a kind that it reports itself, its report apart. What it does on a
kind it reports without a result of its own is nothing (log entry 87). -/
def State.unitActs (s : State) (m : FaultMsg) : State :=
  let x := m.source
  if 0x300 ≤ x ∧ x < 0x340 then s.tunActs (x - 0x300) m.kind
  else if 0x390 ≤ x ∧ x < 0x3C0 then s.laneActs (x - 0x390) m.kind
  else if 0x100 ≤ x ∧ x < 0x160 then (if m.kind = 0x06 then s.portActs (x - 0x100) (bits m.detail 15 8) else s)
  else if 0x500 ≤ x ∧ x < 0x560 then s.memoryActs m
  else if x = 0x580 ∨ x = 0x590 ∨ x = 0x5A0 then s.moverActs m
  else s.loneUnitActs m

/-- CWT_INJECT (R396): 12 bytes of a message and AT. -/
def cwtInject (b : Bytes) (s : State) : Effect :=
  let m := { FaultMsg.ofBytes b with inj := true }
  let at_ := fieldBE b 12 1
  if m.reserved ≠ 0 then (s, .reserved)
  else if 1 < at_ ∨ m.valid = false then (s, .range)
  else if s.trust.lifecycle ≠ 1 then (s, .state)
  else
    let s := s.reportMsg m
    (if at_ = 1 then s.unitActs m else s, .ok)

/-- INJECT_COLLECT (R396): AT 0. -/
def execInjectCollect (t : Nat) (who : Path) (data : Bytes) (s : State) : Host.Outcome State Fault Refusal :=
  objectCommand t who Obj.cwtInject 0 (.bytes (data ++ [0])) (cwtInject (data ++ [0])) s

/-- INJECT_ACT (R396): AT 1. -/
def execInjectAct (t : Nat) (who : Path) (data : Bytes) (s : State) : Host.Outcome State Fault Refusal :=
  objectCommand t who Obj.cwtInject 0 (.bytes (data ++ [1])) (cwtInject (data ++ [1])) s

end Sys2Proof.Machine
end

