-- ==== Sys2Proof/Machine/Interrupts.lean ====
section
/-! DEFINITION. The interrupt controller (R399 to R406) and the Brew Log (R407 to R411). -/
set_option Elab.async false
namespace Sys2Proof.Machine

/-! ### Sources, Table 16-8 -/

/-- R399: whether a source is asserted. CAN FD events (239) are served by the firmware as they occur, and the Cask is ready
while no save or load runs (DEDUCED; log entry 44). -/
def State.irqLevel (s : State) (id : Nat) : Bool :=
  if id = 0 then s.cellar.realLatch.held.isSome
  else if id = 1 then s.cellar.injLatch.held.isSome
  else if id = 2 then s.cellar.safe
  else if id = 3 then s.cellar.selfUnacked
  else if 8 ≤ id ∧ id ≤ 15 then s.cellar.unacked.contains (id - 8)
  else if 16 ≤ id ∧ id ≤ 79 then (s.tun (id - 16)).state == .failed || (s.tun (id - 16)).state == .retired
  else if 80 ≤ id ∧ id ≤ 175 then s.laneIsDown (id - 80)
  else if 176 ≤ id ∧ id ≤ 183 then (s.ddr (id - 176)).state == .retired || s.mem.srm
  else if 184 ≤ id ∧ id ≤ 195 then (s.qdr (id - 184)).pending
  else if id = 196 then s.tbs.state != .locked
  else if id = 197 then s.silenced
  else if id = 198 then s.pwr.warn
  else if id = 199 then (List.range 5).any fun p => s.kegFreeCount p == 0
  else if id = 200 then s.brew.ckptFailed || decide (s.brew.lastCkpt + 2 * giga * s.val Obj.logCkptS < s.now)
  else if id = 201 then s.sets.rack.state != .idle
  else if 202 ≤ id ∧ id ≤ 233 then
    let ch := Table.get SpargeChannel.idle s.sparge.channels (id - 202)
    ch.interrupt || ch.state == .halted
  else if 234 ≤ id ∧ id ≤ 237 then !(s.wortLine (id - 110)).msgs.isEmpty
  else if id = 238 then s.links.mgEvent
  else if id = 240 then (List.range 4).any fun i => !(s.wortLine (76 + i)).msgs.isEmpty
  else if id = 241 then !s.slotBusy
  else false

/-- EXTERNAL_POLL (R400): the firmware looks at the conditions of the sources routed to EXTERNAL, every 1 ms. -/
def execExternalPoll (t : Nat) (s : State) : Host.Outcome State Fault Refusal :=
  let s := s.land t
  let up := (List.range 256).filter fun id => icuRoutable id && bits (s.val Obj.icuSrc id) 5 4 == 2 && s.irqLevel id
  .next { s with icu := { s.icu with polled := up } }

/-- ICU_SRC (R400): in force from the next claim decision. -/
def icuSrc (row v : Nat) (s : State) : Effect := (s.put Obj.icuSrc row v, .ok)

/-- ICU_SRC (R400). -/
def execIcuSrc (t : Nat) (who : Path) (row v : Nat) (s : State) : Host.Outcome State Fault Refusal :=
  objectCommand t who Obj.icuSrc row (.num v) (icuSrc row v) s

/-! ### Claims of EXTERNAL -/

/-- A mask word of EXTERNAL; all ones at reset. -/
def State.extMask (s : State) (w : Nat) : Nat := Table.get 4294967295 s.icu.external.mask w

/-- A storm word of EXTERNAL. -/
def State.extStorm (s : State) (w : Nat) : Nat := Table.get 0 s.icu.external.storm w

/-- Rewrites the EXTERNAL target. -/
def State.modExt (s : State) (f : IcuTarget → IcuTarget) : State := { s with icu := { s.icu with external := f s.icu.external } }

/-- The running priority of EXTERNAL (R401). -/
def State.extRunning (s : State) : Nat := s.icu.external.stack.headD 0

/-- R401: whether a source is a candidate of EXTERNAL. -/
def State.extCandidate (s : State) (id : Nat) : Bool :=
  let cfg := s.val Obj.icuSrc id
  let prio := bits cfg 3 0
  bits cfg 5 4 == 2 && decide (s.extRunning < prio) && !bit (s.extMask (id / 32)) (id % 32)
    && !s.icu.external.claimed.contains id

/-- R401: the candidate with the highest PRIO, the lowest ID on a tie. -/
def State.extBest (s : State) : Option Nat :=
  (s.icu.polled.filter s.extCandidate).foldl (fun best id =>
    match best with
    | none => some id
    | some b => if bits (s.val Obj.icuSrc b) 3 0 < bits (s.val Obj.icuSrc id) 3 0 then some id else some b) none

/-- R406: ALERT_N is asserted. -/
def State.alert (s : State) : Bool := s.cellar.safe || s.pwr.halted || s.extBest.isSome

/-- R405: a source claimed more than ICU_STORM_LIMIT times within the window is storm-masked. -/
def State.stormCheck (s : State) (id : Nat) : State :=
  let since := (Table.get [] s.icu.external.claims id).filter fun a => decide (s.now < a + 1000 * s.val Obj.icuStormWindowUs)
  let seen := since ++ [s.now]
  let s := s.modExt fun x => { x with claims := Table.set [] x.claims id seen }
  if seen.length ≤ s.val Obj.icuStormLimit then s
  else
    let w := id / 32
    let m := setBit (s.extMask w) (id % 32) true
    let z := setBit (s.extStorm w) (id % 32) true
    (s.modExt fun x => { x with mask := Table.set 4294967295 x.mask w m, storm := Table.set 0 x.storm w z }).brewRec 0x000 0x007
      (2 * 256 + id)

/-- A claim read of EXTERNAL (R401): the ID, 0 with no candidate. -/
def State.extClaim (s : State) : State × Nat :=
  match s.extBest with
  | none => (s.count Obj.icuSpurious, 0)
  | some id =>
    let prio := bits (s.val Obj.icuSrc id) 3 0
    let s := s.modExt fun x => { x with stack := prio :: x.stack, claimed := x.claimed ++ [id] }
    ((s.count Obj.icuClaims id).stormCheck id, id)

/-- ICU_EXT_CLAIM (R401): a read that claims. -/
def execIcuExtClaim (t : Nat) (who : Path) (s : State) : Host.Outcome State Fault Refusal :=
  let s := (s.land t).accessed who
  match s.accessRefusal who Obj.icuExtClaim 0 false with
  | some st => .next (s.send (.answer who st []))
  | none =>
    let r := s.extClaim
    .next (r.1.send (.answer who .ok (bytesBE 2 r.2)))

/-- ICU_EXT_EOI (R402). -/
def icuExtEoi (v : Nat) (s : State) : Effect :=
  if s.icu.external.claimed.contains v then
    (s.modExt fun x => { x with stack := x.stack.drop 1, claimed := x.claimed.filter fun id => id != v }, .ok)
  else (s.count Obj.icuEoiErrs, .ok)

/-- ICU_EXT_EOI (R402). -/
def execIcuExtEoi (t : Nat) (who : Path) (v : Nat) (s : State) : Host.Outcome State Fault Refusal :=
  objectCommand t who Obj.icuExtEoi 0 (.num v) (icuExtEoi v) s

/-- ICU_EXT_MASK (R404, R405): a plain word. -/
def icuExtMask (row v : Nat) (s : State) : Effect :=
  (s.modExt fun x => { x with mask := Table.set 4294967295 x.mask row v }, .ok)

/-- ICU_EXT_MASK (R405). -/
def execIcuExtMask (t : Nat) (who : Path) (row v : Nat) (s : State) : Host.Outcome State Fault Refusal :=
  objectCommand t who Obj.icuExtMask row (.num v) (icuExtMask row v) s

/-- ICU_EXT_STORM (R405): a plain word; clearing a storm bit unmasks nothing. -/
def icuExtStorm (row v : Nat) (s : State) : Effect :=
  (s.modExt fun x => { x with storm := Table.set 0 x.storm row v }, .ok)

/-- ICU_EXT_STORM (R405). -/
def execIcuExtStorm (t : Nat) (who : Path) (row v : Nat) (s : State) : Host.Outcome State Fault Refusal :=
  objectCommand t who Obj.icuExtStorm row (.num v) (icuExtStorm row v) s

/-- R405: the storm masks of a Maltster target end: mask and storm bits clear. -/
def IcuTarget.stormEnd (x : IcuTarget) (now : Nat) : IcuTarget :=
  if x.storm.isEmpty ∨ now < x.stormAt + 10000000 then x
  else { x with mask := Table.mapRows 0 x.mask fun w m => m - (m &&& Table.get 0 x.storm w), storm := [] }

/-- STORM_CLEAR (R405): after 10 ms the firmware clears storm masks of the Maltster targets. -/
def execStormClear (t : Nat) (s : State) : Host.Outcome State Fault Refusal :=
  let s := s.land t
  .next { s with icu := { s.icu with maltsterA := s.icu.maltsterA.stormEnd s.now, maltsterB := s.icu.maltsterB.stormEnd s.now } }

/-! ### The Brew Log -/

/-- R410: records of the ring. -/
def ringSlots : Nat := 524288

/-- R409, R411: a record takes the next SEQ and its slot; one of a fault of class 4 or higher is checkpointed at once. -/
def State.logRecord (s : State) (r : BrewRec) : State :=
  let q := s.brew.nextSeq
  let slot := q % ringSlots
  let due := decide (0x800 ≤ r.event) && decide (4 ≤ bits r.flags 3 1)
  { s with brew := { s.brew with ring := Table.set BrewRec.zero s.brew.ring slot { r with seq := q }, nextSeq := add32 q 1,
                                 badSlots := s.brew.badSlots.filter fun k => k != slot,
                                 ckptDue := s.brew.ckptDue || due } }

/-- R409: the Brew Log line served next: the first one after the last that holds a message. -/
def State.nextLogLine (s : State) : Option Nat :=
  ((List.range 28).map fun i => 96 + (s.brew.lastLine - 96 + 1 + i) % 28).find? fun l => !(s.wortLine l).msgs.isEmpty

/-- LOG_WRITE (R409): the writer pops a record, or a marker, for which it writes a GAP record. -/
def execLogWrite (t : Nat) (s : State) : Host.Outcome State Fault Refusal :=
  let s := s.land t
  match s.nextLogLine with
  | none => .next s
  | some line =>
    let l := s.wortLine line
    let s := s.setWort line (l.dropFirst (wortDepth line))
    let s := { s with brew := { s.brew with lastLine := line } }
    match l.msgs with
    | [] => .next s
    | m :: _ =>
      if m.marker then
        let n := m.words.headD 0
        let gap : BrewRec :=
          { seq := 0, ctime := s.ctime, time := fieldBE (time80 s.deviceTime) 0 10, source := 0x000, event := 0x001, flags := 0, args := line * 2 ^ 32 + n }
        .next ((s.count Obj.logGapRecords 0 n).logRecord gap)
      else .next (s.logRecord (BrewRec.ofWords m.words))

/-- LOG_MARK (R408). -/
def logMark (v : Nat) (s : State) : Effect := (s.brewRec 0x010 0x003 v, .ok)

/-- LOG_MARK (R408). -/
def execLogMark (t : Nat) (who : Path) (v : Nat) (s : State) : Host.Outcome State Fault Refusal :=
  objectCommand t who Obj.logMark 0 (.num v) (logMark v) s

/-- LOG_OLDEST_SEQ (R410). -/
def BrewLog.oldest (b : BrewLog) : Nat := if b.nextSeq ≤ ringSlots then 1 else b.nextSeq - ringSlots

/-- R411: the records written since the last checkpoint, at most the newest 65,536. -/
def BrewLog.uncopied (b : BrewLog) : List BrewRec :=
  let n := min (b.nextSeq - 1 - b.ckptSeq) 65536
  (List.range n).map fun i => Table.get BrewRec.zero b.ring ((b.nextSeq - n + i) % ringSlots)

/-- The newest `n` of a list. -/
def newest {α : Type} (n : Nat) (l : List α) : List α := l.drop (l.length - n)

/-- LOG_CHECKPOINT (R411): every LOG_CKPT_S seconds, or where one is due at once. `written`: every word read back right. -/
def execLogCheckpoint (t : Nat) (written : Bool) (s : State) : Host.Outcome State Fault Refusal :=
  let s := s.land t
  let b := s.brew
  if b.ckptDue = false ∧ s.now < b.lastCkpt + giga * s.val Obj.logCkptS then .next s
  else
    let recs := b.uncopied
    if written then
      .next ({ s with brew := { b with ckpt := newest 65536 (b.ckpt ++ recs), ckptSeq := b.nextSeq - 1, lastCkpt := s.now,
                                       ckptFailed := false, ckptDue := false } }.put Obj.logCkptLastSeq 0 (b.nextSeq - 1 : Nat))
    else
      .next (({ s with brew := { b with lastCkpt := s.now, ckptFailed := true, ckptDue := false } }.caskErr (caskBase 4)).brewRec
        0x000 0x006 recs.length)

end Sys2Proof.Machine
end

