-- ==== Sys2Proof/Machine/PortWrite.lean ====
section
/-! DEFINITION. Writes of the port table (R276 to R278). -/
set_option Elab.async false
namespace Sys2Proof.Machine

/-- R276, Tables 12-1 and 12-2: bounds of a port's value that the words bring together: the FEC of its mode, its first lane, the
lanes of other enabled ports, PVID when TAGGED, the prefix length of an interface that is enabled. -/
def State.portRange (s : State) (n : Nat) : Bool :=
  let w0 := s.portWord n 0
  let w3 := s.portWord n 3
  let lanes := modeLanes (s.portMode n)
  modeFec (s.portMode n) (bits w0 5 4) && n % lanes == 0
    && (!s.portEnabled n || (List.range lanes).all fun i => ((List.range 96).filter fun m => s.laneOfPort m (n + i)) == [n])
    && (!bit w0 47 || (decide (1 ≤ bits w0 43 32) && decide (bits w0 43 32 ≤ 4094)))
    && (!bit w3 14 || (decide (8 ≤ bits w3 5 0) && decide (bits w3 5 0 ≤ 32)))
    && (!bit w3 15 || (decide (16 ≤ bits w3 13 6) && decide (bits w3 13 6 ≤ 128)) || s.portIpv6 n == 0)

/-- R278: whether a rule of a set that names port `n` fails: Table 12-7 and R294's failover, Table 9-8, R253, Table 13-6. -/
def State.portRuleFails (s : State) (c : CanvasSet) (n : Nat) : Bool :=
  let named := c.namedTaps
  let onPort := fun (p : Nat) => (c.tapPaths p ++ (if c.tapMon p then [2] else [])).any fun path => c.tapPort p path == n
  let taps := c.taps.filter onPort
  (c.usesPorts.contains n &&
    ((c.flowRows.any fun r => bits (c.flow r 0) 22 16 == n && s.flowPortBad c r) || s.failoverBad n
      || (c.receivers.any fun e => onPort e.tap && s.mtuBad c e.tap (c.fragment e.s))
      || (let r := c.nat Obj.cspRecorderTap; decide (r < 16384) && onPort r && s.mtuBad c r (c.fragment 4096))
      || (taps.any fun p => s.tapBad c p)
      || (taps.any fun p => named.contains p && (c.tapPaths p).any fun path =>
            c.tapPort p path == n && decide (s.portRate n < c.tapPeak p))
      || s.portSchedBad c n
      || ((Store.rows c.objs Obj.lnkPolW1).any fun p => bit p.2.toNat 48 && (s.policerPorts c p.1).contains n && s.policerBad c p.1)))
  || (c.nat Obj.twnMode != 0 && (n == s.twn.portA || n == s.twn.portB) && !s.isTwinPort n)

/-- R278: whether the bright set, or a green set that a rack locks, forbids the port's new value. -/
def State.portForbidden (s : State) (n : Nat) : Bool :=
  s.portRuleFails s.sets.bright n || (s.greenLocked && s.portRuleFails s.sets.green n)

/-- W0's bits whose change restarts a port: EN, MODE, FEC, MEDIUM, TWIN. -/
def portRestartBits (w0 : Nat) : Nat := bits w0 7 0

/-- R278, Table 16-4: what follows the write of a port word. A write of W0 writes EN, which ends the reactions FAILOVER and
RETIRE. `moved`: an address of the port changed, which is announced (R289). -/
def State.portWritten (s : State) (n word old v : Nat) (moved : Bool) : State :=
  let p := s.port n
  let up := p.state == .up
  let restart := word = 0 ∧ (portRestartBits old ≠ portRestartBits v ∨ p.heldDown)
  let s := if word = 0 then s.setPort n { p with forcedOver := false, heldDown := false } else s
  if restart then
    let s := s.setPort n { s.port n with state := .disabled, reported := false, dadFrom := none, inUse := 0 }
    let s := s.portStart n
    if up then ((s.count Obj.lnkPortDowns n).rehome n).moveGroups else s
  else
    let s := if p.forcedOver ∧ word = 0 then (s.rehome n).moveGroups else s
    if up ∧ moved then s.announce n else s

/-- A write of word `word` of row `n` of the port table (R278). -/
def lnkPort (n word v : Nat) (s : State) : Effect :=
  let o := lnkPortWord word
  let old := s.val o n
  let s' := s.put o n v
  if s'.portRange n = false then (s, .range)
  else if s'.portForbidden n then (s, .state)
  else (s'.portWritten n word old v (s'.portAddrs n != s.portAddrs n), .ok)

/-- LNK_PORT_WRITE (R278). -/
def execLnkPortWrite (t : Nat) (who : Path) (row word v : Nat) (s : State) : Host.Outcome State Fault Refusal :=
  objectCommand t who (lnkPortWord word) row (.num v) (lnkPort row word v) s

end Sys2Proof.Machine
end

