-- ==== Sys2Proof/Machine/Startup.lean ====
section
/-! DEFINITION. The steps of start-up (R452, R453, Table 18-11). -/
set_option Elab.async false
namespace Sys2Proof.Machine

/-- Start-up enters a phase. -/
def State.toPhase (s : State) (n : Nat) : State := s.modPwr fun p => { p with phase := n, phaseAt := s.now }

/-- A step of start-up ends: nothing happens in another phase, in reset, or once the Maltster has halted. -/
def startupStep (t phase : Nat) (f : State → State) (s : State) : Host.Outcome State Fault Refusal :=
  let s := s.land t
  .next (if s.pwr.phase = phase ∧ !s.pwr.held ∧ !s.pwr.halted then f s else s)

/-- ROM_BOOT_DONE: the ROM's checks and the clock detection (R447); LOG_BOOT_COUNT advances and BOOT is the run's first record
(R408, R411). -/
def execRomBootDone (t : Nat) (passed osc : Bool) (s : State) : Host.Outcome State Fault Refusal :=
  startupStep t 1 (fun s =>
    let last := (s.brew.ckpt.getLast?.map (·.seq)).getD 0
    let n := s.brew.bootCount + 1
    let s : State := { s with brew := { s.brew with bootCount := n } }
    if passed = false then s.modPwr fun p => { p with halted := true }
    else ((s.put Obj.tbsOscPresent 0 (ofBool osc : Nat)).brewRec 0x008 0x002 (n % 2 ^ 32 * 2 ^ 32 + last % 2 ^ 32)).toPhase 2) s

/-- R162, R184: whether a Tun's start-up BIST has not begun, or has not had its 40 ms. -/
def State.bistOpen (s : State) (k : Nat) : Bool :=
  let x := s.tun k
  x.state == .gated || (x.state == .selftest && x.bistFrom.any fun b => decide (s.now < b + 40000000))

/-- R184: a Tun whose start-up BIST has not been reported by itself is READY or FAILED as the step ends. -/
def State.tunStarted (s : State) (failed : List Nat) (k : Nat) : State :=
  let x := s.tun k
  if x.state = .selftest then
    let bad := failed.contains k
    s.setTun k
      { x with state := if bad then .failed else .ready, readyAt := s.now, bistFrom := none, bistResult := if bad then 2 else 1,
               bistEnd := s.deviceTime, lastPass := if bad then none else some s.now, attn := [] }
  else s

/-- BIST_PHASE_DONE, once every Tun's group was enabled and its BIST has run (R184): failed Tuns, Grist banks and Taster lanes are out of service; any other failed unit means SAFE at the end of
phase 3. -/
def execBistPhaseDone (t : Nat) (failedTuns failedBanks failedLanes : List Nat) (othersGood : Bool) (s : State) :
    Host.Outcome State Fault Refusal :=
  startupStep t 2 (fun s =>
    if (List.range 64).any s.bistOpen then s else
    let s := (List.range 64).foldl (fun s k => s.tunStarted failedTuns k) s
    let s := (failedBanks.filter fun b => decide (b < 32)).foldl (fun s b => s.setBank b .retired) s
    let s := (failedLanes.filter fun k => decide (k < 48)).foldl (fun s k => s.setLane k { s.lane k with state := 2 }) s
    ((s.modPwr fun p => { p with safeAfterCask := !othersGood }).toPhase 3).capacity) s

/-! ### Cask load -/

/-- The live objects that the Cask keeps take their values. -/
def State.loadLive (s : State) : State :=
  { s with live := s.cask.live.foldl (fun st p => Table.insert st p.1 p.2) s.live }

/-- R370: the pools' counts in force. -/
def State.loadPools (s : State) : State :=
  (List.range 5).foldl (fun s i => s.put Obj.kegPoolCountNow i (s.val Obj.kegPoolCount i : Nat)) s

/-- R420: the ROM removes a patch marked for removal, and runs the stored one that passes R418. -/
def State.loadFirmware (s : State) : State :=
  let s := if s.trust.fwRemove then s.modTrust fun x => { x with fwStored := none, fwRemove := false } else s
  match s.trust.fwStored with
  | none => s
  | some b =>
    if bit s.pwr.bootSel 0 then s.modTrust fun x => { x with fwSkipped := true }
    else
      let status := s.imageStatus { image := b, sec := true, role := .vendor, since := s.now } true
      if status = 1 then (s.modTrust fun x => { x with fwActive := some b }).applied 0 b
      else s.imageFailed status (imageType b)

/-- R153: the kept recipe patch, loaded into bank 0. -/
def State.loadRecipe (s : State) : State :=
  match s.tuns.persisted with
  | some b => { s with tuns := { s.tuns with bank0 := b } }
  | none => s

/-- R40: the boot slot, into the green set. -/
def State.loadBootSlot (s : State) : State :=
  let slot := s.setSlot (s.val Obj.setBootSlot)
  if 2 ≤ s.pwr.bootSel then s
  else if slot.state = 1 ∨ slot.state = 2 then
    let s := s.loadSlot slot
    { s with sets := { s.sets with bootRackDue := decide (slot.state = 1) && decide (s.val Obj.setBootRack = 1) } }
  else s

/-- The twin ports, the strap's role and a random EPOCH (Table 10-2). -/
def State.loadTwin (s : State) : State :=
  let e := fieldBE (Config.random s.draws 4) 0 4
  { s with twn := { s.twn with portA := s.val Obj.twnPortA, portB := s.val Obj.twnPortB, strap := s.pwr.twinRole,
                               role := s.pwr.twinRole, epoch := e } }.drawn

/-- R59, R61: the CAN path opens where the node-ID is not 0. -/
def State.openCan (s : State) : State :=
  if s.pwr.nodeId = 0 then s
  else { s with can := { s.can with nmt := .preOperational, dataRate := s.val Obj.setCanDataRate, lastHeartbeat := s.now } }.send .canBootUp

/-- R445: AVS starts towards the fused voltage. -/
def State.startAvs (s : State) : State :=
  if s.val Obj.pwrAvsEn = 0 then s
  else s.modPwr fun p => { p with avsRuns := true, vt := Config.vfuse, avsAt := s.now, avsTickAt := s.now }

/-- CASK_LOAD_DONE: management becomes reachable. A part that was RETIRED before the reset opens its CAN path alone (R413). -/
def execCaskLoadDone (t : Nat) (s : State) : Host.Outcome State Fault Refusal :=
  startupStep t 3 (fun s =>
    let s := s.loadLive.loadPools.loadFirmware.loadRecipe.loadBootSlot.loadTwin.openCan.startAvs
    let s : State := { s with cmp := { s.cmp with areaMib := s.val Obj.cmpAreaMib },
                              tbs := { s.tbs with todWaitFrom := some s.now },
                              strel := { s.strel with listening := s.trust.lifecycle != 3 } }
    (if s.pwr.safeAfterCask then (cwtSafeEnter s).1 else s).toPhase 4) s

/-! ### Memories, lanes -/

/-- QDR_TRAINING_DONE (R329): the channels that found no working setting. -/
def execQdrTrainingDone (t : Nat) (failed : List Nat) (s : State) : Host.Outcome State Fault Refusal :=
  startupStep t 4 (fun s =>
    let s := (List.range 12).foldl (fun s c =>
      if failed.contains c then (s.modQdr c fun x => { x with state := 3 }).report (0x500 + c) .trainFail 0 0
      else s.modQdr c fun x => { x with state := 1 }) s
    s.toPhase 5) s

/-- R345: whether the training cache is of this MEM_DD_CONFIG. -/
def State.cacheFits (s : State) : Bool := s.cask.training == some (s.val Obj.memDdConfig)

/-- DDR_TRAINING_DONE (R345, R349): `verified`: the cached results keep at least half of each stored margin. -/
def execDdrTrainingDone (t : Nat) (verified : Bool) (failed : List Nat) (s : State) : Host.Outcome State Fault Refusal :=
  startupStep t 5 (fun s =>
    let cached := s.cacheFits && verified
    let s := s.put Obj.memTrainCached 0 (ofBool cached : Nat)
    let s : State := if cached then s else { s with cask := { s.cask with training := some (s.val Obj.memDdConfig) } }
    let s := (List.range 8).foldl (fun s c =>
      s.modDdr c fun x => { x with state := .service, lastRetrain := s.now, lastRequest := s.now }) s
    let s := (failed.eraseDups.filter fun c => decide (c < 8)).foldl (fun s c => s.retireDdr c 0) s
    ((List.range 96).foldl (fun s n => if s.portEnabled n then s.portStart n else s) s).toPhase 6) s

/-- R298: whether each enabled port is UP or DOWN. -/
def State.lanesSettled (s : State) : Bool :=
  (List.range 96).all fun n => !s.portEnabled n || (s.port n).state == .up || (s.port n).state == .down

/-- LANES_DONE (R298): each enabled port is UP or DOWN, or 300 ms have passed; the Timebase acquires. -/
def execLanesDone (t : Nat) (s : State) : Host.Outcome State Fault Refusal :=
  startupStep t 6 (fun s =>
    if s.lanesSettled ∨ s.pwr.phaseAt + 300000000 ≤ s.now then (s.toPhase 7).tryLock else s) s

end Sys2Proof.Machine
end

