-- ==== Sys2Proof/Machine/Reads.lean ====
section
/-! DEFINITION. What a read of an object returns (R39, R52): the objects that show a unit's state, the objects that one part
fixes, and the values last written of the rest. -/
set_option Elab.async false
namespace Sys2Proof.Machine

/-- A reader of an object: the device, the row. -/
abbrev Reader := State → Nat → Value

/-- A asCount as a value. -/
def asCount (n : Nat) : Value := .num n

/-- A asCount that an object's width of `w` bits holds at its largest value. -/
def countMax (w n : Nat) : Value := .num (min n (2 ^ w - 1) : Nat)

/-- A Bool as a value. -/
def flag (b : Bool) : Value := .num (ofBool b : Nat)

/-- An unsigned view of a signed amount. -/
def positive (w : Nat) (i : Int) : Value := countMax w i.toNat

/-! ### Chapters 1 to 3 -/

/-- FLR objects. -/
def readersFlr : List (Nat × Reader) :=
  [(Obj.flrPixelW.code, fun s _ => asCount (32 * s.sets.green.width)),
   (Obj.flrPixelH.code, fun s _ => asCount (32 * s.sets.green.height)),
   (Obj.flrLoadLive.code, fun s _ => countMax 16 s.sets.bright.load),
   (Obj.flrMapLive.code, fun s row => asCount (s.sets.bright.map.get row)),
   (Obj.flrRegionsLive.code, fun s _ => .bytes s.sets.bright.regionForm),
   (Obj.flrRegionCount.code, fun s _ => asCount s.sets.green.regions.length),
   (Obj.flrSubW0Live.code, fun s row => asCount (s.bright Obj.flrSubW0 row)),
   (Obj.flrSubW1Live.code, fun s row => asCount (s.bright Obj.flrSubW1 row)),
   (Obj.flrSubCount.code, fun s _ => asCount (s.sets.green.rowsWhere Obj.flrSubW0 fun v => bit v 50 && !bit v 51).length),
   (Obj.flrSubFillCount.code, fun s _ => asCount (s.sets.green.rowsWhere Obj.flrSubW0 fun v => bit v 50 && bit v 51).length),
   (Obj.flrPersistBytes.code, fun s _ => asCount s.sets.bright.persistBytes)]

/-- Objects of chapter 2. -/
def readersSet : List (Nat × Reader) :=
  [(Obj.hardwareVersion.code, fun _ _ => .bytes Config.hardwareVersion),
   (Obj.softwareVersion.code, fun _ _ => .bytes Config.softwareVersion),
   (Obj.revisionNumber.code, fun _ _ => asCount Config.revision),
   (Obj.serialNumber.code, fun _ _ => asCount Config.serial),
   (Obj.errorRegister.code, fun s _ => asCount s.errorRegister),
   (Obj.cobIdEmcy.code, fun s _ => asCount (0x80 + s.pwr.nodeId)),
   (Obj.setRackState.code, fun s _ => asCount s.sets.rack.state.code),
   (Obj.setRackResult.code, fun s _ => asCount s.sets.rack.result.code),
   (Obj.setRackFrame.code, fun s _ => asCount s.sets.rack.frame),
   (Obj.setRackCount.code, fun s _ => asCount s.sets.rack.count),
   (Obj.setGreenDigest.code, fun s _ => .bytes s.greenDigest),
   (Obj.setBrightDigest.code, fun s _ => .bytes s.sets.bright.digest),
   (Obj.setSlotStateA.code, fun s _ => asCount s.sets.slotA.state),
   (Obj.setSlotStateB.code, fun s _ => asCount s.sets.slotB.state),
   (Obj.setSessionsOpen.code, fun s _ => asCount s.strel.sessions.length),
   (Obj.setSessionInfo.code, fun s row => .bytes (s.sessionInfo row)),
   (Obj.setCanRole.code, fun s _ => asCount s.can.role.code)]

/-- Objects of chapter 3. -/
def readersTbs : List (Nat × Reader) :=
  [(Obj.tbsState.code, fun s _ => asCount s.tbs.state.code),
   (Obj.tbsCanvasLock.code, fun s _ => flag s.tbs.canvasLock),
   (Obj.tbsNowCtime.code, fun s _ => .bytes s.ctime.bytes),
   (Obj.tbsNowTime80.code, fun s _ => .bytes (time80 s.deviceTime)),
   (Obj.tbsFreqPpb.code, fun s _ => .num s.freqNow),
   (Obj.tbsHoldoverS.code, fun s _ => asCount s.holdoverSeconds),
   (Obj.tbsCalW0.code, fun s row => asCount (if row < 256 then s.calW0 row else s.calInternalWord row 0)),
   (Obj.tbsCalW1.code, fun s row => asCount (if row < 256 then s.calW1 row else s.calInternalWord row 1)),
   (Obj.tbsCalUsed.code, fun s _ => asCount s.calUsed)]

/-! ### Chapters 4 to 9 -/

/-- CMP objects. -/
def readersCmp : List (Nat × Reader) :=
  [(Obj.cmpSteepGreen.code, fun s _ => asCount (s.sets.green.ringTotal 63)),
   (Obj.cmpSteepBright.code, fun s _ => asCount (s.sets.bright.ringTotal 63)),
   (Obj.cmpRowBudget.code, fun s _ => positive 32 s.sets.bright.brow),
   (Obj.cmpAreaFreeMib.code, fun s _ => asCount ((s.cmp.areaMib * 1048576 - s.areaUsed none) / 1048576)),
   (Obj.cmpFlowW0Live.code, fun s row => asCount (s.bright Obj.cmpFlowW0 row)),
   (Obj.cmpFlowW1Live.code, fun s row => asCount (s.bright Obj.cmpFlowW1 row)),
   (Obj.cmpFlowStatus.code, fun s row => asCount (if (s.flow row).hideFrom.isSome then 3 else (s.flow row).status)),
   (Obj.cmpSlotW0Live.code, fun s row => asCount (s.bright Obj.cmpSlotW0 row)),
   (Obj.cmpSlotW1Live.code, fun s row => asCount (s.bright Obj.cmpSlotW1 row)),
   (Obj.cmpSlotW2Live.code, fun s row => asCount (s.bright Obj.cmpSlotW2 row)),
   (Obj.cmpSlotLbNeed.code, fun s row =>
     let l := s.sets.green.slot row
     asCount (if l.en then ceilDiv (l.sw * s.slotHalves s.sets.green l) 2 * min (ceilDiv (31 * l.sh) l.dh + 7) l.sh else 0)),
   (Obj.cmpFilterBank.code, fun _ row => .bytes (bankBytes row)),
   (Obj.cmpStackW0Live.code, fun s row => asCount (s.bright Obj.cmpStackW0 row)),
   (Obj.cmpStackW1Live.code, fun s row => asCount (s.bright Obj.cmpStackW1 row)),
   (Obj.cmpRawW0Live.code, fun s row => asCount (s.bright Obj.cmpRawW0 row)),
   (Obj.cmpRawW1Live.code, fun s row => asCount (s.bright Obj.cmpRawW1 row)),
   (Obj.cmpStillDesc.code, fun s row => asCount (setBit (s.val Obj.cmpStillDesc row) 0 (s.still row).valid))]

/-- An amount of a receiver entry of a set; 0 for another entry. -/
def CanvasSet.ofReceiver (c : CanvasSet) (f : Nat → Nat) (row : Nat) : Nat := if c.isReceiver row then f row else 0

/-- CSP objects. -/
def readersCsp : List (Nat × Reader) :=
  [(Obj.cspCanvasPsBytes.code, fun s _ => asCount (s.sets.green.psBytes 4096)),
   (Obj.cspSubLevel.code, fun s row => asCount (s.sets.green.ofReceiver s.sets.green.level row)),
   (Obj.cspSubLevelLive.code, fun s row => asCount (s.sets.bright.ofReceiver s.sets.bright.level row)),
   (Obj.cspSubPsBytes.code, fun s row => countMax 16 (s.sets.green.ofReceiver s.sets.green.psBytes row)),
   (Obj.cspSubState.code, fun s row => asCount (s.subState row))]

/-- TUN objects. -/
def readersTun : List (Nat × Reader) :=
  [(Obj.tunRomVersion.code, fun _ _ => asCount Config.romVersion),
   (Obj.tunRomCrc.code, fun _ _ => asCount romCrc),
   (Obj.tunPatchStatus.code, fun s _ => asCount s.tuns.patchStatus),
   (Obj.tunPatchResult.code, fun s _ => asCount s.tuns.patchResult.code),
   (Obj.tunPatchFrame.code, fun s _ => asCount s.tuns.patchFrame),
   (Obj.tunPatchActive.code, fun s _ => .bytes s.tunPatchForm),
   (Obj.tunLambda.code, fun _ _ => .bytes ((List.range 76).flatMap fun k => bytesBE 4 (lambdaOf k))),
   (Obj.tunState.code, fun s row => asCount (s.tun row).state.code),
   (Obj.tunBistResult.code, fun s row => asCount (s.tun row).bistResult),
   (Obj.tunBistPhase.code, fun s row => asCount (s.tun row).bistPhase),
   (Obj.tunBistTime.code, fun s row => .bytes (time80 (s.tun row).bistEnd)),
   (Obj.tunBistPending.code, fun s row => flag (s.tun row).bistPending)]

/-- The least of some integers; 0 of none. -/
def leastOf : List Int → Int
  | [] => 0
  | a :: l => l.foldl min a

/-- R170: the row of the worst load of a set: the first one that has it. -/
def CanvasSet.worstRow (c : CanvasSet) : Nat :=
  let top := c.rowLoad
  ((List.range (if c.hasCanvas then c.height else 0)).find? fun y => 1000 * c.rowCost y / c.rowBudget == top).getD 0

/-- DSP objects. -/
def readersDsp : List (Nat × Reader) :=
  [(Obj.dspRotateNext.code, fun s _ => asCount s.rotateChoice),
   (Obj.dspActiveNow.code, fun s _ => asCount s.encodeTickets),
   (Obj.dspSparesNow.code, fun s _ => asCount (s.tunsActive - s.na)),
   (Obj.dspMinSlackLines.code, fun s _ => .num (leastOf ((lastSecond s.now s.dsp.slacks).map fun p : Nat × Int => p.2))),
   (Obj.dspRowLoadPermille.code, fun s _ => countMax 16 s.sets.green.rowLoad),
   (Obj.dspRowWorst.code, fun s _ => asCount s.sets.green.worstRow),
   (Obj.dspEffortNow.code, fun s _ => asCount s.dsp.effort),
   (Obj.dspEffortPending.code, fun s _ => asCount ((s.dsp.effortPending.getLast?.map fun x : EffortChange => x.level).getD 255)),
   (Obj.dspEffortFrame.code, fun s _ => asCount ((s.dsp.effortPending.getLast?.map fun x : EffortChange => x.frame).getD s.dsp.effortFrame)),
   (Obj.dspGovState.code, fun s _ => asCount s.dsp.govState)]

/-- The greatest of some numbers; 0 of none. -/
def greatestOf (l : List Nat) : Nat := l.foldl max 0

/-- GRV and RAK objects. -/
def readersGrv : List (Nat × Reader) :=
  [(Obj.grvCapBits.code, fun s row => countMax 32 (s.sets.green.ofReceiver (fun r => (s.sets.green.capBits r).toNat) row)),
   (Obj.grvCapBitsLive.code, fun s row => countMax 32 (s.sets.bright.ofReceiver (fun r => (s.sets.bright.capBits r).toNat) row)),
   (Obj.grvOhBits.code, fun s row => countMax 32 (s.sets.green.ofReceiver s.sets.green.ohBits row)),
   (Obj.grvReserveMax.code, fun s row =>
     countMax 32 (s.sets.green.ofReceiver (s.sets.green.need (s.bright Obj.rakPeriod)) row)),
   (Obj.grvPeakPermille.code, fun s row =>
     countMax 16 (greatestOf ((lastSecond s.now (Table.get [] s.dsp.peaks row)).map fun p : Nat × Nat => p.2))),
   (Obj.grvQpdLive.code, fun s row => .num (s.sets.bright.int Obj.grvQpd row)),
   (Obj.rakK.code, fun s _ => asCount s.rake.kCommitted),
   (Obj.rakPeriodNow.code, fun s _ => asCount s.rake.p),
   (Obj.rakPeriodStart.code, fun s _ => asCount s.rake.periodStart),
   (Obj.rakSubNudgeState.code, fun s row => asCount (s.nudge row).state.code),
   (Obj.rakSubNudgeFrame.code, fun s row =>
     let n := s.nudge row
     asCount (if n.state = NudgeState.active then n.fs else if n.state = NudgeState.idle then 0 else n.fn)),
   (Obj.rakSubInexact.code, fun s row => flag (s.rake.inexact.contains row))]

/-- ASM objects. -/
def readersAsm : List (Nat × Reader) :=
  [(Obj.asmSubHp.code, fun s row =>
     asCount (s.sets.green.ofReceiver (fun r => s.sets.green.overhead (s.sets.green.entry r).tap) row)),
   (Obj.asmSubSeq.code, fun s row => asCount (s.asmStream row).es),
   (Obj.asmLanesOk.code, fun s _ => asCount ((List.range 48).filter fun n => (s.lane n).state != 2).length),
   (Obj.asmLaneState.code, fun s row => asCount (s.lane row).state)]

/-! ### Chapters 10 to 13 -/

/-- TWN objects. -/
def readersTwn : List (Nat × Reader) :=
  [(Obj.twnRole.code, fun s _ => asCount s.twn.role),
   (Obj.twnState.code, fun s _ => asCount s.twn.state.code),
   (Obj.twnSilenceCause.code, fun s _ => asCount (if s.twn.state = .silenced then (if s.twn.manual then 6 else s.twn.cause) else 0)),
   (Obj.twnLinkUp.code, fun s _ => flag s.twn.linkUp),
   (Obj.twnPartnerOk.code, fun s _ => flag s.twn.okIn),
   (Obj.twnMatchRun.code, fun s _ => asCount s.twn.matchRun)]

/-- Table 11-4: the map of a picture: header, then two bits a cell in raster order, four cells a byte from bit 7 down. -/
def DecPic.mapBytes (p : DecPic) : Bytes :=
  let wc := cellsOf p.w
  let hc := cellsOf p.h
  let cell := fun i => Table.get 0 p.cells i
  let held := fun st => ((List.range (wc * hc)).filter fun i => cell i == st).length
  bytesBE 4 p.ts ++ bytesBE 4 (unsigned 32 p.poc) ++ bytesBE 2 wc ++ bytesBE 2 hc ++ bytesBE 2 p.cropL ++ bytesBE 2 p.cropT
    ++ bytesBE 4 (held 1) ++ bytesBE 4 (held 2) ++ zeros 8
    ++ (List.range (ceilDiv (wc * hc) 4)).flatMap fun b =>
      bytesBE 1 (64 * cell (4 * b) + 16 * cell (4 * b + 1) + 4 * cell (4 * b + 2) + cell (4 * b + 3))

/-- FIN_STR_OUT of a stream: hidden, LOST, receiving once a picture was used fresh, none. -/
def DecStream.outCode (x : DecStream) : Nat :=
  if x.hideFrom.isSome then 3 else if x.lost then 2 else if x.used.isSome then 1 else 0

/-- FIN objects. -/
def readersFin : List (Nat × Reader) :=
  [(Obj.finAreaFreeMib.code, fun s _ =>
     let c := s.sets.green
     asCount ((s.val Obj.finAreaMib * 1048576 - (((List.range 32).filter c.decEn).map c.decNeed).sum) / 1048576)),
   (Obj.finLoadPermille.code, fun s _ =>
     let r := s.sets.green.decLoad
     countMax 16 (1000 * r.1 / (s.sets.green.nat Obj.dspDecodeTuns * 1600000000 * r.2))),
   (Obj.finStrW0Live.code, fun s row => asCount (s.bright Obj.finStrW0 row)),
   (Obj.finStrW1Live.code, fun s row => asCount (s.bright Obj.finStrW1 row)),
   (Obj.finStrState.code, fun s row => asCount (s.decStream row).state),
   (Obj.finStrOut.code, fun s row => asCount (s.decStream row).outCode),
   (Obj.finStrPtl.code, fun s row => asCount (s.decStream row).ptl),
   (Obj.finMap.code, fun s row => .bytes (((s.decStream row).lastOut.map DecPic.mapBytes).getD []))]

/-- LNK_PORT_STATE's codes. -/
def PortState.code : PortState → Nat
  | .disabled => 0 | .an => 1 | .training => 2 | .align => 3 | .hold => 4 | .up => 5 | .down => 6

/-- LNK_LANE_LOCK: the lanes of a port hold block lock from the end of ALIGN (Table 12-4). -/
def State.portLocked (s : State) (n : Nat) : Bool := (s.port n).state == PortState.hold || (s.port n).state == PortState.up

/-- LNK objects. -/
def readersLnk : List (Nat × Reader) :=
  [(Obj.lnkBaseMac.code, fun _ _ => asCount Config.baseMac),
   (Obj.lnkLanePrbsErr.code, fun s row => asCount (if Table.get 0 s.links.prbs row = 0 then s.val Obj.lnkLanePrbsErr row
     else Config.prbsErrors row (Table.get 0 s.links.prbsFrom row) s.now)),
   (Obj.lnkPortState.code, fun s row => asCount (s.port row).state.code),
   (Obj.lnkPortCause.code, fun s row => asCount (s.port row).cause),
   (Obj.lnkPortFailedOver.code, fun s row => flag (s.pathPort row != row)),
   (Obj.lnkLaneLock.code, fun s row => flag ((s.portOfLane row).any s.portLocked)),
   (Obj.lnkFlowLive.code, fun s row => .bytes ((List.range 6).flatMap fun k => bytesBE 8 (s.sets.bright.flow row k))),
   (Obj.lnkPolLive.code, fun s row => .bytes ((List.range 2).flatMap fun k => bytesBE 8 (s.sets.bright.policer row k)))]

/-- R307: TAP_LAT_BYTES of a set, with times rounded to the nearest nanosecond (DEDUCED from Table 13-7's example). -/
def CanvasSet.latBytes (c : CanvasSet) (p : Nat) : Nat :=
  let lines := fun n => roundDiv (n * c.nat Obj.flrRateDen * giga) (c.nat Obj.flrRateNum * c.nat Obj.flrTotalLines)
  let d := lines 64 + (if c.nat Obj.twnMode = 1 then 48000 else 36000)
  if c.nat Obj.flrTotalLines = 0 then 0
  else (d - lines (c.nat Obj.tapLaunchLines)) * c.tapPeak p / 8000000 + c.tapBurst p

/-- TAP objects. -/
def readersTap : List (Nat × Reader) :=
  [(Obj.tapLive.code, fun s row => .bytes ((List.range 10).flatMap fun k => bytesBE 8 (s.sets.bright.tap row k))),
   (Obj.tapQDepth.code, fun s row => asCount (s.tapAt row).videoCount),
   (Obj.tapWinFill.code, fun s row => asCount (s.tapAt row).window.length),
   (Obj.tapRewindEs.code, fun s row => asCount (((s.tapAt row).window.head?.map fun x : TapPkt => x.pkt.es).getD 0)),
   (Obj.tapLatBytes.code, fun s row => countMax 32 (s.sets.green.latBytes row)),
   (Obj.tapPortLoadPermille.code, fun s row => countMax 16 (1000 * s.sets.green.portLoad row / s.portRate row)),
   (Obj.tapPortActiveMax.code, fun s row => countMax 16 (greatestOf ((levelsSince s.now (s.sched row).levels).map fun p : Nat × Nat => p.2)))]

/-! ### Chapters 14 to 18 -/

/-- MEM objects. -/
def readersMem : List (Nat × Reader) :=
  [(Obj.memQdState.code, fun s row => asCount (s.qdr row).state),
   (Obj.memQdPending.code, fun s row => flag (s.qdr row).pending),
   (Obj.memDdCapacityGib.code, fun s _ => asCount (8 * ddrCapacity (s.val Obj.memDdConfig) / 1073741824)),
   (Obj.memDdFitPermille.code, fun s _ =>
     countMax 16 (1000 * s.storeChunks s.sets.green * 2048 / ddrCapacity (s.val Obj.memDdConfig))),
   (Obj.memDdDegraded.code, fun s _ => flag s.mem.degraded),
   (Obj.memDdSrm.code, fun s _ => flag s.mem.srm),
   (Obj.memDdState.code, fun s row => asCount (s.ddr row).state.code),
   (Obj.memDdPanicUs.code, fun s row => countMax 64 ((s.ddr row).panicNs / 1000)),
   (Obj.memDdPending.code, fun s row => flag ((s.ddr row).pending || (s.ddr row).due)),
   (Obj.memGrBanksOk.code, fun s _ => asCount ((List.range 32).filter fun b => s.bank b == BankState.service).length),
   (Obj.memArbMaxWait.code, fun s row =>
     countMax 32 (greatestOf ((lastSecond s.now (Table.get [] s.mem.waits row)).map fun p : Nat × Nat => p.2)))]

/-- The least of a level over the last second, where `now` is the level at present. -/
def leastLevel (now : Nat) (l : List (Nat × Nat)) (level : Nat) : Nat :=
  ((levelsSince now l).map fun p : Nat × Nat => p.2).foldl min level

/-- SPG_CH_STATE's codes. -/
def SpargeState.code : SpargeState → Nat
  | .idle => 0 | .run => 1 | .waitReq => 2 | .retry => 3 | .halted => 4 | .done => 5

/-- SPG_DIAG_STATUS: 1 while channel 31 has a descriptor in hand. -/
def SpargeChannel.diag (ch : SpargeChannel) : Nat :=
  if ch.state = .run ∨ ch.state = .waitReq ∨ ch.state = .retry then 1 else ch.ended

/-- Objects of chapter 15. -/
def readersSpg : List (Nat × Reader) :=
  [(Obj.spgDiagStatus.code, fun s _ => asCount (s.spargeCh 31).diag),
   (Obj.spgChState.code, fun s row => asCount (s.spargeCh row).state.code),
   (Obj.spgChPrio.code, fun s row => asCount (s.spargeCh row).prio),
   (Obj.spgChDoneBytes.code, fun s row => asCount (s.spargeCh row).writePos),
   (Obj.kegPoolBase.code, fun s row => asCount (s.kegBase row)),
   (Obj.kegPoolFree.code, fun s row => asCount (s.kegFreeCount row)),
   (Obj.kegPoolLow.code, fun s row => asCount (leastLevel s.now (Table.get [] s.keg.levels row) (s.kegFreeCount row))),
   (Obj.wrtFill.code, fun s row => asCount (s.wortLine row).fill),
   (Obj.wrtHighWater.code, fun s row =>
     asCount (max (s.wortLine row).fill (greatestOf ((levelsSince s.now (s.wortLine row).levels).map fun p : Nat × Nat => p.2))))]

/-- The 20 bytes of a latch (R391) or of CWT_SAFE_CAUSE (R395); zeros when empty. -/
def heldBytes : Option (FaultMsg × Nat) → Bytes
  | some (m, time) => m.stamped time
  | none => zeros 20

/-- R410: the bytes of a slot of the ring. A slot with an uncorrectable word reads as zeros, and so does a slot that no record
of this run has reached (DESIGN CHOICE; log entry 60). -/
def BrewLog.slotBytes (b : BrewLog) (slot : Nat) : Bytes :=
  if b.badSlots.contains slot ∨ b.ring.all (fun p => p.1 != slot) then zeros 32 else (Table.get BrewRec.zero b.ring slot).bytes

/-- Objects of chapter 16. -/
def readersCwt : List (Nat × Reader) :=
  [(Obj.cwtRealLatch.code, fun s _ => .bytes (heldBytes s.cellar.realLatch.held)),
   (Obj.cwtRealOvf.code, fun s _ => flag s.cellar.realLatch.overflow),
   (Obj.cwtInjLatch.code, fun s _ => .bytes (heldBytes s.cellar.injLatch.held)),
   (Obj.cwtInjOvf.code, fun s _ => flag s.cellar.injLatch.overflow),
   (Obj.cwtSafe.code, fun s _ => flag s.cellar.safe),
   (Obj.cwtSafeCause.code, fun s _ => .bytes (heldBytes s.cellar.safeCause)),
   (Obj.icuSrcLevel.code, fun s row => flag (s.irqLevel row)),
   (Obj.icuExtRunning.code, fun s _ => asCount s.extRunning),
   (Obj.icuExtMask.code, fun s row => asCount (s.extMask row)),
   (Obj.icuExtStorm.code, fun s row => asCount (s.extStorm row)),
   (Obj.icuExtPending.code, fun s row =>
     asCount ((List.range 32).map fun i =>
       if s.irqLevel (32 * row + i) ∧ bits (s.val Obj.icuSrc (32 * row + i)) 5 4 = 2 then 2 ^ i else 0).sum),
   (Obj.logHeadSeq.code, fun s _ => asCount s.brew.nextSeq),
   (Obj.logOldestSeq.code, fun s _ => asCount s.brew.oldest),
   (Obj.logRing.code, fun s _ => .bytes ((List.range ringSlots).flatMap s.brew.slotBytes)),
   (Obj.logRec.code, fun s row => .bytes (s.brew.slotBytes row)),
   (Obj.logCkpt.code, fun s _ => .bytes (s.brew.ckpt.flatMap BrewRec.bytes)),
   (Obj.logBootCount.code, fun s _ => asCount s.brew.bootCount)]

/-- SEC and CSK objects. -/
def readersSec : List (Nat × Reader) :=
  [(Obj.secLifecycle.code, fun s _ => asCount s.trust.lifecycle),
   (Obj.secDevCert.code, fun s _ => .bytes (s.trust.identity.getD [])),
   (Obj.secIdEcdsaPub.code, fun s _ => .bytes s.idEcdsa),
   (Obj.secIdHssPub.code, fun s _ => .bytes s.idHss),
   (Obj.secFactoryExport.code, fun s _ => .bytes (claimKey s.trust.secret ++ deviceKey s.trust.secret "NG-VWRAP")),
   (Obj.secKeyHash.code, fun _ _ => .bytes ((List.range 4).flatMap fun k => (Config.vendorKeyHash k ++ zeros 48).take 48)),
   (Obj.secKeyRevoked.code, fun s _ => asCount ((List.range 4).map fun k => if s.trust.revoked.contains k then 2 ^ k else 0).sum),
   (Obj.secFwPatchActive.code, fun s _ => .bytes (fwForm s.trust.fwActive)),
   (Obj.secFwPatchStaged.code, fun s _ => .bytes (fwForm s.trust.fwStored)),
   (Obj.secRollback.code, fun s row => asCount (s.counter row)),
   (Obj.secKeySlots.code, fun s _ => asCount s.keySlots),
   (Obj.secVendorExpiry.code, fun s _ => asCount s.vendorExpiry),
   (Obj.secAttState.code, fun s _ => asCount s.trust.attState),
   (Obj.secAttRemaining.code, fun s _ => asCount (1073741824 - s.trust.qNext)),
   (Obj.cskRegionState.code, fun s row => asCount (Table.get 0 s.cask.regions row))]

/-- PWR objects. -/
def readersPwr : List (Nat × Reader) :=
  [(Obj.pwrTj.code, fun s _ => .num s.pwr.tj),
   (Obj.pwrTjMax.code, fun s _ => .num s.pwr.tjMax),
   (Obj.pwrLifeHours.code, fun s _ => countMax 32 s.pwr.lifeHours),
   (Obj.pwrLifePermille.code, fun s _ => countMax 16 s.pwr.lifePermille),
   (Obj.pwrResetCause.code, fun s _ => asCount s.pwr.cause),
   (Obj.pwrBootPhase.code, fun s _ => asCount s.pwr.phase),
   (Obj.pwrBootMs.code, fun s _ => asCount s.pwr.bootMs),
   (Obj.pwrStraps.code, fun s _ => asCount (s.pwr.nodeId + 128 * s.pwr.twinRole + 256 * s.pwr.bootSel)),
   (Obj.pwrHealthy.code, fun s _ => flag s.pwr.healthy),
   (Obj.pwrVfuseMv.code, fun _ _ => asCount Config.vfuse),
   (Obj.pwrVcoreMv.code, fun s _ => asCount s.pwr.vt),
   (Obj.pwrSensor.code, fun s row => .num (Table.get 0 s.pwr.sensors row)),
   (Obj.pwrSensorOk.code, fun s row => flag (!s.pwr.excluded.contains row))]

/-- Every reader, by the object's code. -/
def readers : List (Nat × Reader) :=
  readersFlr ++ readersSet ++ readersTbs ++ readersCmp ++ readersCsp ++ readersTun ++ readersDsp ++ readersGrv ++ readersAsm
    ++ readersTwn ++ readersFin ++ readersLnk ++ readersTap ++ readersMem ++ readersSpg ++ readersCwt ++ readersSec ++ readersPwr

/-! ### Values the manual leaves open -/

/-- Objects whose value at a read depends on what the model does not hold (supplies, the Grist's contents, compression): a free
value at each read, in the bounds the manual gives (log entry 61). -/
def State.openRead (s : State) (o : Obj) (v : Nat) : Option Nat :=
  if o.code = Obj.pwrPower.code ∨ o.code = Obj.pwrRailMv.code ∨ o.code = Obj.pwrRailMinMv.code ∨ o.code = Obj.pwrRailMaxMv.code
      ∨ o.code = Obj.memRefRatio.code then some (v % 65536)
  else if o.code = Obj.memGrHitPermille.code then some (v % 1001)
  else if o.code = Obj.memDdEmptyBursts.code then some (if s.mem.degraded then v % (s.mem.emptyBursts + 1) else 0)
  else if o.code = Obj.pwrGpioIn.code then
    let dir := s.val Obj.pwrGpioDir
    some ((s.val Obj.pwrGpioOut &&& dir) ||| (v % 65536 &&& (65535 - dir)))
  else none

/-! ### Reading -/

/-- Objects whose value takes effect at the next reset: what is written waits in the Cask. -/
def Obj.atReset (o : Obj) : Bool :=
  [Obj.memDdConfig.code, Obj.finAreaMib.code, Obj.cmpAreaMib.code, Obj.kegPoolCount.code, Obj.twnPortA.code, Obj.twnPortB.code,
   Obj.pwrAvsEn.code, Obj.pwrAvsAddr.code].contains o.code

/-- Whether an object is the ROW_SELECT of its index (R34). -/
def Obj.isRowSelect (o : Obj) : Bool := "ROW_SELECT".toList.isSuffixOf o.name.toList

/-- The ROW_SELECT values of an accessor's session, by index (R34). -/
def State.rowSelects (s : State) : Path → Table Nat
  | .strel id => ((s.session id).map fun z : Session => z.rowSelect).getD []
  | .can => s.can.rowSelect
  | .firmware => []

/-- Records a ROW_SELECT value. -/
def State.selectRow (s : State) (who : Path) (index v : Nat) : State :=
  match who with
  | .strel id =>
    { s with strel := { s.strel with sessions := s.strel.sessions.map fun z : Session =>
        if z.id = id then { z with rowSelect := Table.set 0 z.rowSelect index v } else z } }
  | .can => { s with can := { s.can with rowSelect := Table.set 0 s.can.rowSelect index v } }
  | .firmware => s

/-- The index whose ROW_SELECT names the row of an object (chapters 13 and 16: 0x3020 by 0x3010, 0x3549 by 0x3548). -/
def selectIndex (index : Nat) : Nat := if index = 0x3020 then 0x3010 else if index = 0x3549 then 0x3548 else index

/-- R39: the value of an RG object in a set. -/
def CanvasSet.value (c : CanvasSet) (o : Obj) (row : Nat) : Value :=
  if o.code = Obj.flrMap.code then asCount (c.map.get row) else Store.read c.objs o row

/-- The value a read returns: of a set, of the session, of a unit, or the one last written. -/
def State.readValue (s : State) (who : Path) (bright : Bool) (o : Obj) (row : Nat) : Value :=
  if o.access = .rg then (if bright then s.sets.bright else s.sets.green).value o row
  else if o.isRowSelect then asCount (Table.get 0 (s.rowSelects who) o.index)
  else if o.atReset then Store.read s.cask.live o row
  else
    match readers.find? fun p => p.1 == o.code with
    | some p => p.2 s row
    | none => s.written o row

/-- A read as the object's own rule has it: the state after, and the value's bytes from offset `offset` on or a refusal. -/
def State.readObject (s : State) (who : Path) (bright : Bool) (o : Obj) (row offset : Nat) : State × Except Status Bytes :=
  if o.code = Obj.icuExtClaim.code then
    let r := s.extClaim
    (r.1, .ok (bytesBE 2 r.2))
  else if o.code = Obj.secAttReport.code then s.readReport who offset
  else if o.code = Obj.setCanNonce.code then
    if offset = 0 then s.readCanNonce
    else
      let b := (s.can.nonce.map fun p : Bytes × Nat => p.1).getD []
      (s, if b.length < offset then .error .range else .ok (b.drop offset))
  else if o.code = Obj.secFactoryExport.code ∧ s.trust.lifecycle ≠ 1 then (s, .error .state)
  else
    match s.openRead o (Config.freeValue s.draws) with
    | some v => (s.drawn, .ok (encodeValue o.ty (asCount v)))
    | none =>
      let s := if o.code = Obj.logRec.code ∧ s.brew.badSlots.contains row then s.count Obj.logBadReads else s
      let b := encodeValue o.ty (s.readValue who bright o row)
      (s, if b.length < offset then .error .range else .ok (b.drop offset))

/-- R410: a READ of the ring or of the checkpoint ring: whole records. -/
def State.readRecords (s : State) (o : Obj) (offset maxlen : Nat) : State × Except Status (Bytes × Bool) :=
  let ring := o.code == Obj.logRing.code
  let size := 32 * (if ring then ringSlots else s.brew.ckpt.length)
  if size < offset ∨ (offset < size ∧ (offset % 32 ≠ 0 ∨ maxlen < 32)) then (s, .error .range)
  else
    let first := offset / 32
    let n := min (maxlen / 32) (size / 32 - first)
    let slots := (List.range n).map fun i => first + i
    let bad := if ring then (slots.filter s.brew.badSlots.contains).length else 0
    let bytes := if ring then slots.flatMap s.brew.slotBytes else ((s.brew.ckpt.drop first).take n).flatMap BrewRec.bytes
    (if bad = 0 then s else s.count Obj.logBadReads 0 bad, .ok (bytes, (first + n) * 32 == size))

end Sys2Proof.Machine
end

