-- ==== Sys2Proof/Machine/Writes.lean ====
section
/-! DEFINITION. What a write of an object does: the effect of its own rule, the green copy of an RG object, the staged value of
an RW object, and the write of any object by index and subindex (R32 to R36, R454). -/
set_option Elab.async false
namespace Sys2Proof.Machine

/-- The effect of a write by the object's own rule: who writes, SEQ of the request (R422), row, value. -/
abbrev Writer := Path → Nat → Nat → Value → State → Effect

/-- A writer that looks at the number alone. -/
def byNumber (f : Nat → State → Effect) : Writer := fun _ _ _ v s => f v.toNat s

/-- A writer that looks at the row and the number. -/
def byRow (f : Nat → Nat → State → Effect) : Writer := fun _ _ row v s => f row v.toNat s

/-- A writer that looks at the bytes alone. -/
def byBytes (f : Bytes → State → Effect) : Writer := fun _ _ _ v s => f v.toBytes s

/-- A writer that looks at nothing: the object takes one value only. -/
def byEvent (f : State → Effect) : Writer := fun _ _ _ _ s => f s

/-- Chapters 1 to 3. -/
def writersSet : List (Nat × Writer) :=
  [(Obj.setRack.code, byNumber setRack), (Obj.setRackCancel.code, byEvent setRackCancel), (Obj.setDiscard.code, byEvent setDiscard),
   (Obj.setValidate.code, byEvent setValidate), (Obj.setSave.code, byNumber setSave), (Obj.setLoad.code, byNumber setLoad),
   (Obj.setSessionKill.code, byNumber setSessionKill), (Obj.setStrelPort.code, byNumber setStrelPort),
   (Obj.setCanProof.code, byBytes setCanProof), (Obj.setCanLock.code, byEvent setCanLock),
   (Obj.tbsSource.code, byNumber tbsSource), (Obj.tbsTodSet.code, byBytes tbsTodSet),
   (Obj.tbsCalW0.code, fun who _ row v s => tbsCalW0 who row v.toNat s),
   (Obj.tbsCalW1.code, fun who _ row v s => tbsCalW1 who row v.toNat s),
   (Obj.flrFill.code, byNumber flrFill), (Obj.flrRegions.code, byBytes flrRegions), (Obj.flrCheck.code, byEvent flrCheck)]

/-- The management port's own IPv4 address: at once, with the announcement that a new address is owed (R289). -/
def lnkMgIpv4 (v : Nat) (s : State) : Effect :=
  let changed := s.val Obj.lnkMgIpv4 != v
  let s := s.put Obj.lnkMgIpv4 0 v
  (if changed ∧ s.val Obj.lnkMgLink ≠ 0 then s.announce 96 else s, .ok)

/-- Chapters 4 to 13. -/
def writersUnits : List (Nat × Writer) :=
  [(Obj.cmpStillDesc.code, byRow cmpStillDesc), (Obj.cmpStillData.code, fun _ _ row v s => cmpStillData row v.toBytes s),
   (Obj.tunPatchImage.code, fun who _ _ v s => tunPatchImage who v.toBytes s),
   (Obj.tunPatchApply.code, byNumber tunPatchApply), (Obj.tunPatchRemove.code, byEvent tunPatchRemove),
   (Obj.tunSelftest.code, byNumber tunSelftest), (Obj.tunReinstate.code, byNumber tunReinstate),
   (Obj.dspEffortCap.code, byNumber dspEffortCap), (Obj.rakNudge.code, byNumber rakNudge),
   (Obj.twnSilence.code, byNumber fun v s => if v = 1 then silenceSet s else silenceClear s),
   (Obj.twnKey.code, fun who seq _ v s => twnKey who seq v.toBytes s),
   (Obj.lnkPortW0.code, fun _ _ row v s => lnkPort row 0 v.toNat s), (Obj.lnkPortW1.code, fun _ _ row v s => lnkPort row 1 v.toNat s),
   (Obj.lnkPortW2.code, fun _ _ row v s => lnkPort row 2 v.toNat s), (Obj.lnkPortW3.code, fun _ _ row v s => lnkPort row 3 v.toNat s),
   (Obj.lnkPortW4.code, fun _ _ row v s => lnkPort row 4 v.toNat s), (Obj.lnkPortW5.code, fun _ _ row v s => lnkPort row 5 v.toNat s),
   (Obj.lnkLanePrbs.code, fun _ _ row v s => prbs row v.toNat (Config.prbsErrors row (Table.get 0 s.links.prbsFrom row) s.now) s),
   (Obj.lnkMgIpv4.code, byNumber lnkMgIpv4),
   (Obj.tapFlush.code, byRow tapFlush)]

/-- Chapters 14 to 18. -/
def writersCare : List (Nat × Writer) :=
  [(Obj.memRetrain.code, byNumber memRetrain), (Obj.memArbPrio.code, byRow memArbPrio),
   (Obj.memGrSelftest.code, byNumber memGrSelftest),
   (Obj.spgDiagDesc.code, byBytes spgDiagDesc), (Obj.wrtFlush.code, byRow wortFlush),
   (Obj.cwtClear.code, byNumber cwtClear), (Obj.cwtAck.code, byNumber cwtAck), (Obj.cwtSafeEnter.code, byEvent cwtSafeEnter),
   (Obj.cwtInject.code, byBytes cwtInject), (Obj.cwtForce.code, byNumber cwtForce),
   (Obj.icuSrc.code, byRow icuSrc), (Obj.icuExtEoi.code, byNumber icuExtEoi), (Obj.icuExtMask.code, byRow icuExtMask),
   (Obj.icuExtStorm.code, byRow icuExtStorm), (Obj.logMark.code, byNumber logMark),
   (Obj.secLifecycleAdvance.code, byEvent secLifecycleAdvance), (Obj.secRetire.code, byNumber secRetire),
   (Obj.secImage.code, fun who _ _ v s => secImage who v.toBytes s), (Obj.secFwPatchRemove.code, byEvent secFwPatchRemove),
   (Obj.secRollbackCommit.code, byNumber secRollbackCommit),
   (Obj.secKeyInstall.code, fun who seq _ v s => secKeyInstall who seq v.toBytes s), (Obj.secKeyErase.code, byNumber secKeyErase),
   (Obj.secAttNonce.code, fun who _ _ v s => secAttNonce who v.toBytes s), (Obj.pwrReset.code, byNumber pwrReset)]

/-- The writers by the object's code. -/
def writers : List (Nat × Writer) := writersSet ++ writersUnits ++ writersCare

/-- R370: whether the counts written for the next reset, with `v` for pool `pool`, fit. -/
def State.poolsFit (s : State) (pool v : Nat) : Bool :=
  let n := fun i => if i = pool then v else Store.nat s.cask.live Obj.kegPoolCount i
  decide (v % 64 = 0) && decide (((List.range 5).map n).sum ≤ 1048576)
    && decide (((List.range 5).map fun i => n i * kegSize i).sum ≤ 268435456)

/-- RANGE by an object's own rule: R330, R370, R390; by the values last written, MEM_DD_WQ_HIGH stays above MEM_DD_WQ_LOW
(Table 14-9), and PWR_WARN_C below DSP_THERM_LEAN_C below DSP_THERM_MIN_C (Tables 18-12 and 7-8). -/
def State.ruleRange (s : State) (o : Obj) (row : Nat) (v : Nat) : Bool :=
  if o.code = Obj.memDdConfig.code then decide (32 * 1073741824 ≤ 8 * ddrCapacity v) && decide (8 * ddrCapacity v ≤ 512 * 1073741824)
  else if o.code = Obj.memDdWqHigh.code then decide ((s.written Obj.memDdWqLow 0).toNat < v)
  else if o.code = Obj.memDdWqLow.code then decide (v < (s.written Obj.memDdWqHigh 0).toNat)
  else if o.code = Obj.pwrWarnC.code then decide (v < (s.written Obj.dspThermLeanC 0).toNat)
  else if o.code = Obj.dspThermLeanC.code then
    decide ((s.written Obj.pwrWarnC 0).toNat < v) && decide (v < (s.written Obj.dspThermMinC 0).toNat)
  else if o.code = Obj.dspThermMinC.code then decide ((s.written Obj.dspThermLeanC 0).toNat < v)
  else if o.code = Obj.kegPoolCount.code then s.poolsFit row v
  else if o.code = Obj.cwtRehearse.code then s.trust.lifecycle != 2 || decide (v ≤ 1)
  else true

/-- R39, R43, R25: a write into the green set. -/
def State.writeGreen (s : State) (o : Obj) (row : Nat) (v : Value) : State :=
  let g := s.sets.green
  let g : CanvasSet :=
    if o.code = Obj.flrMap.code then { g with map := g.map.set row v.toNat } else { g with objs := Store.write g.objs o row v }
  let s : State := { s with sets := { s.sets with green := g } }
  if o.index = 0x2600 ∨ o.index = 0x2610 ∨ o.index = 0x2620 then s.greenTouched.checkTouched else s.greenTouched

/-- The effect of a write that has passed steps 1 to 8 of R454. -/
def State.writeEffect (s : State) (who : Path) (seq : Nat) (o : Obj) (row : Nat) (v : Value) : Effect :=
  if o.access = .rg then (s.writeGreen o row v, .ok)
  else if o.isRowSelect then (s.selectRow who o.index v.toNat, .ok)
  else if s.ruleRange o row v.toNat = false then (s, .range)
  else
    match writers.find? fun p => p.1 == o.code with
    | some p => p.2 who seq row v s
    | none => if o.atReset then (s.keep o row v, .ok) else (s.stage o row v, .ok)

/-- A write of an object, checked by R454 and kept in the Cask where its table says so. -/
def State.writeObject (s : State) (who : Path) (seq : Nat) (o : Obj) (row : Nat) (v : Value) : Effect :=
  match s.writeRefusal who o row v with
  | some st => (s, st)
  | none =>
    let r := s.writeEffect who seq o row v
    (if r.2 = .ok ∧ o.kept then r.1.keep o row v else r.1, r.2)

/-- R32: the object at an index and subindex. Subindex 0 of an index whose table has none reads as the highest subindex. -/
def lookupObj (index sub : Nat) : Except Status Obj :=
  match findObj index sub with
  | .error .noSubindex =>
    if sub = 0 then .ok ⟨index, 0, .u8, .ro, .viewer, 0, .num (highestSub index : Nat), [], [], 0, 0, false, ""⟩
    else .error .noSubindex
  | r => r

/-- The value a write's bytes spell; a number that has not its type's width stays bytes, which R33 refuses. -/
def Obj.valueOf (o : Obj) (data : Bytes) : Value :=
  if o.ty.isNumeric ∧ data.length ≠ o.ty.width then .bytes data else decodeValue o.ty data

/-- The SEQ of the next request of the path's session (R56); 0 for a path that numbers none. -/
def State.nextSeq (s : State) : Path → Nat
  | .strel id => ((s.session id).map fun z : Session => add32 z.lastSeq 1).getD 0
  | _ => 0

/-- OBJECT_WRITE (R33): the whole value at once. -/
def execObjectWrite (t : Nat) (who : Path) (index sub row : Nat) (data : Bytes) (s : State) : Host.Outcome State Fault Refusal :=
  let s := (s.land t).accessed who
  .next (
    match lookupObj index sub with
    | .error st => s.send (.answer who st [])
    | .ok o =>
      let r := s.writeObject who (s.nextSeq who) o row (o.valueOf data)
      r.1.send (.answer who r.2 []))

end Sys2Proof.Machine
end

