-- ==== Sys2Proof/Machine/Requests.lean ====
section
/-! DEFINITION. The object accesses of a Strel session (R52) and of the CAN path (R60), DOMAIN fragments (R35), and the line
boundary, at which live objects take the values written to them. -/
set_option Elab.async false
namespace Sys2Proof.Machine

/-! ### Strel requests -/

/-- Payload bytes a response can carry: SET_STREL_MAX_MSG less the header and the MAC (Table 2-7). -/
def State.replyRoom (s : State) : Nat := s.val Obj.setStrelMaxMsg - 32

/-- A reply with a payload. -/
def replyWith (s : State) (last : Bool) (payload : Bytes) : StrelReply :=
  { s := s, status := .ok, last := last, payload := payload }

/-- The object a payload names, its first four bytes being INDEX, SUB and a reserved byte. -/
def payloadObj (b : Bytes) : Except Status Obj := lookupObj (fieldBE b 0 2) (fieldBE b 2 1)

/-- Whether the payload's reserved byte is set. -/
def payloadReserved (b : Bytes) : Bool := fieldBE b 3 1 != 0

/-- Whether an object shows whole records only (R410). -/
def Obj.isRecords (o : Obj) : Bool := o.code == Obj.logRing.code || o.code == Obj.logCkpt.code

/-- A READ of a value that is no DOMAIN: OFFSET 0, the value whole. -/
def State.readFixed (s : State) (who : Path) (bright : Bool) (o : Obj) (row : Nat) : StrelReply :=
  let r := s.readObject who bright o row 0
  match r.2 with
  | .error st => replyStatus r.1 st
  | .ok b => if s.replyRoom < b.length then replyStatus s .tooLong else replyWith r.1 false b

/-- A READ of a DOMAIN: up to MAXLEN bytes from OFFSET, as many as a response can carry; LAST where they reach the end. -/
def State.readDomain (s : State) (who : Path) (bright : Bool) (o : Obj) (row offset maxlen : Nat) : StrelReply :=
  let room := min maxlen s.replyRoom
  if o.isRecords then
    let r := s.readRecords o offset room
    match r.2 with
    | .error st => replyStatus r.1 st
    | .ok p => replyWith r.1 p.2 p.1
  else
    let r := s.readObject who bright o row offset
    match r.2 with
    | .error st => replyStatus r.1 st
    | .ok b => replyWith r.1 (decide (b.length ≤ room)) (b.take room)

/-- READ (R52), in the order of R454. -/
def strelRead (m : StrelMsg) (z : Session) (s : State) : StrelReply :=
  let who : Path := .strel z.id
  let b := m.payload
  let row := fieldBE b 4 4
  let offset := fieldBE b 8 4
  if b.length < 4 then replyStatus s .badFormat
  else
    match payloadObj b with
    | .error st => replyStatus s st
    | .ok o =>
      match s.accessRefusal who o row false with
      | some st => replyStatus s st
      | none =>
        if b.length ≠ 14 ∨ (o.ty ≠ .domain ∧ offset ≠ 0) then replyStatus s .badFormat
        else if payloadReserved b then replyStatus s .reserved
        else if o.ty = .domain then s.readDomain who (bit m.flags 3) o row offset (fieldBE b 12 2)
        else s.readFixed who (bit m.flags 3) o row

/-- READ. -/
def execRead (t : Nat) (m : StrelMsg) (s : State) : Host.Outcome State Fault Refusal := sessionRequest t 0x10 m (strelRead m) s

/-! ### DOMAIN fragments (R35) -/

/-- A session's open transfer. -/
def State.transfer (s : State) (id : Nat) : Option Transfer := (s.session id).bind fun z : Session => z.transfer

/-- Sets a session's open transfer. -/
def State.setTransfer (s : State) (id : Nat) (x : Option Transfer) : State :=
  match s.session id with
  | some z => s.setSession { z with transfer := x }
  | none => s

/-- Transfers of other sessions that hold more than 1 MiB. -/
def State.largeTransfers (s : State) (id : Nat) : Nat :=
  (s.strel.sessions.filter fun z : Session =>
    z.id != id && z.transfer.any fun x : Transfer => decide (1048576 < x.data.length)).length

/-- The bytes received before a fragment at `offset`; none where the fragment is not the next one. -/
def State.fragmentBase (s : State) (id : Nat) (o : Obj) (row offset : Nat) : Option Bytes :=
  if offset = 0 then some []
  else
    match s.transfer id with
    | some x => if x.code = o.code ∧ x.row = row ∧ x.data.length = offset then some x.data else none
    | none => none

/-- A fragment of a DOMAIN value that is no value yet, or the whole value. -/
inductive Fragment where
  | refused (st : Status)
  | more (data : Bytes)
  | whole (data : Bytes)
  deriving DecidableEq, Repr

/-- R35, R100: the largest value a row takes; the pixel data of a still with an allocation, what its descriptor calls for. -/
def State.rowMax (s : State) (o : Obj) (row : Nat) : Nat :=
  if o.code = Obj.cmpStillData.code ∧ (s.still row).allocated ≠ 0 then (s.still row).allocated else o.maxSize

/-- Step 5 of R454 at the LAST fragment: the value is shorter than its object or its descriptor calls for (R100). -/
def State.tooShort (s : State) (o : Obj) (row : Nat) (all : Bytes) : Bool :=
  (formRefusal o (.bytes all)).isSome || (o.code == Obj.cmpStillData.code && decide (all.length < (s.still row).allocated))

/-- Steps 2 to 8 of R454 refuse a write, GREEN_LOCKED of R27 and R100 with them: before the BUSY of R35. -/
def State.lockedBefore (s : State) (who : Path) (o : Obj) (row : Nat) (v : Value) : Bool :=
  (s.writeRefusal who o row v).isSome || (s.greenLocked && (o.code == Obj.flrRegions.code ||
    (o.code == Obj.cmpStillData.code && s.sets.green.namesStill row)))

/-- R35: what a fragment makes, in the order of R454. -/
def State.fragment (s : State) (id : Nat) (o : Obj) (row offset : Nat) (last reserved : Bool) (data : Bytes) : Fragment :=
  match s.fragmentBase id o row offset with
  | none => .refused .badFormat
  | some before =>
    let all := before ++ data
    if s.rowMax o row < all.length then .refused .tooLong
    else if last ∧ s.tooShort o row all then .whole all
    else if reserved then .refused .reserved
    else if 1048576 < all.length ∧ 2 ≤ s.largeTransfers id ∧ !(last ∧ s.lockedBefore (.strel id) o row (.bytes all)) then
      .refused .busy
    else if last then .whole all
    else .more all

/-- A write of a DOMAIN by fragments. -/
def State.writeFragment (s : State) (id seq : Nat) (o : Obj) (row offset : Nat) (last reserved : Bool) (data : Bytes) :
    Effect :=
  match s.fragment id o row offset last reserved data with
  | .refused .reserved => (s, .reserved)
  | .refused st => (s.setTransfer id none, st)
  | .more all => (s.setTransfer id (some { code := o.code, row := row, data := all }), .ok)
  | .whole all => (s.setTransfer id none).writeObject (.strel id) seq o row (.bytes all)

/-- WRITE (R52), in the order of R454. -/
def strelWrite (m : StrelMsg) (z : Session) (s : State) : StrelReply :=
  let who : Path := .strel z.id
  let b := m.payload
  let row := fieldBE b 4 4
  let offset := fieldBE b 8 4
  let data := b.drop 12
  let last := bit m.flags 2
  if b.length < 4 then replyStatus s .badFormat
  else
    match payloadObj b with
    | .error st => replyStatus s st
    | .ok o =>
      match s.accessRefusal who o row true with
      | some st => replyStatus s st
      | none =>
        if b.length < 12 then replyStatus s .badFormat
        else if o.ty = .domain then
          let r := s.writeFragment z.id m.seq o row offset last (payloadReserved b) data
          replyStatus r.1 r.2
        else if offset ≠ 0 ∨ last = false then replyStatus s .badFormat
        else
          match formRefusal o (o.valueOf data) with
          | some st => replyStatus s st
          | none =>
            if payloadReserved b then replyStatus s .reserved
            else
              let r := s.writeObject who m.seq o row (o.valueOf data)
              replyStatus r.1 r.2

/-- WRITE. -/
def execWrite (t : Nat) (m : StrelMsg) (s : State) : Host.Outcome State Fault Refusal := sessionRequest t 0x11 m (strelWrite m) s

/-! ### Rows (R52) -/

/-- Whether READ_ROWS and WRITE_ROWS apply: a table object of fixed-size type. -/
def Obj.isFixedTable (o : Obj) : Bool := o.rows != 0 && o.ty.width != 0

/-- Steps 2 to 4 of R454 over the rows of a request: ACCESS of any row, then ROLE, then ROW. -/
def State.rowsAccess (s : State) (who : Path) (o : Obj) (first n : Nat) (writing : Bool) : Option Status :=
  let found := (List.range (max n 1)).filterMap fun i => s.accessRefusal who o (if n = 0 then 0 else first + i) writing
  if found.contains .access then some .access else found.head?

/-- Steps 2 to 6 of R454 for a request of rows `first` to `first + n − 1`: their access, the form of the payload, of which
`size` bytes are due, its reserved byte. R52 applies READ_ROWS and WRITE_ROWS to table objects of fixed-size type only and names
no status for another object: BAD_FORMAT (DESIGN CHOICE; log entry 79). -/
def State.rowsRefusal (s : State) (who : Path) (o : Obj) (first n : Nat) (writing : Bool) (b : Bytes) (size : Nat) : Option Status :=
  match s.rowsAccess who o first n writing with
  | some st => some st
  | none =>
    if o.isFixedTable = false ∨ b.length < 10 then some .badFormat
    else if b.length ≠ size then some (if writing then .length else .badFormat)
    else if payloadReserved b then some .reserved
    else none

/-- The values of `n` rows from `row` on, or the first refusal. -/
def State.readRun (who : Path) (bright : Bool) (o : Obj) : Nat → Nat → State → State × Except Status Bytes
  | 0, _, s => (s, .ok [])
  | n + 1, row, s =>
    let r := s.readObject who bright o row 0
    match r.2 with
    | .error st => (r.1, .error st)
    | .ok b =>
      let q := State.readRun who bright o n (row + 1) r.1
      match q.2 with
      | .error st => (q.1, .error st)
      | .ok bs => (q.1, .ok (b ++ bs))

/-- READ_ROWS (R52). A response that SET_STREL_MAX_MSG does not hold is refused with TOO_LONG (DEDUCED; log entry 59). -/
def strelReadRows (m : StrelMsg) (z : Session) (s : State) : StrelReply :=
  let who : Path := .strel z.id
  let b := m.payload
  let first := fieldBE b 4 4
  let n := fieldBE b 8 2
  if b.length < 4 then replyStatus s .badFormat
  else
    match payloadObj b with
    | .error st => replyStatus s st
    | .ok o =>
      match s.rowsRefusal who o first n false b 10 with
      | some st => replyStatus s st
      | none =>
        if s.replyRoom < n * o.ty.width then replyStatus s .tooLong
        else
          let r := State.readRun who (bit m.flags 3) o n first s
          match r.2 with
          | .error st => replyStatus r.1 st
          | .ok bs => replyWith r.1 false bs

/-- READ_ROWS. -/
def execReadRows (t : Nat) (m : StrelMsg) (s : State) : Host.Outcome State Fault Refusal :=
  sessionRequest t 0x12 m (strelReadRows m) s

/-- The values that the bytes of a WRITE_ROWS spell, one for each row. -/
def Obj.rowValues (o : Obj) (n : Nat) (data : Bytes) : List Value :=
  (List.range n).map fun i => o.valueOf (slice data (i * o.ty.width) o.ty.width)

/-- Steps 6 to 8 of R454 over the values of a WRITE_ROWS: RESERVED of any row, then RANGE of any row, then GREEN_LOCKED. -/
def State.rowsValueRefusal (s : State) (o : Obj) (first : Nat) (vs : List Value) : Option Status :=
  if vs.any (setsReserved o) then some .reserved
  else if (vs.zipIdx.any fun p => !inRange o (first + p.2) p.1) then some .range
  else if o.access = .rg ∧ s.greenLocked then some .greenLocked
  else none

/-- Writes rows from `row` on, each with the next width of bytes, up to the first refusal. -/
def State.writeRun (who : Path) (seq : Nat) (o : Obj) : Nat → Nat → Bytes → State → Effect
  | 0, _, _, s => (s, .ok)
  | n + 1, row, data, s =>
    let r := s.writeObject who seq o row (o.valueOf (data.take o.ty.width))
    if r.2 = .ok then State.writeRun who seq o n (row + 1) (data.drop o.ty.width) r.1 else r

/-- WRITE_ROWS (R52): every row, or none. -/
def strelWriteRows (m : StrelMsg) (z : Session) (s : State) : StrelReply :=
  let who : Path := .strel z.id
  let b := m.payload
  let first := fieldBE b 4 4
  let n := fieldBE b 8 2
  if b.length < 4 then replyStatus s .badFormat
  else
    match payloadObj b with
    | .error st => replyStatus s st
    | .ok o =>
      match s.rowsRefusal who o first n true b (10 + n * o.ty.width) with
      | some st => replyStatus s st
      | none =>
        match s.rowsValueRefusal o first (o.rowValues n (b.drop 10)) with
        | some st => replyStatus s st
        | none =>
          let r := State.writeRun who m.seq o n first (b.drop 10) s
          if r.2 = .ok then replyStatus r.1 .ok else replyStatus s r.2

/-- WRITE_ROWS. -/
def execWriteRows (t : Nat) (m : StrelMsg) (s : State) : Host.Outcome State Fault Refusal :=
  sessionRequest t 0x13 m (strelWriteRows m) s

/-! ### DESCRIBE -/

/-- The description of an object (R52). -/
def Obj.describe (o : Obj) : Bytes :=
  bytesBE 1 o.ty.code ++ bytesBE 1 o.access.code ++ bytesBE 1 o.role.code ++ zeros 1 ++ bytesBE 4 o.maxSize ++ bytesBE 4 o.rows
    ++ ascii o.name

/-- DESCRIBE (R52). -/
def strelDescribe (m : StrelMsg) (s : State) : StrelReply :=
  let b := m.payload
  if b.length < 4 then replyStatus s .badFormat
  else
    match payloadObj b with
    | .error st => replyStatus s st
    | .ok o =>
      if b.length ≠ 4 then replyStatus s .badFormat
      else if payloadReserved b then replyStatus s .reserved
      else replyWith s false o.describe

/-- DESCRIBE. -/
def execDescribe (t : Nat) (m : StrelMsg) (s : State) : Host.Outcome State Fault Refusal :=
  sessionRequest t 0x14 m (fun _ s => strelDescribe m s) s

/-! ### The CAN path -/

/-- A value's bytes on CAN, or back: every type but STR and DOMAIN goes least significant byte first (log entry 58). -/
def Obj.canBytes (o : Obj) (b : Bytes) : Bytes := if o.ty.width = 0 then b else b.reverse

/-- A USDO upload. -/
def State.usdoRead (s : State) (o : Obj) (row : Nat) : State × Except Status Bytes :=
  match s.accessRefusal .can o row false with
  | some st => (s, .error st)
  | none =>
    if o.isRecords then
      let r := s.readRecords o 0 16777216
      (r.1, r.2.map fun p => p.1)
    else
      let r := s.readObject .can (decide (s.val Obj.setReadBright = 1)) o row 0
      (r.1, r.2.map o.canBytes)

/-- A USDO download: R35's bound on large transfers follows the checks of R454. -/
def State.usdoWrite (s : State) (o : Obj) (row : Nat) (data : Bytes) : Effect :=
  let v := o.valueOf (o.canBytes data)
  if 1048576 < data.length ∧ 2 ≤ s.largeTransfers 0 ∧ s.lockedBefore .can o row v = false then (s, .busy)
  else s.writeObject .can 0 o row v

/-- CAN_USDO_TRANSFER (R34, R38, R39, R60). The transfer is one command (log entry 58). -/
def execCanUsdoTransfer (t : Nat) (unicast : Bool) (index sub : Nat) (data : Option Bytes) (s : State) :
    Host.Outcome State Fault Refusal :=
  let s := s.land t
  .next (
    if unicast = false ∨ s.can.serves = false ∨ s.pwr.held then s
    else
      let s := s.accessed .can
      let answer := fun (s : State) (st : Status) (b : Bytes) => s.send (.usdo st (if st = .ok then 0 else st.abort data.isNone) b)
      match lookupObj index sub with
      | .error st => answer s st []
      | .ok o =>
        let row := if o.rows = 0 then 0 else Table.get 0 s.can.rowSelect (selectIndex o.index)
        match data with
        | none =>
          let r := s.usdoRead o row
          match r.2 with
          | .error st => answer r.1 st []
          | .ok b => answer r.1 .ok b
        | some d =>
          let r := s.usdoWrite o row d
          answer r.1 r.2 [])

/-! ### The line boundary -/

/-- A staged value takes effect. -/
def State.takeStaged (s : State) (p : Nat × Value) : State :=
  match allObjects.find? fun o => o.code == p.1 / 4294967296 with
  | some o => s.putValue o (p.1 % 4294967296) p.2
  | none => s

/-- What follows from the values that took effect: the rotation instant is set anew when DSP_ROTATE_S changed (R178), and the
management port announces a new global address (R289). -/
def State.stagedTaken (old s : State) : State :=
  let s := if s.val Obj.dspRotateS ≠ old.val Obj.dspRotateS ∧ s.pwr.phase = 9 then s.armRotation else s
  if s.valBytes Obj.lnkMgIpv6 ≠ old.valBytes Obj.lnkMgIpv6 ∧ s.val Obj.lnkMgLink ≠ 0 then s.announce 96 else s

/-- R48: the snapshot of a pending SET_SAVE. -/
def State.takeSnapshot (s : State) : State :=
  match s.sets.savePending with
  | some k => { s with sets := { s.sets with savePending := none, saving := some (k, s.sets.bright) } }
  | none => s

/-- LINE_BOUNDARY (R6, R36, R48, R165); no line boundary occurs in a gap (R76). The firmware has served the management MAC's
event. -/
def execLineBoundary (t : Nat) (s : State) : Host.Outcome State Fault Refusal :=
  let s := s.land t
  .next (
    if s.inGap then s
    else
      let new : State := s.staged.foldl State.takeStaged { s with staged := [] }
      let s := ((State.stagedTaken s new).takeSnapshot.segBoundary).rowBoundary
      { s with links := { s.links with mgEvent := false } })

end Sys2Proof.Machine
end

