-- ==== Sys2Proof/Machine/TapRepair.lean ====
section
/-! DEFINITION. RTCP of the taps: NACKs and repairs (R318, R319), sender reports (R320). -/
set_option Elab.async false
namespace Sys2Proof.Machine

/-- Numbers of the streams a set may name: its entries, and 4,096 for the canvas stream. -/
def CanvasSet.streamNumbers (c : CanvasSet) : List Nat := (c.entries.map fun (e : Entry) => e.s) ++ [4096]

/-- R220, R318: the coded stream that an SSRC names in the bright set. -/
def State.ssrcStream (s : State) (ssrc : Nat) : Option Nat :=
  let c := s.sets.bright
  c.streamNumbers.find? fun k => (c.streamTap k).isSome && c.ssrc k == ssrc

/-- R318: the ES that a sequence number maps to, with W the newest ES queued. -/
def nackEs (w q : Nat) : Option Nat :=
  let d := sub16 w q
  if d < 32768 then some (sub32 w d) else none

/-- R319: when the repair bucket of a tap lets a copy of charge `charge` go, and the bucket after it; it starts full. A bucket
of rate 0 that is spent lets none go. -/
def repairAfter (rate charge now tk from_ : Nat) : Nat × Nat :=
  let full := 65536 * tapUnit
  let t := max now from_
  let tk := if from_ = 0 then full else min full (tk + (t - from_) * rate)
  let need := charge * tapUnit - tk
  let d := if need = 0 then 0 else if rate = 0 then 2 ^ 80 else ceilDiv need rate
  (t + d, min full (tk + d * rate) - charge * tapUnit)

/-- R319: a copy of a retained packet joins the REPAIR queue of every path; nothing where every pool is dry (R311), or while the tap
is flushed (R312). -/
def State.repair (s : State) (p : Nat) (x : TapPkt) : State :=
  if s.val Obj.tapFlush p = 1 then s else
  match s.descriptorRoom p 1 with
  | (s, false) => s
  | (s, true) =>
    let c := s.setFor x.pkt.frame
    let t := s.tapAt p
    let rate := c.tapRate p * c.tapRepair p / 1000
    let r := repairAfter rate x.charge s.deviceTime t.repairTk t.repairAt
    let window := t.window.map fun (y : TapPkt) => if y.pkt.es = x.pkt.es then { y with copied := some s.now } else y
    let s := s.setTap p { t with window := window, repairTk := r.2, repairAt := r.1 }
    let s := x.pkt.kegs.foldl (fun s h => s.kegTake 2 h) s
    let copy : TapPkt := { x with v := r.1, doneA := false, doneB := !c.tapDual p, slot := true, sent := false, copied := none }
    ((s.queueAppend p 1 copy).placeNew p 1 (c.tapPaths p)).count Obj.tapRepairs

/-- R319: a number that cannot be served. -/
def State.nackUnserved (s : State) (p k e : Nat) : State :=
  let s := (s.count Obj.tapNackUnserved).tapFault p s.ctime.frame .nackUnserved (e % 65536)
  if k < 4096 then s.nudgeRequest k s.ctime.frame else s

/-- Table 13-3: serves one number. -/
def State.serveNack (s : State) (p k e : Nat) : State :=
  let t := s.tapAt p
  if t.video.pkts.any fun x => x.pkt.es == e then s.count Obj.tapNackEarly
  else
    match t.window.find? fun x => x.pkt.es == e with
    | none => s.nackUnserved p k e
    | some x =>
      if x.copied.any fun a => decide (s.now < a + 1000 * s.val Obj.tapRtxHoldoffUs) then s.count Obj.tapNackDup
      else if 256 ≤ t.repair.pkts.length then s.nackUnserved p k e
      else s.repair p x

/-- R318: the sequence numbers that one FCI entry names. -/
def fciNumbers (w : Nat) : List Nat :=
  bits w 31 16 :: ((List.range 16).filter fun b => bit w b).map fun b => add16 (bits w 31 16) (b + 1)

/-- R317, R318: one generic NACK, from its packet: the window's aged packets leave first. -/
def State.nack (s : State) (pkt : Bytes) : State :=
  match s.ssrcStream (fieldBE pkt 8 4) with
  | none => s.count Obj.tapRtcpBad
  | some k =>
    let p := (s.sets.bright.streamTap k).getD 0
    if bit (s.sets.bright.tap p 0) 5 = false then s.count Obj.tapRtcpBad
    else
      let s := s.ageWindow p
      let entries := (List.range (min 64 ((pkt.length - 12) / 4))).map fun i => fieldBE pkt (12 + 4 * i) 4
      let numbers := entries.flatMap fciNumbers
      numbers.foldl (fun s q =>
        match (s.tapAt p).newest.bind fun w => nackEs w q with
        | some e => s.serveNack p k e
        | none => s) s

/-- R318: the packets of a compound RTCP packet; parsing ends at one whose header is not RFC 3550's. -/
def rtcpPackets (fuel : Nat) (b : Bytes) : List Bytes :=
  match fuel with
  | 0 => []
  | fuel + 1 =>
    let n := 4 * (fieldBE b 2 2 + 1)
    if b.length < 4 ∨ bits (fieldBE b 0 1) 7 6 ≠ 2 ∨ b.length < n then [] else b.take n :: rtcpPackets fuel (b.drop n)

/-- RTCP_NACK (R318, R319): an RTCP packet received on a flow-table entry of KIND 3. A silenced device ignores NACKs. -/
def execRtcpNack (t : Nat) (data : Bytes) (s : State) : Host.Outcome State Fault Refusal :=
  let s := s.land t
  if s.cellar.safe then .next s else
  .next ((rtcpPackets data.length data).foldl (fun s pkt =>
    if fieldBE pkt 1 1 = 205 ∧ bits (fieldBE pkt 0 1) 4 0 = 1 ∧ 12 ≤ pkt.length then (if s.silenced then s else s.nack pkt)
    else s.count Obj.tapRtcpOther) s)

/-! ### Sender reports (R320) -/

/-- What a tap's sender report says of its stream: stream, SSRC, next ES. A coded tap's ES is the stream's; a raw group's is
that of its frame's first packet. -/
def State.tapSource (s : State) (p f : Nat) : Option (Nat × Nat × Nat) :=
  let c := s.sets.bright
  match c.streamNumbers.find? fun k => c.streamTap k == some p with
  | some k => some (k, c.ssrc k, (s.asmStream k).es)
  | none =>
    match c.rawGroups.find? fun g => (c.rawGroup g).tap == p with
    | some g => some (4097 + g, bits (c.nat Obj.cmpRawW1 g) 63 32, f * (c.rawGroup g).pf % 4294967296)
    | none => none

/-- R320: the RTP payload octets of a tap's numbers up to `es`: those counted as they were built, and of a raw group those of the
numbers still to be built before `es`, or less those built from `es` on, by their places in the frame. -/
def State.srOctets (s : State) (p es : Nat) : Nat :=
  let c := s.sets.bright
  let t := s.tapAt p
  match t.startEs, c.rawGroups.find? (fun g => (c.rawGroup g).tap == p) with
  | some _, some g =>
    let z := c.rawGroup g
    let sizes := rawLengths z.per z.line z.total (pgroupBytes z.fmt) z.total 0
    let late := sub32 es t.builtEs
    let early := sub32 t.builtEs es
    if late ≤ z.pf then add32 t.octets (sizes.drop (z.pf - late)).sum
    else if early ≤ z.pf then sub32 t.octets ((sizes.take early).sum % 4294967296)
    else t.octets
  | _, _ => t.octets

/-- The compound packet: sender report and SDES CNAME (RFC 3550). -/
def State.srPacket (s : State) (p f ssrc es : Nat) : Bytes :=
  let c := s.sets.bright
  let n := s.indexOf f
  let at_ := s.tbs.raster.lineStart n 0
  let t := s.tapAt p
  let name := c.objs |> fun o => (Store.read o Obj.tapCname 0).toBytes
  let item := bytesBE 1 1 ++ bytesBE 1 name.length ++ name
  let chunk := item ++ zeros (4 - item.length % 4)
  bytesBE 1 0x80 ++ bytesBE 1 200 ++ bytesBE 2 6 ++ bytesBE 4 ssrc ++ bytesBE 4 (at_ / giga + 2208988800)
    ++ bytesBE 4 (at_ % giga * 4294967296 / giga) ++ bytesBE 4 (rtpTime (c.nat Obj.flrRateNum) (c.nat Obj.flrRateDen) n)
    ++ bytesBE 4 (sub32 es (t.startEs.getD es)) ++ bytesBE 4 (s.srOctets p es)
    ++ bytesBE 1 0x81 ++ bytesBE 1 202 ++ bytesBE 2 (chunk.length / 4 + 1) ++ bytesBE 4 ssrc ++ chunk

/-- R320: the report of tap `p` for frame `f` joins the CONTROL class, which holds 8, unless the tap is flushed (R312). -/
def State.sendReport (s : State) (p f k ssrc es : Nat) : State :=
  let c := s.sets.bright
  let t := s.tapAt p
  let s := s.setTap p { t with srFrame := some f }
  if 8 ≤ t.control.pkts.length ∨ s.val Obj.tapFlush p = 1 then s
  else
    match s.descriptorRoom p 2 with
    | (s, false) => s
    | (s, true) =>
      let n := s.indexOf f
      let b := s.srPacket p f ssrc es
      let pkt : Pkt := { stream := k, frame := f, index := n, es := 0, rawNs := none, launch := 0, payload := b, ctAt := 0,
                         gapCount := 0, gapCause := 0, chain := [], kegs := [] }
      let x := s.tapPacket p pkt (c.charge p b.length) (s.tbs.raster.lineStart n 0)
      (s.queueAppend p 2 x).placeNew p 2 (c.tapPaths p)

/-- SENDER_REPORT (R320): ⟨F:0⟩ of a frame that is a multiple of TAP_SR_FRAMES is reached. -/
def execSenderReport (t tap : Nat) (s : State) : Host.Outcome State Fault Refusal :=
  let s := s.land t
  let c := s.sets.bright
  let f := s.ctime.frame
  .next (
    if s.inGap ∨ !c.tapEn tap ∨ !bit (c.tap tap 0) 6 ∨ f % c.nat Obj.tapSrFrames ≠ 0 ∨ (s.tapAt tap).srFrame = some f then s
    else
      match s.tapSource tap f with
      | some (k, ssrc, es) => s.sendReport tap f k ssrc es
      | none => s)

end Sys2Proof.Machine
end

