-- ==== Sys2Proof/Machine/Dispatch.lean ====
section
/-! DEFINITION. One arm per command: each calls its meaning. -/
namespace Sys2Proof.Machine

/-- What a command does to everything but the queue of waiting commands. -/
def exec (i : Instr) (s : State) : Host.Outcome State Fault Refusal :=
  match i with
  | .objectWrite t who index sub row data => Sys2Proof.Machine.execObjectWrite t who index sub row data s
  | .flrFill t who v => Sys2Proof.Machine.execFlrFill t who v s
  | .flrRegions t who form => Sys2Proof.Machine.execFlrRegions t who form s
  | .flrCheck t who v => Sys2Proof.Machine.execFlrCheck t who v s
  | .flrCheckComplete t => Sys2Proof.Machine.execFlrCheckComplete t s
  | .setRack t who v => Sys2Proof.Machine.execSetRack t who v s
  | .setRackCancel t who v => Sys2Proof.Machine.execSetRackCancel t who v s
  | .setDiscard t who v => Sys2Proof.Machine.execSetDiscard t who v s
  | .setValidate t who v => Sys2Proof.Machine.execSetValidate t who v s
  | .setValidationDone t => Sys2Proof.Machine.execSetValidationDone t s
  | .rackAgreeTimeout t => Sys2Proof.Machine.execRackAgreeTimeout t s
  | .rackSwap t => Sys2Proof.Machine.execRackSwap t s
  | .reseedComplete t => Sys2Proof.Machine.execReseedComplete t s
  | .setSave t who v => Sys2Proof.Machine.execSetSave t who v s
  | .setSaveDone t written => Sys2Proof.Machine.execSetSaveDone t written s
  | .setLoad t who v => Sys2Proof.Machine.execSetLoad t who v s
  | .setLoadDone t => Sys2Proof.Machine.execSetLoadDone t s
  | .bootRackRequest t => Sys2Proof.Machine.execBootRackRequest t s
  | .hello t m => Sys2Proof.Machine.execHello t m s
  | .proof t m => Sys2Proof.Machine.execProof t m s
  | .proofTimeout t id => Sys2Proof.Machine.execProofTimeout t id s
  | .authLockExpiry t role slot => Sys2Proof.Machine.execAuthLockExpiry t role slot s
  | .close t m => Sys2Proof.Machine.execClose t m s
  | .ping t m => Sys2Proof.Machine.execPing t m s
  | .read t m => Sys2Proof.Machine.execRead t m s
  | .write t m => Sys2Proof.Machine.execWrite t m s
  | .readRows t m => Sys2Proof.Machine.execReadRows t m s
  | .writeRows t m => Sys2Proof.Machine.execWriteRows t m s
  | .describe t m => Sys2Proof.Machine.execDescribe t m s
  | .subscribe t m => Sys2Proof.Machine.execSubscribe t m s
  | .sessionIdleTimeout t id => Sys2Proof.Machine.execSessionIdleTimeout t id s
  | .setSessionKill t who v => Sys2Proof.Machine.execSetSessionKill t who v s
  | .setStrelPort t who v => Sys2Proof.Machine.execSetStrelPort t who v s
  | .canUsdoTransfer t unicast index sub data => Sys2Proof.Machine.execCanUsdoTransfer t unicast index sub data s
  | .nmtStart t => Sys2Proof.Machine.execNmtStart t s
  | .nmtStop t => Sys2Proof.Machine.execNmtStop t s
  | .nmtEnterPreOperational t => Sys2Proof.Machine.execNmtEnterPreOperational t s
  | .nmtResetCommunication t => Sys2Proof.Machine.execNmtResetCommunication t s
  | .nmtResetNode t => Sys2Proof.Machine.execNmtResetNode t s
  | .canHeartbeat t => Sys2Proof.Machine.execCanHeartbeat t s
  | .setCanNonce t who => Sys2Proof.Machine.execSetCanNonce t who s
  | .canNonceExpiry t => Sys2Proof.Machine.execCanNonceExpiry t s
  | .setCanProof t who data => Sys2Proof.Machine.execSetCanProof t who data s
  | .setCanLock t who v => Sys2Proof.Machine.execSetCanLock t who v s
  | .canRoleTimeout t => Sys2Proof.Machine.execCanRoleTimeout t s
  | .tbsSource t who v => Sys2Proof.Machine.execTbsSource t who v s
  | .tbsTodSet t who time80 => Sys2Proof.Machine.execTbsTodSet t who time80 s
  | .ptpAnnounceRx t port domain identity rank announceNs syncNs utcOffset => Sys2Proof.Machine.execPtpAnnounceRx t port domain identity rank announceNs syncNs utcOffset s
  | .ptpSyncRx t port domain identity seq rxNs originNs twoStep tlv => Sys2Proof.Machine.execPtpSyncRx t port domain identity seq rxNs originNs twoStep tlv s
  | .ptpFollowUpRx t port domain identity seq originNs => Sys2Proof.Machine.execPtpFollowUpRx t port domain identity seq originNs s
  | .ptpDelayRespRx t port domain identity seq receivedNs => Sys2Proof.Machine.execPtpDelayRespRx t port domain identity seq receivedNs s
  | .ptpDelayReq t => Sys2Proof.Machine.execPtpDelayReq t s
  | .ppsInEdge t => Sys2Proof.Machine.execPpsInEdge t s
  | .frameInEdge t => Sys2Proof.Machine.execFrameInEdge t s
  | .referenceLost t => Sys2Proof.Machine.execReferenceLost t s
  | .holdoverLimit t => Sys2Proof.Machine.execHoldoverLimit t s
  | .todWaitExpiry t => Sys2Proof.Machine.execTodWaitExpiry t s
  | .timeStep t => Sys2Proof.Machine.execTimeStep t s
  | .rasterGapEnd t => Sys2Proof.Machine.execRasterGapEnd t s
  | .tbsCalW0 t who row v => Sys2Proof.Machine.execTbsCalW0 t who row v s
  | .tbsCalW1 t who row v => Sys2Proof.Machine.execTbsCalW1 t who row v s
  | .calHeldW0Expiry t who row => Sys2Proof.Machine.execCalHeldW0Expiry t who row s
  | .gpioSet t row => Sys2Proof.Machine.execGpioSet t row s
  | .gpioPulse t row => Sys2Proof.Machine.execGpioPulse t row s
  | .gpioPulseEnd t pin => Sys2Proof.Machine.execGpioPulseEnd t pin s
  | .tallySet t row => Sys2Proof.Machine.execTallySet t row s
  | .calMark t row => Sys2Proof.Machine.execCalMark t row s
  | .flowPacketRx t flow pathB seq ts payload => Sys2Proof.Machine.execFlowPacketRx t flow pathB seq ts payload s
  | .frameBufferCopy t flow line => Sys2Proof.Machine.execFrameBufferCopy t flow line s
  | .rowSamplePoint t row unreadable => Sys2Proof.Machine.execRowSamplePoint t row unreadable s
  | .rowCompositionDone t row parity => Sys2Proof.Machine.execRowCompositionDone t row parity s
  | .compositionLimit t row late => Sys2Proof.Machine.execCompositionLimit t row late s
  | .cmpStillDesc t who row v => Sys2Proof.Machine.execCmpStillDesc t who row v s
  | .cmpStillData t who row data => Sys2Proof.Machine.execCmpStillData t who row data s
  | .segmentComposed t seg done => Sys2Proof.Machine.execSegmentComposed t seg done s
  | .segmentAssign t unreadable => Sys2Proof.Machine.execSegmentAssign t unreadable s
  | .nextStep t tun => Sys2Proof.Machine.execNextStep t tun s
  | .branchStep t tun => Sys2Proof.Machine.execBranchStep t tun s
  | .jumpStep t tun => Sys2Proof.Machine.execJumpStep t tun s
  | .callStep t tun => Sys2Proof.Machine.execCallStep t tun s
  | .returnStep t tun => Sys2Proof.Machine.execReturnStep t tun s
  | .yieldStep t tun => Sys2Proof.Machine.execYieldStep t tun s
  | .loopStep t tun => Sys2Proof.Machine.execLoopStep t tun s
  | .endStep t tun => Sys2Proof.Machine.execEndStep t tun s
  | .commit t tun slice spent trims floors => Sys2Proof.Machine.execCommit t tun slice spent trims floors s
  | .yieldWatchdog t tun => Sys2Proof.Machine.execYieldWatchdog t tun s
  | .tunKegRetry t tun => Sys2Proof.Machine.execTunKegRetry t tun s
  | .tunPoison t tun kind detail => Sys2Proof.Machine.execTunPoison t tun kind detail s
  | .tunBistDone t tun phase => Sys2Proof.Machine.execTunBistDone t tun phase s
  | .tunSelftest t who v => Sys2Proof.Machine.execTunSelftest t who v s
  | .tunReinstate t who v => Sys2Proof.Machine.execTunReinstate t who v s
  | .tunPatchImage t who image => Sys2Proof.Machine.execTunPatchImage t who image s
  | .tunPatchApply t who v => Sys2Proof.Machine.execTunPatchApply t who v s
  | .tunPatchRemove t who v => Sys2Proof.Machine.execTunPatchRemove t who v s
  | .patchSwitch t => Sys2Proof.Machine.execPatchSwitch t s
  | .poisonReport t tun => Sys2Proof.Machine.execPoisonReport t tun s
  | .segmentDeadline t seg y => Sys2Proof.Machine.execSegmentDeadline t seg y s
  | .segmentHardLimit t seg y => Sys2Proof.Machine.execSegmentHardLimit t seg y s
  | .fallbackTimeout t seg y => Sys2Proof.Machine.execFallbackTimeout t seg y s
  | .tunRotate t => Sys2Proof.Machine.execTunRotate t s
  | .governorTick t => Sys2Proof.Machine.execGovernorTick t s
  | .dspEffortCap t who v => Sys2Proof.Machine.execDspEffortCap t who v s
  | .effortChange t => Sys2Proof.Machine.execEffortChange t s
  | .effortAgreeTimeout t => Sys2Proof.Machine.execEffortAgreeTimeout t s
  | .clockGroupEnable t group => Sys2Proof.Machine.execClockGroupEnable t group s
  | .rakNudge t who v => Sys2Proof.Machine.execRakNudge t who v s
  | .refreshNudge t seg => Sys2Proof.Machine.execRefreshNudge t seg s
  | .nudgeAgreeTimeout t seg => Sys2Proof.Machine.execNudgeAgreeTimeout t seg s
  | .tasteVerdict t tun verdict => Sys2Proof.Machine.execTasteVerdict t tun verdict s
  | .tasteWindowEnd t tun decoded => Sys2Proof.Machine.execTasteWindowEnd t tun decoded s
  | .tasteMismatch t tun check => Sys2Proof.Machine.execTasteMismatch t tun check s
  | .laneKatDone t lane passed => Sys2Proof.Machine.execLaneKatDone t lane passed s
  | .tasteCoverage t => Sys2Proof.Machine.execTasteCoverage t s
  | .segmentAssemble t ecc => Sys2Proof.Machine.execSegmentAssemble t ecc s
  | .asmKegRetry t => Sys2Proof.Machine.execAsmKegRetry t s
  | .asmDryLimit t => Sys2Proof.Machine.execAsmDryLimit t s
  | .twinHoldExpiry t frame seg y => Sys2Proof.Machine.execTwinHoldExpiry t frame seg y s
  | .heartbeatTx t => Sys2Proof.Machine.execHeartbeatTx t s
  | .heartbeat t m => Sys2Proof.Machine.execHeartbeat t m s
  | .twinLinkDown t => Sys2Proof.Machine.execTwinLinkDown t s
  | .digests t m => Sys2Proof.Machine.execDigests t m s
  | .digestMissing t frame => Sys2Proof.Machine.execDigestMissing t frame s
  | .propose t m => Sys2Proof.Machine.execPropose t m s
  | .proposeRepeat t => Sys2Proof.Machine.execProposeRepeat t s
  | .answer t m => Sys2Proof.Machine.execAnswer t m s
  | .silence t m => Sys2Proof.Machine.execSilence t m s
  | .twinRejoin t => Sys2Proof.Machine.execTwinRejoin t s
  | .rejoin t m => Sys2Proof.Machine.execRejoin t m s
  | .rejoinLine t => Sys2Proof.Machine.execRejoinLine t s
  | .syncReq t m => Sys2Proof.Machine.execSyncReq t m s
  | .sync t m => Sys2Proof.Machine.execSync t m s
  | .syncReqRetry t => Sys2Proof.Machine.execSyncReqRetry t s
  | .syncApply t => Sys2Proof.Machine.execSyncApply t s
  | .pairingListenEnd t => Sys2Proof.Machine.execPairingListenEnd t s
  | .twinOkInChange t high => Sys2Proof.Machine.execTwinOkInChange t high s
  | .twnSilenceSet t who => Sys2Proof.Machine.execTwnSilenceSet t who s
  | .twnSilenceClear t who => Sys2Proof.Machine.execTwnSilenceClear t who s
  | .twnKey t who seq data => Sys2Proof.Machine.execTwnKey t who seq data s
  | .decodePacketRx t stream pathB seq pt ts marker payload => Sys2Proof.Machine.execDecodePacketRx t stream pathB seq pt ts marker payload s
  | .reorderTimeout t stream => Sys2Proof.Machine.execReorderTimeout t stream s
  | .decodeItemAssign t => Sys2Proof.Machine.execDecodeItemAssign t s
  | .completionItem t stream => Sys2Proof.Machine.execCompletionItem t stream s
  | .lnkPortWrite t who row word v => Sys2Proof.Machine.execLnkPortWrite t who row word v s
  | .anComplete t port matched => Sys2Proof.Machine.execAnComplete t port matched s
  | .trainingDone t port trained => Sys2Proof.Machine.execTrainingDone t port trained s
  | .alignLock t port => Sys2Proof.Machine.execAlignLock t port s
  | .alignTimeout t port deskewOnly => Sys2Proof.Machine.execAlignTimeout t port deskewOnly s
  | .holdExpiry t port => Sys2Proof.Machine.execHoldExpiry t port s
  | .portFault t port cause lane => Sys2Proof.Machine.execPortFault t port cause lane s
  | .portRetry t port => Sys2Proof.Machine.execPortRetry t port s
  | .fecWindow t port corrected received uncorrectable => Sys2Proof.Machine.execFecWindow t port corrected received uncorrectable s
  | .prbsStop t who lane errors => Sys2Proof.Machine.execPrbsStop t who lane errors s
  | .prbsStart t who lane => Sys2Proof.Machine.execPrbsStart t who lane s
  | .prbsLoopback t who lane => Sys2Proof.Machine.execPrbsLoopback t who lane s
  | .rxFrame t port fcsGood frame => Sys2Proof.Machine.execRxFrame t port fcsGood frame s
  | .puntFrame t => Sys2Proof.Machine.execPuntFrame t s
  | .nextHopResolve t replies => Sys2Proof.Machine.execNextHopResolve t replies s
  | .tapOffer t tap => Sys2Proof.Machine.execTapOffer t tap s
  | .wheelSlot t => Sys2Proof.Machine.execWheelSlot t s
  | .wheelScan t => Sys2Proof.Machine.execWheelScan t s
  | .packetDepart t port => Sys2Proof.Machine.execPacketDepart t port s
  | .monitorDiscard t port => Sys2Proof.Machine.execMonitorDiscard t port s
  | .windowAge t tap => Sys2Proof.Machine.execWindowAge t tap s
  | .rtcpNack t data => Sys2Proof.Machine.execRtcpNack t data s
  | .senderReport t tap => Sys2Proof.Machine.execSenderReport t tap s
  | .tapFlush t who row v => Sys2Proof.Machine.execTapFlush t who row v s
  | .qdrScrub t channel result => Sys2Proof.Machine.execQdrScrub t channel result s
  | .ddrScrub t channel result lane part => Sys2Proof.Machine.execDdrScrub t channel result lane part s
  | .qdrMarginLow t channel => Sys2Proof.Machine.execQdrMarginLow t channel s
  | .qdrImmediateRetrain t channel => Sys2Proof.Machine.execQdrImmediateRetrain t channel s
  | .qdrRetrainDone t channel trained => Sys2Proof.Machine.execQdrRetrainDone t channel trained s
  | .retrainPause t => Sys2Proof.Machine.execRetrainPause t s
  | .retrainDone t trained => Sys2Proof.Machine.execRetrainDone t trained s
  | .memRetrain t who v => Sys2Proof.Machine.execMemRetrain t who v s
  | .selfRefreshEntry t channel => Sys2Proof.Machine.execSelfRefreshEntry t channel s
  | .selfRefreshExit t channel => Sys2Proof.Machine.execSelfRefreshExit t channel s
  | .ddrRefresh t channel bank choice => Sys2Proof.Machine.execDdrRefresh t channel bank choice s
  | .dramTempRead t channel hot => Sys2Proof.Machine.execDramTempRead t channel hot s
  | .pageClose t channel bank => Sys2Proof.Machine.execPageClose t channel bank s
  | .arbitration t channel requests panic emergency beat => Sys2Proof.Machine.execArbitration t channel requests panic emergency beat s
  | .memArbPrio t who row v => Sys2Proof.Machine.execMemArbPrio t who row v s
  | .memGrSelftest t who v => Sys2Proof.Machine.execMemGrSelftest t who v s
  | .gristTestStart t bank => Sys2Proof.Machine.execGristTestStart t bank s
  | .gristTestDone t bank passed => Sys2Proof.Machine.execGristTestDone t bank passed s
  | .descriptorPost t channel words => Sys2Proof.Machine.execDescriptorPost t channel words s
  | .reqAssert t source => Sys2Proof.Machine.execReqAssert t source s
  | .burstIssue t asserted => Sys2Proof.Machine.execBurstIssue t asserted s
  | .burstFail t channel timeout => Sys2Proof.Machine.execBurstFail t channel timeout s
  | .burstRetry t channel => Sys2Proof.Machine.execBurstRetry t channel s
  | .descriptorDone t channel => Sys2Proof.Machine.execDescriptorDone t channel s
  | .channelResume t channel => Sys2Proof.Machine.execChannelResume t channel s
  | .channelAbort t channel => Sys2Proof.Machine.execChannelAbort t channel s
  | .spgDiagDesc t who data => Sys2Proof.Machine.execSpgDiagDesc t who data s
  | .allocate t port size spill cycle => Sys2Proof.Machine.execAllocate t port size spill cycle s
  | .allocateSpill t port pool ecc => Sys2Proof.Machine.execAllocateSpill t port pool ecc s
  | .freeKeg t port handle ecc => Sys2Proof.Machine.execFreeKeg t port handle ecc s
  | .take t port handle ecc => Sys2Proof.Machine.execTake t port handle ecc s
  | .push t line words => Sys2Proof.Machine.execPush t line words s
  | .pop t line ecc => Sys2Proof.Machine.execPop t line ecc s
  | .wrtFlushSet t who line => Sys2Proof.Machine.execWrtFlushSet t who line s
  | .wrtFlushClear t who line => Sys2Proof.Machine.execWrtFlushClear t who line s
  | .faultMessage t damaged parity => Sys2Proof.Machine.execFaultMessage t damaged parity s
  | .collectorSelftest t passed => Sys2Proof.Machine.execCollectorSelftest t passed s
  | .safeEntry t => Sys2Proof.Machine.execSafeEntry t s
  | .cwtSafeEnter t who v => Sys2Proof.Machine.execCwtSafeEnter t who v s
  | .clearRealLatch t who => Sys2Proof.Machine.execClearRealLatch t who s
  | .clearInjectedLatch t who => Sys2Proof.Machine.execClearInjectedLatch t who s
  | .ackClass t who cls => Sys2Proof.Machine.execAckClass t who cls s
  | .ackCollectorSelf t who => Sys2Proof.Machine.execAckCollectorSelf t who s
  | .injectCollect t who data => Sys2Proof.Machine.execInjectCollect t who data s
  | .injectAct t who data => Sys2Proof.Machine.execInjectAct t who data s
  | .forceTunFault t who target => Sys2Proof.Machine.execForceTunFault t who target s
  | .forceLaneLoss t who target => Sys2Proof.Machine.execForceLaneLoss t who target s
  | .forceTasterMismatch t who target => Sys2Proof.Machine.execForceTasterMismatch t who target s
  | .forceTwinDigest t who => Sys2Proof.Machine.execForceTwinDigest t who s
  | .forceDeadlineMiss t who => Sys2Proof.Machine.execForceDeadlineMiss t who s
  | .icuSrc t who row v => Sys2Proof.Machine.execIcuSrc t who row v s
  | .icuExtClaim t who => Sys2Proof.Machine.execIcuExtClaim t who s
  | .icuExtEoi t who v => Sys2Proof.Machine.execIcuExtEoi t who v s
  | .icuExtMask t who row v => Sys2Proof.Machine.execIcuExtMask t who row v s
  | .icuExtStorm t who row v => Sys2Proof.Machine.execIcuExtStorm t who row v s
  | .stormClear t => Sys2Proof.Machine.execStormClear t s
  | .externalPoll t => Sys2Proof.Machine.execExternalPoll t s
  | .logWrite t => Sys2Proof.Machine.execLogWrite t s
  | .logMark t who v => Sys2Proof.Machine.execLogMark t who v s
  | .logCheckpoint t written => Sys2Proof.Machine.execLogCheckpoint t written s
  | .secImage t who image => Sys2Proof.Machine.execSecImage t who image s
  | .imageCheckDone t stored => Sys2Proof.Machine.execImageCheckDone t stored s
  | .firmwarePatch t => Sys2Proof.Machine.execFirmwarePatch t s
  | .keyRevoke t => Sys2Proof.Machine.execKeyRevoke t s
  | .keyReset t => Sys2Proof.Machine.execKeyReset t s
  | .vendorGrant t => Sys2Proof.Machine.execVendorGrant t s
  | .vendorGrantExpiry t slot => Sys2Proof.Machine.execVendorGrantExpiry t slot s
  | .identity t => Sys2Proof.Machine.execIdentity t s
  | .secLifecycleAdvance t who v => Sys2Proof.Machine.execSecLifecycleAdvance t who v s
  | .secRetire t who v => Sys2Proof.Machine.execSecRetire t who v s
  | .secRollbackCommit t who v => Sys2Proof.Machine.execSecRollbackCommit t who v s
  | .secKeyInstall t who seq data => Sys2Proof.Machine.execSecKeyInstall t who seq data s
  | .secKeyErase t who v => Sys2Proof.Machine.execSecKeyErase t who v s
  | .secFwPatchRemove t who v => Sys2Proof.Machine.execSecFwPatchRemove t who v s
  | .secAttNonce t who data => Sys2Proof.Machine.execSecAttNonce t who data s
  | .secAttReport t who offset => Sys2Proof.Machine.execSecAttReport t who offset s
  | .bottomTreeDone t => Sys2Proof.Machine.execBottomTreeDone t s
  | .caskScrub t offset result => Sys2Proof.Machine.execCaskScrub t offset result s
  | .porstNAssert t => Sys2Proof.Machine.execPorstNAssert t s
  | .porstNRelease t nodeId twinRole bootSel => Sys2Proof.Machine.execPorstNRelease t nodeId twinRole bootSel s
  | .brownout t rail mv => Sys2Proof.Machine.execBrownout t rail mv s
  | .pwrReset t who v => Sys2Proof.Machine.execPwrReset t who v s
  | .pwrResetDelay t => Sys2Proof.Machine.execPwrResetDelay t s
  | .maltsterWatchdog t core => Sys2Proof.Machine.execMaltsterWatchdog t core s
  | .sensorRead t readings => Sys2Proof.Machine.execSensorRead t readings s
  | .lifeSave t => Sys2Proof.Machine.execLifeSave t s
  | .avsRampStep t acked => Sys2Proof.Machine.execAvsRampStep t acked s
  | .avsTick t slack acked readMv readDa => Sys2Proof.Machine.execAvsTick t slack acked readMv readDa s
  | .romBootDone t passed osc => Sys2Proof.Machine.execRomBootDone t passed osc s
  | .bistPhaseDone t failedTuns failedBanks failedLanes othersGood => Sys2Proof.Machine.execBistPhaseDone t failedTuns failedBanks failedLanes othersGood s
  | .caskLoadDone t => Sys2Proof.Machine.execCaskLoadDone t s
  | .qdrTrainingDone t failed => Sys2Proof.Machine.execQdrTrainingDone t failed s
  | .ddrTrainingDone t verified failed => Sys2Proof.Machine.execDdrTrainingDone t verified failed s
  | .lanesDone t => Sys2Proof.Machine.execLanesDone t s
  | .patchAgreeTimeout t => Sys2Proof.Machine.execPatchAgreeTimeout t s
  | .lineBoundary t => Sys2Proof.Machine.execLineBoundary t s
  | .retrainDue t channel => Sys2Proof.Machine.execRetrainDue t channel s
  | .calNoneFire t row => Sys2Proof.Machine.execCalNoneFire t row s
  | .managementLinkChange t speed => Sys2Proof.Machine.execManagementLinkChange t speed s
  | .dadTimerExpiry t port => Sys2Proof.Machine.execDadTimerExpiry t port s
  | .unsolicitedReportInterval t => Sys2Proof.Machine.execUnsolicitedReportInterval t s
  | .classShaperRefill t port => Sys2Proof.Machine.execClassShaperRefill t port s
  | .rollbackFuseBlown t => Sys2Proof.Machine.execRollbackFuseBlown t s
  | .blankToManufacture t => Sys2Proof.Machine.execBlankToManufacture t s
  | .brownoutRecovery t rail mv => Sys2Proof.Machine.execBrownoutRecovery t rail mv s
  | .refclkSysLoss t => Sys2Proof.Machine.execRefclkSysLoss t s
  | .refclkSysReturn t => Sys2Proof.Machine.execRefclkSysReturn t s

end Sys2Proof.Machine
end

