-- ==== Sys2Proof/Safety.lean ====
section
/-! DEFINITION. The words claims are stated in: a sound state (every byte memory in its one canonical form, so that equal
memories are equal data), the commands that may reset the device, change the bright set or store bytes, and a Strel request that
is taken and answered. -/
set_option Elab.async false
namespace Sys2Proof

open Machine

/-- The canonical form of a byte memory: addresses strictly rising, no listed byte equal to the 0 an unlisted address
reads as. -/
def Memory.wf (m : Table Byte) : Bool := Table.wf 0 m

/-- The byte memories of a state: the working memory, the picture store, the SRAM and the Steep's line. -/
def Machine.State.memories (s : State) : Table Byte × Table Byte × Table Byte × Table Byte :=
  (s.workMem, s.storeMem, s.sramMem, s.steepMem)

/-- Every byte memory of a state is in canonical form. -/
def Machine.State.memoriesWf (s : State) : Bool :=
  Memory.wf s.workMem && Memory.wf s.storeMem && Memory.wf s.sramMem && Memory.wf s.steepMem

/-- The commands that may reset the device (R443, R447, R449, R451). -/
def Instr.resets : Instr → Bool
  | .porstNAssert .. | .porstNRelease .. | .brownout .. | .brownoutRecovery .. | .refclkSysLoss .. | .refclkSysReturn ..
  | .pwrResetDelay .. | .maltsterWatchdog .. | .sensorRead .. => true
  | _ => false

/-- The commands that may change the bright set: a rack's swap, in time, at the end of a gap or by SYNC, and a reset. -/
def Instr.racks : Instr → Bool
  | .rackSwap .. | .rasterGapEnd .. | .syncApply .. => true
  | c => c.resets

/-- The commands that may change a byte memory: the Sparge's bursts, and a reset. -/
def Instr.stores : Instr → Bool
  | .burstIssue .. | .reqAssert .. | .burstFail .. | .burstRetry .. | .channelResume .. => true
  | c => c.resets

/-- A Strel request of opcode `opcode` from the peer of the open session `z`, authenticated (R55), in sequence (R56), with a
header whose STATUS and reserved flags are 0, and not too long: `s` takes it. -/
def Machine.State.takes (s : State) (opcode : Nat) (m : StrelMsg) (z : Session) : Prop :=
  s.hears m.peer = true ∧ m.formed true = true ∧ s.tooLong m = false ∧ s.session m.session = some z ∧
    z.peer.same m.peer = true ∧ z.macOk opcode m = true ∧ z.executes opcode m.seq = true ∧ m.status = 0 ∧ bits m.flags 7 4 = 0

/-- The state that has answered the request `seq` of session `z` by `x`: the session keeps the response (R56), its idle time
starts again (R57), and the response leaves under the session's key (R55). -/
def Machine.State.replied (z : Session) (opcode seq : Nat) (x : StrelReply) : State :=
  let flags := 1 + (if x.last then 4 else 0)
  let y : Session := (x.s.session z.id).getD z
  let y : Session := { y with lastSeq := seq, kept := some (opcode, flags, x.status.code, x.payload),
                              idleDeadline := x.s.now + 60 * giga }
  (x.s.setSession y).strelSend y opcode flags x.status.code seq x.payload

end Sys2Proof
end

