-- ==== Sys2Proof/Certificates/Slice0/Obligations.lean ====
section
/-! DEFINITION. The statements for the provers. In a completion statement `r` is any state, `s` is `r` once the running time
has moved to `t` (and, for an access over a path, once the path's idle time has started again; for a recipe step, once a Tun in self-test has
come to its phase), and each clause says, under
hypotheses on `s` and the operands alone, that `exec` answers one next state, written from `s`. -/

open Sys2Proof Sys2Proof.Machine

/-- Floor Map commands: FLR_FILL, FLR_REGIONS, FLR_CHECK, FLR_CHECK_COMPLETE, SET_DISCARD complete with these results. -/
def Obligations.FloorMapCommandsTakeEffect : Prop :=
  -- FLR_FILL: accepted, it writes one value to every row of the green Floor Map; a running check and a validation turn stale.
  (∀ (t : Nat) (who : Path) (v : Nat) (r s : State),
      s = (r.land t).accessed who →
      s.writeRefusal who Obj.flrFill 0 (.num v) = none →
      s.greenLocked = false →
      exec (.flrFill t who v) r = .next ((s.setGreenMap { fill := v, rows := [] }).send (.answer who .ok []))) ∧
  -- FLR_REGIONS: accepted with a well-formed region form, it records code 0 and fills the green Floor Map region by region.
  (∀ (t : Nat) (who : Path) (form : Bytes) (regions : List Region) (r s : State),
      s = (r.land t).accessed who →
      s.writeRefusal who Obj.flrRegions 0 (.bytes form) = none →
      s.greenLocked = false →
      regionStatus s.sets.green.width s.sets.green.height form = (0, regions) →
      exec (.flrRegions t who form) r = .next (((s.put Obj.flrLoadStatus 0 0).setGreenMap (regions.foldl Region.fill s.sets.green.map)).send (.answer who .ok []))) ∧
  -- FLR_CHECK: accepted, it starts a check of the green set as it stands and sets the status RUNNING.
  (∀ (t : Nat) (who : Path) (v : Nat) (r s : State),
      s = (r.land t).accessed who →
      s.writeRefusal who Obj.flrCheck 0 (.num v) = none →
      exec (.flrCheck t who v) r = .next (({ s with sets := { s.sets with check := some { set := s.sets.green, absent := s.sets.mapAbsent, stale := false } } }.put
        Obj.flrCheckStatus 0 1).send (.answer who .ok []))) ∧
  -- FLR_CHECK_COMPLETE: a running check that a write made stale ends with status 4.
  (∀ (t : Nat) (run : CheckRun) (r s : State),
      s = r.land t →
      s.sets.check = some run →
      run.stale = true →
      exec (.flrCheckComplete t) r = .next ({ s with sets := { s.sets with check := none } }.put Obj.flrCheckStatus 0 4)) ∧
  -- FLR_CHECK_COMPLETE: any other running check ends with its rule and place, and with status 2 where no rule is broken, 3 otherwise.
  (∀ (t : Nat) (run : CheckRun) (r s : State),
      s = r.land t →
      s.sets.check = some run →
      run.stale = false →
      exec (.flrCheckComplete t) r = .next ((State.floorResult { s with sets := { s.sets with check := none } } run.set.floorCheck).put Obj.flrCheckStatus 0
        (if run.set.floorCheck.1 = 0 then 2 else 3))) ∧
  -- SET_DISCARD: accepted, it copies the bright set into the green set; a running check and a validation turn stale.
  (∀ (t : Nat) (who : Path) (v : Nat) (r s : State),
      s = (r.land t).accessed who →
      s.writeRefusal who Obj.setDiscard 0 (.num v) = none →
      s.greenLocked = false →
      exec (.setDiscard t who v) r = .next (({ s with sets := { s.sets with green := s.sets.bright, mapAbsent := false } }.greenTouched.checkTouched).send (.answer who .ok [])))

/-- Rack commands, from SET_RACK and its validation to RACK_SWAP, RESEED_COMPLETE and BOOT_RACK_REQUEST, complete with these results. -/
def Obligations.RackCommandsTakeEffect : Prop :=
  -- SET_RACK: accepted in IDLE outside SAFE by a part that is not RETIRED, it records the target, enters VALIDATING and starts the validation.
  (∀ (t : Nat) (who : Path) (v : Nat) (r s : State),
      s = (r.land t).accessed who →
      s.writeRefusal who Obj.setRack 0 (.num v) = none →
      s.trust.lifecycle ≠ 3 →
      s.sets.rack.state = .idle →
      s.cellar.safe = false →
      exec (.setRack t who v) r = .next (((s.changeRack fun x => { x with state := .validating, target := v, paired := s.twn.state == .pairing }).startValidation).send (.answer who .ok []))) ∧
  -- SET_RACK_CANCEL: accepted in single mode during VALIDATING or SCHEDULED, it ends the rack with result CANCELLED.
  (∀ (t : Nat) (who : Path) (v : Nat) (r s : State),
      s = (r.land t).accessed who →
      s.writeRefusal who Obj.setRackCancel 0 (.num v) = none →
      s.rackTwin = false →
      s.sets.rack.state = .validating ∨ s.sets.rack.state = .scheduled →
      exec (.setRackCancel t who v) r = .next (((s.endRack .cancelled).moveGroups).send (.answer who .ok []))) ∧
  -- SET_VALIDATE: accepted, it starts a validation of the green set as it stands and sets the status RUNNING.
  (∀ (t : Nat) (who : Path) (v : Nat) (r s : State),
      s = (r.land t).accessed who →
      s.writeRefusal who Obj.setValidate 0 (.num v) = none →
      exec (.setValidate t who v) r = .next ((s.startValidation).send (.answer who .ok []))) ∧
  -- SET_VALIDATION_DONE: outside a rack, a validation that a write made stale ends with status 4.
  (∀ (t : Nat) (run : CheckRun) (r s : State),
      s = r.land t →
      s.sets.validation = some run →
      s.sets.rack.state ≠ .validating →
      run.stale = true →
      exec (.setValidationDone t) r = .next ({ s with sets := { s.sets with validation := none } }.put Obj.setValidStatus 0 4)) ∧
  -- SET_VALIDATION_DONE: outside a rack, a validation that finds no broken rule records code 0, status 2 and the set it validated.
  (∀ (t : Nat) (run : CheckRun) (x : Nat × Nat × Option Nat) (r s : State),
      s = r.land t →
      s.sets.validation = some run →
      s.sets.rack.state ≠ .validating →
      run.stale = false →
      State.validate { s with sets := { s.sets with validation := none } } run = (0, 0, 0, some x) →
      exec (.setValidationDone t) r = .next (let u := ((((State.floorResult { s with sets := { s.sets with validation := none } } x).put Obj.setValidCode 0 0).put
        Obj.setValidStatus 0 2).put Obj.setValidObject 0 0).put Obj.setValidRow 0 0
        { u with sets := { u.sets with validated := some run.set } })) ∧
  -- RACK_AGREE_TIMEOUT: in AGREEING, once ⟨F−2:0⟩ is reached, the proposal is withdrawn and the rack ends with result TWIN_TIMEOUT.
  (∀ (t : Nat) (r s : State),
      s = r.land t →
      s.sets.rack.state = .agreeing →
      s.agreeClosed s.sets.rack.frame = true →
      exec (.rackAgreeTimeout t) r = .next ((s.unpropose 1 0).endRack .twinTimeout)) ∧
  -- RACK_SWAP: in SCHEDULED, at its calendar turn at line 32·Hb of frame F−1, the sets are swapped for frame F.
  (∀ (t : Nat) (r s : State),
      s = r.land t →
      s.sets.rack.state = .scheduled →
      s.calTurn s.rackEntry = true →
      exec (.rackSwap t) r = .next (((s.swapSets s.sets.rack.frame s.rackTwin).reanchor s.sets.green s.sets.rack.frame).calTicked)) ∧
  -- RESEED_COMPLETE: in RESEEDING with a copy under way, the green set becomes the bright set and the rack returns to IDLE.
  (∀ (t : Nat) (r s : State),
      s = r.land t →
      s.sets.rack.state = .reseeding →
      s.sets.rack.copying = true →
      exec (.reseedComplete t) r = .next (State.changeRack { s with sets := { s.sets with green := s.sets.bright, mapAbsent := false } }
        (fun x => { x with state := .idle, paired := false, copying := false }))) ∧
  -- BOOT_RACK_REQUEST: due, with canvas lock, no twin listen, not JOINING, the rack IDLE and no SAFE: the boot rack is requested with target frame 0.
  (∀ (t : Nat) (r s : State),
      s = r.land t →
      s.sets.bootRackDue = true →
      s.tbs.canvasLock = true →
      s.twn.listenUntil = none →
      s.twn.state ≠ .joining →
      s.sets.rack.state = .idle →
      s.cellar.safe = false →
      exec (.bootRackRequest t) r = .next (State.requestRack { s with sets := { s.sets with bootRackDue := false } } 0))

/-- SET_SAVE, SET_SAVE_DONE, SET_LOAD, SET_LOAD_DONE and LINE_BOUNDARY complete with these results. -/
def Obligations.SlotAndBoundaryCommandsTakeEffect : Prop :=
  -- SET_SAVE: accepted with no save or load under way, it waits for the next line boundary with status 1.
  (∀ (t : Nat) (who : Path) (v : Nat) (r s : State),
      s = (r.land t).accessed who →
      s.writeRefusal who Obj.setSave 0 (.num v) = none →
      s.slotBusy = false →
      exec (.setSave t who v) r = .next (({ s with sets := { s.sets with savePending := some v } }.put Obj.setSaveStatus 0 1).send (.answer who .ok []))) ∧
  -- SET_SAVE_DONE: a save that read back right ends with status 3 where the set is too large for a slot; else, its region form within the limit, it fills the slot with the set and its map's canonical form: status 2, persistence 0.
  (∀ (t : Nat) (written : Bool) (k : Nat) (c : CanvasSet) (r s : State),
      s = r.land t →
      written = true →
      s.sets.saving = some (k, c) →
      c.regionBytes ≤ State.persistLimit ({ s with sets := { s.sets with saving := none } }.put Obj.setSaveStatus 0 2) →
      exec (.setSaveDone t written) r = .next (if 2097024 < c.slotBytes then { s with sets := { s.sets with saving := none } }.put Obj.setSaveStatus 0 3
        else (({ s with sets := { s.sets with saving := none } }.put Obj.setSaveStatus 0 2).putSlot k { state := 1, image := { c with map := c.canonicalMap } }).put
        Obj.flrPersistStatus 0 0)) ∧
  -- SET_LOAD: accepted with the green set unlocked, no save or load under way and data in the slot, the load begins.
  (∀ (t : Nat) (who : Path) (v : Nat) (r s : State),
      s = (r.land t).accessed who →
      s.writeRefusal who Obj.setLoad 0 (.num v) = none →
      s.greenLocked = false →
      s.slotBusy = false →
      (s.setSlot v).state ≠ 0 →
      (s.setSlot v).state ≠ 3 →
      exec (.setLoad t who v) r = .next (({ s with sets := { s.sets with loading := some v } }).send (.answer who .ok []))) ∧
  -- SET_LOAD_DONE: with the green set unlocked and data in the slot, the green set becomes the slot's image; a map the image lacks is absent.
  (∀ (t k : Nat) (r s : State),
      s = r.land t →
      s.sets.loading = some k →
      s.greenLocked = false →
      (s.setSlot k).state ≠ 0 →
      (s.setSlot k).state ≠ 3 →
      exec (.setLoadDone t) r = .next ({ s with sets := { s.sets with loading := none, green := (s.setSlot k).image, mapAbsent := (s.setSlot k).state == 2 }
        }.greenTouched.checkTouched)) ∧
  -- LINE_BOUNDARY: outside a gap, every staged write takes effect, a waiting save takes its snapshot, the segments and the rows in composition count the line, and the management MAC's event has been served.
  (∀ (t : Nat) (r s : State),
      s = r.land t →
      s.inGap = false →
      exec (.lineBoundary t) r = .next (let u := (((s.stagedTaken (s.staged.foldl State.takeStaged { s with staged := [] })).takeSnapshot).segBoundary).rowBoundary
        { u with links := { u.links with mgEvent := false } }))

/-- HELLO, PROOF, PROOF_TIMEOUT, AUTH_LOCK_EXPIRY, SESSION_IDLE_TIMEOUT, SET_SESSION_KILL and SET_STREL_PORT complete with these results. -/
def Obligations.SessionCommandsTakeEffect : Prop :=
  -- HELLO: a well-formed HELLO that no condition refuses is answered with a CHALLENGE.
  (∀ (t : Nat) (m : StrelMsg) (r s : State),
      s = r.land t →
      s.hears m.peer = true →
      m.formed false = true →
      s.helloRefusal m = none →
      exec (.hello t m) r = .next (s.challenge m)) ∧
  -- HELLO: a well-formed HELLO that a condition refuses is answered with that status.
  (∀ (t : Nat) (m : StrelMsg) (st : Status) (r s : State),
      s = r.land t →
      s.hears m.peer = true →
      m.formed false = true →
      s.helloRefusal m = some st →
      exec (.hello t m) r = .next (s.refuse m 0x01 st)) ∧
  -- PROOF: the right proof of a provisional session, from its own peer, grants the session.
  (∀ (t : Nat) (m : StrelMsg) (p : Provisional) (k : Bytes) (r s : State),
      s = r.land t →
      s.hears m.peer = true →
      m.formed false = true →
      s.tooLong m = false →
      s.strel.provisional.find? (fun p => p.id == m.session && decide (s.now ≤ p.deadline)) = some p →
      p.peer.same m.peer = true →
      (s.forget p.id).accessKey p.role.code p.slot = some k →
      m.payload = p.proof k →
      s.strel.sessions.length < 16 →
      exec (.proof t m) r = .next ((s.forget p.id).grant p k m.seq)) ∧
  -- PROOF: a wrong proof is counted against the key slot and answered AUTH_FAIL.
  (∀ (t : Nat) (m : StrelMsg) (p : Provisional) (k : Bytes) (r s : State),
      s = r.land t →
      s.hears m.peer = true →
      m.formed false = true →
      s.tooLong m = false →
      s.strel.provisional.find? (fun p => p.id == m.session && decide (s.now ≤ p.deadline)) = some p →
      p.peer.same m.peer = true →
      (s.forget p.id).accessKey p.role.code p.slot = some k →
      m.payload ≠ p.proof k →
      exec (.proof t m) r = .next (((s.forget p.id).authFailed p.role.code p.slot false).refuse m 0x03 .authFail)) ∧
  -- PROOF_TIMEOUT: 5 s after the CHALLENGE the provisional session is discarded.
  (∀ (t id : Nat) (r s : State),
      s = r.land t →
      s.strel.provisional.any (fun p => p.id == id && decide (p.deadline ≤ s.now)) = true →
      exec (.proofTimeout t id) r = .next ({ s with strel := { s.strel with provisional := s.strel.provisional.filter fun p => p.id != id } })) ∧
  -- AUTH_LOCK_EXPIRY: a lock of a key slot whose 60 s have passed ends; the failures recorded stay.
  (∀ (t role slot u : Nat) (r s : State),
      s = r.land t →
      (s.authSlot role slot).lockedUntil = some u →
      u ≤ s.now →
      exec (.authLockExpiry t role slot) r = .next (let x : AuthSlot := { s.authSlot role slot with lockedUntil := none }
        let auth := Table.set { fails := [], lockedUntil := none } s.strel.auth (4 * role + slot) x
        { s with strel := { s.strel with auth := auth } })) ∧
  -- SESSION_IDLE_TIMEOUT: a session idle for 60 s is closed and its end noticed to the others.
  (∀ (t id : Nat) (z : Session) (r s : State),
      s = r.land t →
      s.session id = some z →
      z.idleDeadline ≤ s.now →
      exec (.sessionIdleTimeout t id) r = .next (({ s with strel := { s.strel with sessions := s.strel.sessions.filter fun y => y.id != id } } : State).sessionNotice id 0)) ∧
  -- SET_SESSION_KILL: accepted with the ID of an open session, it closes that session.
  (∀ (t : Nat) (who : Path) (v : Nat) (r s : State),
      s = (r.land t).accessed who →
      s.writeRefusal who Obj.setSessionKill 0 (.num v) = none →
      (s.session v).isNone = false →
      exec (.setSessionKill t who v) r = .next ((({ s with strel := { s.strel with sessions := s.strel.sessions.filter fun y => y.id != v } } : State).sessionNotice v 0).send (.answer who .ok []))) ∧
  -- SET_STREL_PORT: accepted, it closes every session and stages the port for the next line boundary; the Cask keeps the value.
  (∀ (t : Nat) (who : Path) (v : Nat) (r s : State),
      s = (r.land t).accessed who →
      s.writeRefusal who Obj.setStrelPort 0 (.num v) = none →
      exec (.setStrelPort t who v) r = .next (((s.closeAll.stage Obj.setStrelPort 0 (.num v)).keep Obj.setStrelPort 0 (.num v)).send (.answer who .ok [])))

/-- Strel requests CLOSE, PING, READ, WRITE, READ_ROWS, WRITE_ROWS, DESCRIBE, SUBSCRIBE complete and are answered. -/
def Obligations.StrelRequestsTakeEffect : Prop :=
  -- PING: an authenticated in-sequence request without payload is answered OK; the session records it as the last one executed.
  (∀ (t : Nat) (m : StrelMsg) (z : Session) (r s : State),
      s = r.land t →
      s.takes 0x06 m z →
      m.payload = [] →
      exec (.ping t m) r = .next (let q := { z with peer := m.peer }
        let u := s.setSession q
        State.replied q 0x06 m.seq { s := u, status := .ok, last := false, payload := [] })) ∧
  -- CLOSE: an authenticated in-sequence CLOSE without payload is answered OK, then the session closes.
  (∀ (t : Nat) (m : StrelMsg) (z : Session) (r s : State),
      s = r.land t →
      s.takes 0x05 m z →
      m.payload = [] →
      exec (.close t m) r = .next (let q := { z with peer := m.peer }
        let u := s.setSession q
        (State.replied q 0x05 m.seq { s := u, status := .ok, last := false, payload := [] }).closeIfAsked m.session)) ∧
  -- READ: an authenticated in-sequence READ runs the read and answers what it gives.
  (∀ (t : Nat) (m : StrelMsg) (z : Session) (r s : State),
      s = r.land t →
      s.takes 0x10 m z →
      exec (.read t m) r = .next (let q := { z with peer := m.peer }
        let u := s.setSession q
        State.replied q 0x10 m.seq (strelRead m q u))) ∧
  -- WRITE: an authenticated in-sequence WRITE runs the write and answers its status.
  (∀ (t : Nat) (m : StrelMsg) (z : Session) (r s : State),
      s = r.land t →
      s.takes 0x11 m z →
      exec (.write t m) r = .next (let q := { z with peer := m.peer }
        let u := s.setSession q
        State.replied q 0x11 m.seq (strelWrite m q u))) ∧
  -- READ_ROWS: an authenticated in-sequence READ_ROWS runs the read of its rows and answers what it gives.
  (∀ (t : Nat) (m : StrelMsg) (z : Session) (r s : State),
      s = r.land t →
      s.takes 0x12 m z →
      exec (.readRows t m) r = .next (let q := { z with peer := m.peer }
        let u := s.setSession q
        State.replied q 0x12 m.seq (strelReadRows m q u))) ∧
  -- WRITE_ROWS: an authenticated in-sequence WRITE_ROWS writes its rows and answers its status.
  (∀ (t : Nat) (m : StrelMsg) (z : Session) (r s : State),
      s = r.land t →
      s.takes 0x13 m z →
      exec (.writeRows t m) r = .next (let q := { z with peer := m.peer }
        let u := s.setSession q
        State.replied q 0x13 m.seq (strelWriteRows m q u))) ∧
  -- DESCRIBE: an authenticated in-sequence DESCRIBE answers the description of the object it names.
  (∀ (t : Nat) (m : StrelMsg) (z : Session) (r s : State),
      s = r.land t →
      s.takes 0x14 m z →
      exec (.describe t m) r = .next (let q := { z with peer := m.peer }
        let u := s.setSession q
        State.replied q 0x14 m.seq (strelDescribe m u))) ∧
  -- SUBSCRIBE: an authenticated in-sequence SUBSCRIBE of legal classes replaces the session's classes and is answered OK.
  (∀ (t : Nat) (m : StrelMsg) (z : Session) (r s : State),
      s = r.land t →
      s.takes 0x20 m z →
      m.payload.length = 4 →
      bits (fieldBE m.payload 0 4) 31 3 = 0 →
      exec (.subscribe t m) r = .next (let q := { z with peer := m.peer }
        let u := s.setSession q
        State.replied q 0x20 m.seq { s := u.setSession { q with classes := fieldBE m.payload 0 4 }, status := .ok, last := false, payload := [] }))

/-- OBJECT_WRITE and a USDO download stage a live object's value for the next line boundary; a USDO upload answers the value. -/
def Obligations.ObjectWriteStagesLiveValue : Prop :=
  -- OBJECT_WRITE: a write that every check of R454 and the object's own range let through, of a live object without a rule of its own in force from the next line boundary, stages the value and answers OK; the Cask keeps it where its table says so.
  (∀ (t : Nat) (who : Path) (index sub row : Nat) (data : Bytes) (o : Obj) (r s : State),
      s = (r.land t).accessed who →
      lookupObj index sub = .ok o →
      s.writeRefusal who o row (o.valueOf data) = none →
      o.access = .rw →
      o.isRowSelect = false →
      s.ruleRange o row (o.valueOf data).toNat = true →
      writers.find? (fun p => p.1 == o.code) = none →
      o.atReset = false →
      exec (.objectWrite t who index sub row data) r = .next ((if o.kept then (s.stage o row (o.valueOf data)).keep o row (o.valueOf data) else s.stage o row (o.valueOf data)).send (.answer who .ok []))) ∧
  -- OBJECT_WRITE: a write of an index that names no object answers NO_OBJECT or NO_SUBINDEX and changes nothing else.
  (∀ (t : Nat) (who : Path) (index sub row : Nat) (data : Bytes) (st : Status) (r s : State),
      s = (r.land t).accessed who →
      lookupObj index sub = .error st →
      exec (.objectWrite t who index sub row data) r = .next (s.send (.answer who st []))) ∧
  -- CAN_USDO_TRANSFER: a unicast download writes the object, at the row selected for a table, and the status is confirmed or turned into the abort code.
  (∀ (t index sub : Nat) (d : Bytes) (o : Obj) (r s : State),
      s = (r.land t).accessed .can →
      r.can.serves = true →
      r.pwr.held = false →
      lookupObj index sub = .ok o →
      exec (.canUsdoTransfer t true index sub (some d)) r = .next (let row := if o.rows = 0 then 0 else Table.get 0 s.can.rowSelect (selectIndex o.index)
        let x := s.usdoWrite o row d
        x.1.send (.usdo x.2 (if x.2 = .ok then 0 else x.2.abort false) []))) ∧
  -- CAN_USDO_TRANSFER: a unicast upload answers the bytes it read, or the abort code of the status.
  (∀ (t index sub : Nat) (o : Obj) (r s : State),
      s = (r.land t).accessed .can →
      r.can.serves = true →
      r.pwr.held = false →
      lookupObj index sub = .ok o →
      exec (.canUsdoTransfer t true index sub none) r = .next (let row := if o.rows = 0 then 0 else Table.get 0 s.can.rowSelect (selectIndex o.index)
        let x := s.usdoRead o row
        match x.2 with
        | .error st => x.1.send (.usdo st (if st = .ok then 0 else st.abort true) [])
        | .ok b => x.1.send (.usdo .ok 0 b)))

/-- NMT commands, the CAN heartbeat and the CAN unlock commands complete with these results. -/
def Obligations.CanCommandsTakeEffect : Prop :=
  -- NMT_START: the CAN path enters OPERATIONAL.
  (∀ (t : Nat) (r s : State),
      s = r.land t →
      s.can.nmt = .preOperational ∨ s.can.nmt = .stopped →
      exec (.nmtStart t) r = .next ({ s with can := { s.can with nmt := .operational } })) ∧
  -- NMT_STOP: the CAN path enters STOPPED.
  (∀ (t : Nat) (r s : State),
      s = r.land t →
      s.can.nmt = .preOperational ∨ s.can.nmt = .operational →
      exec (.nmtStop t) r = .next ({ s with can := { s.can with nmt := .stopped } })) ∧
  -- NMT_ENTER_PRE_OPERATIONAL: the CAN path enters PRE-OPERATIONAL and sends its boot-up message.
  (∀ (t : Nat) (r s : State),
      s = r.land t →
      s.can.nmt = .operational ∨ s.can.nmt = .stopped →
      exec (.nmtEnterPreOperational t) r = .next (State.send { s with can := { s.can with nmt := .preOperational } } .canBootUp)) ∧
  -- NMT_RESET_COMMUNICATION: the communication objects return to their defaults, the role to VIEWER, the selected rows to none, and the CAN path to PRE-OPERATIONAL with its boot-up message.
  (∀ (t : Nat) (r s : State),
      s = r.land t →
      s.can.nmt ≠ .disabled →
      exec (.nmtResetCommunication t) r = .next (s.resetCommunication)) ∧
  -- NMT_RESET_NODE: the effect of NMT_RESET_COMMUNICATION and no other: the device is not reset.
  (∀ (t : Nat) (r s : State),
      s = r.land t →
      s.can.nmt ≠ .disabled →
      exec (.nmtResetNode t) r = .next (s.resetCommunication)) ∧
  -- CAN_HEARTBEAT: once 0x1017 milliseconds have passed, a heartbeat with the NMT state's code is sent.
  (∀ (t : Nat) (r s : State),
      s = r.land t →
      s.can.nmt ≠ .disabled →
      s.val Obj.heartbeatTime ≠ 0 →
      s.can.lastHeartbeat + 1000000 * s.val Obj.heartbeatTime ≤ s.now →
      exec (.canHeartbeat t) r = .next (State.send { s with can := { s.can with lastHeartbeat := s.now } } (.canHeartbeat s.can.nmt.code))) ∧
  -- SET_CAN_NONCE: accepted, a fresh 32-byte nonce with 5 s to live replaces the one before and is answered.
  (∀ (t : Nat) (who : Path) (r s : State),
      s = (r.land t).accessed who →
      s.accessRefusal who Obj.setCanNonce 0 false = none →
      exec (.setCanNonce t who) r = .next (State.send { s with draws := s.draws + 1, can := { s.can with nonce := some (s.random 32, s.now + 5 * giga) } }
        (.answer who .ok (s.random 32)))) ∧
  -- CAN_NONCE_EXPIRY: 5 s after its read an unused nonce is void.
  (∀ (t : Nat) (n : Bytes) (u : Nat) (r s : State),
      s = r.land t →
      s.can.nonce = some (n, u) →
      u ≤ s.now →
      exec (.canNonceExpiry t) r = .next ({ s with can := { s.can with nonce := none } })) ∧
  -- SET_CAN_PROOF: accepted with a proof that unlocks the role, the CAN path takes that role and the nonce is used up.
  (∀ (t : Nat) (who : Path) (data : Bytes) (role : Role) (r s : State),
      s = (r.land t).accessed who →
      s.writeRefusal who Obj.setCanProof 0 (.bytes data) = none →
      fieldBE data 2 2 = 0 →
      Role.ofCode (fieldBE data 0 1) = some role →
      fieldBE data 0 1 ≤ 3 →
      fieldBE data 1 1 ≤ 3 →
      s.authLocked (fieldBE data 0 1) (fieldBE data 1 1) = false →
      s.canUnlocks (fieldBE data 0 1) (fieldBE data 1 1) (slice data 4 32) (slice data 36 48) = true →
      exec (.setCanProof t who data) r = .next (({ s with can := { s.can with nonce := none, role := role } }).send (.answer who .ok []))) ∧
  -- SET_CAN_LOCK: accepted, the CAN role returns to VIEWER.
  (∀ (t : Nat) (who : Path) (v : Nat) (r s : State),
      s = (r.land t).accessed who →
      s.writeRefusal who Obj.setCanLock 0 (.num v) = none →
      exec (.setCanLock t who v) r = .next (({ s with can := { s.can with role := .viewer } }).send (.answer who .ok []))) ∧
  -- CAN_ROLE_TIMEOUT: 60 s after the last USDO request the CAN role returns to VIEWER.
  (∀ (t : Nat) (r s : State),
      s = r.land t →
      s.can.lastRequest + 60 * giga ≤ s.now →
      exec (.canRoleTimeout t) r = .next ({ s with can := { s.can with role := .viewer } }))

/-- TBS_SOURCE, TBS_TOD_SET, the reference edges, REFERENCE_LOST, HOLDOVER_LIMIT and TOD_WAIT_EXPIRY complete with these results. -/
def Obligations.TimebaseReferenceCommandsTakeEffect : Prop :=
  -- TBS_SOURCE: accepted, it selects the reference at once, forgets the master and the measurements that wait, takes LOCKED to ACQUIRING and looks for canvas lock; the Cask keeps the value.
  (∀ (t : Nat) (who : Path) (v : Nat) (r s : State),
      s = (r.land t).accessed who →
      s.writeRefusal who Obj.tbsSource 0 (.num v) = none →
      exec (.tbsSource t who v) r = .next (((let u := s.put Obj.tbsSource 0 v
        let u : State := { u with tbs := { u.tbs with sourceAt := u.now, ptpBackup := false, master := none, syncWait := none, delayWait := none, goodRun := 0, badRun := 0 } }
        (if u.tbs.state = .locked then u.setTbs .acquiring else u).tryLock).keep Obj.tbsSource 0 (.num v)).send (.answer who .ok []))) ∧
  -- TBS_TOD_SET: accepted before canvas lock with another source than PTP, the step of device time to the value written is planned and canvas lock is looked for.
  (∀ (t : Nat) (who : Path) (time80 : Bytes) (r s : State),
      s = (r.land t).accessed who →
      s.writeRefusal who Obj.tbsTodSet 0 (.bytes time80) = none →
      s.tbsSource ≠ 0 →
      s.tbs.canvasLock = false →
      exec (.tbsTodSet t who time80) r = .next ((let u := s.planStep ((ofTime80 time80 : Int) - s.deviceTime)
        State.tryLock { u with tbs := { u.tbs with todWritten := true } }).send (.answer who .ok []))) ∧
  -- TBS_TOD_SET: accepted after canvas lock, a difference below TBS_STEP_NS is slewed out and canvas lock is looked for.
  (∀ (t : Nat) (who : Path) (time80 : Bytes) (r s : State),
      s = (r.land t).accessed who →
      s.writeRefusal who Obj.tbsTodSet 0 (.bytes time80) = none →
      s.tbsSource ≠ 0 →
      s.tbs.canvasLock = true →
      ((ofTime80 time80 : Int) - s.deviceTime).natAbs < s.val Obj.tbsStepNs →
      (ofTime80 time80 : Int) - s.deviceTime ≠ 0 →
      exec (.tbsTodSet t who time80) r = .next ((let u := (s.planStep 0).slewBy ((ofTime80 time80 : Int) - s.deviceTime)
        State.tryLock { u with tbs := { u.tbs with todWritten := true } }).send (.answer who .ok []))) ∧
  -- PPS_IN_EDGE: with source 1 and the Timebase acquiring, the edge measures the distance of device time from the nearest whole second.
  (∀ (t : Nat) (r s : State),
      s = r.land t →
      s.acquires = true →
      s.tbsSource = 1 →
      exec (.ppsInEdge t) r = .next (s.edge ((s.deviceTime : Int) - (((s.deviceTime + giga / 2) / giga * giga : Nat) : Int)))) ∧
  -- FRAME_IN_EDGE: with source 2 and the Timebase acquiring, the edge measures the distance of device time from the nearest frame start whose aligned index is a multiple of TBS_FRAME_DIV.
  (∀ (t : Nat) (r s : State),
      s = r.land t →
      s.acquires = true →
      s.tbsSource = 2 →
      exec (.frameInEdge t) r = .next (s.edge ((s.deviceTime : Int) - s.tbs.raster.lineStart (roundDiv (s.deviceTime * s.tbs.raster.num)
        (s.val Obj.tbsFrameDiv * s.tbs.raster.den * giga) * s.val Obj.tbsFrameDiv) 0))) ∧
  -- REFERENCE_LOST: in LOCKED, a reference that is gone takes the Timebase to HOLDOVER at the mean frequency.
  (∀ (t : Nat) (r s : State),
      s = r.land t →
      s.referenceGone = true →
      s.tbs.state = .locked →
      exec (.referenceLost t) r = .next (let u : State := { s with tbs := { s.tbs with master := none, syncWait := none, delayWait := none, ptpBackup := true } }
        (u.setFreq u.meanFreq).setTbs .holdover)) ∧
  -- REFERENCE_LOST: in ACQUIRING, it takes the Timebase to HOLDOVER with canvas lock and to FREE without.
  (∀ (t : Nat) (r s : State),
      s = r.land t →
      s.referenceGone = true →
      s.tbs.state = .acquiring →
      exec (.referenceLost t) r = .next (let u : State := { s with tbs := { s.tbs with master := none, syncWait := none, delayWait := none, ptpBackup := true } }
        (u.setTbs (if u.tbs.canvasLock then .holdover else .free)).tryLock)) ∧
  -- HOLDOVER_LIMIT: holdover that has lasted TBS_HOLDOVER_LIMIT seconds ends in FREE with the fault TIMEOUT.
  (∀ (t : Nat) (r s : State),
      s = r.land t →
      s.tbs.state = .holdover →
      s.val Obj.tbsHoldoverLimit ≠ 0 →
      s.val Obj.tbsHoldoverLimit ≤ s.holdoverSeconds →
      exec (.holdoverLimit t) r = .next (((s.setTbs .free).report 0x020 .timeout 0 0).tryLock)) ∧
  -- TOD_WAIT_EXPIRY: TBS_TOD_WAIT_S seconds after the Cask load, the wait for a time of day ends and canvas lock is looked for.
  (∀ (t f : Nat) (r s : State),
      s = r.land t →
      s.tbs.todWaitFrom = some f →
      s.val Obj.tbsTodWaitS ≠ 0 →
      f + giga * s.val Obj.tbsTodWaitS ≤ s.now →
      exec (.todWaitExpiry t) r = .next (State.tryLock { s with tbs := { s.tbs with todWritten := true, todWaitFrom := none } }))

/-- PTP_ANNOUNCE_RX, PTP_SYNC_RX, PTP_FOLLOW_UP_RX, PTP_DELAY_RESP_RX and PTP_DELAY_REQ complete with these results. -/
def Obligations.PtpCommandsTakeEffect : Prop :=
  -- PTP_ANNOUNCE_RX: an Announce that the Timebase takes and that wins is recorded as the master, with its identity and UTC offset in their objects; FREE becomes ACQUIRING.
  (∀ (t port domain identity rank announceNs syncNs utcOffset : Nat) (r s : State),
      s = r.land t →
      s.ptpTakes port domain = true →
      s.announceWins port identity rank = true →
      exec (.ptpAnnounceRx t port domain identity rank announceNs syncNs utcOffset) r = .next (let m : Master := { port := port, identity := identity, rank := rank, announceNs := announceNs, syncNs := syncNs, lastAnnounce := s.now, since := (s.masterAt port identity).getD s.now }
        let u : State := { s with tbs := { s.tbs with master := some m, ptpBackup := s.tbs.ptpBackup && port != s.val Obj.tbsPtpPortA } }
        let u := (u.putValue Obj.tbsPtpMaster 0 (.bytes (bytesBE 10 identity))).put Obj.tbsPtpUtcOffset 0 (signed 16 (utcOffset % 65536))
        if u.tbs.state = .free then u.setTbs .acquiring else u)) ∧
  -- PTP_SYNC_RX: a two-step Sync of the master, stamped with device time to within 3 ns, waits for its Follow_Up.
  (∀ (t port domain identity seq : Nat) (stampErr : Int) (originNs : Nat) (twoStep : Bool) (tlv : Bytes) (r s : State),
      s = r.land t →
      twoStep = true →
      tlv = [] →
      s.fromMaster port domain identity = true →
      exec (.ptpSyncRx t port domain identity seq stampErr originNs twoStep tlv) r = .next ({ s with tbs := { s.tbs with syncWait := some (seq, ((s.deviceTime : Int) + max (-3) (min stampErr 3)).toNat, originNs) } })) ∧
  -- PTP_SYNC_RX: a one-step Sync of the master, stamped with device time to within 3 ns, is measured at once.
  (∀ (t port domain identity seq : Nat) (stampErr : Int) (originNs : Nat) (twoStep : Bool) (tlv : Bytes) (r s : State),
      s = r.land t →
      twoStep = false →
      tlv = [] →
      s.fromMaster port domain identity = true →
      exec (.ptpSyncRx t port domain identity seq stampErr originNs twoStep tlv) r = .next (s.syncMeasure ((s.deviceTime : Int) + max (-3) (min stampErr 3)).toNat originNs)) ∧
  -- PTP_FOLLOW_UP_RX: the Follow_Up of the Sync that waits is measured with the Sync's receive time and its own origin time.
  (∀ (t port domain identity seq originNs rx o : Nat) (r s : State),
      s = r.land t →
      s.tbs.syncWait = some (seq, rx, o) →
      s.fromMaster port domain identity = true →
      exec (.ptpFollowUpRx t port domain identity seq originNs) r = .next (State.syncMeasure { s with tbs := { s.tbs with syncWait := none } } rx originNs)) ∧
  -- PTP_DELAY_RESP_RX: the Delay_Resp of the request that waits gives the mean of the two directions' differences, never below 0.
  (∀ (t port domain identity seq receivedNs sent : Nat) (r s : State),
      s = r.land t →
      s.tbs.delayWait = some (seq, sent) →
      s.fromMaster port domain identity = true →
      exec (.ptpDelayRespRx t port domain identity seq receivedNs) r = .next (State.put { s with tbs := { s.tbs with delayWait := none } } Obj.tbsPtpMeanDelayNs 0
        (max 0 ((s.tbs.syncDiff + ((receivedNs : Int) - sent)) / 2)))) ∧
  -- PTP_DELAY_REQ: outside SAFE, with source 0 and a master, once its Sync interval has passed a Delay_Req is sent to it and waits for its answer.
  (∀ (t : Nat) (m : Master) (r s : State),
      s = r.land t →
      s.tbs.master = some m →
      s.cellar.safe = false →
      s.acquires = true →
      s.tbsSource = 0 →
      s.tbs.lastDelayReq + m.syncNs ≤ s.now →
      exec (.ptpDelayReq t) r = .next ((State.send { s with tbs := { s.tbs with delaySeq := add16 s.tbs.delaySeq 1, delayWait := some (s.tbs.delaySeq, s.deviceTime), lastDelayReq := s.now } }
        (.frame m.port "Delay_Req" [s.tbs.delaySeq, s.val Obj.tbsPtpDelayMode, s.val Obj.tbsPtpTransport, s.val Obj.tbsPtpDomain] (s.ptpHeader m.port))).txFrame m.port))

/-- TIME_STEP and RASTER_GAP_END complete with these results. -/
def Obligations.TimeStepAndGapEndTakeEffect : Prop :=
  -- TIME_STEP: outside a gap, once the frame that was under way when the step was planned is over, device time jumps, the raster enters a gap that reads the last line of the frame before, the calendar is swept, a rack overtaken ends LATE, and the pacers restart.
  (∀ (t : Nat) (d : Int) (n : Nat) (r s : State),
      s = r.land t →
      s.tbs.stepPending = some (d, n) →
      s.tbs.gap = none →
      n < s.tbs.raster.index s.deviceTime →
      exec (.timeStep t) r = .next (let u := s.jump d
        let new := s.tbs.raster.ctime u.deviceTime
        let w : State := { u with tbs := { u.tbs with gap := some (s.tbs.raster.stepGap u.deviceTime s.ctime.frame), stepPending := none } }
        (((w.noteStep d).calSweep s.ctime new).rackStepped (add32 new.frame 1) s.ctime).restartPacers)) ∧
  -- RASTER_GAP_END: at the end of a gap that leaves the raster's anchor, the raster runs on, the calendar's missed instants are found and the fallback segments that are ready are served; no rack waits for the gap.
  (∀ (t : Nat) (g : Gap) (u r s : State),
      s = r.land t →
      s.tbs.gap = some g →
      g.untilNs ≤ s.deviceTime →
      g.next = s.tbs.raster →
      u = State.calSweep { s with tbs := { s.tbs with gap := none } } g.place (State.ctime { s with tbs := { s.tbs with gap := none } }) →
      u.sets.rack.swapAtGap = false →
      exec (.rasterGapEnd t) r = .next (u.fallbacksReady u.readyFallbacks)) ∧
  -- RASTER_GAP_END: a rack that waits for the gap's end swaps its sets then.
  (∀ (t : Nat) (g : Gap) (u r s : State),
      s = r.land t →
      s.tbs.gap = some g →
      g.untilNs ≤ s.deviceTime →
      g.next = s.tbs.raster →
      u = State.calSweep { s with tbs := { s.tbs with gap := none } } g.place (State.ctime { s with tbs := { s.tbs with gap := none } }) →
      u.sets.rack.state = .scheduled →
      u.sets.rack.swapAtGap = true →
      exec (.rasterGapEnd t) r = .next (let v := (u.swapSets u.sets.rack.frame u.rackTwin).reanchor u.sets.green u.sets.rack.frame
        v.fallbacksReady v.readyFallbacks))

/-- Calendar commands: the TBS_CAL writes and their expiry, and every ACTION of an entry that fires, complete with these results. -/
def Obligations.CalendarCommandsTakeEffect : Prop :=
  -- TBS_CAL_W0: accepted with a line the raster has, it holds word 0 for the writing path for 1 s and leaves the row alone.
  (∀ (t : Nat) (who : Path) (row v : Nat) (r s : State),
      s = (r.land t).accessed who →
      s.writeRefusal who Obj.tbsCalW0 row (.num v) = none →
      bits v 47 32 < s.tbs.raster.lt →
      exec (.tbsCalW0 t who row v) r = .next ((s.setHeld who (Table.insert (s.heldWords who).1 row v) (Table.insert (s.heldWords who).2 row (s.now + giga))).send (.answer who .ok []))) ∧
  -- TBS_CAL_W1: accepted with the user's source and an instant still to come, it writes both words of the row: the held word 0, or the row's own; EN of the write, FIRED cleared.
  (∀ (t : Nat) (who : Path) (row v : Nat) (r s : State),
      s = (r.land t).accessed who →
      s.writeRefusal who Obj.tbsCalW1 row (.num v) = none →
      bits v 39 28 = 0x010 →
      State.calPast ((s.dropHeld who row).setCal row ((s.heldWord who row).getD (s.calW0 row)) (setBit (setBit v 54 (bit (s.calW1 row) 54)) 55 false)) row (State.calNow ((s.dropHeld who row).setCal row ((s.heldWord who row).getD (s.calW0 row)) (setBit (setBit v 54 (bit (s.calW1 row) 54)) 55 false))) = false →
      exec (.tbsCalW1 t who row v) r = .next ((let w1 := setBit (setBit v 54 (bit (s.calW1 row) 54)) 55 false
        ((s.dropHeld who row).setCal row ((s.heldWord who row).getD (s.calW0 row)) w1).put Obj.tbsCalW1 row (setBit w1 55 (bit (s.calW1 row) 55) : Nat)).send (.answer who .ok []))) ∧
  -- CAL_HELD_W0_EXPIRY: a word 0 held for 1 s without its word 1 is discarded.
  (∀ (t : Nat) (who : Path) (row : Nat) (r s : State),
      s = r.land t →
      (s.heldWords who).2.any (fun p => p.1 == row && decide (p.2 ≤ s.now)) = true →
      exec (.calHeldW0Expiry t who row) r = .next (s.setHeld who (Table.erase (s.heldWords who).1 row) (Table.erase (s.heldWords who).2 row))) ∧
  -- GPIO_SET: the entry that is due fires: the GPIO bit ARG[3:0] takes the level ARG[8].
  (∀ (t row : Nat) (r s : State),
      s = r.land t →
      s.calDue row 1 = true →
      exec (.gpioSet t row) r = .next ((s.calFired row).calTicked.gpioOut (bits (bits (s.calW0 row) 63 48) 3 0) (bit (bits (s.calW0 row) 63 48) 8))) ∧
  -- GPIO_PULSE: the entry that is due fires: the GPIO bit is set, to be cleared one line later.
  (∀ (t row : Nat) (r s : State),
      s = r.land t →
      s.calDue row 2 = true →
      exec (.gpioPulse t row) r = .next (let pin := bits (bits (s.calW0 row) 63 48) 3 0
        let u := (s.calFired row).calTicked.gpioOut pin true
        { u with pwr := { u.pwr with pulses := (u.pwr.pulses.filter fun p => p.1 != pin) ++ [(pin, u.deviceTime + u.tbs.raster.lineNs)] } })) ∧
  -- GPIO_PULSE_END: one line after a pulse its bit is cleared.
  (∀ (t pin : Nat) (r s : State),
      s = r.land t →
      s.pwr.pulses.any (fun p => p.1 == pin && decide (p.2 ≤ s.deviceTime)) = true →
      exec (.gpioPulseEnd t pin) r = .next (State.gpioOut { s with pwr := { s.pwr with pulses := s.pwr.pulses.filter fun p => p.1 != pin } } pin false)) ∧
  -- TALLY_SET: the entry that is due fires: the tally takes ARG[3:0].
  (∀ (t row : Nat) (r s : State),
      s = r.land t →
      s.calDue row 3 = true →
      exec (.tallySet t row) r = .next ((s.calFired row).calTicked.put Obj.pwrTally 0 (bits (bits (s.calW0 row) 63 48) 3 0 : Nat))) ∧
  -- CAL_MARK: the entry that is due fires: CAL_MARK is written to the Brew Log with ARG and the row.
  (∀ (t row : Nat) (r s : State),
      s = r.land t →
      s.calDue row 4 = true →
      exec (.calMark t row) r = .next ((s.calFired row).calTicked.brewRec 0x010 0x004 (bits (s.calW0 row) 63 48 * 2 ^ 48 + row))) ∧
  -- CAL_NONE_FIRE: the entry that is due fires without an action.
  (∀ (t row : Nat) (r s : State),
      s = r.land t →
      s.calDue row 0 = true →
      exec (.calNoneFire t row) r = .next ((s.calFired row).calTicked))

/-- Flow, row and still commands of the Compositor complete with these results. -/
def Obligations.CompositorCommandsTakeEffect : Prop :=
  -- FLOW_PACKET_RX: outside SAFE a packet of an enabled single-path flow in RING mode whose segment headers lie within the picture is counted and its segments are written to their ring entries; a segment refused because its entry is pinned counts an overrun.
  (∀ (t flow seq ts : Nat) (payload : Bytes) (heads : List (Nat × Nat × Nat)) (data : Bytes) (r s : State),
      s = r.land t →
      (s.flowSet flow).flowEn flow = true →
      bit ((s.flowSet flow).flow0 flow) 5 = false →
      (s.flowSet flow).flowFrames flow = false →
      srdHeaders 3 (payload.drop 2) = some (heads, data) →
      s.cellar.safe = false →
      (heads.any fun h => decide ((s.flowSet flow).flowH flow ≤ h.2.1) ||
decide ((s.flowSet flow).flowW flow < h.2.2 + ceilDiv h.1 (pgroupBytes (bits ((s.flowSet flow).flow0 flow) 3 1)) *
pgroupPixels (bits ((s.flowSet flow).flow0 flow) 3 1))) = false →
      (heads.map (·.1)).sum ≤ data.length →
      exec (.flowPacketRx t flow false seq ts payload) r = .next (let c := s.flowSet flow
        let u := s.count Obj.cmpFlowPktsA flow
        let pinned (k : Nat) : Bool := u.cmp.rows.any fun w => w.pinned.any fun p => p.1 == flow && p.2 % c.flowRing flow == k
        let x := ringWrite (bits (c.flow0 flow) 3 1) (c.flowRing flow) ts pinned heads data (s.flow flow).ring
        let u := u.setFlow flow { s.flow flow with ring := x.1 }
        if x.2 then u.count Obj.cmpFlowOverrun flow else u)) ∧
  -- FRAME_BUFFER_COPY: a complete line of the staging ring of a FRAME-mode flow is copied into the buffer of its frame, which holds no such line yet.
  (∀ (t flow line : Nat) (e : LineEntry) (m : Int) (r s : State),
      s = r.land t →
      lineEntry (s.flow flow).ring (line % (s.flowSet flow).flowRing flow) = some e →
      (s.flowSet flow).flowEn flow = true →
      (s.flowSet flow).flowFrames flow = true →
      e.line = line →
      (s.flowSet flow).flowLb flow ≤ e.received →
      (s.flowSet flow).selected flow e.ts (s.tbs.raster.index s.deviceTime) = some m →
      lineEntry (s.flow flow).buffers ((m % 3).toNat * 65536 + line) = none →
      exec (.frameBufferCopy t flow line) r = .next (s.setFlow flow { s.flow flow with buffers := Table.set LineEntry.empty (s.flow flow).buffers ((m % 3).toNat * 65536 + line) e })) ∧
  -- ROW_SAMPLE_POINT: at the sample point of the row that is next, outside a gap and SAFE, the row's work is recorded and its slots sampled in order; the last row also reports every enabled flow's status; then the sampled row's duties follow.
  (∀ (t row : Nat) (unreadable : List (Nat × Nat × Nat)) (r s : State),
      s = r.land t →
      s.inGap = false →
      s.cellar.safe = false →
      (s.setFor s.ctime.frame).hasCanvas = true →
      row = (if s.cmp.frame = some s.ctime.frame then s.cmp.nextRow else 0) →
      row < (s.setFor s.ctime.frame).height →
      32 * row + 32 ≤ s.ctime.line →
      exec (.rowSamplePoint t row unreadable) r = .next (let f := s.ctime.frame
        let c := s.setFor f
        let n := s.indexOf f
        let u := if row = 0 then s.frameStart f n else s
        let work : RowWork := { frame := f, index := n, row := row, pinned := [], missing := [], written := 0, parity := [], lost := [], lines := 0 }
        let u : State := { u with cmp := { u.cmp with rows := work :: u.cmp.rows, nextRow := row + 1 } }
        let u := c.slots.foldl (fun s p => if p.2.kind = 2 ∧ !(p.2.outLines row).isEmpty then s.decSelect p.2.src f n else s) u
        let x := c.slots.foldl (fun (acc : State × List (Nat × Nat × Bool) × List (Nat × Nat)) p =>
        let y := acc.1.sampleSlot c f n row unreadable p.1 p.2 acc.2.1
        (y.1, y.2.1, acc.2.2 ++ y.2.2)) (u, [], [])
        let u : State := { x.1 with cmp := { x.1.cmp with rows := match x.1.cmp.rows with
        | [] => []
        | w :: rest => { w with missing := x.2.2 } :: rest } }
        let u := if row + 1 = c.height then (List.range 64).foldl (fun s k => if c.flowEn k then s.flowStatus c f row k else s) u else u
        u.rowSampled f row)) ∧
  -- ROW_COMPOSITION_DONE: outside a gap a row in composition is written; each slot whose line buffer newly reported a parity error reports PARITY first.
  (∀ (t row : Nat) (parity : List Nat) (w : RowWork) (r s : State),
      s = r.land t →
      s.rowWork row = some w →
      s.inGap = false →
      exec (.rowCompositionDone t row parity) r = .next ((s.parityFound w parity).1.composeRow (s.parityFound w parity).2 (s.setFor w.frame).width)) ∧
  -- COMPOSITION_LIMIT: 32 line boundaries after its sample point, outside a gap, a row still in composition reports each new parity error and DEADLINE_MISS, counts a late row and is written: the CTUs before the column reached, and those written already, keep their samples.
  (∀ (t row : Nat) (late : LateRow) (w : RowWork) (r s : State),
      s = r.land t →
      s.rowWork row = some w →
      s.inGap = false →
      32 ≤ w.lines →
      exec (.compositionLimit t row late) r = .next (let q := s.parityFound w late.parity
        ((q.1.report 0x200 .deadlineMiss (faultAddr w.frame row) 0).count Obj.cmpLateRows).composeRow q.2 (max late.fromCx w.written))) ∧
  -- CMP_STILL_DESC: accepted for a still that no set in use names and that fits the area, it allocates the still's bytes, clears VALID and takes the descriptor at once.
  (∀ (t : Nat) (who : Path) (row v : Nat) (r s : State),
      s = (r.land t).accessed who →
      s.writeRefusal who Obj.cmpStillDesc row (.num v) = none →
      bit v 1 = false →
      (s.sets.bright.namesStill row) = false →
      (s.sets.green.namesStill row) = false →
      s.areaUsed (some row) + stillBytes v ≤ 1048576 * s.cmp.areaMib →
      exec (.cmpStillDesc t who row v) r = .next (((s.setStill row { allocated := stillBytes v, valid := false, data := [] }).put Obj.cmpStillDesc row (setBits v 0 0 0 : Nat)).send (.answer who .ok []))) ∧
  -- CMP_STILL_DATA: accepted with exactly the bytes allocated, for a still that no set in use names, it stores the pixels and sets VALID.
  (∀ (t : Nat) (who : Path) (row : Nat) (data : Bytes) (r s : State),
      s = (r.land t).accessed who →
      s.writeRefusal who Obj.cmpStillData row (.bytes data) = none →
      (s.still row).allocated ≠ 0 →
      data.length = (s.still row).allocated →
      (s.sets.bright.namesStill row) = false →
      (s.sets.green.namesStill row) = false →
      exec (.cmpStillData t who row data) r = .next ((s.setStill row { s.still row with valid := true, data := data }).send (.answer who .ok [])))

/-- Segment commands of the Dispatcher, from the composed report to the fallback time limit, complete with these results. -/
def Obligations.SegmentCommandsTakeEffect : Prop :=
  -- SEGMENT_COMPOSED: outside a gap, the CTUs of a segment's row are written up to the segment's last column, and the segment is marked composed, with its integrity and its anomaly bit for concealed content.
  (∀ (t seg : Nat) (done : ComposedRow) (g : SegRec) (r s : State),
      s = r.land t →
      s.findSeg seg done.y (fun g => !g.composed) = some g →
      s.inGap = false →
      exec (.segmentComposed t seg done) r = .next (let s := match s.cmp.rows.find? fun w => w.frame == g.frame && w.row == done.y with
        | none => s
        | some w => (s.parityFound w done.parity).1.composeCols (s.parityFound w done.parity).2 (g.x0 + g.w) (s.setFor g.frame).width
        s.modSeg g fun q => { q with composed := true, si := !s.cmp.integrityLost.contains (segKey seg done.y), anom := q.anom ||| (2 * ofBool (s.cmp.concealed.contains (segKey seg done.y))) })) ∧
  -- SEGMENT_ASSIGN: with a ready segment, a READY Tun and fewer encode tickets than the limit, the first ready segment goes to the Tun that has been READY longest with the next ticket and an assignment record, and to the Taster lane chosen, if any.
  (∀ (t : Nat) (unreadable : List Nat) (g : SegRec) (u : Nat) (p : Picture) (r s : State),
      s = r.land t →
      s.firstReady = some g →
      s.readyTun = some u →
      s.encodeTickets < s.encodeLimit →
      s.picture g.pic = some p →
      exec (.segmentAssign t unreadable) r = .next (let bad := s.badColumns ((s.setFor g.frame).entry g.s) g.frame g.y unreadable
        let m := s.mapUnreadable g.frame g.y bad
        let k := m.encodeTask g p bad
        let v : State := { m with dsp := { m.dsp with nextTicket := k.ticket + 1 } }
        let v := (v.startTask u k).modSeg g fun q => { q with ticket := some k.ticket, tun := u, respared := false, anom := q.anom ||| ofBool (!bad.isEmpty) }
        match v.chooseLane g.frame g.s g.y with
        | some n => v.bindLane n k.ticket
        | none => v)) ∧
  -- POISON_REPORT: a poisoned task with a current ticket loses it: its segment is assigned again or becomes a fallback or, a fallback already, fails; a work item is run again; the Tun gets RESPARE, or ABORT at the respare limit.
  (∀ (t tun : Nat) (k : Task) (r s : State),
      s = r.land t →
      (s.tun tun).task = some k →
      k.poisoned = true →
      exec (.poisonReport t tun) r = .next (if k.isDecode then (if s.itemHeld tun k then (s.releaseItem tun).attend tun .respare else s)
        else match s.dsp.segs.find? fun g => g.ticket == some k.ticket with
        | some g => s.segPoisoned g tun
        | none => s)) ∧
  -- SEGMENT_DEADLINE: a segment whose count has reached 0 without having committed becomes late and reports SEGMENT_LATE; no force is armed.
  (∀ (t seg y : Nat) (g : SegRec) (r s : State),
      s = r.land t →
      s.findSeg seg y (fun g => decide (g.count ≤ 0) && !g.late) = some g →
      s.cellar.force = none →
      exec (.segmentDeadline t seg y) r = .next (((s.modSeg g fun q => { q with late := true }).report 0x340 .segmentLate (faultAddr g.frame y) seg).count Obj.dspSegsLate)) ∧
  -- SEGMENT_HARD_LIMIT: a late segment at its hard limit loses its Tun by ABORT and becomes a fallback segment.
  (∀ (t seg y : Nat) (g : SegRec) (r s : State),
      s = r.land t →
      s.findSeg seg y (fun g => g.late && !g.fallback && decide (g.count ≤ -((s.setFor g.frame).nat Obj.dspLateLines : Int))) = some g →
      exec (.segmentHardLimit t seg y) r = .next (State.makeFallback (if g.ticket.isSome then s.attend g.tun .abort else s) g 1 false)) ∧
  -- FALLBACK_TIMEOUT: a fallback segment not committed 32 line boundaries after it became one, whose failure is not reported yet, loses its ticket and reports DEADLINE_MISS with code 3.
  (∀ (t seg y : Nat) (g : SegRec) (r s : State),
      s = r.land t →
      s.findSeg seg y (fun g => g.fallback && !g.failed && decide (32 ≤ g.sinceFallback)) = some g →
      exec (.fallbackTimeout t seg y) r = .next ((State.modSeg (if g.ticket.isSome then s.attend g.tun .abort else s) g fun q => { q with ticket := none, failed := true }).report 0x340 .deadlineMiss (faultAddr g.frame g.y) (3 * 4096 + g.s)))

/-- The eight recipe step operations NEXT, BRANCH, JUMP, CALL, RETURN, YIELD, LOOP and END complete with these results. -/
def Obligations.RecipeStepsTakeEffect : Prop :=
  -- NEXT: a running Tun whose step's operation is NEXT continues at cur + 1.
  (∀ (t tun : Nat) (r s : State),
      s = (r.land t).tunPhase tun →
      s.stepIs tun 0 = true →
      exec (.nextStep t tun) r = .next (s.stepTun tun fun x => { x with cur := (x.cur + 1) % 65536 })) ∧
  -- BRANCH: BRANCH continues in its page at its target with the selected condition bits set.
  (∀ (t tun : Nat) (r s : State),
      s = (r.land t).tunPhase tun →
      s.stepIs tun 1 = true →
      exec (.branchStep t tun) r = .next (let x := s.tun tun
        let w := (s.tunBank x).step x.cur
        let g := (s.tunBank x).grain w
        let c := s.condition x (bits g 3 0) % 2 ^ min 4 (bits g 6 4)
        let u := s.stepTun tun fun x => { x with cur := x.cur / 256 * 256 + (bits w 23 16 ||| c) }
        { u with draws := u.draws + 1 })) ∧
  -- JUMP: JUMP continues at the start of the page it names.
  (∀ (t tun : Nat) (r s : State),
      s = (r.land t).tunPhase tun →
      s.stepIs tun 2 = true →
      exec (.jumpStep t tun) r = .next (s.stepTun tun fun x => { x with cur := bits ((s.tunBank (s.tun tun)).step (s.tun tun).cur) 23 16 * 256 })) ∧
  -- CALL: CALL with fewer than 8 nested calls pushes cur + 1 and jumps to the start of the page it names.
  (∀ (t tun : Nat) (r s : State),
      s = (r.land t).tunPhase tun →
      s.stepIs tun 3 = true →
      (s.tun tun).stack.length < 8 →
      exec (.callStep t tun) r = .next (s.stepTun tun fun x => { x with cur := bits ((s.tunBank (s.tun tun)).step (s.tun tun).cur) 23 16 * 256, stack := (x.cur + 1) % 65536 :: x.stack })) ∧
  -- CALL: a ninth nested CALL reports TIMEOUT and stops the sequencer.
  (∀ (t tun : Nat) (r s : State),
      s = (r.land t).tunPhase tun →
      s.stepIs tun 3 = true →
      8 ≤ (s.tun tun).stack.length →
      exec (.callStep t tun) r = .next ((s.tunReport tun false .timeout (s.tun tun).cur).setTun tun { (s.tunReport tun false .timeout (s.tun tun).cur).tun tun with stopped := true })) ∧
  -- RETURN: RETURN continues at the address popped; with the stack empty, at a free value (log 22); where the attention handler pushed that address, the handler is over.
  (∀ (t tun : Nat) (r s : State),
      s = (r.land t).tunPhase tun →
      s.stepIs tun 4 = true →
      exec (.returnStep t tun) r = .next ((s.stepTun tun fun x => { x with cur := (s.tun tun).stack.headD (Config.freeValue (s.draws + issueDraws) % 65536), stack := x.stack.tail }).drawn.when ((s.tun tun).handling == some (s.tun tun).stack.length) (fun v => v.handlerReturn tun))) ∧
  -- YIELD: YIELD keeps the longest interval of a Tun with a task, starts the interval again and takes the attention posted.
  (∀ (t tun : Nat) (r s : State),
      s = (r.land t).tunPhase tun →
      s.stepIs tun 5 = true →
      exec (.yieldStep t tun) r = .next (let gap := (s.now - (s.tun tun).yieldAt) * 8 / 5
        let u := if (s.tun tun).task.isSome ∧ s.val Obj.tunMaxYieldGap tun < gap then s.put Obj.tunMaxYieldGap tun (min gap 65535 : Nat) else s
        (u.stepTun tun fun x => { x with yieldAt := u.now }).yieldAction tun)) ∧
  -- LOOP: LOOP decrements its counter and branches in the page, or continues at cur + 1 where the counter is 0.
  (∀ (t tun : Nat) (r s : State),
      s = (r.land t).tunPhase tun →
      s.stepIs tun 6 = true →
      exec (.loopStep t tun) r = .next (let w := (s.tunBank (s.tun tun)).step (s.tun tun).cur
        let i := bits ((s.tunBank (s.tun tun)).grain w) 8 7
        s.stepTun tun fun x =>
        if (s.tun tun).lc.getD i 0 = 0 then { x with cur := (x.cur + 1) % 65536 }
        else { x with cur := x.cur / 256 * 256 + bits w 23 16, lc := ((x.lc ++ List.replicate 4 0).take 4).set i ((s.tun tun).lc.getD i 0 - 1) })) ∧
  -- END: END takes the sequencer to the idle entry with an empty stack; in the attention handler what was posted is carried out; a task that still waits for its commit's verdict stays, one that never committed is discarded (log 22).
  (∀ (t tun : Nat) (r s : State),
      s = (r.land t).tunPhase tun →
      s.stepIs tun 7 = true →
      exec (.endStep t tun) r = .next (let x := s.tun tun
        let u := s.stepTun tun fun x => { x with cur := 0, stack := [] }
        if x.handling.isSome then u.handlerEnd tun
        else if x.task.isNone ∨ (x.outq.isSome || s.dsp.commits.any fun c => c.tun == tun) then u
        else if x.state = .draining then u.drainEnd tun else u.endDiscard tun))

/-- COMMIT, the Tun's watchdog, retry, poison, BIST, self-test, reinstatement, rotation and clock commands complete with these results. -/
def Obligations.TunCommandsTakeEffect : Prop :=
  -- COMMIT: a running Tun with an encode task and no commit under way submits the record that the task's inputs determine, with the slice bytes that its OUT unit wrote, where the command carries that record's exhaustion flag, trims and floors.
  (∀ (t tun : Nat) (slice : Bytes) (spent : Bool) (trims floors : Nat) (k : Task) (r s : State),
      s = r.land t →
      (s.tun tun).task = some k →
      k.isDecode = false →
      (s.tun tun).stopped = false →
      (s.tun tun).outq = none →
      (s.tun tun).kegWait = none →
      s.dsp.commits.any (fun c => c.tun == tun) = false →
      k.sends tun spent trims floors = true →
      exec (.commit t tun slice spent trims floors) r = .next (s.submitCommit tun { k.record tun with slice := slice })) ∧
  -- COMMIT: a decode task whose item may end commits it or, poisoned, ends draining; the rest of its lines is staged first.
  (∀ (t tun : Nat) (slice : Bytes) (spent : Bool) (trims floors : Nat) (k : Task) (r s : State),
      s = r.land t →
      (s.tun tun).task = some k →
      k.isDecode = true →
      (s.tun tun).stopped = false →
      (s.tun tun).outq = none →
      (s.tun tun).kegWait = none →
      s.dsp.commits.any (fun c => c.tun == tun) = false →
      s.itemWhole k = true →
      exec (.commit t tun slice spent trims floors) r = .next (if k.poisoned then (s.stageTo tun k.ctus 0).1.drainEnd tun else (s.stageTo tun k.ctus 0).1.commitItem tun k)) ∧
  -- YIELD_WATCHDOG: 1,280 ns without a yield step during a task, apart from the wait for a Keg pool, stop the sequencer, report TIMEOUT unless it was stopped already, and drain the Tun.
  (∀ (t tun : Nat) (r s : State),
      s = r.land t →
      (s.tun tun).task.isNone = false →
      (s.tun tun).kegWait.isSome = false →
      (s.tun tun).yieldAt + 1280 ≤ s.now →
      exec (.yieldWatchdog t tun) r = .next (let u := s.setTun tun { s.tun tun with stopped := true }
        let u := if (s.tun tun).stopped then u else u.tunReport tun false .timeout (s.tun tun).cur
        (u.setTun tun { u.tun tun with state := .draining }).drainEnd tun)) ∧
  -- TUN_KEG_RETRY: 40 ns after a dry answer the loop passes a yield step: ABORT or RESPARE is taken, a draining Tun ends, and otherwise the commit record is submitted again, or staging goes on.
  (∀ (t tun a : Nat) (r s : State),
      s = r.land t →
      (s.tun tun).kegWait = some a →
      a + 40 ≤ s.now →
      exec (.tunKegRetry t tun) r = .next (let u := s.setTun tun { s.tun tun with yieldAt := s.now }
        if (s.tun tun).abortPosted ∧ (s.tun tun).handling.isNone then u.takeAttention tun
        else if (s.tun tun).state = .draining then u.drainEnd tun
        else match (s.tun tun).outq with
        | some c => u.submitCommit tun c
        | none => (u.stageTo tun 0 0).1)) ∧
  -- TUN_POISON: an uncorrectable or parity error in a Tun at work sets its error condition and reports its fault, which poisons its task or takes an idle Tun to SELFTEST.
  (∀ (t tun kind detail : Nat) (k : Kind) (r s : State),
      s = r.land t →
      tun < 64 →
      (s.tun tun).state = .ready ∨ (s.tun tun).state = .encode ∨ (s.tun tun).state = .decode ∨ (s.tun tun).state = .draining →
      kind = 2 ∧ k = .eccUncorr ∨ kind = 3 ∧ k = .parity →
      exec (.tunPoison t tun kind detail) r = .next ((s.setTun tun ((s.tun tun).errBit k)).tunReport tun false k detail)) ∧
  -- TUN_POISON: a corrected error is reported and counted.
  (∀ (t tun kind detail : Nat) (r s : State),
      s = r.land t →
      tun < 64 →
      (s.tun tun).state = .ready ∨ (s.tun tun).state = .encode ∨ (s.tun tun).state = .decode ∨ (s.tun tun).state = .draining →
      kind = 1 →
      exec (.tunPoison t tun kind detail) r = .next ((s.report (0x300 + tun) .eccCorr (s.tunAddr tun) detail).count Obj.tunEccCorr tun)) ∧
  -- TUN_BIST_DONE: 40 ms after its start a BIST that failed in a phase ends: the Tun becomes FAILED and reports DIGEST_MISMATCH.
  (∀ (t tun phase a : Nat) (r s : State),
      s = r.land t →
      (s.tun tun).bistFrom = some a →
      a + 40000000 ≤ s.now →
      phase ≠ 0 →
      (s.tun tun).bistHeld = false →
      exec (.tunBistDone t tun phase) r = .next (let u := s.unmark tun
        let y : Tun := { (s.tun tun).clear 0 u.now with bistStage := 4, sram := [], bistFrom := none, bistHeld := false, bistPending := false, bistResult := 2, bistPhase := phase, bistEnd := u.deviceTime, attn := [], lastPass := none, state := .failed }
        ((((u.report (0x300 + tun) .digestMismatch 0 phase).count Obj.tunFaults tun).setTun tun y).capacity))) ∧
  -- TUN_BIST_DONE: a BIST of a Tun in service that passes makes the Tun READY.
  (∀ (t tun phase a : Nat) (r s : State),
      s = r.land t →
      (s.tun tun).bistFrom = some a →
      a + 40000000 ≤ s.now →
      phase = 0 →
      (s.tun tun).bistHeld = false →
      exec (.tunBistDone t tun phase) r = .next (let u := s.unmark tun
        let y : Tun := { (s.tun tun).clear 0 u.now with bistStage := 4, sram := [], bistFrom := none, bistHeld := false, bistPending := false, bistResult := 1, bistPhase := 0, bistEnd := u.deviceTime, attn := [], lastPass := some u.now }
        (u.setTun tun y).tunFree tun)) ∧
  -- TUN_SELFTEST: accepted for a Tun out of service, its BIST begins at once.
  (∀ (t : Nat) (who : Path) (v : Nat) (r s : State),
      s = (r.land t).accessed who →
      s.writeRefusal who Obj.tunSelftest 0 (.num v) = none →
      (s.tun v).state = .failed ∨ (s.tun v).state = .retired →
      (s.tun v).bistFrom = none →
      exec (.tunSelftest t who v) r = .next ((s.beginBist v 2).send (.answer who .ok []))) ∧
  -- TUN_SELFTEST: accepted for a Tun at work, it is queued for rotation.
  (∀ (t : Nat) (who : Path) (v : Nat) (r s : State),
      s = (r.land t).accessed who →
      s.writeRefusal who Obj.tunSelftest 0 (.num v) = none →
      (s.tun v).state = .encode ∨ (s.tun v).state = .decode ∨ (s.tun v).state = .draining →
      (s.tun v).bistFrom = none →
      exec (.tunSelftest t who v) r = .next ((s.setTun v { s.tun v with bistPending := true }).send (.answer who .ok []))) ∧
  -- TUN_REINSTATE: accepted for a Tun out of service whose self-test passed within the last 60 s, the Tun becomes READY.
  (∀ (t : Nat) (who : Path) (v a : Nat) (r s : State),
      s = (r.land t).accessed who →
      s.writeRefusal who Obj.tunReinstate 0 (.num v) = none →
      (s.tun v).state = .failed ∨ (s.tun v).state = .retired →
      (s.tun v).lastPass = some a →
      s.now ≤ a + 60 * giga →
      exec (.tunReinstate t who v) r = .next (((s.setTun v { s.tun v with bistFrom := none, bistHeld := false }).tunFree v).send (.answer who .ok []))) ∧
  -- TUN_ROTATE: at a rotation instant outside a gap, with no Tun to spare, the rotation is skipped, recorded and tried again with the same Tun.
  (∀ (t f : Nat) (v u r s : State),
      s = r.land t →
      s.dsp.rotateAt = some f →
      s.calTurn (rotateEntry f) = true →
      s.val Obj.dspRotateS ≠ 0 →
      v = s.calTicked →
      u = State.armRotation { v with dsp := { v.dsp with rotatedAt := f } } →
      u.tunsActive < u.na + 1 →
      exec (.tunRotate t) r = .next (State.brewRec { u with dsp := { u.dsp with retryTun := some v.rotateChoice } } 0x340 0x042 v.rotateChoice)) ∧
  -- TUN_ROTATE: with a Tun to spare, the chosen Tun, when READY, rotates into self-test.
  (∀ (t f : Nat) (v u r s : State),
      s = r.land t →
      s.dsp.rotateAt = some f →
      s.calTurn (rotateEntry f) = true →
      s.val Obj.dspRotateS ≠ 0 →
      v = s.calTicked →
      u = State.armRotation { v with dsp := { v.dsp with rotatedAt := f } } →
      u.na + 1 ≤ u.tunsActive →
      (u.tun v.rotateChoice).state = .ready →
      exec (.tunRotate t) r = .next (State.beginBist { u with dsp := { u.dsp with rotating := v.rotateChoice :: u.dsp.rotating.filter (· != v.rotateChoice), lastRotated := v.rotateChoice, retryTun := none } } v.rotateChoice 1)) ∧
  -- CLOCK_GROUP_ENABLE: in the BIST step of start-up, 5 µs times the group's number after it began and with no Tun of a lower group GATED, every Tun of the group that is GATED begins its BIST.
  (∀ (t group : Nat) (r s : State),
      s = r.land t →
      s.pwr.phase = 2 →
      group < 8 →
      s.pwr.phaseAt + 5000 * group ≤ s.now →
      (List.range (8 * group)).any (fun u => (s.tun u).state == .gated) = false →
      exec (.clockGroupEnable t group) r = .next ((List.range 8).foldl (fun u i => if (u.tun (8 * group + i)).state = .gated then u.beginBist (8 * group + i) 0 else u) s))

/-- TUN_PATCH_IMAGE, TUN_PATCH_APPLY, TUN_PATCH_REMOVE, PATCH_SWITCH and PATCH_AGREE_TIMEOUT complete with these results. -/
def Obligations.PatchCommandsTakeEffect : Prop :=
  -- TUN_PATCH_IMAGE: accepted by a part that is not RETIRED with the verifier and the switch free, the check of the image begins, with the writer's role.
  (∀ (t : Nat) (who : Path) (image : Bytes) (role : Role) (r s : State),
      s = (r.land t).accessed who →
      s.writeRefusal who Obj.tunPatchImage 0 (.bytes image) = none →
      s.trust.lifecycle ≠ 3 →
      s.verifierBusy = false →
      s.switchBusy = false →
      s.roleOf who = some role →
      exec (.tunPatchImage t who image) r = .next ((s.modTrust fun x => { x with checking := some { image := image, sec := false, role := role, since := s.now } }).send (.answer who .ok []))) ∧
  -- TUN_PATCH_APPLY: accepted with a staged image and no switch under way, in single mode, it schedules the switch to that image for a frame computed as for a rack.
  (∀ (t : Nat) (who : Path) (v : Nat) (bank : PatchBank) (f : Nat) (r s : State),
      s = (r.land t).accessed who →
      s.writeRefusal who Obj.tunPatchApply 0 (.num v) = none →
      s.switchBusy = false →
      s.tuns.staged = some bank →
      s.twinMode = false →
      rackFrame s.ctime.frame (s.rackLead false) v = .ok f →
      exec (.tunPatchApply t who v) r = .next (({ s with tuns := { s.tuns with switch := some { frame := f, bank := bank, agreed := true }, patchFrame := f } }).send (.answer who .ok []))) ∧
  -- TUN_PATCH_REMOVE: accepted with no switch under way, in single mode, it schedules the switch to an empty bank for a frame computed as for a rack.
  (∀ (t : Nat) (who : Path) (v f : Nat) (r s : State),
      s = (r.land t).accessed who →
      s.writeRefusal who Obj.tunPatchRemove 0 (.num v) = none →
      s.switchBusy = false →
      s.twinMode = false →
      rackFrame s.ctime.frame (s.rackLead false) 0 = .ok f →
      exec (.tunPatchRemove t who v) r = .next (({ s with tuns := { s.tuns with switch := some { frame := f, bank := PatchBank.empty, agreed := true }, patchFrame := f } }).send (.answer who .ok []))) ∧
  -- PATCH_SWITCH: at the calendar turn of an agreed switch the banks are switched.
  (∀ (t : Nat) (w : PatchSwitch) (r s : State),
      s = r.land t →
      s.tuns.switch = some w →
      w.agreed = true →
      s.calTurn (s.switchEntry w) = true →
      exec (.patchSwitch t) r = .next (s.calTicked.switchBank w)) ∧
  -- PATCH_AGREE_TIMEOUT: a switch not agreed before ⟨F−2:0⟩ is given up with result TWIN_TIMEOUT.
  (∀ (t : Nat) (w : PatchSwitch) (r s : State),
      s = r.land t →
      s.tuns.switch = some w →
      w.agreed = false →
      s.agreeClosed w.frame = true →
      exec (.patchAgreeTimeout t) r = .next (s.endPatch .twinTimeout))

/-- GOVERNOR_TICK, DSP_EFFORT_CAP, EFFORT_CHANGE, EFFORT_AGREE_TIMEOUT and the nudge commands complete with these results. -/
def Obligations.EffortAndNudgeCommandsTakeEffect : Prop :=
  -- GOVERNOR_TICK: Tj that calls for no move leaves the governor's state and breaks the hold time.
  (∀ (t : Nat) (r s : State),
      s = r.land t →
      governorMove s.dsp.govState (s.valInt Obj.dspThermLeanC) (s.valInt Obj.dspThermMinC) (s.val Obj.dspThermHystC) s.pwr.tj = none →
      exec (.governorTick t) r = .next ({ s with dsp := { s.dsp with govCoolFrom := none } })) ∧
  -- GOVERNOR_TICK: Tj that calls for a lower effort moves the governor at once and requests the effort.
  (∀ (t new : Nat) (r s : State),
      s = r.land t →
      governorMove s.dsp.govState (s.valInt Obj.dspThermLeanC) (s.valInt Obj.dspThermMinC) (s.val Obj.dspThermHystC) s.pwr.tj = some new →
      s.dsp.govState < new →
      exec (.governorTick t) r = .next (State.requestEffort { s with dsp := { s.dsp with govState := new, govCoolFrom := none } })) ∧
  -- DSP_EFFORT_CAP: accepted, it sets the cap and requests the effort.
  (∀ (t : Nat) (who : Path) (v : Nat) (r s : State),
      s = (r.land t).accessed who →
      s.writeRefusal who Obj.dspEffortCap 0 (.num v) = none →
      v ≤ 2 →
      exec (.dspEffortCap t who v) r = .next ((State.requestEffort { s with dsp := { s.dsp with effortCap := v } }).send (.answer who .ok []))) ∧
  -- EFFORT_CHANGE: at the calendar turn of an agreed change its level takes effect for its frame, is counted and recorded, CONTEXT goes to every Tun that is not GATED, FAILED or RETIRED, and a lower request held back is served.
  (∀ (t : Nat) (x : EffortChange) (rest : List EffortChange) (r s : State),
      s = r.land t →
      s.dsp.effortPending = x :: rest →
      x.agreed = true →
      s.calTurn (s.effortEntry x) = true →
      exec (.effortChange t) r = .next (let v := s.calTicked
        let u : State := { v with dsp := { v.dsp with effort := x.level, effortPending := rest, effortFrame := x.frame } }
        let u := (u.count Obj.dspEffortChanges).brewRec 0x340 0x043 (x.level * 2 ^ 32 + x.frame)
        ((List.range 64).foldl (fun s t => if (s.tun t).state = .gated ∨ (s.tun t).state = .failed ∨ (s.tun t).state = .retired then s else s.attend t .context) u).effortSettled)) ∧
  -- EFFORT_AGREE_TIMEOUT: a change not agreed before ⟨F−2:0⟩ is scheduled again for a frame computed afresh.
  (∀ (t : Nat) (x : EffortChange) (r s : State),
      s = r.land t →
      s.dsp.effortPending.find? (fun x => !x.agreed && s.reached { frame := sub32 x.frame 2, line := 0 }) = some x →
      exec (.effortAgreeTimeout t) r = .next (State.scheduleEffort { s with dsp := { s.dsp with effortPending := s.dsp.effortPending.filter fun q => q != x } } x.level)) ∧
  -- RAK_NUDGE: accepted for a receiver entry of a device that is not silenced, it requests the nudge.
  (∀ (t : Nat) (who : Path) (v : Nat) (r s : State),
      s = (r.land t).accessed who →
      s.writeRefusal who Obj.rakNudge 0 (.num v) = none →
      v ≤ 4094 →
      s.silenced = false →
      s.sets.bright.isReceiver v = true →
      exec (.rakNudge t who v) r = .next ((s.nudgeRequest v s.ctime.frame).send (.answer who .ok []))) ∧
  -- REFRESH_NUDGE: an agreed start is taken at its calendar turn.
  (∀ (t seg : Nat) (r s : State),
      s = r.land t →
      (s.nudge seg).state = .scheduled ∨ (s.nudge seg).state = .queued →
      (s.nudge seg).agreed = true →
      s.calTurn (s.nudgeEntry seg (s.nudge seg)) = true →
      exec (.refreshNudge t seg) r = .next ((s.setNudge seg { s.nudge seg with taken := true }).calTicked)) ∧
  -- NUDGE_AGREE_TIMEOUT: a scheduled start not agreed before ⟨Fn−2:0⟩ is proposed again with Fn three frames ahead.
  (∀ (t seg : Nat) (r s : State),
      s = r.land t →
      (s.nudge seg).state = .scheduled →
      (s.nudge seg).agreed = false →
      s.reached { frame := sub32 (s.nudge seg).fn 2, line := 0 } = true →
      exec (.nudgeAgreeTimeout t seg) r = .next (s.nudgeStart seg (add32 s.ctime.frame 3) (s.nudge seg) .scheduled))

/-- TASTE_VERDICT, TASTE_WINDOW_END, TASTE_MISMATCH, LANE_KAT_DONE and TASTE_COVERAGE complete with these results. -/
def Obligations.TasterCommandsTakeEffect : Prop :=
  -- TASTE_VERDICT: where the lane's decode holds and no force is armed on the lane: a commit record that fails one of the lane's checks fails there; else it is decided with every bit tasted.
  (∀ (t tun verdict : Nat) (c : CommitRec) (r s : State),
      s = r.land t →
      s.commitOf tun = some c →
      verdict = 0 ∨ verdict ≥ 6 →
      c.lane.any (fun l => s.forced 3 l) = false →
      exec (.tasteVerdict t tun verdict) r = .next (match s.laneFails c c.slice.length with
        | some check => s.tasteFail tun check false
        | none => (s.takeCommit tun).decideCommit c c.bits)) ∧
  -- TASTE_VERDICT: a verdict FAIL of check 1 to 5 fails the Tun's task with the check's code.
  (∀ (t tun verdict : Nat) (c : CommitRec) (r s : State),
      s = r.land t →
      s.commitOf tun = some c →
      1 ≤ verdict →
      verdict ≤ 5 →
      c.lane.any (fun l => s.forced 3 l) = false →
      exec (.tasteVerdict t tun verdict) r = .next (s.tasteFail tun verdict false)) ∧
  -- TASTE_WINDOW_END: at the end of its window a commit record that fails a check made by then fails there; else it is decided with the bits tasted by then.
  (∀ (t tun decoded : Nat) (c : CommitRec) (r s : State),
      s = r.land t →
      s.commitOf tun = some c →
      c.windowEnd ≤ s.now →
      exec (.tasteWindowEnd t tun decoded) r = .next (match s.laneFails c (min decoded c.slice.length) with
        | some check => s.tasteFail tun check false
        | none => (s.takeCommit tun).decideCommit c (8 * min decoded c.slice.length))) ∧
  -- TASTE_MISMATCH: a check of 1 to 5 that fails before the verdict fails the Tun's task with that code.
  (∀ (t tun check : Nat) (r s : State),
      s = r.land t →
      1 ≤ check →
      check ≤ 5 →
      exec (.tasteMismatch t tun check) r = .next (s.tasteFail tun check false)) ∧
  -- LANE_KAT_DONE: 250 µs of known-answer slices return a lane to service, or retire it with DIGEST_MISMATCH.
  (∀ (t lane : Nat) (passed : Bool) (r s : State),
      s = r.land t →
      lane < 48 →
      (s.lane lane).state = 1 →
      (s.lane lane).testFrom + 250000 ≤ s.now →
      exec (.laneKatDone t lane passed) r = .next (if passed then s.setLane lane { s.lane lane with state := 0 }
        else (s.setLane lane { s.lane lane with state := 2 }).report (0x390 + lane) .digestMismatch 0 0)) ∧
  -- TASTE_COVERAGE: at the end of a second the coverage in permille is computed, and recorded when it leaves or returns to 1,000.
  (∀ (t : Nat) (r s : State),
      s = r.land t →
      s.asm.secondFrom + giga ≤ s.now →
      exec (.tasteCoverage t) r = .next (let v := coverageOf s.asm.tasted s.asm.untasted
        let u := State.put { s with asm := { s.asm with tasted := 0, untasted := 0, secondFrom := s.now, coverage := v } } Obj.asmCoveragePermille 0 v
        if (s.asm.coverage = 1000) = (v = 1000) then u else u.brewRec 0x390 0x060 v))

/-- SEGMENT_ASSEMBLE, ASM_KEG_RETRY, ASM_DRY_LIMIT and TWIN_HOLD_EXPIRY complete with these results. -/
def Obligations.AssemblerCommandsTakeEffect : Prop :=
  -- SEGMENT_ASSEMBLE: the oldest accepted commit without a digest gets its digest, which also goes to the partner; what may be emitted is built and handed over, and template errors are reported first.
  (∀ (t ecc : Nat) (a : AccSeg) (r s : State),
      s = r.land t →
      s.asm.accepted.find? (fun a => a.digest.isEmpty) = some a →
      exec (.segmentAssemble t ecc) r = .next (State.assemble (if ecc = 0 then s.digestSegment a ecc else (s.digestSegment a ecc).report 0x380 .eccUncorr (faultAddr a.frame a.y) 0))) ∧
  -- ASM_KEG_RETRY: 100 ns after the last dry answer the outbox is tried again.
  (∀ (t : Nat) (r s : State),
      s = r.land t →
      s.asm.dry.isSome = true →
      s.asm.dryAt + 100 ≤ s.now →
      exec (.asmKegRetry t) r = .next (State.drain s.asm.outbox.length s)) ∧
  -- ASM_DRY_LIMIT: ASM_DRY_LIMIT_NS after a packet's first request, it is dropped with the rest of its group.
  (∀ (t d : Nat) (r s : State),
      s = r.land t →
      s.asm.dry = some d →
      d + s.val Obj.asmDryLimitNs ≤ s.now →
      exec (.asmDryLimit t) r = .next (s.dropRun.build)) ∧
  -- TWIN_HOLD_EXPIRY: a segment whose hold has expired is released unverified, counted and emitted.
  (∀ (t frame seg y : Nat) (a : AccSeg) (h : Nat) (r s : State),
      s = r.land t →
      s.asm.accepted.find? (fun a => a.frame == frame && a.s == seg && a.y == y) = some a →
      a.holdUntil = some h →
      h ≤ s.deviceTime →
      exec (.twinHoldExpiry t frame seg y) r = .next (((s.releaseSegment frame seg y).count Obj.twnUnverified).assemble))

/-- HEARTBEAT_TX, HEARTBEAT, TWIN_LINK_DOWN, TWIN_OK_IN_CHANGE, PAIRING_LISTEN_END, DIGESTS and DIGEST_MISSING complete with these results. -/
def Obligations.TwinLinkCommandsTakeEffect : Prop :=
  -- HEARTBEAT_TX: in any state but OFF, 10 µs after the last one, a HEARTBEAT is sent.
  (∀ (t : Nat) (r s : State),
      s = r.land t →
      s.twn.state ≠ .off →
      s.twn.lastHeartbeat + 10000 ≤ s.now →
      exec (.heartbeatTx t) r = .next ((s.modTwin fun x => { x with lastHeartbeat := s.now }).twinSend 1 s.heartBody)) ∧
  -- HEARTBEAT: an accepted HEARTBEAT of 40 bytes is taken into the link state, and the pair conditions are checked.
  (∀ (t : Nat) (m : TwinMsg) (u r s : State),
      s = r.land t →
      s.twinAccept 1 m = some u →
      m.body.length = 40 →
      exec (.heartbeat t m) r = .next ((u.heartBeat m.heart s.twn.lastValid).pairCheck m.heart)) ∧
  -- TWIN_LINK_DOWN: 50 µs without a valid frame: TIMEOUT is reported and the link is down: what the pair had agreed is void, the loss is counted, and the partner's presence is concluded.
  (∀ (t : Nat) (r s : State),
      s = r.land t →
      s.twn.linkUp = true →
      s.twn.lastValid + 50000 ≤ s.now →
      exec (.twinLinkDown t) r = .next (let u := (s.report 0x3C0 .timeout 0 0).modTwin fun x => { x with linkUp := false, validRun := 0, heart := none, pairGoodFrom := none, pairFails := [], rejoin := none, partnerRejoin := none, synced := false, syncReqAt := none }
        (u.count Obj.twnLinkLosses).conclude)) ∧
  -- TWIN_OK_IN_CHANGE: the filtered level is taken and the partner's presence is concluded.
  (∀ (t : Nat) (high : Bool) (r s : State),
      s = r.land t →
      exec (.twinOkInChange t high) r = .next ((s.modTwin fun x => { x with okIn := high }).conclude)) ∧
  -- PAIRING_LISTEN_END: at the end of the listen in PAIRING, a partner in PAIRED or SOLO on a link that is up is joined.
  (∀ (t a : Nat) (h : Heart) (r s : State),
      s = r.land t →
      s.twn.state = .pairing →
      s.twn.listenUntil = some a →
      a ≤ s.now →
      s.twn.heart = some h →
      s.twn.linkUp = true →
      h.state = 3 ∨ h.state = 5 →
      exec (.pairingListenEnd t) r = .next (((s.modTwin fun x => { x with listenUntil := none }).modTwin fun x => { x with state := .joining }).syncRequest)) ∧
  -- PAIRING_LISTEN_END: with nothing heard the device stands alone.
  (∀ (t a : Nat) (r s : State),
      s = r.land t →
      s.twn.state = .pairing →
      s.twn.listenUntil = some a →
      a ≤ s.now →
      s.twn.heart = none →
      exec (.pairingListenEnd t) r = .next ((s.modTwin fun x => { x with listenUntil := none }).standAlone)) ∧
  -- DIGESTS: an accepted frame of 1 to 48 records replaces the partner's record of each segment and pairs it, record by record; what agreement released is then built and handed over.
  (∀ (t : Nat) (m : TwinMsg) (u r s : State),
      s = r.land t →
      s.twinAccept 2 m = some u →
      1 ≤ fieldBE m.body 0 2 →
      fieldBE m.body 0 2 ≤ 48 →
      m.body.length = 4 + 28 * fieldBE m.body 0 2 →
      u.exchanges = true →
      exec (.digests t m) r = .next (State.assemble ((List.range (fieldBE m.body 0 2)).foldl (fun s i =>
        let q := { DigestRec.ofBytes (slice m.body (4 + 28 * i) 28) with emitted := m.state == 3 || m.state == 5 }
        (s.modTwin fun x => { x with theirs := x.theirs.filter (fun y => !y.same q) ++ [q] }).pairRecord q) u))) ∧
  -- DIGEST_MISSING: once ⟨F+2:0⟩ is reached, the records of frame F leave both lists, and own ones among them are counted missing and break the run.
  (∀ (t frame : Nat) (r s : State),
      s = r.land t →
      s.reached { frame := add32 frame 2, line := 0 } = true →
      exec (.digestMissing t frame) r = .next (let lost := s.twn.own.filter fun q => q.frame == frame
        let u := s.modTwin fun x => { x with own := x.own.filter (fun q => q.frame != frame), theirs := x.theirs.filter fun q => q.frame != frame }
        if lost.isEmpty then u else (u.count Obj.twnMissing 0 lost.length).runBroken frame))

/-- PROPOSE, PROPOSE_REPEAT, ANSWER, SILENCE, the rejoin commands and TWN_SILENCE complete with these results. -/
def Obligations.TwinAgreementCommandsTakeEffect : Prop :=
  -- PROPOSE: an accepted proposal of 72 bytes is answered again where it was answered, or considered.
  (∀ (t : Nat) (m : TwinMsg) (u r s : State),
      s = r.land t →
      s.twinAccept 3 m = some u →
      m.body.length = 72 →
      exec (.propose t m) r = .next (u.proposed m.proposal)) ∧
  -- PROPOSE_REPEAT: every open proposal sent 100 µs ago whose frame is not closed is sent again.
  (∀ (t : Nat) (r s : State),
      s = r.land t →
      exec (.proposeRepeat t) r = .next ((s.twn.proposals.filter fun p => decide (p.sentAt + 100000 ≤ s.now) && !s.agreeClosed p.f).foldl (fun u p =>
        (u.modTwin fun x => { x with proposals := x.proposals.map fun (q : Proposal) => if q.pid = p.pid then { q with sentAt := u.now } else q }).twinSend 3 p.body) s)) ∧
  -- ANSWER: an accepted answer of 16 bytes is applied to the proposal it answers.
  (∀ (t : Nat) (m : TwinMsg) (u r s : State),
      s = r.land t →
      s.twinAccept 4 m = some u →
      m.body.length = 16 →
      exec (.answer t m) r = .next (u.answered m.answer)) ∧
  -- SILENCE: an accepted SILENCE of 12 bytes records that the partner is silenced.
  (∀ (t : Nat) (m : TwinMsg) (u r s : State),
      s = r.land t →
      s.twinAccept 5 m = some u →
      m.body.length = 12 →
      exec (.silence t m) r = .next (u.modTwin fun x => { x with heart := x.heart.map fun (h : Heart) => { h with state := 4 } })) ∧
  -- TWIN_REJOIN: once every condition to rejoin holds, REJOIN is sent with FR two frames ahead.
  (∀ (t : Nat) (r s : State),
      s = r.land t →
      s.mayRejoin = true →
      exec (.twinRejoin t) r = .next ((s.modTwin fun x => { x with rejoin := some (add32 s.ctime.frame 2) }).twinSend 6 (bytesBE 4 (add32 s.ctime.frame 2) ++ bytesBE 4 s.twn.matchRun))) ∧
  -- REJOIN: an accepted REJOIN of 8 bytes records the partner's FR.
  (∀ (t : Nat) (m : TwinMsg) (u r s : State),
      s = r.land t →
      s.twinAccept 6 m = some u →
      m.body.length = 8 →
      exec (.rejoin t m) r = .next (u.modTwin fun x => { x with partnerRejoin := some (fieldBE m.body 0 4) })) ∧
  -- REJOIN_LINE: at ⟨FR:0⟩ of its own REJOIN a silenced device resumes transmission.
  (∀ (t f : Nat) (r s : State),
      s = r.land t →
      s.twn.rejoin = some f →
      s.reached { frame := f, line := 0 } = true →
      s.twn.state = .silenced →
      s.twn.partnerRejoin = none →
      exec (.rejoinLine t) r = .next (s.resume f)) ∧
  -- REJOIN_LINE: at ⟨FR:0⟩ of the partner's REJOIN a device in SOLO enters PAIRED.
  (∀ (t f : Nat) (r s : State),
      s = r.land t →
      s.twn.partnerRejoin = some f →
      s.reached { frame := f, line := 0 } = true →
      s.twn.state = .solo →
      s.twn.rejoin = none →
      exec (.rejoinLine t) r = .next (s.modTwin fun x => { x with state := .paired, partnerRejoin := none })) ∧
  -- TWN_SILENCE_SET: accepted in PAIRED, the device is silenced with cause MANUAL.
  (∀ (t : Nat) (who : Path) (r s : State),
      s = (r.land t).accessed who →
      s.writeRefusal who Obj.twnSilence 0 (.num 1) = none →
      s.twn.state = .paired →
      exec (.twnSilenceSet t who) r = .next ((s.silence 6 0 s.ctime.frame 0 0).send (.answer who .ok []))) ∧
  -- TWN_SILENCE_CLEAR: accepted, the cause MANUAL is removed.
  (∀ (t : Nat) (who : Path) (r s : State),
      s = (r.land t).accessed who →
      s.writeRefusal who Obj.twnSilence 0 (.num 0) = none →
      exec (.twnSilenceClear t who) r = .next ((s.modTwin fun x => { x with manual := false }).send (.answer who .ok [])))

/-- SYNC_REQ, SYNC, SYNC_REQ_RETRY and SYNC_APPLY complete with these results. -/
def Obligations.TwinSyncCommandsTakeEffect : Prop :=
  -- SYNC_REQ: an accepted SYNC_REQ of a device in PAIRED or SOLO is answered with the SYNC fragments for FJ, four frames ahead.
  (∀ (t : Nat) (m : TwinMsg) (u r s : State),
      s = r.land t →
      s.twinAccept 7 m = some u →
      u.twn.state = .paired ∨ u.twn.state = .solo →
      exec (.syncReq t m) r = .next (let es := u.syncRecords (add32 u.ctime.frame 4)
        let sent := State.syncSend (u.syncState (add32 u.ctime.frame 4)) (es.length + 1) 0 es u
        { sent with draws := sent.draws + es.length + 1 })) ∧
  -- SYNC: the first fragment, accepted by a device that wants SYNC, starts the collection; the last one completes it.
  (∀ (t : Nat) (m : TwinMsg) (u r s : State),
      s = r.land t →
      s.twinAccept 8 m = some u →
      fieldBE m.body 4 2 = 0 →
      52 ≤ m.body.length →
      (m.body.length - 52) % 16 = 0 →
      u.wantsSync = true →
      u.twn.syncComplete = false →
      u.twn.syncNext = 0 →
      exec (.sync t m) r = .next (let v := u.modTwin fun x => { x with sync := some (syncStateOf m.body), syncNext := 1, syncEntries := syncEntriesOf m.body 52 }
        if fieldBE m.body 6 1 = 0 then v else v.syncWhole)) ∧
  -- SYNC_REQ_RETRY: 1 s after the last request without a SYNC to apply, SYNC_REQ is sent again.
  (∀ (t a : Nat) (r s : State),
      s = r.land t →
      s.wantsSync = true →
      s.twn.syncComplete = false →
      s.twn.syncReqAt = some a →
      a + giga ≤ s.now →
      exec (.syncReqRetry t) r = .next (s.syncRequest)) ∧
  -- SYNC_APPLY: at FJ the device whose rack is IDLE takes the raster and coding state of the SYNC, swaps its sets alone, and is silenced with cause JOIN.
  (∀ (t : Nat) (y : SyncState) (r s : State),
      s = r.land t →
      s.twn.sync = some y →
      s.twn.syncComplete = true →
      s.wantsSync = true →
      s.syncStart y ≤ s.deviceTime →
      s.sets.rack.state = .idle →
      exec (.syncApply t) r = .next (let u : State := { s with sets := { s.sets with bootRackDue := false } }
        let u : State := { u with tbs := { u.tbs with raster := s.syncRaster y, gap := none } }
        let u := ((u.swapSets y.fj false).syncCoding y s.twn.syncEntries s.rake.nudges).restartPacers
        let u := u.modTwin fun x => { x with synced := true, matchRun := 0, sync := none, syncEntries := [], syncComplete := false, syncNext := 0 }
        u.silence 4 0 y.fj 0 0))

/-- DECODE_PACKET_RX, REORDER_TIMEOUT, DECODE_ITEM_ASSIGN and COMPLETION_ITEM complete with these results. -/
def Obligations.DecodeStreamCommandsTakeEffect : Prop :=
  -- DECODE_PACKET_RX: outside SAFE the first packet of an enabled stream, of a payload type the stream takes, is counted, kept in order and released as far as the sequence runs.
  (∀ (t stream seq pt ts : Nat) (marker : Bool) (payload : Bytes) (r s : State),
      s = r.land t →
      (s.decStream stream).state ≠ 0 →
      bits (s.sets.bright.dec0 stream) 52 46 = 0 →
      s.cellar.safe = false →
      (s.decStream stream).top = none →
      (s.decStream stream).next = none →
      exec (.decodePacketRx t stream false seq pt ts marker payload) r = .next (let x := s.decStream stream
        let p : DecWait := { ext := 65536 + seq, at_ := s.deviceTime, marker := marker, ts := ts, payload := payload }
        let x : DecStream := { x with top := some (65536 + seq), accepted := [65536 + seq], next := some (65536 + seq), waiting := x.waiting ++ [p] }
        State.releaseRun stream x.waiting.length ((s.setDec stream x).count Obj.finPkts stream))) ∧
  -- REORDER_TIMEOUT: FIN_REORDER_US after the first waiting packet, the numbers before the least waiting one are counted lost, a fragment in progress is dropped, and the packets from there on are released.
  (∀ (t stream : Nat) (first : DecWait) (rest : List DecWait) (r s : State),
      s = r.land t →
      (s.decStream stream).waiting = first :: rest →
      first.at_ + 1000 * s.val Obj.finReorderUs ≤ s.deviceTime →
      exec (.reorderTimeout t stream) r = .next (let x := s.decStream stream
        let least := x.waiting.foldl (fun m p => min m p.ext) first.ext
        let u := (s.count Obj.finPktsLost stream (least - x.next.getD least)).dropFragment stream false true
        State.releaseRun stream x.waiting.length (u.setDec stream { u.decStream stream with next := some least }))) ∧
  -- DECODE_ITEM_ASSIGN: outside SAFE, with a READY Tun and fewer decode tickets than the decode Tuns, the first ready item goes to the Tun that has been READY longest.
  (∀ (t k d pic item u : Nat) (r s : State),
      s = r.land t →
      firstItem s.readyItems = some (k, d, pic, item) →
      s.readyTun = some u →
      s.decodeTickets < s.nd →
      s.cellar.safe = false →
      exec (.decodeItemAssign t) r = .next (let k := s.decodeTask d pic item
        let v : State := { s with dsp := { s.dsp with nextTicket := k.ticket + 1 } }
        ((v.startTask u k).readItem u d pic item).modItem d pic item fun i => { i with tun := some u, progress := 0 })) ∧
  -- COMPLETION_ITEM: the first whole picture, every item committed and its references there, leaves with its samples, motion and dirty map, here where nothing was lost; an empty map makes it the last good picture.
  (∀ (t stream : Nat) (a : DecAu) (r s : State),
      s = r.land t →
      (s.decStream stream).aus.find? (s.decStream stream).whole = some a →
      ((s.decStream stream).inputOf a).lost = [] →
      a.syntaxLost = [] →
      a.badUnits = 0 →
      a.missing = [] →
      exec (.completionItem t stream) r = .next (let x := s.decStream stream
        let input := x.inputOf a
        let motion := a.motionOf input
        let plane := a.plane input (x.source a) motion
        let map := a.map x input x.concealed
        let pic := { a.pic with cells := map, planes := { y := plane 0, cb := plane 1, cr := plane 2 }, motion := motion }
        let aus := x.aus.filter fun b => b.pic.number != a.pic.number
        let y := { x with aus := aus, pics := x.pics ++ [pic] }
        let awaits := (x.recovery.map (·.1)).toList ++ aus.filterMap (·.recovers)
        let y : DecStream := { y with pics := y.keep (bits (s.sets.bright.dec0 stream) 44 40 + 2), concealed := x.concealed.filter fun q => awaits.any fun g => decide (g ≤ q.1), lastOut := some pic, lastGood := if map.isEmpty then some pic else x.lastGood }
        let u := ((s.setDec stream y).count Obj.finPicsOut stream).count Obj.finCtusConcealed stream 0
        if map.isEmpty then u.put Obj.finLastGoodTs stream a.pic.ts else u))

/-- LNK_PORT_WRITE and the port's state changes, from AN_COMPLETE to PORT_RETRY, complete with these results. -/
def Obligations.PortCommandsTakeEffect : Prop :=
  -- LNK_PORT_WRITE: accepted with a port that breaks no rule, the word takes effect at once and the port follows it; the Cask keeps it.
  (∀ (t : Nat) (who : Path) (row word v : Nat) (r s : State),
      s = (r.land t).accessed who →
      s.writeRefusal who (lnkPortWord word) row (.num v) = none →
      State.portRange (s.put (lnkPortWord word) row v) row = true →
      State.portForbidden (s.put (lnkPortWord word) row v) row = false →
      exec (.lnkPortWrite t who row word v) r = .next ((let u := s.put (lnkPortWord word) row v
        (u.portWritten row word (s.val (lnkPortWord word) row) v (u.portAddrs row != s.portAddrs row)).keep (lnkPortWord word) row (.num v)).send (.answer who .ok []))) ∧
  -- AN_COMPLETE: the end of the exchange takes the port to TRAINING where the partner has its mode's ability, else DOWN with cause 4.
  (∀ (t port : Nat) (partner : Option Nat) (r s : State),
      s = r.land t →
      port < 96 →
      (s.port port).state = .an →
      exec (.anComplete t port partner) r = .next (if partner.any fun a => bit a (s.portMode port) then s.setPort port { s.port port with state := .training, since := s.now } else s.portDown port 4 port)) ∧
  -- TRAINING_DONE: the end of training sets the lanes' taps and takes the port to ALIGN, or DOWN with cause 5 and the lane that failed.
  (∀ (t port : Nat) (failed : Option Nat) (r s : State),
      s = r.land t →
      port < 96 →
      (s.port port).state = .training →
      exec (.trainingDone t port failed) r = .next (match failed with
        | none => (s.laneTrain port).setPort port { (s.laneTrain port).port port with state := .align, since := s.now }
        | some lane => s.portDown port 5 lane)) ∧
  -- ALIGN_LOCK: alignment takes the port to HOLD.
  (∀ (t port : Nat) (r s : State),
      s = r.land t →
      port < 96 →
      (s.port port).state = .align →
      exec (.alignLock t port) r = .next (s.setPort port { s.port port with state := .hold, since := s.now })) ∧
  -- ALIGN_TIMEOUT: 500 ms in ALIGN take the port DOWN, with cause 3 where only the deskew is missing, else 2, and the first lane that failed; where its lanes' SREFP clock is missing the port stays in ALIGN (R447).
  (∀ (t port : Nat) (why : AlignFailure) (r s : State),
      s = r.land t →
      port < 96 →
      (s.port port).state = .align →
      (s.port port).since + 500000000 ≤ s.now →
      exec (.alignTimeout t port why) r = .next (if why.noClock then s else s.portDown port (if why.deskewOnly then 3 else 2) why.lane)) ∧
  -- HOLD_EXPIRY: LNK_UP_HOLD_MS in HOLD without a fault take the port UP.
  (∀ (t port : Nat) (r s : State),
      s = r.land t →
      port < 96 →
      (s.port port).state = .hold →
      (s.port port).since + 1000000 * s.val Obj.lnkUpHoldMs ≤ s.now →
      exec (.holdExpiry t port) r = .next (s.portUpNow port)) ∧
  -- PORT_FAULT: a port-down cause in HOLD or UP takes the port DOWN with that cause.
  (∀ (t port cause lane : Nat) (r s : State),
      s = r.land t →
      port < 96 →
      (s.port port).state = .up ∨ (s.port port).state = .hold →
      exec (.portFault t port cause lane) r = .next (s.portDown port cause lane)) ∧
  -- PORT_RETRY: LNK_RETRY_MS in DOWN, with no force holding it, the port starts again and the retry is recorded.
  (∀ (t port : Nat) (r s : State),
      s = r.land t →
      port < 96 →
      (s.port port).state = .down →
      (s.port port).heldDown = false →
      (s.port port).since + 1000000 * s.val Obj.lnkRetryMs ≤ s.now →
      exec (.portRetry t port) r = .next ((s.brewRec (0x100 + port) 0x081 ((s.port port).cause * 256 + port)).portStart port))

/-- FEC_WINDOW and the PRBS commands complete with these results. -/
def Obligations.LaneCommandsTakeEffect : Prop :=
  -- FEC_WINDOW: at the end of a window of 1 s of a port that is UP with FEC, the codewords are counted; a corrected rate at the limit reports ECC_CORR, uncorrectable codewords report ECC_UNCORR.
  (∀ (t port corrected received uncorrectable : Nat) (r s : State),
      s = r.land t →
      port < 96 →
      (s.port port).state = .up →
      bits (s.portWord port 0) 5 4 ≠ 0 →
      (s.port port).fecAt + giga ≤ s.now →
      exec (.fecWindow t port corrected received uncorrectable) r = .next (let u := s.setPort port { s.port port with fecAt := s.now }
        let u := (u.count Obj.lnkPortFecCorr port corrected).count Obj.lnkPortFecUncorr port uncorrectable
        let u := if 0 < received ∧ received ≤ corrected * 10 ^ u.val Obj.lnkFecDegrade then u.report (0x100 + port) .eccCorr 0 0 else u
        if uncorrectable = 0 then u else u.report (0x100 + port) .eccUncorr 0 (min uncorrectable 65535))) ∧
  -- PRBS_STOP: accepted on a lane that belongs to no enabled port, a running pattern stops and its errors are counted.
  (∀ (t : Nat) (who : Path) (lane errors : Nat) (r s : State),
      s = (r.land t).accessed who →
      s.writeRefusal who Obj.lnkLanePrbs lane (.num 0) = none →
      s.portOfLane lane = none →
      Table.get 0 s.links.prbs lane ≠ 0 →
      exec (.prbsStop t who lane errors) r = .next ((State.count { s with links := { s.links with prbs := Table.set 0 s.links.prbs lane 0, prbsFrom := Table.set 0 s.links.prbsFrom lane s.now } } Obj.lnkLanePrbsErr lane errors).send (.answer who .ok []))) ∧
  -- PRBS_START: accepted outside SAFE on a lane that belongs to no enabled port, PRBS31 starts and the lane's error count is cleared.
  (∀ (t : Nat) (who : Path) (lane : Nat) (r s : State),
      s = (r.land t).accessed who →
      s.writeRefusal who Obj.lnkLanePrbs lane (.num 1) = none →
      s.portOfLane lane = none →
      s.cellar.safe = false →
      exec (.prbsStart t who lane) r = .next ((State.put { s with links := { s.links with prbs := Table.set 0 s.links.prbs lane 1, prbsFrom := Table.set 0 s.links.prbsFrom lane s.now } } Obj.lnkLanePrbsErr lane 0).send (.answer who .ok []))) ∧
  -- PRBS_LOOPBACK: accepted outside SAFE on a lane that belongs to no enabled port, PRBS31 starts through the near-end loopback and the lane's error count is cleared.
  (∀ (t : Nat) (who : Path) (lane : Nat) (r s : State),
      s = (r.land t).accessed who →
      s.writeRefusal who Obj.lnkLanePrbs lane (.num 2) = none →
      s.portOfLane lane = none →
      s.cellar.safe = false →
      exec (.prbsLoopback t who lane) r = .next ((State.put { s with links := { s.links with prbs := Table.set 0 s.links.prbs lane 2, prbsFrom := Table.set 0 s.links.prbsFrom lane s.now } } Obj.lnkLanePrbsErr lane 0).send (.answer who .ok [])))

/-- RX_FRAME, PUNT_FRAME, NEXT_HOP_RESOLVE, MANAGEMENT_LINK_CHANGE, DAD_TIMER_EXPIRY and UNSOLICITED_REPORT_INTERVAL complete with these results. -/
def Obligations.IngressCommandsTakeEffect : Prop :=
  -- RX_FRAME: on an UP port a frame with a bad FCS is counted among the received frames and the FCS errors.
  (∀ (t port : Nat) (fcsGood : Bool) (frame : Bytes) (r s : State),
      s = r.land t →
      port < 96 →
      s.portUp port = true →
      (s.count Obj.lnkPortRxFrames port).ingress port fcsGood (ethFrame frame) = .fcs →
      exec (.rxFrame t port fcsGood frame) r = .next ((s.count Obj.lnkPortRxFrames port).count Obj.lnkPortRxFcs port)) ∧
  -- RX_FRAME: on an UP port a frame that no rule takes is counted among the received frames and the discards.
  (∀ (t port : Nat) (fcsGood : Bool) (frame : Bytes) (r s : State),
      s = r.land t →
      port < 96 →
      s.portUp port = true →
      (s.count Obj.lnkPortRxFrames port).ingress port fcsGood (ethFrame frame) = .discard →
      exec (.rxFrame t port fcsGood frame) r = .next ((s.count Obj.lnkPortRxFrames port).count Obj.lnkPortRxDiscards port)) ∧
  -- RX_FRAME: outside SAFE a frame of flow k is counted and goes to that flow.
  (∀ (t port : Nat) (fcsGood : Bool) (frame : Bytes) (k : Nat) (r s : State),
      s = r.land t →
      port < 96 →
      s.portUp port = true →
      (s.count Obj.lnkPortRxFrames port).ingress port fcsGood (ethFrame frame) = .flow k →
      s.cellar.safe = false →
      exec (.rxFrame t port fcsGood frame) r = .next ((s.count Obj.lnkPortRxFrames port).flowFrame port k (ethFrame frame))) ∧
  -- RX_FRAME: outside SAFE a frame for the Maltster that the punt policer allows is counted and punted.
  (∀ (t port : Nat) (fcsGood : Bool) (frame : Bytes) (r s : State),
      s = r.land t →
      port < 96 →
      s.portUp port = true →
      (s.count Obj.lnkPortRxFrames port).ingress port fcsGood (ethFrame frame) = .maltster →
      s.cellar.safe = false →
      ((s.count Obj.lnkPortRxFrames port).puntAllowed port).2 = true →
      exec (.rxFrame t port fcsGood frame) r = .next (((s.count Obj.lnkPortRxFrames port).puntAllowed port).1.punt port frame)) ∧
  -- PUNT_FRAME: the oldest punted frame leaves its Wort line; an ARP request for this port is answered.
  (∀ (t port : Nat) (b : Bytes) (rest : List (Nat × Bytes)) (r s : State),
      s = r.land t →
      s.links.punted = (port, b) :: rest →
      (ethFrame b).ty = 0x0806 →
      exec (.puntFrame t) r = .next (let u := { s with links := { s.links with punted := rest } }
        let u := u.setWort (76 + port % 4) ((u.wortLine (76 + port % 4)).dropFirst (wortDepth (76 + port % 4)))
        u.answerArp port (b.drop (ethFrame b).off))) ∧
  -- NEXT_HOP_RESOLVE: every LNK_RESOLVE_S seconds, or when one is due, each next hop that the bright set and a scheduled green set need is resolved once.
  (∀ (t : Nat) (replies : List (Nat × Nat × Nat)) (r s : State),
      s = r.land t →
      s.links.resolveDue = true ∨ s.links.resolvedAt + giga * s.val Obj.lnkResolveS ≤ s.now →
      exec (.nextHopResolve t replies) r = .next (let green := if s.sets.rack.state = .scheduled then s.hopsNeeded s.sets.green else []
        let u := (s.hopsNeeded s.sets.bright ++ green).eraseDups.foldl (fun u x => u.resolveHop replies x.1 x.2) s
        { u with links := { u.links with resolvedAt := u.now, resolveDue := false } })) ∧
  -- MANAGEMENT_LINK_CHANGE: LNK_MG_LINK takes the new speed, the change is noted for the next boundary, and a link that comes up announces the management port's addresses.
  (∀ (t speed : Nat) (r s : State),
      s = r.land t →
      exec (.managementLinkChange t speed) r = .next (let u := s.put Obj.lnkMgLink 0 (speed % 4 : Nat)
        let u := { u with links := { u.links with mgEvent := true } }
        if s.val Obj.lnkMgLink = 0 ∧ speed % 4 ≠ 0 then u.announce 96 else u)) ∧
  -- DAD_TIMER_EXPIRY: one second after the probes, the addresses that nobody claimed come into use.
  (∀ (t port f : Nat) (r s : State),
      s = r.land t →
      (s.port port).dadFrom = some f →
      f + giga ≤ s.now →
      exec (.dadTimerExpiry t port) r = .next (s.setPort port { s.port port with dadFrom := none, inUse := ofBool (!bit (s.val Obj.lnkPortDad port) 0) + 2 * ofBool (decide (s.portIpv6 port ≠ 0) && !bit (s.val Obj.lnkPortDad port) 1) })) ∧
  -- UNSOLICITED_REPORT_INTERVAL: every membership report that is due is sent and leaves the list.
  (∀ (t : Nat) (r s : State),
      s = r.land t →
      exec (.unsolicitedReportInterval t) r = .next ((s.links.reports.filter fun q => decide (q.due ≤ s.now)).foldl (fun u q => u.groupFrame q.member q.leave)
        { s with links := { s.links with reports := s.links.reports.filter fun q => decide (s.now < q.due) } }))

/-- TAP_OFFER, WHEEL_SLOT, WHEEL_SCAN, WINDOW_AGE and TAP_FLUSH complete with these results. -/
def Obligations.TapQueueCommandsTakeEffect : Prop :=
  -- TAP_OFFER: the tap's oldest offered packet is taken, as full or not as the queue stands, unless a full tap in credit mode makes it wait.
  (∀ (t tap : Nat) (x : Pkt) (r s : State),
      s = r.land t →
      s.tap.offers.find? (fun q => q.1 == tap) = some (tap, x) →
      (s.tapAt tap).videoCount < (s.setFor x.frame).tapQmax tap ∨ bit ((s.setFor x.frame).tap tap 0) 4 = true ∨ s.val Obj.tapFlush tap ≠ 0 →
      exec (.tapOffer t tap) r = .next (State.tapAccept { s with tap := { s.tap with offers := dropOffer tap s.tap.offers } } tap x (decide ((s.setFor x.frame).tapQmax tap ≤ (s.tapAt tap).videoCount)))) ∧
  -- TAP_OFFER: a full tap in credit mode that is not flushing leaves the packet waiting.
  (∀ (t tap : Nat) (x : Pkt) (r s : State),
      s = r.land t →
      s.tap.offers.find? (fun q => q.1 == tap) = some (tap, x) →
      (s.setFor x.frame).tapQmax tap ≤ (s.tapAt tap).videoCount →
      bit ((s.setFor x.frame).tap tap 0) 4 = false →
      s.val Obj.tapFlush tap = 0 →
      exec (.tapOffer t tap) r = .next (s)) ∧
  -- WHEEL_SLOT: the placed entries whose slot is over leave the wheel and become eligible in order of their slot, tap and path.
  (∀ (t : Nat) (r s : State),
      s = r.land t →
      exec (.wheelSlot t) r = .next (((s.tap.wheel.filter fun x => x.placed && decide (ceilDiv x.due 8 * 8 ≤ s.deviceTime)).foldl (fun acc x => insertDue x acc) []).foldl
        (fun u x => u.becomeEligible x.tap x.path x.cls)
        { s with tap := { s.tap with wheel := s.tap.wheel.filter fun x => !(x.placed && decide (ceilDiv x.due 8 * 8 ≤ s.deviceTime)) } })) ∧
  -- WHEEL_SCAN: 65,536 ns after the last scan, every entry due within 131,072 ns is placed.
  (∀ (t : Nat) (r s : State),
      s = r.land t →
      s.tap.scannedAt + 65536 ≤ s.now →
      exec (.wheelScan t) r = .next ({ s with tap := { s.tap with scannedAt := s.now, wheel := s.tap.wheel.map fun x => { x with placed := x.placed || decide (x.due < s.deviceTime + 131072) } } })) ∧
  -- WINDOW_AGE: outside SAFE the oldest packet of a tap's repair window that left longer ago than TAP_WIN_AGE_US is released, and the next after it.
  (∀ (t tap : Nat) (x : TapPkt) (rest : List TapPkt) (r s : State),
      s = r.land t →
      (s.tapAt tap).window = x :: rest →
      s.cellar.safe = false →
      x.departed + 1000 * s.val Obj.tapWinAgeUs < s.now →
      exec (.windowAge t tap) r = .next (windowAge tap rest.length (s.windowRelease tap))) ∧
  -- WINDOW_AGE: a window whose oldest packet is younger stays.
  (∀ (t tap : Nat) (x : TapPkt) (rest : List TapPkt) (r s : State),
      s = r.land t →
      (s.tapAt tap).window = x :: rest →
      s.now ≤ x.departed + 1000 * s.val Obj.tapWinAgeUs →
      exec (.windowAge t tap) r = .next (s)) ∧
  -- TAP_FLUSH: accepted with 1, the tap flushes: its four queues are emptied, its wheel entries leave and its paths wait for nothing.
  (∀ (t : Nat) (who : Path) (row : Nat) (r s : State),
      s = (r.land t).accessed who →
      s.writeRefusal who Obj.tapFlush row (.num 1) = none →
      exec (.tapFlush t who row 1) r = .next ((let u := (List.range 4).foldl (fun (u : State) cls => u.flushQueue row cls) (s.put Obj.tapFlush row (1 : Nat))
        let u : State := { u with tap := { u.tap with wheel := u.tap.wheel.filter fun x => x.tap != row } }
        (List.range 3).foldl (fun (u : State) path => u.pathIdle row path) u).send (.answer who .ok []))) ∧
  -- TAP_FLUSH: accepted with 0, the flush ends.
  (∀ (t : Nat) (who : Path) (row : Nat) (r s : State),
      s = (r.land t).accessed who →
      s.writeRefusal who Obj.tapFlush row (.num 0) = none →
      exec (.tapFlush t who row 0) r = .next ((s.put Obj.tapFlush row 0).send (.answer who .ok [])))

/-- PACKET_DEPART, MONITOR_DISCARD, CLASS_SHAPER_REFILL, RTCP_NACK and SENDER_REPORT complete with these results. -/
def Obligations.DepartureCommandsTakeEffect : Prop :=
  -- PACKET_DEPART: outside SAFE, on a free wire, the packet decided on before or now, still at its queue's head with a good descriptor, starts.
  (∀ (t port ref cls : Nat) (h : TapPkt) (v r s : State),
      s = r.land t →
      s.cellar.safe = false →
      (v = if (s.sched port).chosen.isNone ∧ (s.sched port).busyUntil ≤ s.now + ceilDiv 512 (modeGbps (s.portMode port)) then s.portDecide port else s) →
      (v.sched port).busyUntil ≤ v.now →
      (v.sched port).chosen = some (ref, cls) →
      (v.setSched port { v.sched port with chosen := none }).headOn port ref cls = some h →
      (v.setSched port { v.sched port with chosen := none }).descriptorBad (ref / 4) (ref % 4) cls = false →
      exec (.packetDepart t port) r = .next ((v.setSched port { v.sched port with chosen := none }).depart port ref cls h)) ∧
  -- PACKET_DEPART: as the packet on the wire begins its last 64 bytes, the next packet of the video, repair or control class is chosen, and starts once the wire is free.
  (∀ (t port ref cls : Nat) (h : TapPkt) (r s : State),
      s = r.land t →
      s.cellar.safe = false →
      (s.sched port).chosen = none →
      (s.sched port).busyUntil ≤ s.now + ceilDiv 512 (modeGbps (s.portMode port)) →
      (s.portChoose port).2 = some (ref, cls, h) →
      cls ≠ 3 →
      ((s.portChoose port).1.choose port ref cls h).now < (((s.portChoose port).1.choose port ref cls h).sched port).busyUntil →
      exec (.packetDepart t port) r = .next ((s.portChoose port).1.choose port ref cls h)) ∧
  -- PACKET_DEPART: on a port without a shaper per class, a monitor packet for which the tokens are short is discarded and its tap passes it.
  (∀ (t port ref : Nat) (h : TapPkt) (r s : State),
      s = r.land t →
      s.cellar.safe = false →
      (s.sched port).chosen = none →
      (s.sched port).busyUntil ≤ s.now + ceilDiv 512 (modeGbps (s.portMode port)) →
      (s.portChoose port).2 = some (ref, 3, h) →
      (s.portChoose port).1.portHier port = false →
      ((s.portChoose port).1.monitorShort port h).2 = true →
      ((((s.portChoose port).1.monitorShort port h).1.discardHead port ref 3 h).sched port).chosen = none →
      exec (.packetDepart t port) r = .next (((s.portChoose port).1.monitorShort port h).1.discardHead port ref 3 h)) ∧
  -- PACKET_DEPART: a port with nothing to send goes idle.
  (∀ (t port : Nat) (r s : State),
      s = r.land t →
      s.cellar.safe = false →
      (s.sched port).chosen = none →
      (s.sched port).busyUntil ≤ s.now + ceilDiv 512 (modeGbps (s.portMode port)) →
      (s.portChoose port).2 = none →
      (((s.portChoose port).1.setSched port { (s.portChoose port).1.sched port with idle := true }).sched port).chosen = none →
      exec (.packetDepart t port) r = .next ((s.portChoose port).1.setSched port { (s.portChoose port).1.sched port with idle := true })) ∧
  -- MONITOR_DISCARD: on a port with a shaper per class, every monitor packet at the head of a waiting path that was offered more than 1 ms ago is discarded.
  (∀ (t port : Nat) (r s : State),
      s = r.land t →
      s.portHier port = true →
      exec (.monitorDiscard t port) r = .next ((Table.get [] (s.sched port).active 3 ++ Table.get [] (s.sched port).waiting 3).foldl (fun u ref =>
        match u.pathHead (ref / 4) 2 3 with
        | none => u
        | some h => if h.offered + 1000000 < u.now then u.discardHead port ref 3 h else u) s)) ∧
  -- CLASS_SHAPER_REFILL: an idle port with a shaper per class is refilled, and wakes where a class then has the tokens for its packet.
  (∀ (t port : Nat) (r s : State),
      s = r.land t →
      s.portHier port = true →
      (s.sched port).idle = true →
      exec (.classShaperRefill t port) r = .next (match ((s.refill port).hierChoose port classOrder).2 with
        | none => s.refill port
        | some _ => (s.refill port).setSched port { (s.refill port).sched port with idle := false })) ∧
  -- RTCP_NACK: outside SAFE every packet of the compound that is a generic NACK is served unless the device is silenced; any other is counted.
  (∀ (t : Nat) (data : Bytes) (r s : State),
      s = r.land t →
      s.cellar.safe = false →
      exec (.rtcpNack t data) r = .next ((rtcpPackets data.length data).foldl (fun u pkt =>
        if fieldBE pkt 1 1 = 205 ∧ bits (fieldBE pkt 0 1) 4 0 = 1 ∧ 12 ≤ pkt.length then (if u.silenced then u else u.nack pkt) else u.count Obj.tapRtcpOther) s)) ∧
  -- SENDER_REPORT: outside the gap, at a frame divisible by TAP_SR_FRAMES, an enabled tap with sender reports sends one for its stream.
  (∀ (t tap k ssrc es : Nat) (r s : State),
      s = r.land t →
      s.inGap = false →
      s.sets.bright.tapEn tap = true →
      bit (s.sets.bright.tap tap 0) 6 = true →
      s.ctime.frame % s.sets.bright.nat Obj.tapSrFrames = 0 →
      (s.tapAt tap).srFrame ≠ some s.ctime.frame →
      s.tapSource tap s.ctime.frame = some (k, ssrc, es) →
      exec (.senderReport t tap) r = .next (s.sendReport tap s.ctime.frame k ssrc es))

/-- QDR_SCRUB, DDR_SCRUB, CASK_SCRUB, QDR_MARGIN_LOW, QDR_IMMEDIATE_RETRAIN and QDR_RETRAIN_DONE complete with these results. -/
def Obligations.ScrubAndQdrCommandsTakeEffect : Prop :=
  -- QDR_SCRUB: on a channel in service the next word is checked, its result handled as an error of a scrub, and the scrub moves on.
  (∀ (t channel result : Nat) (r s : State),
      s = r.land t →
      channel < 12 →
      (s.qdr channel).state = 1 →
      exec (.qdrScrub t channel result) r = .next ((s.qdrError channel (s.qdr channel).scrub result 1).modQdr channel fun x => { x with scrub := ((s.qdr channel).scrub + 1) % 4194304 })) ∧
  -- DDR_SCRUB: on a channel in service the next 64-byte block is checked, its result handled as an error there, and the scrub moves on.
  (∀ (t channel result lane part : Nat) (r s : State),
      s = r.land t →
      channel < 8 →
      (s.ddr channel).state = .service →
      exec (.ddrScrub t channel result lane part) r = .next ((s.ddrError channel ((s.ddr channel).scrub * 64) result lane part).modDdr channel fun x =>
        { x with scrub := ((s.ddr channel).scrub + 1) % max 1 (ddrCapacity (s.val Obj.memDdConfig) / 64) })) ∧
  -- CASK_SCRUB: a corrected word is counted and its region reads CORRECTED.
  (∀ (t offset : Nat) (r s : State),
      s = r.land t →
      exec (.caskScrub t offset 1) r = .next ((({ s with cask := { s.cask with scrub := (offset + 8) % 16777216 } } : State).count Obj.cskEccCorr).caskRegionState (caskRegion offset) 1)) ∧
  -- CASK_SCRUB: an uncorrectable word is counted, CASK_ERR is reported for its place, and what it held is lost.
  (∀ (t offset result : Nat) (r s : State),
      s = r.land t →
      result = 2 ∨ result = 3 →
      exec (.caskScrub t offset result) r = .next (((({ s with cask := { s.cask with scrub := (offset + 8) % 16777216 } } : State).count Obj.cskEccUncorr).caskErr offset).caskLost offset (result == 3))) ∧
  -- QDR_MARGIN_LOW: a channel in service is marked pending and a retraining pause is armed.
  (∀ (t channel : Nat) (r s : State),
      s = r.land t →
      channel < 12 →
      (s.qdr channel).state = 1 →
      exec (.qdrMarginLow t channel) r = .next ((s.modQdr channel fun x => { x with pending := true }).armPause)) ∧
  -- QDR_IMMEDIATE_RETRAIN: 16 uncorrectable words within 1 ms take a channel in service into retraining at once.
  (∀ (t channel : Nat) (r s : State),
      s = r.land t →
      channel < 12 →
      (s.qdr channel).state = 1 →
      16 ≤ ((s.qdr channel).uncorr.filter fun a => decide (s.now < a + 1000000)).length →
      exec (.qdrImmediateRetrain t channel) r = .next (s.modQdr channel fun x => { x with state := 2, since := s.now, uncorr := [] })) ∧
  -- QDR_RETRAIN_DONE: a channel trained again returns to service, its retraining is counted, and a pause of its own is over.
  (∀ (t channel : Nat) (r s : State),
      s = r.land t →
      channel < 12 →
      (s.qdr channel).state = 2 →
      exec (.qdrRetrainDone t channel true) r = .next (let u := (s.modQdr channel fun x => { x with state := 1, pending := false }).count Obj.memQdRetrains channel
        if u.mem.pause.any (fun p => p.1 = channel) then u.pauseOver else u)) ∧
  -- QDR_RETRAIN_DONE: a channel that does not train is retired with TRAIN_FAIL.
  (∀ (t channel : Nat) (r s : State),
      s = r.land t →
      channel < 12 →
      (s.qdr channel).state = 2 →
      exec (.qdrRetrainDone t channel false) r = .next (let u := (s.modQdr channel fun x => { x with state := 3, pending := false }).report (0x500 + channel) .trainFail 0 0
        if u.mem.pause.any (fun p => p.1 = channel) then u.pauseOver else u))

/-- RETRAIN_DUE, RETRAIN_PAUSE, RETRAIN_DONE, MEM_RETRAIN, SELF_REFRESH_ENTRY and SELF_REFRESH_EXIT complete with these results. -/
def Obligations.RetrainingCommandsTakeEffect : Prop :=
  -- RETRAIN_DUE: a live channel whose period of MEM_DD_RETRAIN_S has passed falls due, and a pause is armed.
  (∀ (t channel : Nat) (r s : State),
      s = r.land t →
      channel < 8 →
      s.val Obj.memDdRetrainS ≠ 0 →
      (s.ddr channel).state ≠ .retired →
      (s.ddr channel).state ≠ .training →
      (s.ddr channel).due = false →
      retrainPeriods (giga * s.val Obj.memDdRetrainS) channel (s.ddr channel).lastRetrain < retrainPeriods (giga * s.val Obj.memDdRetrainS) channel s.now →
      exec (.retrainDue t channel) r = .next ((s.modDdr channel fun x => { x with due := true }).armPause)) ∧
  -- RETRAIN_PAUSE: at its calendar turn at the armed instant, the pause of that frame begins: the channel chosen is held for its retraining.
  (∀ (t : Nat) (c : CTime) (r s : State),
      s = r.land t →
      s.mem.armed = some c →
      s.calTurn (pauseEntry c) = true →
      exec (.retrainPause t) r = .next (let u := s.calTicked
        let u := { u with mem := { u.mem with armed := none, pauseFrame := some (if u.pauseInstant c.frame = c then c.frame else sub32 c.frame 1) } }
        match u.pauseChoice with
        | none => u
        | some k =>
        let v := { u with mem := { u.mem with pause := some (k, u.now) } }
        if k < 12 then v.modQdr k fun x => { x with state := 2, since := v.now } else v.modDdr (k - 16) fun x => { x with state := .paused })) ∧
  -- RETRAIN_DONE: a paused channel that trained returns to service with its retraining counted, timed and cached, and the pause is over.
  (∀ (t c since : Nat) (r s : State),
      s = r.land t →
      s.mem.pause = some (16 + c, since) →
      (s.ddr c).retiring = false →
      exec (.retrainDone t true) r = .next (((((s.modDdr c fun x => { x with state := .service, pending := false, due := false, lastRetrain := s.now }).count
        Obj.memDdRetrains c).putValue Obj.memDdLastRetrain c (.bytes (time80 s.deviceTime))).cacheTraining c).pauseOver)) ∧
  -- RETRAIN_DONE: one that did not train is retired, and the pause is over.
  (∀ (t c since : Nat) (r s : State),
      s = r.land t →
      s.mem.pause = some (16 + c, since) →
      exec (.retrainDone t false) r = .next ((s.retireDdr c 1).pauseOver)) ∧
  -- MEM_RETRAIN: accepted for a QDR channel 0 to 11, the channel is marked pending and a pause is armed.
  (∀ (t : Nat) (who : Path) (v : Nat) (r s : State),
      s = (r.land t).accessed who →
      s.writeRefusal who Obj.memRetrain 0 (.num v) = none →
      v < 12 →
      exec (.memRetrain t who v) r = .next (((s.modQdr v fun x => { x with pending := true }).armPause).send (.answer who .ok []))) ∧
  -- MEM_RETRAIN: accepted for a DDR channel 16 to 23, that channel is marked pending and a pause is armed.
  (∀ (t : Nat) (who : Path) (v : Nat) (r s : State),
      s = (r.land t).accessed who →
      s.writeRefusal who Obj.memRetrain 0 (.num v) = none →
      16 ≤ v →
      v < 24 →
      exec (.memRetrain t who v) r = .next (((s.modDdr (v - 16) fun x => { x with pending := true }).armPause).send (.answer who .ok []))) ∧
  -- SELF_REFRESH_ENTRY: a channel in service that may idle and has had no request for MEM_DD_SR_IDLE_US enters self-refresh with every row closed.
  (∀ (t channel : Nat) (r s : State),
      s = r.land t →
      channel < 8 →
      (s.ddr channel).state = .service →
      s.ddrMayIdle = true →
      (s.ddr channel).lastRequest + 1000 * s.val Obj.memDdSrIdleUs ≤ s.now →
      exec (.selfRefreshEntry t channel) r = .next (s.modDdr channel fun x => { x with state := .selfRefresh, entryTemp := s.pwr.tj, openRows := [], accessed := [] })) ∧
  -- SELF_REFRESH_EXIT: a channel in self-refresh returns to service; a change of more than 10 °C since the entry retrains it.
  (∀ (t channel : Nat) (r s : State),
      s = r.land t →
      channel < 8 →
      (s.ddr channel).state = .selfRefresh →
      exec (.selfRefreshExit t channel) r = .next (let u := s.modDdr channel fun x => { x with state := .service, lastRequest := s.now }
        if 100 < (u.pwr.tj - (s.ddr channel).entryTemp).natAbs then
        ((u.modDdr channel fun x => { x with lastRetrain := u.now }).count Obj.memDdRetrains channel).putValue Obj.memDdLastRetrain channel (.bytes (time80 u.deviceTime))
        else u))

/-- DDR_REFRESH, DRAM_TEMP_READ, PAGE_CLOSE, ARBITRATION, MEM_ARB_PRIO, MEM_GR_SELFTEST and the Grist test commands complete with these results. -/
def Obligations.RefreshArbitrationAndTestCommandsTakeEffect : Prop :=
  -- DDR_REFRESH: a refresh at its interval closes the bank, and pays back one that was postponed where more than none is owed.
  (∀ (t channel bank : Nat) (r s : State),
      s = r.land t →
      channel < 8 →
      (s.ddr channel).state = .service ∨ (s.ddr channel).state = .paused →
      exec (.ddrRefresh t channel bank 0) r = .next (s.modDdr channel fun x => { x with owed := Table.set 4 x.owed bank (if 4 < Table.get 4 (s.ddr channel).owed bank then Table.get 4 (s.ddr channel).owed bank - 1 else Table.get 4 (s.ddr channel).owed bank), openRows := Table.erase x.openRows bank, accessed := Table.erase x.accessed bank })) ∧
  -- DDR_REFRESH: a refresh ahead of its interval closes the bank, while fewer than four are ahead.
  (∀ (t channel bank : Nat) (r s : State),
      s = r.land t →
      channel < 8 →
      (s.ddr channel).state = .service ∨ (s.ddr channel).state = .paused →
      0 < Table.get 4 (s.ddr channel).owed bank →
      exec (.ddrRefresh t channel bank 1) r = .next (s.modDdr channel fun x => { x with owed := Table.set 4 x.owed bank (Table.get 4 (s.ddr channel).owed bank - 1), openRows := Table.erase x.openRows bank, accessed := Table.erase x.accessed bank })) ∧
  -- DDR_REFRESH: a refresh is postponed while fewer than four are owed.
  (∀ (t channel bank : Nat) (r s : State),
      s = r.land t →
      channel < 8 →
      (s.ddr channel).state = .service ∨ (s.ddr channel).state = .paused →
      Table.get 4 (s.ddr channel).owed bank < 8 →
      exec (.ddrRefresh t channel bank 2) r = .next (s.modDdr channel fun x => { x with owed := Table.set 4 x.owed bank (Table.get 4 (s.ddr channel).owed bank + 1) })) ∧
  -- DRAM_TEMP_READ: the channel's refresh interval is halved while its DRAM reads hot.
  (∀ (t channel : Nat) (hot : Bool) (r s : State),
      s = r.land t →
      channel < 8 →
      exec (.dramTempRead t channel hot) r = .next (s.modDdr channel fun x => { x with halved := hot })) ∧
  -- PAGE_CLOSE: a row that is open and was not accessed for MEM_DD_PAGE_IDLE_NS is closed.
  (∀ (t channel bank : Nat) (r s : State),
      s = r.land t →
      channel < 8 →
      ((s.ddr channel).openRows.any fun p => p.1 == bank) = true →
      Table.get 0 (s.ddr channel).accessed bank + s.val Obj.memDdPageIdleNs ≤ s.now →
      exec (.pageClose t channel bank) r = .next (s.modDdr channel fun x => { x with openRows := Table.erase x.openRows bank, accessed := Table.erase x.accessed bank })) ∧
  -- ARBITRATION: among the rows that request on a QDR or DDR channel the winner holds it; losers age, and the winner's wait is recorded in beats; on a DDR channel a Grist error of the access is reported, the winner's request enters its queue and each subchannel served completes an access.
  (∀ (t channel : Nat) (requests : List Nat) (panic emergency : Bool) (beat : ChannelBeat) (r s : State),
      s = r.land t →
      channel < 12 ∨ (16 ≤ channel ∧ channel < 24) →
      exec (.arbitration t channel requests panic emergency beat) r = .next (let a := s.arb channel
        let a := { a with beats := a.beats + s.grantBeats a beat.beats }
        let rows := (arbRows channel).filter fun q => requests.contains q
        let grants := if emergency then a.grants else a.grants + 1
        let panic := panic && decide (16 ≤ channel) && s.behind
        let won := if emergency then none else s.arbWinner a panic (decide (grants % s.val Obj.memArbFairN = 0)) rows
        let x := (arbRows channel).foldl (fun (acc : Table Nat × Table Nat) (q : Nat) =>
        if won = some q then (Table.set 0 acc.1 q 0, Table.erase acc.2 q)
        else if rows.contains q then
        (Table.set 0 acc.1 q (Table.get 0 acc.1 q + 1), if acc.2.any fun p => p.1 == q then acc.2 else Table.insert acc.2 q a.beats)
        else (Table.set 0 acc.1 q 0, Table.erase acc.2 q)) (a.ages, a.since)
        let b := { a with ages := x.1, since := x.2, grants := if won.isSome then grants else a.grants, holder := won }
        let u := { s with mem := { s.mem with arbs := Table.set Arbiter.idle s.mem.arbs channel b } }
        let v := match won with
        | none => u
        | some q => u.waitEnds q (a.beats - Table.get a.beats a.since q)
        if channel < 16 then v
        else
        (beat.refill.elim v fun q => v.gristError q.1 q.2).ddrQueues (channel - 16) panic (won.map fun q => (beat.write, { row := q, addr := beat.addr, at_ := v.now })) beat.served)) ∧
  -- MEM_ARB_PRIO: accepted, the priority of the row is the value written, at once.
  (∀ (t : Nat) (who : Path) (row v : Nat) (r s : State),
      s = (r.land t).accessed who →
      s.writeRefusal who Obj.memArbPrio row (.num v) = none →
      exec (.memArbPrio t who row v) r = .next (((s.put Obj.memArbPrio row v).keep Obj.memArbPrio row (.num v)).send (.answer who .ok []))) ∧
  -- MEM_GR_SELFTEST: accepted with no test in progress, the bank is drained for its test.
  (∀ (t : Nat) (who : Path) (v : Nat) (r s : State),
      s = (r.land t).accessed who →
      s.writeRefusal who Obj.memGrSelftest 0 (.num v) = none →
      ((List.range 32).any fun b => s.bank b == .draining || s.bank b == .testing) = false →
      s.bank v ≠ .retired →
      exec (.memGrSelftest t who v) r = .next ((s.setBank v .draining).send (.answer who .ok []))) ∧
  -- GRIST_TEST_START: a draining bank that holds no staging line any more starts its test.
  (∀ (t bank : Nat) (r s : State),
      s = r.land t →
      bank < 32 →
      s.bank bank = .draining →
      (s.mem.staging.any fun l => l.bank == bank) = false →
      exec (.gristTestStart t bank) r = .next ({ s.setBank bank .testing with mem := { (s.setBank bank .testing).mem with testFrom := s.now } })) ∧
  -- GRIST_TEST_DONE: 2 ms later, a bank that passed returns to service and one that failed is retired with its fault reported.
  (∀ (t bank : Nat) (passed : Bool) (r s : State),
      s = r.land t →
      bank < 32 →
      s.bank bank = .testing →
      s.mem.testFrom + 2000000 ≤ s.now →
      exec (.gristTestDone t bank passed) r = .next (if passed then s.setBank bank .service else (s.setBank bank .retired).report (0x540 + bank) .digestMismatch 0 0))

/-- DESCRIPTOR_POST, REQ_ASSERT, the burst commands, DESCRIPTOR_DONE, CHANNEL_RESUME, CHANNEL_ABORT and SPG_DIAG_DESC complete with these results. -/
def Obligations.SpargeCommandsTakeEffect : Prop :=
  -- DESCRIPTOR_POST: a descriptor with GO and a correct format starts a free channel.
  (∀ (t channel : Nat) (words : List Nat) (r s : State),
      s = r.land t →
      channel < 32 →
      (s.spargeCh channel).isFree = true →
      bit (words.getD 0 0) 0 = true →
      s.spargeFormat words = false →
      exec (.descriptorPost t channel words) r = .next (s.setSpargeCh channel { SpargeChannel.idle with state := .run, words := words, retriesLeft := bits (words.getD 0 0) 6 4 })) ∧
  -- DESCRIPTOR_POST: one with GO and a format error ends the channel ABORTED with BUS_ERR reported.
  (∀ (t channel : Nat) (words : List Nat) (r s : State),
      s = r.land t →
      channel < 32 →
      (s.spargeCh channel).isFree = true →
      bit (words.getD 0 0) 0 = true →
      s.spargeFormat words = true →
      exec (.descriptorPost t channel words) r = .next ((s.setSpargeCh channel { SpargeChannel.idle with words := words, ended := 3 }).report 0x580 .busErr 0 (4 * 256 + channel))) ∧
  -- REQ_ASSERT: the channels that wait for the source take part in the next choice.
  (∀ (t source : Nat) (r s : State),
      s = r.land t →
      exec (.reqAssert t source) r = .next (spargeDecide [source] 32 (s.spargeReady.filter fun c => (s.spargeCh c).state == .waitReq && (s.spargeCh c).req == source) s)) ∧
  -- BURST_ISSUE: of the channels with a burst to issue, a chosen one whose request line is none or asserted issues it and is followed by the next round; the others passed over age.
  (∀ (t : Nat) (asserted : List Nat) (c : Nat) (r s : State),
      s = r.land t →
      s.spargeChoose s.spargeReady = some c →
      (s.spargeCh c).req = 0 ∨ asserted.contains (s.spargeCh c).req = true →
      exec (.burstIssue t asserted) r = .next (((s.spargeReady.filter (· != c)).foldl (fun (u : State) d => u.setSpargeCh d { u.spargeCh d with passed := (u.spargeCh d).passed + 1 }) s).spargeBurst c)) ∧
  -- BURST_FAIL: with retries left, what the burst did is undone, the error is counted, and the channel waits to retry.
  (∀ (t channel : Nat) (timeout : Bool) (r s : State),
      s = r.land t →
      (s.spargeCh channel).state = .run →
      (s.spargeCh channel).flight.isSome = true →
      0 < (((s.count Obj.spgBusErrs).spargeUndo channel).spargeCh channel).retriesLeft →
      exec (.burstFail t channel timeout) r = .next (let u := (s.count Obj.spgBusErrs).spargeUndo channel
        u.setSpargeCh channel { u.spargeCh channel with state := .retry, retriesLeft := (u.spargeCh channel).retriesLeft - 1, failedAt := u.now })) ∧
  -- BURST_FAIL: without one, the channel is halted, the place of the error is kept, and BUS_ERR is reported.
  (∀ (t channel : Nat) (timeout : Bool) (r s : State),
      s = r.land t →
      (s.spargeCh channel).state = .run →
      (s.spargeCh channel).flight.isSome = true →
      (((s.count Obj.spgBusErrs).spargeUndo channel).spargeCh channel).retriesLeft = 0 →
      exec (.burstFail t channel timeout) r = .next (let u := (s.count Obj.spgBusErrs).spargeUndo channel
        ((u.setSpargeCh channel { u.spargeCh channel with state := .halted, ended := 4 }).put Obj.spgChLastErr channel ((u.spargeCh channel).burstAt.2 * 2 ^ 48 + (u.spargeCh channel).burstAt.1 % 2 ^ 48 : Nat)).report 0x580 .busErr ((u.spargeCh channel).burstAt.1 % 2 ^ 48) ((if timeout then 2 else 1) * 256 + channel))) ∧
  -- BURST_RETRY: 1 µs after the failure the burst is issued again and counted.
  (∀ (t channel : Nat) (r s : State),
      s = r.land t →
      (s.spargeCh channel).state = .retry →
      (s.spargeCh channel).failedAt + 1000 ≤ s.now →
      exec (.burstRetry t channel) r = .next ((s.count Obj.spgChRetries channel).spargeBurst channel)) ∧
  -- DESCRIPTOR_DONE: once everything is written, the channel is done, interrupts where asked, and posts the descriptor chained to it.
  (∀ (t channel : Nat) (r s : State),
      s = r.land t →
      (s.spargeCh channel).state = .run →
      (spargeDest (s.spargeCh channel).words).total ≤ (s.spargeCh channel).writePos →
      exec (.descriptorDone t channel) r = .next (let ch := s.spargeCh channel
        let w0 := ch.words.getD 0 0
        let u := s.setSpargeCh channel { ch with state := .done, flight := none, interrupt := ch.interrupt || bit w0 8, ended := 2 }
        let v := u.spargePost channel (u.sramWords (bits w0 47 32 * 64))
        if bit w0 9 then v.setSpargeCh channel { v.spargeCh channel with interrupt := ch.interrupt || bit w0 8 } else u)) ∧
  -- CHANNEL_RESUME: a halted channel issues its burst again with its retries restored.
  (∀ (t channel : Nat) (r s : State),
      s = r.land t →
      (s.spargeCh channel).state = .halted →
      exec (.channelResume t channel) r = .next ((s.setSpargeCh channel { s.spargeCh channel with retriesLeft := bits ((s.spargeCh channel).words.getD 0 0) 6 4, ended := 0 }).spargeBurst channel)) ∧
  -- CHANNEL_ABORT: a channel that is not idle becomes so, and what it had in flight is dropped.
  (∀ (t channel : Nat) (r s : State),
      s = r.land t →
      (s.spargeCh channel).state ≠ .idle →
      exec (.channelAbort t channel) r = .next (s.setSpargeCh channel { s.spargeCh channel with state := .idle, flight := none, funnel := [], ended := 5 })) ∧
  -- SPG_DIAG_DESC: accepted for source and destination in the diagnostic window with channel 31 free, the descriptor is posted on channel 31.
  (∀ (t : Nat) (who : Path) (data : Bytes) (r s : State),
      s = (r.land t).accessed who →
      s.writeRefusal who Obj.spgDiagDesc 0 (.bytes data) = none →
      reservedWords (wordsOf data) = false →
      (spargeSource (wordsOf data)).inWindow = true →
      (spargeDest (wordsOf data)).inWindow = true →
      (s.spargeCh 31).isFree = true →
      exec (.spgDiagDesc t who data) r = .next ((s.spargePost 31 (wordsOf data)).send (.answer who .ok [])))

/-- ALLOCATE, ALLOCATE_SPILL, FREE_KEG and TAKE complete with these results. -/
def Obligations.KegCommandsTakeEffect : Prop :=
  -- ALLOCATE: the request and the others of its cycle each compete for the smallest pool that holds their 1 to 65,536 bytes, and every pool serves its cycle.
  (∀ (t port size : Nat) (spill : Bool) (cycle : KegCycle) (r s : State),
      s = r.land t →
      exec (.allocate t port size spill cycle) r = .next ((List.range 5).foldl (fun s pool => s.kegServe pool (if kegFirstPool size = some pool then cycle.ecc else 0))
        (cycle.others.foldl (fun s o => s.kegAsk o.1 o.2.1 o.2.2) (s.kegAsk port size spill)))) ∧
  -- ALLOCATE_SPILL: a pool that a spilled request of the port competes for serves its cycle.
  (∀ (t port pool ecc : Nat) (r s : State),
      s = r.land t →
      (s.kegCompeting pool).any (fun q => q.port == port) = true →
      exec (.allocateSpill t port pool ecc) r = .next (s.kegServe pool ecc)) ∧
  -- FREE: a valid handle in use, its keg not withdrawn and its count word without an uncorrectable error, loses one use.
  (∀ (t port handle ecc : Nat) (r s : State),
      s = r.land t →
      s.handleValid handle = true →
      s.kegWithdrawn handle = false →
      s.kegUses handle ≠ 0 →
      ecc ≠ 2 →
      exec (.freeKeg t port handle ecc) r = .next (s.kegSetUses handle (s.kegUses handle - 1))) ∧
  -- FREE: one that has no use is a double free: counted and reported.
  (∀ (t port handle ecc : Nat) (r s : State),
      s = r.land t →
      s.handleValid handle = true →
      s.kegWithdrawn handle = false →
      s.kegUses handle = 0 →
      ecc ≠ 2 →
      exec (.freeKeg t port handle ecc) r = .next ((s.count Obj.kegDoubleFrees).report 0x590 .doubleFree (handle % 16777216) (port * 256))) ∧
  -- FREE: an invalid handle is counted and reported.
  (∀ (t port handle ecc : Nat) (r s : State),
      s = r.land t →
      s.handleValid handle = false →
      exec (.freeKeg t port handle ecc) r = .next ((s.count Obj.kegBadHandles).report 0x590 .busErr 0 (port * 256 + 1))) ∧
  -- TAKE: a valid handle in use fewer than 15 times gains one use.
  (∀ (t port handle ecc : Nat) (r s : State),
      s = r.land t →
      s.handleValid handle = true →
      s.kegWithdrawn handle = false →
      s.kegUses handle ≠ 0 →
      ecc ≠ 2 →
      s.kegUses handle < 15 →
      exec (.take t port handle ecc) r = .next (s.kegSetUses handle (s.kegUses handle + 1))) ∧
  -- TAKE: one in use 15 times is answered DRY, counted and reported.
  (∀ (t port handle ecc : Nat) (r s : State),
      s = r.land t →
      s.handleValid handle = true →
      s.kegWithdrawn handle = false →
      15 ≤ s.kegUses handle →
      ecc ≠ 2 →
      exec (.take t port handle ecc) r = .next (((s.send (.dry port (handlePool handle))).count Obj.kegPoolDry (handlePool handle)).report 0x590 .busErr 0 (port * 256 + 2)))

/-- PUSH, POP, WRT_FLUSH_SET and WRT_FLUSH_CLEAR complete with these results. -/
def Obligations.WortCommandsTakeEffect : Prop :=
  -- PUSH: on a credit line with room and nothing waiting, the message of 1 to 8 words is queued.
  (∀ (t line : Nat) (words : List Nat) (r s : State),
      s = r.land t →
      line < 128 →
      1 ≤ words.length →
      words.length ≤ 8 →
      wortDropMode line = false →
      (s.wortLine line).waiting = [] →
      (s.wortLine line).fill + words.length ≤ wortDepth line →
      exec (.push t line words) r = .next (s.setWort line { s.wortLine line with msgs := (s.wortLine line).msgs ++ [{ words := words.map (· % 2 ^ 64), marker := false, bad := false }] })) ∧
  -- PUSH: on a drop line without room, the message is dropped and counted, and GAP_DROP is reported once a second.
  (∀ (t line : Nat) (words : List Nat) (r s : State),
      s = r.land t →
      line < 128 →
      1 ≤ words.length →
      words.length ≤ 8 →
      wortDropMode line = true →
      (s.wortLine line).flushing = false →
      wortDepth line ≤ (s.wortLine line).fill + words.length →
      exec (.push t line words) r = .next (let due := (s.wortLine line).lastGapDrop.all fun at_ => decide (at_ + giga ≤ s.now)
        let l := { s.wortLine line with dropRun := (s.wortLine line).dropRun + 1, lastGapDrop := if due then some s.now else (s.wortLine line).lastGapDrop }
        let u := (s.setWort line l).count Obj.wrtDrops line
        if due then u.report 0x5A0 .gapDrop 0 line else u)) ∧
  -- PUSH: while a drop line is flushed, the message is counted and dropped.
  (∀ (t line : Nat) (words : List Nat) (r s : State),
      s = r.land t →
      line < 128 →
      1 ≤ words.length →
      words.length ≤ 8 →
      wortDropMode line = true →
      (s.wortLine line).flushing = true →
      exec (.push t line words) r = .next ((s.setWort line { s.wortLine line with flushed := (s.wortLine line).flushed + 1 }).count Obj.wrtFlushed line)) ∧
  -- POP: without an ECC error, the next word of the oldest message leaves, with its markers, and the message with its last word.
  (∀ (t line ecc : Nat) (m : WortMsg) (rest : List WortMsg) (r s : State),
      s = r.land t →
      (s.wortLine line).msgs = m :: rest →
      ecc ≠ 1 →
      ecc ≠ 2 →
      exec (.pop t line ecc) r = .next (let l := { s.wortLine line with popped := (s.wortLine line).popped + 1 }
        (s.setWort line (if m.size ≤ l.popped then l.dropFirst (wortDepth line) else l)).send (.word line (m.words.getD (s.wortLine line).popped 0) m.marker m.bad))) ∧
  -- WRT_FLUSH_SET: accepted for a drop line that is not flushed, the line keeps only a message partly popped, and counts what it dropped.
  (∀ (t : Nat) (who : Path) (line : Nat) (r s : State),
      s = (r.land t).accessed who →
      s.writeRefusal who Obj.wrtFlush line (.num 1) = none →
      wortDropMode line = true →
      (s.wortLine line).flushing = false →
      exec (.wrtFlushSet t who line) r = .next ((let l := s.wortLine line
        let kept := if l.popped = 0 then [] else l.msgs.take 1
        (s.setWort line { l with msgs := kept, flushing := true, flushed := l.msgs.length - kept.length }).put Obj.wrtFlush line 1).send (.answer who .ok []))) ∧
  -- WRT_FLUSH_CLEAR: accepted for a drop line that is flushed, the flush ends with a marker that carries the count of the messages dropped.
  (∀ (t : Nat) (who : Path) (line : Nat) (r s : State),
      s = (r.land t).accessed who →
      s.writeRefusal who Obj.wrtFlush line (.num 0) = none →
      wortDropMode line = true →
      (s.wortLine line).flushing = true →
      exec (.wrtFlushClear t who line) r = .next ((let l := s.wortLine line
        ((s.setWort line { l with msgs := l.msgs ++ [wortMarker l.flushed], flushing := false, flushed := 0 }).count Obj.wrtMarkers line).put Obj.wrtFlush line 0).send (.answer who .ok [])))

/-- FAULT_MESSAGE, COLLECTOR_SELFTEST, SAFE_ENTRY and CWT_SAFE_ENTER complete with these results. -/
def Obligations.FaultCollectionCommandsTakeEffect : Prop :=
  -- FAULT_MESSAGE: the oldest message of the next fault line in rotation leaves its line and is collected.
  (∀ (t : Nat) (parity : Bool) (line : Nat) (m : WortMsg) (rest : List WortMsg) (r s : State),
      s = r.land t →
      s.nextFaultLine = some line →
      (s.wortLine line).msgs = m :: rest →
      m.bad = false →
      exec (.faultMessage t false parity) r = .next (let u := s.setWort line ((s.wortLine line).dropFirst (wortDepth line))
        State.collect { u with cellar := { u.cellar with lastLine := line } } (FaultMsg.ofWords m.words) parity)) ∧
  -- FAULT_MESSAGE: one whose words are damaged leaves its line and is reported by the collector itself.
  (∀ (t : Nat) (parity : Bool) (line : Nat) (m : WortMsg) (rest : List WortMsg) (r s : State),
      s = r.land t →
      s.nextFaultLine = some line →
      ((s.wortEcc line 2).wortLine line).msgs = m :: rest →
      m.bad = true →
      exec (.faultMessage t true parity) r = .next (let v := s.wortEcc line 2
        let u := v.setWort line ((v.wortLine line).dropFirst (wortDepth line))
        State.report { u with cellar := { u.cellar with lastLine := line } } 0x000 .collectorSelf line 3)) ∧
  -- COLLECTOR_SELFTEST: every CWT_SELFTEST_S a test that passes is recorded.
  (∀ (t : Nat) (r s : State),
      s = r.land t →
      s.cellar.lastSelftest + giga * s.val Obj.cwtSelftestS ≤ s.now →
      exec (.collectorSelftest t true) r = .next ({ s with cellar := { s.cellar with selftestFails := 0, lastSelftest := s.now } })) ∧
  -- COLLECTOR_SELFTEST: one that fails is counted, and the second in a row is reported by the collector itself.
  (∀ (t : Nat) (r s : State),
      s = r.land t →
      s.cellar.lastSelftest + giga * s.val Obj.cwtSelftestS ≤ s.now →
      exec (.collectorSelftest t false) r = .next (let u : State := { s with cellar := { s.cellar with selftestFails := s.cellar.selftestFails + 1, lastSelftest := s.now } }
        if s.cellar.selftestFails + 1 = 2 then u.report 0x000 .collectorSelf 0 4 else u)) ∧
  -- SAFE_ENTRY: a signal to enter SAFE is obeyed.
  (∀ (t : Nat) (m : FaultMsg) (r s : State),
      s = r.land t →
      s.cellar.safeSignal = some m →
      exec (.safeEntry t) r = .next (s.enterSafe m)) ∧
  -- CWT_SAFE_ENTER: accepted, SAFE_COMMANDED is reported by the user's source with the canvas time.
  (∀ (t : Nat) (who : Path) (v : Nat) (r s : State),
      s = (r.land t).accessed who →
      s.writeRefusal who Obj.cwtSafeEnter 0 (.num v) = none →
      exec (.cwtSafeEnter t who v) r = .next ((s.report 0x010 .safeCommanded (s.ctime.frame % 4294967296 * 65536 + s.ctime.line) 0).send (.answer who .ok [])))

/-- CLEAR_REAL_LATCH, CLEAR_INJECTED_LATCH, the acknowledgements, the injections and the forces complete with these results. -/
def Obligations.LatchAndInjectionCommandsTakeEffect : Prop :=
  -- CLEAR_REAL_LATCH: accepted, the real latch is empty and the clearing is recorded.
  (∀ (t : Nat) (who : Path) (r s : State),
      s = (r.land t).accessed who →
      s.writeRefusal who Obj.cwtClear 0 (.num 1) = none →
      exec (.clearRealLatch t who) r = .next ((({ s with cellar := { s.cellar with realLatch := { held := none, overflow := false } } } : State).brewRec 0x000 0x008 1).send (.answer who .ok []))) ∧
  -- CLEAR_INJECTED_LATCH: accepted, the injected latch is empty and the clearing is recorded.
  (∀ (t : Nat) (who : Path) (r s : State),
      s = (r.land t).accessed who →
      s.writeRefusal who Obj.cwtClear 0 (.num 2) = none →
      exec (.clearInjectedLatch t who) r = .next ((({ s with cellar := { s.cellar with injLatch := { held := none, overflow := false } } } : State).brewRec 0x000 0x008 2).send (.answer who .ok []))) ∧
  -- ACK_CLASS: accepted for a class below 7, that class is acknowledged and no other.
  (∀ (t : Nat) (who : Path) (cls : Nat) (r s : State),
      s = (r.land t).accessed who →
      s.writeRefusal who Obj.cwtAck 0 (.num ((2 ^ cls : Nat) : Int)) = none →
      cls < 7 →
      exec (.ackClass t who cls) r = .next (({ s with cellar := { s.cellar with unacked := s.cellar.unacked.filter fun c => c != cls } }).send (.answer who .ok []))) ∧
  -- ACK_COLLECTOR_SELF: accepted, the collector's own fault is acknowledged and no class is.
  (∀ (t : Nat) (who : Path) (r s : State),
      s = (r.land t).accessed who →
      s.writeRefusal who Obj.cwtAck 0 (.num 128) = none →
      exec (.ackCollectorSelf t who) r = .next (({ s with cellar := { s.cellar with selfUnacked := false } }).send (.answer who .ok []))) ∧
  -- INJECT_COLLECT: accepted in lifecycle state MANUFACTURE, a valid message is reported with INJ set.
  (∀ (t : Nat) (who : Path) (data : Bytes) (r s : State),
      s = (r.land t).accessed who →
      s.writeRefusal who Obj.cwtInject 0 (.bytes (data ++ [0])) = none →
      data.length = 12 →
      (FaultMsg.ofBytes data).reserved = 0 →
      (FaultMsg.ofBytes data).valid = true →
      s.trust.lifecycle = 1 →
      exec (.injectCollect t who data) r = .next ((s.reportMsg { FaultMsg.ofBytes data with inj := true }).send (.answer who .ok []))) ∧
  -- INJECT_ACT: accepted likewise, the unit named by the message acts on it as well.
  (∀ (t : Nat) (who : Path) (data : Bytes) (r s : State),
      s = (r.land t).accessed who →
      s.writeRefusal who Obj.cwtInject 0 (.bytes (data ++ [1])) = none →
      data.length = 12 →
      (FaultMsg.ofBytes data).reserved = 0 →
      (FaultMsg.ofBytes data).valid = true →
      s.trust.lifecycle = 1 →
      exec (.injectAct t who data) r = .next (((s.reportMsg { FaultMsg.ofBytes data with inj := true }).unitActs { FaultMsg.ofBytes data with inj := true }).send (.answer who .ok []))) ∧
  -- FORCE_TUN_FAULT: accepted in MANUFACTURE or DEPLOYED with nothing forced, a Tun with a task is faulted at its next chance.
  (∀ (t : Nat) (who : Path) (target : Nat) (r s : State),
      s = (r.land t).accessed who →
      s.writeRefusal who Obj.cwtForce 0 (.num ((1 + 256 * target : Nat) : Int)) = none →
      target < 64 →
      s.trust.lifecycle = 1 ∨ s.trust.lifecycle = 2 →
      s.cellar.force = none →
      (s.tun target).task.isNone = false →
      exec (.forceTunFault t who target) r = .next (({ s with cellar := { s.cellar with force := some (1, target) } }).send (.answer who .ok []))) ∧
  -- FORCE_TUN_FAULT: a Tun without a task is faulted at once: ECC_UNCORR is reported as injected, the fault counted and the Tun taken out.
  (∀ (t : Nat) (who : Path) (target : Nat) (r s : State),
      s = (r.land t).accessed who →
      s.writeRefusal who Obj.cwtForce 0 (.num ((1 + 256 * target : Nat) : Int)) = none →
      target < 64 →
      s.trust.lifecycle = 1 ∨ s.trust.lifecycle = 2 →
      s.cellar.force = none →
      (s.tun target).task.isNone = true →
      exec (.forceTunFault t who target) r = .next ((((((State.reportAs { s with cellar := { s.cellar with force := some (1, target) } } true (0x300 + target) .eccUncorr 0 0).count Obj.tunFaults target).forceActed).tunFault target)).send (.answer who .ok []))) ∧
  -- FORCE_LANE_LOSS: accepted likewise, the port that holds the lane, unless disabled, goes DOWN with loss of signal, as injected.
  (∀ (t : Nat) (who : Path) (target : Nat) (r s : State),
      s = (r.land t).accessed who →
      s.writeRefusal who Obj.cwtForce 0 (.num ((2 + 256 * target : Nat) : Int)) = none →
      target < 96 →
      s.trust.lifecycle = 1 ∨ s.trust.lifecycle = 2 →
      s.cellar.force = none →
      exec (.forceLaneLoss t who target) r = .next ((let u : State := { s with cellar := { s.cellar with force := some (2, target) } }
        (match s.portOfLane target with
        | some n => (if (u.port n).state = PortState.disabled then u else u.portDown n 1 target true)
        | none => u).forceActed).send (.answer who .ok []))) ∧
  -- FORCE_TASTER_MISMATCH: accepted likewise, the Taster lane mismatches at its next comparison.
  (∀ (t : Nat) (who : Path) (target : Nat) (r s : State),
      s = (r.land t).accessed who →
      s.writeRefusal who Obj.cwtForce 0 (.num ((3 + 256 * target : Nat) : Int)) = none →
      target < 48 →
      s.trust.lifecycle = 1 ∨ s.trust.lifecycle = 2 →
      s.cellar.force = none →
      exec (.forceTasterMismatch t who target) r = .next (({ s with cellar := { s.cellar with force := some (3, target) } }).send (.answer who .ok []))) ∧
  -- FORCE_TWIN_DIGEST: accepted likewise, the next digest sent to the partner is wrong.
  (∀ (t : Nat) (who : Path) (r s : State),
      s = (r.land t).accessed who →
      s.writeRefusal who Obj.cwtForce 0 (.num ((4 + 256 * 0 : Nat) : Int)) = none →
      s.trust.lifecycle = 1 ∨ s.trust.lifecycle = 2 →
      s.cellar.force = none →
      exec (.forceTwinDigest t who) r = .next (({ s with cellar := { s.cellar with force := some (4, 0) } }).send (.answer who .ok []))) ∧
  -- FORCE_DEADLINE_MISS: accepted likewise, the next segment misses its deadline.
  (∀ (t : Nat) (who : Path) (r s : State),
      s = (r.land t).accessed who →
      s.writeRefusal who Obj.cwtForce 0 (.num ((5 + 256 * 0 : Nat) : Int)) = none →
      s.trust.lifecycle = 1 ∨ s.trust.lifecycle = 2 →
      s.cellar.force = none →
      exec (.forceDeadlineMiss t who) r = .next (({ s with cellar := { s.cellar with force := some (5, 0) } }).send (.answer who .ok [])))

/-- ICU_SRC, the external interrupt commands, STORM_CLEAR, EXTERNAL_POLL, LOG_WRITE, LOG_MARK and LOG_CHECKPOINT complete with these results. -/
def Obligations.InterruptAndLogCommandsTakeEffect : Prop :=
  -- ICU_SRC: accepted, the source's word is the value written.
  (∀ (t : Nat) (who : Path) (row v : Nat) (r s : State),
      s = (r.land t).accessed who →
      s.writeRefusal who Obj.icuSrc row (.num v) = none →
      exec (.icuSrc t who row v) r = .next ((s.put Obj.icuSrc row v).send (.answer who .ok []))) ∧
  -- ICU_EXT_CLAIM: accepted with a candidate, the external target claims the best one: its priority is stacked, the claim counted and checked for a storm, and the answer is its number.
  (∀ (t : Nat) (who : Path) (id : Nat) (r s : State),
      s = (r.land t).accessed who →
      s.accessRefusal who Obj.icuExtClaim 0 false = none →
      s.extBest = some id →
      exec (.icuExtClaim t who) r = .next ((((s.modExt fun x => { x with stack := bits (s.val Obj.icuSrc id) 3 0 :: x.stack, claimed := x.claimed ++ [id] }).count Obj.icuClaims id).stormCheck id).send (.answer who .ok (bytesBE 2 id)))) ∧
  -- ICU_EXT_CLAIM: accepted with none, the claim is spurious: counted, and answered 0.
  (∀ (t : Nat) (who : Path) (r s : State),
      s = (r.land t).accessed who →
      s.accessRefusal who Obj.icuExtClaim 0 false = none →
      s.extBest = none →
      exec (.icuExtClaim t who) r = .next ((s.count Obj.icuSpurious).send (.answer who .ok (bytesBE 2 0)))) ∧
  -- ICU_EXT_EOI: accepted for a number claimed, the claim ends and the stack drops one priority.
  (∀ (t : Nat) (who : Path) (v : Nat) (r s : State),
      s = (r.land t).accessed who →
      s.writeRefusal who Obj.icuExtEoi 0 (.num v) = none →
      s.icu.external.claimed.contains v = true →
      exec (.icuExtEoi t who v) r = .next ((s.modExt fun x => { x with stack := x.stack.drop 1, claimed := x.claimed.filter fun id => id != v }).send (.answer who .ok []))) ∧
  -- ICU_EXT_EOI: accepted for one that is not, the error is counted.
  (∀ (t : Nat) (who : Path) (v : Nat) (r s : State),
      s = (r.land t).accessed who →
      s.writeRefusal who Obj.icuExtEoi 0 (.num v) = none →
      s.icu.external.claimed.contains v = false →
      exec (.icuExtEoi t who v) r = .next ((s.count Obj.icuEoiErrs).send (.answer who .ok []))) ∧
  -- ICU_EXT_MASK: accepted, the word of the external mask is the value written.
  (∀ (t : Nat) (who : Path) (row v : Nat) (r s : State),
      s = (r.land t).accessed who →
      s.writeRefusal who Obj.icuExtMask row (.num v) = none →
      exec (.icuExtMask t who row v) r = .next ((s.modExt fun x => { x with mask := Table.set 4294967295 x.mask row v }).send (.answer who .ok []))) ∧
  -- ICU_EXT_STORM: accepted, the word of the external storm register is the value written.
  (∀ (t : Nat) (who : Path) (row v : Nat) (r s : State),
      s = (r.land t).accessed who →
      s.writeRefusal who Obj.icuExtStorm row (.num v) = none →
      exec (.icuExtStorm t who row v) r = .next ((s.modExt fun x => { x with storm := Table.set 0 x.storm row v }).send (.answer who .ok []))) ∧
  -- STORM_CLEAR: at each firmware target whose storm began 10 ms ago, the sources it masked are unmasked.
  (∀ (t : Nat) (r s : State),
      s = r.land t →
      exec (.stormClear t) r = .next ({ s with icu := { s.icu with maltsterA := s.icu.maltsterA.stormEnd s.now, maltsterB := s.icu.maltsterB.stormEnd s.now } })) ∧
  -- EXTERNAL_POLL: the levels of the sources routed to the external target are read.
  (∀ (t : Nat) (r s : State),
      s = r.land t →
      exec (.externalPoll t) r = .next ({ s with icu := { s.icu with polled := (List.range 256).filter fun id => icuRoutable id && bits (s.val Obj.icuSrc id) 5 4 == 2 && s.irqLevel id } })) ∧
  -- LOG_WRITE: the oldest record of the next log line in rotation is written to the log.
  (∀ (t line : Nat) (m : WortMsg) (rest : List WortMsg) (r s : State),
      s = r.land t →
      s.nextLogLine = some line →
      (s.wortLine line).msgs = m :: rest →
      m.marker = false →
      exec (.logWrite t) r = .next (let u := s.setWort line ((s.wortLine line).dropFirst (wortDepth line))
        State.logRecord { u with brew := { u.brew with lastLine := line } } (BrewRec.ofWords m.words))) ∧
  -- LOG_WRITE: a marker becomes a gap record that carries the line and the count, which is added to LOG_GAP_RECORDS.
  (∀ (t line : Nat) (m : WortMsg) (rest : List WortMsg) (r s : State),
      s = r.land t →
      s.nextLogLine = some line →
      (s.wortLine line).msgs = m :: rest →
      m.marker = true →
      exec (.logWrite t) r = .next (let u := s.setWort line ((s.wortLine line).dropFirst (wortDepth line))
        let v : State := { u with brew := { u.brew with lastLine := line } }
        (v.count Obj.logGapRecords 0 (m.words.headD 0)).logRecord { seq := 0, ctime := v.ctime, time := fieldBE (time80 v.deviceTime) 0 10, source := 0x000, event := 0x001, flags := 0, args := line * 2 ^ 32 + m.words.headD 0 })) ∧
  -- LOG_MARK: accepted, a record of the user's with the value is logged.
  (∀ (t : Nat) (who : Path) (v : Nat) (r s : State),
      s = (r.land t).accessed who →
      s.writeRefusal who Obj.logMark 0 (.num v) = none →
      exec (.logMark t who v) r = .next ((s.brewRec 0x010 0x003 v).send (.answer who .ok []))) ∧
  -- LOG_CHECKPOINT: every LOG_CKPT_S, or when one is due, the records not yet copied join the checkpoint.
  (∀ (t : Nat) (r s : State),
      s = r.land t →
      s.brew.ckptDue = true ∨ s.brew.lastCkpt + giga * s.val Obj.logCkptS ≤ s.now →
      exec (.logCheckpoint t true) r = .next (State.put { s with brew := { s.brew with ckpt := newest 65536 (s.brew.ckpt ++ s.brew.uncopied), ckptSeq := s.brew.nextSeq - 1, lastCkpt := s.now, ckptFailed := false, ckptDue := false } } Obj.logCkptLastSeq 0 (s.brew.nextSeq - 1 : Nat))) ∧
  -- LOG_CHECKPOINT: one that the Cask fails to write is reported and recorded, and nothing is copied.
  (∀ (t : Nat) (r s : State),
      s = r.land t →
      s.brew.ckptDue = true ∨ s.brew.lastCkpt + giga * s.val Obj.logCkptS ≤ s.now →
      exec (.logCheckpoint t false) r = .next ((State.caskErr { s with brew := { s.brew with lastCkpt := s.now, ckptFailed := true, ckptDue := false } } (caskBase 4)).brewRec 0x000 0x006 s.brew.uncopied.length))

/-- SEC_IMAGE, the image check, FIRMWARE_PATCH, KEY_REVOKE, KEY_RESET, VENDOR_GRANT, VENDOR_GRANT_EXPIRY, IDENTITY and the fuses complete with these results. -/
def Obligations.ImageCommandsTakeEffect : Prop :=
  -- SEC_IMAGE: accepted with no image in check outside lifecycle state RETIRED, the check of the image begins.
  (∀ (t : Nat) (who : Path) (image : Bytes) (r s : State),
      s = (r.land t).accessed who →
      s.writeRefusal who Obj.secImage 0 (.bytes image) = none →
      s.trust.lifecycle ≠ 3 →
      s.verifierBusy = false →
      exec (.secImage t who image) r = .next ((s.checkImage who true image).send (.answer who .ok []))) ∧
  -- IMAGE_CHECK_DONE: the check of an image of SEC_IMAGE ends with its status and type; one that fails is reported and dropped, one that passes waits for its effect.
  (∀ (t : Nat) (stored : Bool) (job : ImageJob) (r s : State),
      s = r.land t →
      s.trust.checking = some job →
      job.sec = true →
      exec (.imageCheckDone t stored) r = .next (let status := s.imageStatus job stored
        let u := ((s.modTrust fun x => { x with checking := none }).put Obj.secImageStatus 0 status).put Obj.secImageType 0 (imageType job.image % 256 : Nat)
        let u := if status = 1 then u else u.imageFailed status (imageType job.image)
        let u := if status = 10 then (u.caskErr (caskBase 3)).count Obj.cskEccUncorr else u
        let u := if status = 10 ∧ imageType job.image = 2 then u.firmwareAreaLost else u
        if status = 1 then u.modTrust fun x => { x with accepted := some job } else u)) ∧
  -- IMAGE_CHECK_DONE: that of a recipe image ends likewise; one that passes both checks is the staged patch, and else none is staged.
  (∀ (t : Nat) (stored : Bool) (job : ImageJob) (r s : State),
      s = r.land t →
      s.trust.checking = some job →
      job.sec = false →
      exec (.imageCheckDone t stored) r = .next (let status := s.imageStatus job stored
        let u := ((s.modTrust fun x => { x with checking := none }).put Obj.secImageStatus 0 status).put Obj.secImageType 0 (imageType job.image % 256 : Nat)
        let u := if status = 1 then u else u.imageFailed status (imageType job.image)
        let u := if status = 10 then (u.caskErr (caskBase 3)).count Obj.cskEccUncorr else u
        let u := if status = 10 ∧ imageType job.image = 2 then u.firmwareAreaLost else u
        let p := if status = 1 then patchStatus job.image else 2
        { u with tuns := { u.tuns with patchStatus := p, staged := if p = 1 then some (patchBank job.image) else none } })) ∧
  -- FIRMWARE_PATCH: an accepted firmware patch is stored for the next boot.
  (∀ (t : Nat) (b : Bytes) (r s : State),
      s = r.land t →
      s.acceptedOf 2 = some b →
      exec (.firmwarePatch t) r = .next ((s.modTrust fun x => { x with fwStored := some b, fwRemove := false }).imageDone)) ∧
  -- KEY_REVOKE: an accepted revocation begins to blow the fuse of the vendor key entry it names.
  (∀ (t : Nat) (b : Bytes) (r s : State),
      s = r.land t →
      s.acceptedOf 3 = some b →
      exec (.keyRevoke t) r = .next (((s.blow (64 + fieldBE (imagePayload b) 0 1) 1).applied 2 b).imageDone)) ∧
  -- KEY_RESET: an accepted key reset leaves the claim key as the one brewer key, keeps the twin key, and clears the locks of Strel.
  (∀ (t : Nat) (b : Bytes) (r s : State),
      s = r.land t →
      s.acceptedOf 4 = some b →
      exec (.keyReset t) r = .next (let u := s.modTrust fun x => { x with keys := s.claimKeys }
        (State.applied { u with strel := { u.strel with auth := [] } } 3 b).imageDone)) ∧
  -- VENDOR_GRANT: an accepted grant installs its vendor key for the seconds it states.
  (∀ (t : Nat) (b : Bytes) (r s : State),
      s = r.land t →
      s.acceptedOf 5 = some b →
      exec (.vendorGrant t) r = .next (((s.modTrust fun x => { x with vendor := Table.insert x.vendor (fieldBE (imagePayload b) 4 1) { key := s.grantKey b, expires := s.now + fieldBE (imagePayload b) 8 4 * giga } }).applied 4 b).imageDone)) ∧
  -- VENDOR_GRANT_EXPIRY: a grant whose time is over leaves its slot.
  (∀ (t slot : Nat) (r s : State),
      s = r.land t →
      exec (.vendorGrantExpiry t slot) r = .next (s.modTrust fun x => { x with vendor := x.vendor.filter fun p => p.1 != slot || decide (s.now < p.2.expires) })) ∧
  -- IDENTITY: an accepted identity is taken.
  (∀ (t : Nat) (b : Bytes) (r s : State),
      s = r.land t →
      s.acceptedOf 6 = some b →
      exec (.identity t) r = .next ((s.modTrust fun x => { x with identity := some b }).imageDone)) ∧
  -- ROLLBACK_FUSE_BLOWN: 100 µs after it began, a vendor key entry's fuse is blown: the entry is revoked, and the next blow begins.
  (∀ (t : Nat) (b : Blow) (rest : List Blow) (r s : State),
      s = r.land t →
      s.trust.blowing = b :: rest →
      b.since + 100000 ≤ s.now →
      64 ≤ b.fuse →
      exec (.rollbackFuseBlown t) r = .next (s.modTrust fun x => { x with revoked := x.revoked ++ [b.fuse - 64], blowing := rest.map fun (y : Blow) => { y with since := s.now } })) ∧
  -- ROLLBACK_FUSE_BLOWN: a counter's fuse counts one more, until its target is reached.
  (∀ (t : Nat) (b : Blow) (rest : List Blow) (r s : State),
      s = r.land t →
      s.trust.blowing = b :: rest →
      b.since + 100000 ≤ s.now →
      b.fuse < 64 →
      exec (.rollbackFuseBlown t) r = .next (let more : List Blow := if b.target ≤ s.counter b.fuse + 1 then [] else [{ b with since := s.now }]
        s.modTrust fun x => { x with counters := Table.set 0 x.counters b.fuse (s.counter b.fuse + 1), blowing := more ++ rest.map fun (y : Blow) => { y with since := s.now } }))

/-- SEC_LIFECYCLE_ADVANCE, SEC_RETIRE, SEC_ROLLBACK_COMMIT, the key commands, attestation and the lifecycle complete with these results. -/
def Obligations.SecurityCommandsTakeEffect : Prop :=
  -- SEC_LIFECYCLE_ADVANCE: accepted in MANUFACTURE with an IDENTITY image, the device is DEPLOYED; every access key and VENDOR key is erased, the claim key fills BREWER slot 0 and TWN_KEY stays; each rehearsal entry above NOTIFY becomes LOG (TWN_KEY and LOG are the model's reading, log 88).
  (∀ (t : Nat) (who : Path) (v : Nat) (r s : State),
      s = (r.land t).accessed who →
      s.writeRefusal who Obj.secLifecycleAdvance 0 (.num v) = none →
      s.trust.lifecycle = 1 →
      s.trust.identity.isNone = false →
      exec (.secLifecycleAdvance t who v) r = .next (((s.modTrust fun x => { x with lifecycle := 2, keys := s.claimKeys.filter fun p => p.1 == 8 || p.1 == 16, vendor := [] }).clearRehearsals).send (.answer who .ok []))) ∧
  -- SEC_RETIRE: accepted with the device's serial in DEPLOYED, the device is RETIRED without keys, VENDOR keys, accepted image, locks or saved sets, and SAFE is commanded by a message of source 0x010 (the model's reading, log 48).
  (∀ (t : Nat) (who : Path) (v : Nat) (r s : State),
      s = (r.land t).accessed who →
      s.writeRefusal who Obj.secRetire 0 (.num v) = none →
      v = Config.serial →
      s.trust.lifecycle = 2 →
      exec (.secRetire t who v) r = .next ((let u := s.modTrust fun x => { x with lifecycle := 3, keys := [], vendor := [], accepted := none }
        let u := { u with strel := { u.strel with auth := [] } }
        let u : State := { u with sets := { u.sets with slotA := Slot.empty, slotB := Slot.empty, saving := none, savePending := none, loading := none } }
        u.report 0x010 .safeCommanded (u.ctime.frame % 4294967296 * 65536 + u.ctime.line) 0).send (.answer who .ok []))) ∧
  -- SEC_ROLLBACK_COMMIT: accepted with 1 and a patch bank in use, the recipe counter is raised to the bank's SVN.
  (∀ (t : Nat) (who : Path) (r s : State),
      s = (r.land t).accessed who →
      s.writeRefusal who Obj.secRollbackCommit 0 (.num 1) = none →
      (s.bankNamed s.tuns.inUse).digest.isEmpty = false →
      exec (.secRollbackCommit t who 1) r = .next ((s.raiseCounter 1 (s.bankNamed s.tuns.inUse).svn).send (.answer who .ok []))) ∧
  -- SEC_ROLLBACK_COMMIT: accepted with 0 and a firmware patch active, the firmware counter is raised to its SVN.
  (∀ (t : Nat) (who : Path) (b : Bytes) (r s : State),
      s = (r.land t).accessed who →
      s.writeRefusal who Obj.secRollbackCommit 0 (.num 0) = none →
      s.trust.fwActive = some b →
      exec (.secRollbackCommit t who 0) r = .next ((s.raiseCounter 0 (imageSvn b)).send (.answer who .ok []))) ∧
  -- SEC_KEY_INSTALL: accepted over a session with the reserved field 0, a slot of 0 to 3, a role below VENDOR and up to the session's own, and a key that is not zero, the unwrapped key fills its slot, whose failures and lock are cleared.
  (∀ (t : Nat) (who : Path) (seq : Nat) (data : Bytes) (z : Session) (r s : State),
      s = (r.land t).accessed who →
      s.writeRefusal who Obj.secKeyInstall 0 (.bytes data) = none →
      s.sessionOf who = some z →
      fieldBE data 2 2 = 0 →
      fieldBE data 1 1 ≤ 3 →
      fieldBE data 0 1 < 3 →
      fieldBE data 0 1 ≤ z.role.code →
      z.unwrap seq (slice data 4 48) ≠ zeros 48 →
      exec (.secKeyInstall t who seq data) r = .next ((let k := 4 * fieldBE data 0 1 + fieldBE data 1 1
        let u := s.modTrust fun x => { x with keys := Table.insert x.keys k (z.unwrap seq (slice data 4 48)) }
        { u with strel := { u.strel with auth := Table.erase u.strel.auth k } }).send (.answer who .ok []))) ∧
  -- SEC_KEY_ERASE: accepted for a slot of a viewer or operator, or of a brewer where a brewer key stays, the slot is emptied.
  (∀ (t : Nat) (who : Path) (v : Nat) (r s : State),
      s = (r.land t).accessed who →
      s.writeRefusal who Obj.secKeyErase 0 (.num v) = none →
      bits v 15 8 < 3 →
      bits v 7 0 ≤ 3 →
      (bits v 15 8 = 2 → ((Table.erase s.trust.keys (4 * bits v 15 8 + bits v 7 0)).any fun p => decide (8 ≤ p.1) && decide (p.1 < 12)) = true) →
      exec (.secKeyErase t who v) r = .next ((s.modTrust fun x => { x with keys := Table.erase s.trust.keys (4 * bits v 15 8 + bits v 7 0) }).send (.answer who .ok []))) ∧
  -- SEC_KEY_ERASE: accepted for a vendor slot, the slot is emptied.
  (∀ (t : Nat) (who : Path) (v : Nat) (r s : State),
      s = (r.land t).accessed who →
      s.writeRefusal who Obj.secKeyErase 0 (.num v) = none →
      bits v 15 8 = 3 →
      bits v 7 0 ≤ 3 →
      exec (.secKeyErase t who v) r = .next ((s.modTrust fun x => { x with vendor := Table.erase x.vendor (bits v 7 0) }).send (.answer who .ok []))) ∧
  -- SEC_FW_PATCH_REMOVE: accepted, a stored firmware patch is marked for removal.
  (∀ (t : Nat) (who : Path) (v : Nat) (r s : State),
      s = (r.land t).accessed who →
      s.writeRefusal who Obj.secFwPatchRemove 0 (.num v) = none →
      exec (.secFwPatchRemove t who v) r = .next ((s.modTrust fun x => { x with fwRemove := x.fwStored.isSome }).send (.answer who .ok []))) ∧
  -- SEC_ATT_NONCE: accepted outside RETIRED, the nonce is that of the open session it came over.
  (∀ (t : Nat) (who : Path) (data : Bytes) (id : Nat) (z : Session) (r s : State),
      s = (r.land t).accessed who →
      s.writeRefusal who Obj.secAttNonce 0 (.bytes data) = none →
      who = .strel id →
      s.trust.lifecycle ≠ 3 →
      s.session id = some z →
      exec (.secAttNonce t who data) r = .next ((s.setSession { z with attNonce := some data }).send (.answer who .ok []))) ∧
  -- SEC_ATT_NONCE: the same over the CAN path.
  (∀ (t : Nat) (who : Path) (data : Bytes) (r s : State),
      s = (r.land t).accessed who →
      s.writeRefusal who Obj.secAttNonce 0 (.bytes data) = none →
      who = .can →
      s.trust.lifecycle ≠ 3 →
      exec (.secAttNonce t who data) r = .next (({ s with can := { s.can with attNonce := some data } }).send (.answer who .ok []))) ∧
  -- SEC_ATT_REPORT: accepted outside BLANK and RETIRED with the tree ready, no report within a second and a nonce, a report is signed with the next leaf, kept, and answered.
  (∀ (t : Nat) (who : Path) (n : Bytes) (r s : State),
      s = (r.land t).accessed who →
      s.accessRefusal who Obj.secAttReport 0 false = none →
      s.trust.lifecycle ≠ 0 →
      s.trust.lifecycle ≠ 3 →
      s.trust.attState ≠ 1 →
      s.trust.attState ≠ 2 →
      s.trust.attAt.all (fun a => decide (a + giga ≤ s.now)) = true →
      s.attNonce who = some n →
      exec (.secAttReport t who 0) r = .next ((((s.keepReport who (s.attSigned n s.trust.qNext)).leafUsed).drawn).send (.answer who .ok (s.attSigned n s.trust.qNext)))) ∧
  -- SEC_ATT_REPORT: at another offset, outside BLANK and RETIRED, within the last report signed for the session or the CAN path, that report's bytes from there on are answered.
  (∀ (t : Nat) (who : Path) (offset : Nat) (r s : State),
      s = (r.land t).accessed who →
      s.accessRefusal who Obj.secAttReport 0 false = none →
      s.trust.lifecycle ≠ 0 →
      s.trust.lifecycle ≠ 3 →
      offset ≠ 0 →
      (s.attReport who).isEmpty = false →
      offset ≤ (s.attReport who).length →
      exec (.secAttReport t who offset) r = .next (s.send (.answer who .ok ((s.attReport who).drop offset)))) ∧
  -- BOTTOM_TREE_DONE: the tree in the making is ready.
  (∀ (t : Nat) (r s : State),
      s = r.land t →
      s.trust.attState = 1 →
      exec (.bottomTreeDone t) r = .next (s.modTrust fun x => { x with attState := 0 })) ∧
  -- BLANK_TO_MANUFACTURE: a blank device gets a secret of its own and is in MANUFACTURE.
  (∀ (t : Nat) (r s : State),
      s = r.land t →
      s.trust.lifecycle = 0 →
      exec (.blankToManufacture t) r = .next ((s.modTrust fun x => { x with lifecycle := 1, secret := fit 32 (Config.newSecret s.draws) }).drawn)) ∧
  -- TWN_KEY: accepted over a session, the twin key is the unwrapped value.
  (∀ (t : Nat) (who : Path) (seq : Nat) (data : Bytes) (z : Session) (r s : State),
      s = (r.land t).accessed who →
      s.writeRefusal who Obj.twnKey 0 (.bytes data) = none →
      s.sessionOf who = some z →
      exec (.twnKey t who seq data) r = .next ((s.modTrust fun x => { x with keys := Table.insert x.keys 16 (z.unwrap seq data) }).send (.answer who .ok [])))

/-- PORST_N, the brown-outs, PWR_RESET, the watchdog and the system clock complete with these results. -/
def Obligations.ResetCommandsTakeEffect : Prop :=
  -- PORST_N_ASSERT: the device is reset with the cause of the pin, or of the thermal trip, and held.
  (∀ (t : Nat) (r s : State),
      s = r.land t →
      exec (.porstNAssert t) r = .next ((s.modPwr fun p => { p with porst := false, tripped := false }).deviceReset (if s.pwr.tripped then 4 else 0))) ∧
  -- PORST_N_RELEASE: the straps are sampled, and the device leaves reset unless something else holds it.
  (∀ (t nodeId twinRole bootSel : Nat) (r s : State),
      s = r.land t →
      s.pwr.porst = false →
      exec (.porstNRelease t nodeId twinRole bootSel) r = .next ((s.modPwr fun p => { p with porst := true, nodeId := nodeId % 128, twinRole := twinRole % 2, bootSel := bootSel % 4 }).leaveReset)) ∧
  -- BROWNOUT: a rail below its level resets the device with cause 1 and holds it.
  (∀ (t rail mv : Nat) (r s : State),
      s = r.land t →
      mv < brownoutLevel rail →
      exec (.brownout t rail mv) r = .next ((s.modPwr fun p => { p with brown := rail :: p.brown.filter fun q => q != rail }).deviceReset 1)) ∧
  -- BROWNOUT_RECOVERY: a rail that recovers no longer holds the device, which leaves reset unless something else does.
  (∀ (t rail mv : Nat) (r s : State),
      s = r.land t →
      brownoutLevel rail ≤ mv →
      s.pwr.brown.contains rail = true →
      exec (.brownoutRecovery t rail mv) r = .next ((s.modPwr fun p => { p with brown := p.brown.filter fun q => q != rail }).leaveReset)) ∧
  -- PWR_RESET: accepted with the device's serial, the reset follows 10 ms later.
  (∀ (t : Nat) (who : Path) (v : Nat) (r s : State),
      s = (r.land t).accessed who →
      s.writeRefusal who Obj.pwrReset 0 (.num v) = none →
      v = Config.serial →
      exec (.pwrReset t who v) r = .next ((s.modPwr fun p => { p with resetAt := some (s.now + 10000000) }).send (.answer who .ok []))) ∧
  -- PWR_RESET_DELAY: once those 10 ms are over the device is reset with cause 2.
  (∀ (t a : Nat) (r s : State),
      s = r.land t →
      s.pwr.resetAt = some a →
      a ≤ s.now →
      exec (.pwrResetDelay t) r = .next (s.deviceReset 2)) ∧
  -- MALTSTER_WATCHDOG: the watchdog of a Maltster core resets the device with cause 3.
  (∀ (t core : Nat) (r s : State),
      s = r.land t →
      core < 2 →
      exec (.maltsterWatchdog t core) r = .next (s.deviceReset 3)) ∧
  -- REFCLK_SYS_LOSS: without its system clock the device is reset and held; the cause register keeps its value.
  (∀ (t : Nat) (r s : State),
      s = r.land t →
      exec (.refclkSysLoss t) r = .next ((s.modPwr fun p => { p with refclk := false }).deviceReset s.pwr.cause)) ∧
  -- REFCLK_SYS_RETURN: once the clock is back, the device leaves reset unless something else holds it.
  (∀ (t : Nat) (r s : State),
      s = r.land t →
      s.pwr.refclk = false →
      exec (.refclkSysReturn t) r = .next ((s.modPwr fun p => { p with refclk := true }).leaveReset))

/-- SENSOR_READ, LIFE_SAVE, the AVS commands and the start-up phases complete with these results. -/
def Obligations.PowerAndStartupCommandsTakeEffect : Prop :=
  -- SENSOR_READ: every millisecond the sensors are read: a bad one is excluded, Tj is the hottest left, the life spent adds up, and 125 °C trips the device; else the warning and critical levels are judged.
  (∀ (t : Nat) (readings : List Int) (r s : State),
      s = r.land t →
      s.pwr.lastSensor + 1000000 ≤ s.now →
      s.pwr.held = false →
      exec (.sensorRead t readings) r = .next (let u := s.exclude readings
        let tj := u.hottest readings
        let v := u.modPwr fun p => { p with sensors := (List.range 16).map fun k => (k, readings.getD k 0), tj := tj, tjLevels := (u.pwr.tjLevels.filter fun p : Nat × Int => decide (u.now ≤ p.1 + giga)) ++ [(u.now, tj)], life := p.life + lifeSpent (u.now - p.lastSensor) tj, lastSensor := u.now }
        if 1250 ≤ tj then v.trip else v.thermWarn.thermCrit)) ∧
  -- LIFE_SAVE: once an hour the life spent is saved in the Cask.
  (∀ (t : Nat) (r s : State),
      s = r.land t →
      s.pwr.lifeAt + 3600 * giga ≤ s.now →
      exec (.lifeSave t) r = .next ({ (s.modPwr fun p => { p with lifeAt := s.now }) with cask := { s.cask with lifeSaved := s.pwr.life } })) ∧
  -- AVS_RAMP_STEP: while the supply ramps, each millisecond takes it 5 mV towards its target.
  (∀ (t : Nat) (acked : Bool) (r s : State),
      s = r.land t →
      s.pwr.avsRuns = true →
      s.pwr.vout ≠ s.pwr.vt →
      s.pwr.avsAt + 1000000 ≤ s.now →
      acked = true →
      exec (.avsRampStep t acked) r = .next (s.vout (if s.pwr.vout < s.pwr.vt then min (s.pwr.vout + 5) s.pwr.vt else max (s.pwr.vout - 5) s.pwr.vt))) ∧
  -- AVS_RAMP_STEP: a step the supply does not acknowledge stops AVS with BUS_ERR.
  (∀ (t : Nat) (acked : Bool) (r s : State),
      s = r.land t →
      s.pwr.avsRuns = true →
      s.pwr.vout ≠ s.pwr.vt →
      s.pwr.avsAt + 1000000 ≤ s.now →
      acked = false →
      exec (.avsRampStep t acked) r = .next (s.avsStop 1)) ∧
  -- AVS_TICK: every 100 ms at the target, the slack sets the next target, and what the supply reads back is checked.
  (∀ (t : Nat) (slack : Int) (acked : Bool) (readMv readDa : Nat) (r s : State),
      s = r.land t →
      s.pwr.avsRuns = true →
      s.pwr.vout = s.pwr.vt →
      s.pwr.avsTickAt + 100000000 ≤ s.now →
      acked = true →
      exec (.avsTick t slack acked readMv readDa) r = .next (let q := s.pwr.avsCheck slack
        let u := s.modPwr fun p => { p with vt := q.1, avsGood := q.2, avsTickAt := s.now }
        State.readBack (if u.pwr.vout = q.1 then u else u.vout q.1) readMv readDa)) ∧
  -- ROM_BOOT_DONE: in phase 1, a boot ROM that passes records the boot with its number and the last log record's, notes the oscillator, and starts phase 2.
  (∀ (t : Nat) (passed osc : Bool) (r s : State),
      s = r.land t →
      s.pwr.phase = 1 →
      s.pwr.held = false →
      s.pwr.halted = false →
      passed = true →
      exec (.romBootDone t passed osc) r = .next (let n := s.brew.bootCount + 1
        ((State.put { s with brew := { s.brew with bootCount := n } } Obj.tbsOscPresent 0 (ofBool osc : Nat)).brewRec 0x008 0x002 (n % 2 ^ 32 * 2 ^ 32 + ((s.brew.ckpt.getLast?.map (·.seq)).getD 0) % 2 ^ 32)).toPhase 2)) ∧
  -- ROM_BOOT_DONE: one that fails halts the device.
  (∀ (t : Nat) (passed osc : Bool) (r s : State),
      s = r.land t →
      s.pwr.phase = 1 →
      s.pwr.held = false →
      s.pwr.halted = false →
      passed = false →
      exec (.romBootDone t passed osc) r = .next (State.modPwr { s with brew := { s.brew with bootCount := s.brew.bootCount + 1 } } fun p => { p with halted := true })) ∧
  -- BIST_PHASE_DONE: in phase 2, once every Tun's BIST has had its time, the Tuns, Grist banks and Taster lanes that failed are out of service, another failure asks for SAFE, and phase 3 starts.
  (∀ (t : Nat) (failedTuns failedBanks failedLanes : List Nat) (othersGood : Bool) (r s : State),
      s = r.land t →
      s.pwr.phase = 2 →
      s.pwr.held = false →
      s.pwr.halted = false →
      (List.range 64).any s.bistOpen = false →
      exec (.bistPhaseDone t failedTuns failedBanks failedLanes othersGood) r = .next (let u := (List.range 64).foldl (fun (u : State) k => u.tunStarted failedTuns k) s
        let u := (failedBanks.filter fun b => decide (b < 32)).foldl (fun (u : State) b => u.setBank b .retired) u
        let u := (failedLanes.filter fun k => decide (k < 48)).foldl (fun (u : State) k => u.setLane k { u.lane k with state := 2 }) u
        ((u.modPwr fun p => { p with safeAfterCask := !othersGood }).toPhase 3).capacity)) ∧
  -- CASK_LOAD_DONE: in phase 3, what the Cask holds is loaded, CAN opens, AVS starts, Strel listens unless the device is RETIRED, SAFE is commanded where asked, and phase 4 starts.
  (∀ (t : Nat) (r s : State),
      s = r.land t →
      s.pwr.phase = 3 →
      s.pwr.held = false →
      s.pwr.halted = false →
      exec (.caskLoadDone t) r = .next (let u := s.loadLive.loadPools.loadFirmware.loadRecipe.loadBootSlot.loadTwin.openCan.startAvs
        let u : State := { u with cmp := { u.cmp with areaMib := u.val Obj.cmpAreaMib }, tbs := { u.tbs with todWaitFrom := some u.now }, strel := { u.strel with listening := u.trust.lifecycle != 3 } }
        State.toPhase (if u.pwr.safeAfterCask then (cwtSafeEnter u).1 else u) 4)) ∧
  -- QDR_TRAINING_DONE: in phase 4, the channels that trained are in service, those that failed are retired with TRAIN_FAIL, and phase 5 starts.
  (∀ (t : Nat) (failed : List Nat) (r s : State),
      s = r.land t →
      s.pwr.phase = 4 →
      s.pwr.held = false →
      s.pwr.halted = false →
      exec (.qdrTrainingDone t failed) r = .next (State.toPhase ((List.range 12).foldl (fun (u : State) c =>
        if failed.contains c then (u.modQdr c fun x => { x with state := 3 }).report (0x500 + c) .trainFail 0 0 else u.modQdr c fun x => { x with state := 1 }) s) 5)) ∧
  -- DDR_TRAINING_DONE: in phase 5, the training's cache is used or renewed, every channel is in service but those that failed, each enabled port starts, and phase 6 starts.
  (∀ (t : Nat) (verified : Bool) (failed : List Nat) (r s : State),
      s = r.land t →
      s.pwr.phase = 5 →
      s.pwr.held = false →
      s.pwr.halted = false →
      exec (.ddrTrainingDone t verified failed) r = .next (let cached := s.cacheFits && verified
        let u := s.put Obj.memTrainCached 0 (ofBool cached : Nat)
        let u : State := if cached then u else { u with cask := { u.cask with training := some (u.val Obj.memDdConfig) } }
        let u := (List.range 8).foldl (fun (u : State) c => u.modDdr c fun x => { x with state := .service, lastRetrain := u.now, lastRequest := u.now }) u
        let u := (failed.eraseDups.filter fun c => decide (c < 8)).foldl (fun (u : State) c => u.retireDdr c 0) u
        State.toPhase ((List.range 96).foldl (fun (u : State) n => if u.portEnabled n then u.portStart n else u) u) 6)) ∧
  -- LANES_DONE: in phase 6, once the enabled ports are up or down, or after 300 ms, phase 7 starts and the lock is tried.
  (∀ (t : Nat) (r s : State),
      s = r.land t →
      s.pwr.phase = 6 →
      s.pwr.held = false →
      s.pwr.halted = false →
      s.lanesSettled = true ∨ s.pwr.phaseAt + 300000000 ≤ s.now →
      exec (.lanesDone t) r = .next ((s.toPhase 7).tryLock))

/-- A timed or guarded command that is not due, or has nothing to act on, changes the running time and nothing else. -/
def Obligations.CommandsNotDueOnlyLandTime : Prop :=
  -- FLR_CHECK_COMPLETE: without a check under way.
  (∀ (t : Nat) (r s : State),
      s = r.land t →
      s.sets.check = none →
      exec (.flrCheckComplete t) r = .next (s)) ∧
  -- SET_VALIDATION_DONE: without a validation under way.
  (∀ (t : Nat) (r s : State),
      s = r.land t →
      s.sets.validation = none →
      exec (.setValidationDone t) r = .next (s)) ∧
  -- RACK_SWAP: with no rack scheduled.
  (∀ (t : Nat) (r s : State),
      s = r.land t →
      s.sets.rack.state ≠ .scheduled →
      exec (.rackSwap t) r = .next (s)) ∧
  -- RESEED_COMPLETE: with no rack reseeding.
  (∀ (t : Nat) (r s : State),
      s = r.land t →
      s.sets.rack.state ≠ .reseeding →
      exec (.reseedComplete t) r = .next (s)) ∧
  -- SET_SAVE_DONE: without a save under way.
  (∀ (t : Nat) (written : Bool) (r s : State),
      s = r.land t →
      s.sets.saving = none →
      exec (.setSaveDone t written) r = .next (s)) ∧
  -- SET_LOAD_DONE: without a load under way.
  (∀ (t : Nat) (r s : State),
      s = r.land t →
      s.sets.loading = none →
      exec (.setLoadDone t) r = .next (s)) ∧
  -- HELLO: from a peer not heard.
  (∀ (t : Nat) (m : StrelMsg) (r s : State),
      s = r.land t →
      s.hears m.peer = false →
      exec (.hello t m) r = .next (s)) ∧
  -- PROOF: from such a peer.
  (∀ (t : Nat) (m : StrelMsg) (r s : State),
      s = r.land t →
      s.hears m.peer = false →
      exec (.proof t m) r = .next (s)) ∧
  -- SESSION_IDLE_TIMEOUT: before the idle time is over.
  (∀ (t id : Nat) (r s : State),
      s = r.land t →
      (s.session id).any (fun z => decide (z.idleDeadline ≤ s.now)) = false →
      exec (.sessionIdleTimeout t id) r = .next (s)) ∧
  -- CAN_HEARTBEAT: while the heartbeat is off.
  (∀ (t : Nat) (r s : State),
      s = r.land t →
      s.val Obj.heartbeatTime = 0 →
      exec (.canHeartbeat t) r = .next (s)) ∧
  -- CAN_NONCE_EXPIRY: without a nonce.
  (∀ (t : Nat) (r s : State),
      s = r.land t →
      s.can.nonce = none →
      exec (.canNonceExpiry t) r = .next (s)) ∧
  -- PTP_DELAY_REQ: without a master.
  (∀ (t : Nat) (r s : State),
      s = r.land t →
      s.tbs.master = none →
      exec (.ptpDelayReq t) r = .next (s)) ∧
  -- REFERENCE_LOST: while the reference is not gone.
  (∀ (t : Nat) (r s : State),
      s = r.land t →
      s.referenceGone = false →
      exec (.referenceLost t) r = .next (s)) ∧
  -- HOLDOVER_LIMIT: outside HOLDOVER.
  (∀ (t : Nat) (r s : State),
      s = r.land t →
      s.tbs.state ≠ .holdover →
      exec (.holdoverLimit t) r = .next (s)) ∧
  -- TIME_STEP: without a pending step.
  (∀ (t : Nat) (r s : State),
      s = r.land t →
      s.tbs.stepPending = none →
      exec (.timeStep t) r = .next (s)) ∧
  -- RASTER_GAP_END: outside a gap.
  (∀ (t : Nat) (r s : State),
      s = r.land t →
      s.tbs.gap = none →
      exec (.rasterGapEnd t) r = .next (s)) ∧
  -- ROW_COMPOSITION_DONE: for a row not in composition.
  (∀ (t row : Nat) (parity : List Nat) (r s : State),
      s = r.land t →
      s.rowWork row = none →
      exec (.rowCompositionDone t row parity) r = .next (s)) ∧
  -- COMPOSITION_LIMIT: for such a row.
  (∀ (t row : Nat) (late : LateRow) (r s : State),
      s = r.land t →
      s.rowWork row = none →
      exec (.compositionLimit t row late) r = .next (s)) ∧
  -- COMMIT: with a record not its task's.
  (∀ (t tun : Nat) (slice : Bytes) (spent : Bool) (trims floors : Nat) (k : Task) (r s : State),
      s = r.land t →
      (s.tun tun).task = some k →
      k.sends tun spent trims floors = false →
      exec (.commit t tun slice spent trims floors) r = .next (s)) ∧
  -- COMMIT: on a Tun without a task.
  (∀ (t tun : Nat) (slice : Bytes) (spent : Bool) (trims floors : Nat) (r s : State),
      s = r.land t →
      (s.tun tun).task = none →
      exec (.commit t tun slice spent trims floors) r = .next (s)) ∧
  -- YIELD_WATCHDOG: on such a Tun.
  (∀ (t tun : Nat) (r s : State),
      s = r.land t →
      (s.tun tun).task = none →
      exec (.yieldWatchdog t tun) r = .next (s)) ∧
  -- TUN_BIST_DONE: on a Tun that is not in BIST.
  (∀ (t tun phase : Nat) (r s : State),
      s = r.land t →
      (s.tun tun).bistFrom = none →
      exec (.tunBistDone t tun phase) r = .next (s)) ∧
  -- PATCH_SWITCH: without an agreed patch switch.
  (∀ (t : Nat) (r s : State),
      s = r.land t →
      s.tuns.switch = none →
      exec (.patchSwitch t) r = .next (s)) ∧
  -- POISON_REPORT: on a Tun without a task.
  (∀ (t tun : Nat) (r s : State),
      s = r.land t →
      (s.tun tun).task = none →
      exec (.poisonReport t tun) r = .next (s)) ∧
  -- SEGMENT_DEADLINE: for a segment late or with lines left.
  (∀ (t seg y : Nat) (r s : State),
      s = r.land t →
      (s.findSeg seg y fun g => decide (g.count ≤ 0) && !g.late) = none →
      exec (.segmentDeadline t seg y) r = .next (s)) ∧
  -- TUN_ROTATE: without a rotation armed.
  (∀ (t : Nat) (r s : State),
      s = r.land t →
      s.dsp.rotateAt = none →
      exec (.tunRotate t) r = .next (s)) ∧
  -- EFFORT_CHANGE: without an effort change pending.
  (∀ (t : Nat) (r s : State),
      s = r.land t →
      s.dsp.effortPending = [] →
      exec (.effortChange t) r = .next (s)) ∧
  -- HEARTBEAT_TX: in state OFF.
  (∀ (t : Nat) (r s : State),
      s = r.land t →
      s.twn.state = .off →
      exec (.heartbeatTx t) r = .next (s)) ∧
  -- TWIN_LINK_DOWN: on a link that is down.
  (∀ (t : Nat) (r s : State),
      s = r.land t →
      s.twn.linkUp = false →
      exec (.twinLinkDown t) r = .next (s)) ∧
  -- PAIRING_LISTEN_END: outside PAIRING.
  (∀ (t : Nat) (r s : State),
      s = r.land t →
      s.twn.state ≠ .pairing →
      exec (.pairingListenEnd t) r = .next (s)) ∧
  -- TAP_OFFER: without a packet offered.
  (∀ (t tap : Nat) (r s : State),
      s = r.land t →
      s.tap.offers.find? (fun q => q.1 == tap) = none →
      exec (.tapOffer t tap) r = .next (s)) ∧
  -- WINDOW_AGE: on an empty window.
  (∀ (t tap : Nat) (r s : State),
      s = r.land t →
      (s.tapAt tap).window = [] →
      exec (.windowAge t tap) r = .next (s)) ∧
  -- PACKET_DEPART: in SAFE.
  (∀ (t port : Nat) (r s : State),
      s = r.land t →
      s.cellar.safe = true →
      exec (.packetDepart t port) r = .next (s)) ∧
  -- QDR_SCRUB: on a channel out of service.
  (∀ (t channel result : Nat) (r s : State),
      s = r.land t →
      (s.qdr channel).state ≠ 1 →
      exec (.qdrScrub t channel result) r = .next (s)) ∧
  -- RETRAIN_PAUSE: without a pause armed.
  (∀ (t : Nat) (r s : State),
      s = r.land t →
      s.mem.armed = none →
      exec (.retrainPause t) r = .next (s)) ∧
  -- RETRAIN_DONE: without a pause.
  (∀ (t : Nat) (trained : Bool) (r s : State),
      s = r.land t →
      s.mem.pause = none →
      exec (.retrainDone t trained) r = .next (s)) ∧
  -- GRIST_TEST_DONE: on a bank that is not in test.
  (∀ (t bank : Nat) (passed : Bool) (r s : State),
      s = r.land t →
      s.bank bank ≠ .testing →
      exec (.gristTestDone t bank passed) r = .next (s)) ∧
  -- BURST_FAIL: with no burst in flight.
  (∀ (t channel : Nat) (timeout : Bool) (r s : State),
      s = r.land t →
      (s.spargeCh channel).flight = none →
      exec (.burstFail t channel timeout) r = .next (s)) ∧
  -- ALLOCATE_SPILL: with no request of the port there.
  (∀ (t port pool ecc : Nat) (r s : State),
      s = r.land t →
      (s.kegCompeting pool).any (fun q => q.port == port) = false →
      exec (.allocateSpill t port pool ecc) r = .next (s)) ∧
  -- POP: on an empty line.
  (∀ (t line ecc : Nat) (r s : State),
      s = r.land t →
      (s.wortLine line).msgs = [] →
      exec (.pop t line ecc) r = .next (s)) ∧
  -- FAULT_MESSAGE: with every fault line empty.
  (∀ (t : Nat) (damaged parity : Bool) (r s : State),
      s = r.land t →
      s.nextFaultLine = none →
      exec (.faultMessage t damaged parity) r = .next (s)) ∧
  -- SAFE_ENTRY: without a signal.
  (∀ (t : Nat) (r s : State),
      s = r.land t →
      s.cellar.safeSignal = none →
      exec (.safeEntry t) r = .next (s)) ∧
  -- LOG_WRITE: with every log line empty.
  (∀ (t : Nat) (r s : State),
      s = r.land t →
      s.nextLogLine = none →
      exec (.logWrite t) r = .next (s)) ∧
  -- IMAGE_CHECK_DONE: without an image in check.
  (∀ (t : Nat) (stored : Bool) (r s : State),
      s = r.land t →
      s.trust.checking = none →
      exec (.imageCheckDone t stored) r = .next (s)) ∧
  -- FIRMWARE_PATCH: without an accepted firmware patch.
  (∀ (t : Nat) (r s : State),
      s = r.land t →
      s.acceptedOf 2 = none →
      exec (.firmwarePatch t) r = .next (s)) ∧
  -- ROLLBACK_FUSE_BLOWN: without a fuse in blowing.
  (∀ (t : Nat) (r s : State),
      s = r.land t →
      s.trust.blowing = [] →
      exec (.rollbackFuseBlown t) r = .next (s)) ∧
  -- PWR_RESET_DELAY: without a reset requested.
  (∀ (t : Nat) (r s : State),
      s = r.land t →
      s.pwr.resetAt = none →
      exec (.pwrResetDelay t) r = .next (s)) ∧
  -- BROWNOUT: while the rail holds its level.
  (∀ (t rail mv : Nat) (r s : State),
      s = r.land t →
      brownoutLevel rail ≤ mv →
      exec (.brownout t rail mv) r = .next (s)) ∧
  -- ROM_BOOT_DONE: in another phase than 1.
  (∀ (t : Nat) (passed osc : Bool) (r s : State),
      s = r.land t →
      s.pwr.phase ≠ 1 →
      exec (.romBootDone t passed osc) r = .next (s)) ∧
  -- LANES_DONE: in phase 6 while the ports settle.
  (∀ (t : Nat) (r s : State),
      s = r.land t →
      s.pwr.phase = 6 →
      s.lanesSettled = false →
      s.now < s.pwr.phaseAt + 300000000 →
      exec (.lanesDone t) r = .next (s))

/-- An object command that its own rule refuses answers that rule's status and changes nothing else. -/
def Obligations.RuleRefusalsChangeNothing : Prop :=
  -- FLR_FILL: GREEN_LOCKED while the green set is locked.
  (∀ (t : Nat) (who : Path) (v : Nat) (r s : State),
      s = (r.land t).accessed who →
      s.writeRefusal who Obj.flrFill 0 (.num v) = none →
      s.greenLocked = true →
      exec (.flrFill t who v) r = .next (s.send (.answer who .greenLocked []))) ∧
  -- FLR_REGIONS: GREEN_LOCKED likewise.
  (∀ (t : Nat) (who : Path) (form : Bytes) (r s : State),
      s = (r.land t).accessed who →
      s.writeRefusal who Obj.flrRegions 0 (.bytes form) = none →
      s.greenLocked = true →
      exec (.flrRegions t who form) r = .next (s.send (.answer who .greenLocked []))) ∧
  -- SET_RACK: STATE on a RETIRED device.
  (∀ (t : Nat) (who : Path) (v : Nat) (r s : State),
      s = (r.land t).accessed who →
      s.writeRefusal who Obj.setRack 0 (.num v) = none →
      s.trust.lifecycle = 3 →
      exec (.setRack t who v) r = .next (s.send (.answer who .state []))) ∧
  -- SET_RACK: BUSY unless SET_RACK_STATE is IDLE.
  (∀ (t : Nat) (who : Path) (v : Nat) (r s : State),
      s = (r.land t).accessed who →
      s.writeRefusal who Obj.setRack 0 (.num v) = none →
      s.trust.lifecycle ≠ 3 →
      s.sets.rack.state ≠ .idle →
      exec (.setRack t who v) r = .next (s.send (.answer who .busy []))) ∧
  -- SET_RACK: STATE in SAFE.
  (∀ (t : Nat) (who : Path) (v : Nat) (r s : State),
      s = (r.land t).accessed who →
      s.writeRefusal who Obj.setRack 0 (.num v) = none →
      s.trust.lifecycle ≠ 3 →
      s.sets.rack.state = .idle →
      s.cellar.safe = true →
      exec (.setRack t who v) r = .next (s.send (.answer who .state []))) ∧
  -- SET_RACK_CANCEL: STATE for a rack in twin mode.
  (∀ (t : Nat) (who : Path) (v : Nat) (r s : State),
      s = (r.land t).accessed who →
      s.writeRefusal who Obj.setRackCancel 0 (.num v) = none →
      s.rackTwin = true →
      exec (.setRackCancel t who v) r = .next (s.send (.answer who .state []))) ∧
  -- SET_SAVE: BUSY while a save or load runs.
  (∀ (t : Nat) (who : Path) (v : Nat) (r s : State),
      s = (r.land t).accessed who →
      s.writeRefusal who Obj.setSave 0 (.num v) = none →
      s.slotBusy = true →
      exec (.setSave t who v) r = .next (s.send (.answer who .busy []))) ∧
  -- SET_LOAD: GREEN_LOCKED while the green set is locked.
  (∀ (t : Nat) (who : Path) (v : Nat) (r s : State),
      s = (r.land t).accessed who →
      s.writeRefusal who Obj.setLoad 0 (.num v) = none →
      s.greenLocked = true →
      exec (.setLoad t who v) r = .next (s.send (.answer who .greenLocked []))) ∧
  -- SET_LOAD: BUSY while a save or load runs.
  (∀ (t : Nat) (who : Path) (v : Nat) (r s : State),
      s = (r.land t).accessed who →
      s.writeRefusal who Obj.setLoad 0 (.num v) = none →
      s.greenLocked = false →
      s.slotBusy = true →
      exec (.setLoad t who v) r = .next (s.send (.answer who .busy []))) ∧
  -- SET_LOAD: NO_DATA for an empty slot.
  (∀ (t : Nat) (who : Path) (v : Nat) (r s : State),
      s = (r.land t).accessed who →
      s.writeRefusal who Obj.setLoad 0 (.num v) = none →
      s.greenLocked = false →
      s.slotBusy = false →
      (s.setSlot v).state = 0 →
      exec (.setLoad t who v) r = .next (s.send (.answer who .noData []))) ∧
  -- SET_SESSION_KILL: RANGE for a session that is not open.
  (∀ (t : Nat) (who : Path) (v : Nat) (r s : State),
      s = (r.land t).accessed who →
      s.writeRefusal who Obj.setSessionKill 0 (.num v) = none →
      s.session v = none →
      exec (.setSessionKill t who v) r = .next (s.send (.answer who .range []))) ∧
  -- TBS_TOD_SET: STATE while the source is PTP.
  (∀ (t : Nat) (who : Path) (time80 : Bytes) (r s : State),
      s = (r.land t).accessed who →
      s.writeRefusal who Obj.tbsTodSet 0 (.bytes time80) = none →
      s.tbsSource = 0 →
      exec (.tbsTodSet t who time80) r = .next (s.send (.answer who .state []))) ∧
  -- TBS_CAL_W0: RANGE for a line beyond the raster.
  (∀ (t : Nat) (who : Path) (row v : Nat) (r s : State),
      s = (r.land t).accessed who →
      s.writeRefusal who Obj.tbsCalW0 row (.num v) = none →
      s.tbs.raster.lt ≤ bits v 47 32 →
      exec (.tbsCalW0 t who row v) r = .next (s.send (.answer who .range []))) ∧
  -- TBS_CAL_W1: RANGE for another OWNER than 0x010.
  (∀ (t : Nat) (who : Path) (row v : Nat) (r s : State),
      s = (r.land t).accessed who →
      s.writeRefusal who Obj.tbsCalW1 row (.num v) = none →
      bits v 39 28 ≠ 0x010 →
      exec (.tbsCalW1 t who row v) r = .next (s.send (.answer who .range []))) ∧
  -- CMP_STILL_DESC: RANGE for a 4:2:0 odd width.
  (∀ (t : Nat) (who : Path) (row v : Nat) (r s : State),
      s = (r.land t).accessed who →
      s.writeRefusal who Obj.cmpStillDesc row (.num v) = none →
      bit v 1 = true →
      bits v 15 2 % 2 = 0 →
      exec (.cmpStillDesc t who row v) r = .next (s.send (.answer who .range []))) ∧
  -- TUN_SELFTEST: BUSY while the Tun is in BIST.
  (∀ (t : Nat) (who : Path) (v : Nat) (r s : State),
      s = (r.land t).accessed who →
      s.writeRefusal who Obj.tunSelftest 0 (.num v) = none →
      (s.tun v).state = .selftest →
      exec (.tunSelftest t who v) r = .next (s.send (.answer who .busy []))) ∧
  -- TUN_REINSTATE: STATE for a Tun that is neither FAILED nor RETIRED.
  (∀ (t : Nat) (who : Path) (v : Nat) (r s : State),
      s = (r.land t).accessed who →
      s.writeRefusal who Obj.tunReinstate 0 (.num v) = none →
      (s.tun v).state ≠ .failed →
      (s.tun v).state ≠ .retired →
      exec (.tunReinstate t who v) r = .next (s.send (.answer who .state []))) ∧
  -- TUN_PATCH_IMAGE: STATE on a RETIRED device.
  (∀ (t : Nat) (who : Path) (image : Bytes) (r s : State),
      s = (r.land t).accessed who →
      s.writeRefusal who Obj.tunPatchImage 0 (.bytes image) = none →
      s.trust.lifecycle = 3 →
      exec (.tunPatchImage t who image) r = .next (s.send (.answer who .state []))) ∧
  -- TUN_PATCH_IMAGE: BUSY while an image is in check.
  (∀ (t : Nat) (who : Path) (image : Bytes) (r s : State),
      s = (r.land t).accessed who →
      s.writeRefusal who Obj.tunPatchImage 0 (.bytes image) = none →
      s.trust.lifecycle ≠ 3 →
      s.verifierBusy = true →
      exec (.tunPatchImage t who image) r = .next (s.send (.answer who .busy []))) ∧
  -- TUN_PATCH_APPLY: BUSY while a switch is scheduled.
  (∀ (t : Nat) (who : Path) (v : Nat) (r s : State),
      s = (r.land t).accessed who →
      s.writeRefusal who Obj.tunPatchApply 0 (.num v) = none →
      s.switchBusy = true →
      exec (.tunPatchApply t who v) r = .next (s.send (.answer who .busy []))) ∧
  -- TUN_PATCH_APPLY: NO_DATA without a staged patch.
  (∀ (t : Nat) (who : Path) (v : Nat) (r s : State),
      s = (r.land t).accessed who →
      s.writeRefusal who Obj.tunPatchApply 0 (.num v) = none →
      s.switchBusy = false →
      s.tuns.staged = none →
      exec (.tunPatchApply t who v) r = .next (s.send (.answer who .noData []))) ∧
  -- TUN_PATCH_REMOVE: BUSY while a switch is scheduled.
  (∀ (t : Nat) (who : Path) (v : Nat) (r s : State),
      s = (r.land t).accessed who →
      s.writeRefusal who Obj.tunPatchRemove 0 (.num v) = none →
      s.switchBusy = true →
      exec (.tunPatchRemove t who v) r = .next (s.send (.answer who .busy []))) ∧
  -- RAK_NUDGE: STATE for an entry that is no enabled receiver, or on a silenced device.
  (∀ (t : Nat) (who : Path) (v : Nat) (r s : State),
      s = (r.land t).accessed who →
      s.writeRefusal who Obj.rakNudge 0 (.num v) = none →
      v ≤ 4094 →
      s.silenced = true ∨ s.sets.bright.isReceiver v = false →
      exec (.rakNudge t who v) r = .next (s.send (.answer who .state []))) ∧
  -- PRBS_START: BUSY_DEFERRED for a lane of an enabled port.
  (∀ (t : Nat) (who : Path) (lane : Nat) (r s : State),
      s = (r.land t).accessed who →
      s.writeRefusal who Obj.lnkLanePrbs lane (.num 1) = none →
      (s.portOfLane lane).isSome = true →
      exec (.prbsStart t who lane) r = .next (s.send (.answer who .busyDeferred []))) ∧
  -- MEM_GR_SELFTEST: BUSY while a bank is in test.
  (∀ (t : Nat) (who : Path) (v : Nat) (r s : State),
      s = (r.land t).accessed who →
      s.writeRefusal who Obj.memGrSelftest 0 (.num v) = none →
      ((List.range 32).any fun b => s.bank b == .draining || s.bank b == .testing) = true →
      exec (.memGrSelftest t who v) r = .next (s.send (.answer who .busy []))) ∧
  -- SPG_DIAG_DESC: RANGE outside the diagnostic window.
  (∀ (t : Nat) (who : Path) (data : Bytes) (r s : State),
      s = (r.land t).accessed who →
      s.writeRefusal who Obj.spgDiagDesc 0 (.bytes data) = none →
      reservedWords (wordsOf data) = false →
      (spargeSource (wordsOf data)).inWindow = false →
      exec (.spgDiagDesc t who data) r = .next (s.send (.answer who .range []))) ∧
  -- SPG_DIAG_DESC: BUSY while channel 31 runs.
  (∀ (t : Nat) (who : Path) (data : Bytes) (r s : State),
      s = (r.land t).accessed who →
      s.writeRefusal who Obj.spgDiagDesc 0 (.bytes data) = none →
      reservedWords (wordsOf data) = false →
      (spargeSource (wordsOf data)).inWindow = true →
      (spargeDest (wordsOf data)).inWindow = true →
      (s.spargeCh 31).isFree = false →
      exec (.spgDiagDesc t who data) r = .next (s.send (.answer who .busy []))) ∧
  -- WRT_FLUSH_SET: STATE for a credit-mode line.
  (∀ (t : Nat) (who : Path) (line : Nat) (r s : State),
      s = (r.land t).accessed who →
      s.writeRefusal who Obj.wrtFlush line (.num 1) = none →
      wortDropMode line = false →
      exec (.wrtFlushSet t who line) r = .next (s.send (.answer who .state []))) ∧
  -- WRT_FLUSH_CLEAR: STATE for such a line.
  (∀ (t : Nat) (who : Path) (line : Nat) (r s : State),
      s = (r.land t).accessed who →
      s.writeRefusal who Obj.wrtFlush line (.num 0) = none →
      wortDropMode line = false →
      exec (.wrtFlushClear t who line) r = .next (s.send (.answer who .state []))) ∧
  -- INJECT_COLLECT: STATE outside MANUFACTURE.
  (∀ (t : Nat) (who : Path) (data : Bytes) (r s : State),
      s = (r.land t).accessed who →
      s.writeRefusal who Obj.cwtInject 0 (.bytes (data ++ [0])) = none →
      (FaultMsg.ofBytes (data ++ [0])).reserved = 0 →
      FaultMsg.valid { FaultMsg.ofBytes (data ++ [0]) with inj := true } = true →
      fieldBE (data ++ [0]) 12 1 = 0 →
      s.trust.lifecycle ≠ 1 →
      exec (.injectCollect t who data) r = .next (s.send (.answer who .state []))) ∧
  -- FORCE_TASTER_MISMATCH: STATE outside MANUFACTURE and DEPLOYED.
  (∀ (t : Nat) (who : Path) (target : Nat) (r s : State),
      s = (r.land t).accessed who →
      s.writeRefusal who Obj.cwtForce 0 (.num ((3 + 256 * target : Nat) : Int)) = none →
      target < 48 →
      s.trust.lifecycle ≠ 1 →
      s.trust.lifecycle ≠ 2 →
      exec (.forceTasterMismatch t who target) r = .next (s.send (.answer who .state []))) ∧
  -- FORCE_TASTER_MISMATCH: BUSY while a force is armed.
  (∀ (t : Nat) (who : Path) (target : Nat) (r s : State),
      s = (r.land t).accessed who →
      s.writeRefusal who Obj.cwtForce 0 (.num ((3 + 256 * target : Nat) : Int)) = none →
      target < 48 →
      s.trust.lifecycle = 1 ∨ s.trust.lifecycle = 2 →
      s.cellar.force.isSome = true →
      exec (.forceTasterMismatch t who target) r = .next (s.send (.answer who .busy []))) ∧
  -- FORCE_TASTER_MISMATCH: RANGE for a target beyond the lanes.
  (∀ (t : Nat) (who : Path) (target : Nat) (r s : State),
      s = (r.land t).accessed who →
      s.writeRefusal who Obj.cwtForce 0 (.num ((3 + 256 * target : Nat) : Int)) = none →
      48 ≤ target →
      target < 256 →
      exec (.forceTasterMismatch t who target) r = .next (s.send (.answer who .range []))) ∧
  -- SEC_IMAGE: STATE on a RETIRED device.
  (∀ (t : Nat) (who : Path) (image : Bytes) (r s : State),
      s = (r.land t).accessed who →
      s.writeRefusal who Obj.secImage 0 (.bytes image) = none →
      s.trust.lifecycle = 3 →
      exec (.secImage t who image) r = .next (s.send (.answer who .state []))) ∧
  -- SEC_IMAGE: BUSY while an image is in check.
  (∀ (t : Nat) (who : Path) (image : Bytes) (r s : State),
      s = (r.land t).accessed who →
      s.writeRefusal who Obj.secImage 0 (.bytes image) = none →
      s.trust.lifecycle ≠ 3 →
      s.verifierBusy = true →
      exec (.secImage t who image) r = .next (s.send (.answer who .busy []))) ∧
  -- SEC_LIFECYCLE_ADVANCE: STATE without an identity.
  (∀ (t : Nat) (who : Path) (v : Nat) (r s : State),
      s = (r.land t).accessed who →
      s.writeRefusal who Obj.secLifecycleAdvance 0 (.num v) = none →
      s.trust.identity = none →
      exec (.secLifecycleAdvance t who v) r = .next (s.send (.answer who .state []))) ∧
  -- SEC_RETIRE: RANGE for another value than the serial number.
  (∀ (t : Nat) (who : Path) (v : Nat) (r s : State),
      s = (r.land t).accessed who →
      s.writeRefusal who Obj.secRetire 0 (.num v) = none →
      v ≠ Config.serial →
      exec (.secRetire t who v) r = .next (s.send (.answer who .range []))) ∧
  -- SEC_ROLLBACK_COMMIT: NO_DATA for a counter without an image in force.
  (∀ (t : Nat) (who : Path) (v : Nat) (r s : State),
      s = (r.land t).accessed who →
      s.writeRefusal who Obj.secRollbackCommit 0 (.num v) = none →
      2 ≤ v →
      exec (.secRollbackCommit t who v) r = .next (s.send (.answer who .noData []))) ∧
  -- SEC_KEY_INSTALL: RESERVED for a reserved field that is not 0.
  (∀ (t : Nat) (who : Path) (seq : Nat) (data : Bytes) (r s : State),
      s = (r.land t).accessed who →
      s.writeRefusal who Obj.secKeyInstall 0 (.bytes data) = none →
      fieldBE data 2 2 ≠ 0 →
      exec (.secKeyInstall t who seq data) r = .next (s.send (.answer who .reserved []))) ∧
  -- SEC_KEY_INSTALL: RANGE for a slot or role beyond 3.
  (∀ (t : Nat) (who : Path) (seq : Nat) (data : Bytes) (r s : State),
      s = (r.land t).accessed who →
      s.writeRefusal who Obj.secKeyInstall 0 (.bytes data) = none →
      fieldBE data 2 2 = 0 →
      3 < fieldBE data 1 1 ∨ 3 < fieldBE data 0 1 →
      exec (.secKeyInstall t who seq data) r = .next (s.send (.answer who .range []))) ∧
  -- SEC_KEY_INSTALL: ROLE for a role above the session's own.
  (∀ (t : Nat) (who : Path) (seq : Nat) (data : Bytes) (z : Session) (r s : State),
      s = (r.land t).accessed who →
      s.writeRefusal who Obj.secKeyInstall 0 (.bytes data) = none →
      fieldBE data 2 2 = 0 →
      fieldBE data 1 1 ≤ 3 →
      fieldBE data 0 1 ≤ 3 →
      s.sessionOf who = some z →
      z.role.code < fieldBE data 0 1 →
      exec (.secKeyInstall t who seq data) r = .next (s.send (.answer who .role []))) ∧
  -- SEC_KEY_ERASE: STATE where no BREWER slot would be left.
  (∀ (t : Nat) (who : Path) (v : Nat) (r s : State),
      s = (r.land t).accessed who →
      s.writeRefusal who Obj.secKeyErase 0 (.num v) = none →
      bits v 15 8 = 2 →
      bits v 7 0 ≤ 3 →
      ((Table.erase s.trust.keys (8 + bits v 7 0)).any fun p => decide (8 ≤ p.1) && decide (p.1 < 12)) = false →
      exec (.secKeyErase t who v) r = .next (s.send (.answer who .state []))) ∧
  -- SEC_ATT_NONCE: STATE on a RETIRED device.
  (∀ (t : Nat) (who : Path) (data : Bytes) (r s : State),
      s = (r.land t).accessed who →
      s.writeRefusal who Obj.secAttNonce 0 (.bytes data) = none →
      s.trust.lifecycle = 3 →
      exec (.secAttNonce t who data) r = .next (s.send (.answer who .state []))) ∧
  -- PWR_RESET: RANGE for another value than the serial number.
  (∀ (t : Nat) (who : Path) (v : Nat) (r s : State),
      s = (r.land t).accessed who →
      s.writeRefusal who Obj.pwrReset 0 (.num v) = none →
      v ≠ Config.serial →
      exec (.pwrReset t who v) r = .next (s.send (.answer who .range [])))

/-- An access command that a check before the object's own rule refuses answers that status and has no effect. -/
def Obligations.RefusedAccessesChangeNothing : Prop :=
  -- FLR_FILL
  (∀ (t : Nat) (who : Path) (v : Nat) (r s : State) (st : Status),
      s = (r.land t).accessed who → s.writeRefusal who Obj.flrFill 0 (.num v) = some st →
      exec (.flrFill t who v) r = .next (s.send (.answer who st []))) ∧
  -- FLR_REGIONS
  (∀ (t : Nat) (who : Path) (form : Bytes) (r s : State) (st : Status),
      s = (r.land t).accessed who → s.writeRefusal who Obj.flrRegions 0 (.bytes form) = some st →
      exec (.flrRegions t who form) r = .next (s.send (.answer who st []))) ∧
  -- FLR_CHECK
  (∀ (t : Nat) (who : Path) (v : Nat) (r s : State) (st : Status),
      s = (r.land t).accessed who → s.writeRefusal who Obj.flrCheck 0 (.num v) = some st →
      exec (.flrCheck t who v) r = .next (s.send (.answer who st []))) ∧
  -- SET_RACK
  (∀ (t : Nat) (who : Path) (v : Nat) (r s : State) (st : Status),
      s = (r.land t).accessed who → s.writeRefusal who Obj.setRack 0 (.num v) = some st →
      exec (.setRack t who v) r = .next (s.send (.answer who st []))) ∧
  -- SET_RACK_CANCEL
  (∀ (t : Nat) (who : Path) (v : Nat) (r s : State) (st : Status),
      s = (r.land t).accessed who → s.writeRefusal who Obj.setRackCancel 0 (.num v) = some st →
      exec (.setRackCancel t who v) r = .next (s.send (.answer who st []))) ∧
  -- SET_DISCARD
  (∀ (t : Nat) (who : Path) (v : Nat) (r s : State) (st : Status),
      s = (r.land t).accessed who → s.writeRefusal who Obj.setDiscard 0 (.num v) = some st →
      exec (.setDiscard t who v) r = .next (s.send (.answer who st []))) ∧
  -- SET_VALIDATE
  (∀ (t : Nat) (who : Path) (v : Nat) (r s : State) (st : Status),
      s = (r.land t).accessed who → s.writeRefusal who Obj.setValidate 0 (.num v) = some st →
      exec (.setValidate t who v) r = .next (s.send (.answer who st []))) ∧
  -- SET_SAVE
  (∀ (t : Nat) (who : Path) (v : Nat) (r s : State) (st : Status),
      s = (r.land t).accessed who → s.writeRefusal who Obj.setSave 0 (.num v) = some st →
      exec (.setSave t who v) r = .next (s.send (.answer who st []))) ∧
  -- SET_LOAD
  (∀ (t : Nat) (who : Path) (v : Nat) (r s : State) (st : Status),
      s = (r.land t).accessed who → s.writeRefusal who Obj.setLoad 0 (.num v) = some st →
      exec (.setLoad t who v) r = .next (s.send (.answer who st []))) ∧
  -- SET_SESSION_KILL
  (∀ (t : Nat) (who : Path) (v : Nat) (r s : State) (st : Status),
      s = (r.land t).accessed who → s.writeRefusal who Obj.setSessionKill 0 (.num v) = some st →
      exec (.setSessionKill t who v) r = .next (s.send (.answer who st []))) ∧
  -- SET_STREL_PORT
  (∀ (t : Nat) (who : Path) (v : Nat) (r s : State) (st : Status),
      s = (r.land t).accessed who → s.writeRefusal who Obj.setStrelPort 0 (.num v) = some st →
      exec (.setStrelPort t who v) r = .next (s.send (.answer who st []))) ∧
  -- SET_CAN_NONCE
  (∀ (t : Nat) (who : Path) (r s : State) (st : Status),
      s = (r.land t).accessed who → s.accessRefusal who Obj.setCanNonce 0 false = some st →
      exec (.setCanNonce t who) r = .next (s.send (.answer who st []))) ∧
  -- SET_CAN_PROOF
  (∀ (t : Nat) (who : Path) (data : Bytes) (r s : State) (st : Status),
      s = (r.land t).accessed who → s.writeRefusal who Obj.setCanProof 0 (.bytes data) = some st →
      exec (.setCanProof t who data) r = .next (s.send (.answer who st []))) ∧
  -- SET_CAN_LOCK
  (∀ (t : Nat) (who : Path) (v : Nat) (r s : State) (st : Status),
      s = (r.land t).accessed who → s.writeRefusal who Obj.setCanLock 0 (.num v) = some st →
      exec (.setCanLock t who v) r = .next (s.send (.answer who st []))) ∧
  -- TBS_SOURCE
  (∀ (t : Nat) (who : Path) (v : Nat) (r s : State) (st : Status),
      s = (r.land t).accessed who → s.writeRefusal who Obj.tbsSource 0 (.num v) = some st →
      exec (.tbsSource t who v) r = .next (s.send (.answer who st []))) ∧
  -- TBS_TOD_SET
  (∀ (t : Nat) (who : Path) (time80 : Bytes) (r s : State) (st : Status),
      s = (r.land t).accessed who → s.writeRefusal who Obj.tbsTodSet 0 (.bytes time80) = some st →
      exec (.tbsTodSet t who time80) r = .next (s.send (.answer who st []))) ∧
  -- TBS_CAL_W0
  (∀ (t : Nat) (who : Path) (row v : Nat) (r s : State) (st : Status),
      s = (r.land t).accessed who → s.writeRefusal who Obj.tbsCalW0 row (.num v) = some st →
      exec (.tbsCalW0 t who row v) r = .next (s.send (.answer who st []))) ∧
  -- TBS_CAL_W1
  (∀ (t : Nat) (who : Path) (row v : Nat) (r s : State) (st : Status),
      s = (r.land t).accessed who → s.writeRefusal who Obj.tbsCalW1 row (.num v) = some st →
      exec (.tbsCalW1 t who row v) r = .next (s.send (.answer who st []))) ∧
  -- CMP_STILL_DESC
  (∀ (t : Nat) (who : Path) (row v : Nat) (r s : State) (st : Status),
      s = (r.land t).accessed who → s.writeRefusal who Obj.cmpStillDesc row (.num v) = some st →
      exec (.cmpStillDesc t who row v) r = .next (s.send (.answer who st []))) ∧
  -- CMP_STILL_DATA
  (∀ (t : Nat) (who : Path) (row : Nat) (data : Bytes) (r s : State) (st : Status),
      s = (r.land t).accessed who → s.writeRefusal who Obj.cmpStillData row (.bytes data) = some st →
      exec (.cmpStillData t who row data) r = .next (s.send (.answer who st []))) ∧
  -- TUN_SELFTEST
  (∀ (t : Nat) (who : Path) (v : Nat) (r s : State) (st : Status),
      s = (r.land t).accessed who → s.writeRefusal who Obj.tunSelftest 0 (.num v) = some st →
      exec (.tunSelftest t who v) r = .next (s.send (.answer who st []))) ∧
  -- TUN_REINSTATE
  (∀ (t : Nat) (who : Path) (v : Nat) (r s : State) (st : Status),
      s = (r.land t).accessed who → s.writeRefusal who Obj.tunReinstate 0 (.num v) = some st →
      exec (.tunReinstate t who v) r = .next (s.send (.answer who st []))) ∧
  -- TUN_PATCH_IMAGE
  (∀ (t : Nat) (who : Path) (image : Bytes) (r s : State) (st : Status),
      s = (r.land t).accessed who → s.writeRefusal who Obj.tunPatchImage 0 (.bytes image) = some st →
      exec (.tunPatchImage t who image) r = .next (s.send (.answer who st []))) ∧
  -- TUN_PATCH_APPLY
  (∀ (t : Nat) (who : Path) (v : Nat) (r s : State) (st : Status),
      s = (r.land t).accessed who → s.writeRefusal who Obj.tunPatchApply 0 (.num v) = some st →
      exec (.tunPatchApply t who v) r = .next (s.send (.answer who st []))) ∧
  -- TUN_PATCH_REMOVE
  (∀ (t : Nat) (who : Path) (v : Nat) (r s : State) (st : Status),
      s = (r.land t).accessed who → s.writeRefusal who Obj.tunPatchRemove 0 (.num v) = some st →
      exec (.tunPatchRemove t who v) r = .next (s.send (.answer who st []))) ∧
  -- DSP_EFFORT_CAP
  (∀ (t : Nat) (who : Path) (v : Nat) (r s : State) (st : Status),
      s = (r.land t).accessed who → s.writeRefusal who Obj.dspEffortCap 0 (.num v) = some st →
      exec (.dspEffortCap t who v) r = .next (s.send (.answer who st []))) ∧
  -- RAK_NUDGE
  (∀ (t : Nat) (who : Path) (v : Nat) (r s : State) (st : Status),
      s = (r.land t).accessed who → s.writeRefusal who Obj.rakNudge 0 (.num v) = some st →
      exec (.rakNudge t who v) r = .next (s.send (.answer who st []))) ∧
  -- TWN_SILENCE_SET
  (∀ (t : Nat) (who : Path) (r s : State) (st : Status),
      s = (r.land t).accessed who → s.writeRefusal who Obj.twnSilence 0 (.num 1) = some st →
      exec (.twnSilenceSet t who) r = .next (s.send (.answer who st []))) ∧
  -- TWN_SILENCE_CLEAR
  (∀ (t : Nat) (who : Path) (r s : State) (st : Status),
      s = (r.land t).accessed who → s.writeRefusal who Obj.twnSilence 0 (.num 0) = some st →
      exec (.twnSilenceClear t who) r = .next (s.send (.answer who st []))) ∧
  -- TWN_KEY
  (∀ (t : Nat) (who : Path) (seq : Nat) (data : Bytes) (r s : State) (st : Status),
      s = (r.land t).accessed who → s.writeRefusal who Obj.twnKey 0 (.bytes data) = some st →
      exec (.twnKey t who seq data) r = .next (s.send (.answer who st []))) ∧
  -- LNK_PORT_WRITE
  (∀ (t : Nat) (who : Path) (row word v : Nat) (r s : State) (st : Status),
      s = (r.land t).accessed who → s.writeRefusal who (lnkPortWord word) row (.num v) = some st →
      exec (.lnkPortWrite t who row word v) r = .next (s.send (.answer who st []))) ∧
  -- PRBS_STOP
  (∀ (t : Nat) (who : Path) (lane errors : Nat) (r s : State) (st : Status),
      s = (r.land t).accessed who → s.writeRefusal who Obj.lnkLanePrbs lane (.num 0) = some st →
      exec (.prbsStop t who lane errors) r = .next (s.send (.answer who st []))) ∧
  -- PRBS_START
  (∀ (t : Nat) (who : Path) (lane : Nat) (r s : State) (st : Status),
      s = (r.land t).accessed who → s.writeRefusal who Obj.lnkLanePrbs lane (.num 1) = some st →
      exec (.prbsStart t who lane) r = .next (s.send (.answer who st []))) ∧
  -- PRBS_LOOPBACK
  (∀ (t : Nat) (who : Path) (lane : Nat) (r s : State) (st : Status),
      s = (r.land t).accessed who → s.writeRefusal who Obj.lnkLanePrbs lane (.num 2) = some st →
      exec (.prbsLoopback t who lane) r = .next (s.send (.answer who st []))) ∧
  -- TAP_FLUSH
  (∀ (t : Nat) (who : Path) (row v : Nat) (r s : State) (st : Status),
      s = (r.land t).accessed who → s.writeRefusal who Obj.tapFlush row (.num v) = some st →
      exec (.tapFlush t who row v) r = .next (s.send (.answer who st []))) ∧
  -- MEM_RETRAIN
  (∀ (t : Nat) (who : Path) (v : Nat) (r s : State) (st : Status),
      s = (r.land t).accessed who → s.writeRefusal who Obj.memRetrain 0 (.num v) = some st →
      exec (.memRetrain t who v) r = .next (s.send (.answer who st []))) ∧
  -- MEM_ARB_PRIO
  (∀ (t : Nat) (who : Path) (row v : Nat) (r s : State) (st : Status),
      s = (r.land t).accessed who → s.writeRefusal who Obj.memArbPrio row (.num v) = some st →
      exec (.memArbPrio t who row v) r = .next (s.send (.answer who st []))) ∧
  -- MEM_GR_SELFTEST
  (∀ (t : Nat) (who : Path) (v : Nat) (r s : State) (st : Status),
      s = (r.land t).accessed who → s.writeRefusal who Obj.memGrSelftest 0 (.num v) = some st →
      exec (.memGrSelftest t who v) r = .next (s.send (.answer who st []))) ∧
  -- SPG_DIAG_DESC
  (∀ (t : Nat) (who : Path) (data : Bytes) (r s : State) (st : Status),
      s = (r.land t).accessed who → s.writeRefusal who Obj.spgDiagDesc 0 (.bytes data) = some st →
      exec (.spgDiagDesc t who data) r = .next (s.send (.answer who st []))) ∧
  -- WRT_FLUSH_SET
  (∀ (t : Nat) (who : Path) (line : Nat) (r s : State) (st : Status),
      s = (r.land t).accessed who → s.writeRefusal who Obj.wrtFlush line (.num 1) = some st →
      exec (.wrtFlushSet t who line) r = .next (s.send (.answer who st []))) ∧
  -- WRT_FLUSH_CLEAR
  (∀ (t : Nat) (who : Path) (line : Nat) (r s : State) (st : Status),
      s = (r.land t).accessed who → s.writeRefusal who Obj.wrtFlush line (.num 0) = some st →
      exec (.wrtFlushClear t who line) r = .next (s.send (.answer who st []))) ∧
  -- CWT_SAFE_ENTER
  (∀ (t : Nat) (who : Path) (v : Nat) (r s : State) (st : Status),
      s = (r.land t).accessed who → s.writeRefusal who Obj.cwtSafeEnter 0 (.num v) = some st →
      exec (.cwtSafeEnter t who v) r = .next (s.send (.answer who st []))) ∧
  -- CLEAR_REAL_LATCH
  (∀ (t : Nat) (who : Path) (r s : State) (st : Status),
      s = (r.land t).accessed who → s.writeRefusal who Obj.cwtClear 0 (.num 1) = some st →
      exec (.clearRealLatch t who) r = .next (s.send (.answer who st []))) ∧
  -- CLEAR_INJECTED_LATCH
  (∀ (t : Nat) (who : Path) (r s : State) (st : Status),
      s = (r.land t).accessed who → s.writeRefusal who Obj.cwtClear 0 (.num 2) = some st →
      exec (.clearInjectedLatch t who) r = .next (s.send (.answer who st []))) ∧
  -- ACK_CLASS
  (∀ (t : Nat) (who : Path) (cls : Nat) (r s : State) (st : Status),
      s = (r.land t).accessed who → s.writeRefusal who Obj.cwtAck 0 (.num ((2 ^ cls : Nat) : Int)) = some st →
      exec (.ackClass t who cls) r = .next (s.send (.answer who st []))) ∧
  -- ACK_COLLECTOR_SELF
  (∀ (t : Nat) (who : Path) (r s : State) (st : Status),
      s = (r.land t).accessed who → s.writeRefusal who Obj.cwtAck 0 (.num 128) = some st →
      exec (.ackCollectorSelf t who) r = .next (s.send (.answer who st []))) ∧
  -- INJECT_COLLECT
  (∀ (t : Nat) (who : Path) (data : Bytes) (r s : State) (st : Status),
      s = (r.land t).accessed who → s.writeRefusal who Obj.cwtInject 0 (.bytes (data ++ [0])) = some st →
      exec (.injectCollect t who data) r = .next (s.send (.answer who st []))) ∧
  -- INJECT_ACT
  (∀ (t : Nat) (who : Path) (data : Bytes) (r s : State) (st : Status),
      s = (r.land t).accessed who → s.writeRefusal who Obj.cwtInject 0 (.bytes (data ++ [1])) = some st →
      exec (.injectAct t who data) r = .next (s.send (.answer who st []))) ∧
  -- FORCE_TUN_FAULT
  (∀ (t : Nat) (who : Path) (target : Nat) (r s : State) (st : Status),
      s = (r.land t).accessed who → s.writeRefusal who Obj.cwtForce 0 (.num ((1 + 256 * target : Nat) : Int)) = some st →
      exec (.forceTunFault t who target) r = .next (s.send (.answer who st []))) ∧
  -- FORCE_LANE_LOSS
  (∀ (t : Nat) (who : Path) (target : Nat) (r s : State) (st : Status),
      s = (r.land t).accessed who → s.writeRefusal who Obj.cwtForce 0 (.num ((2 + 256 * target : Nat) : Int)) = some st →
      exec (.forceLaneLoss t who target) r = .next (s.send (.answer who st []))) ∧
  -- FORCE_TASTER_MISMATCH
  (∀ (t : Nat) (who : Path) (target : Nat) (r s : State) (st : Status),
      s = (r.land t).accessed who → s.writeRefusal who Obj.cwtForce 0 (.num ((3 + 256 * target : Nat) : Int)) = some st →
      exec (.forceTasterMismatch t who target) r = .next (s.send (.answer who st []))) ∧
  -- FORCE_TWIN_DIGEST
  (∀ (t : Nat) (who : Path) (r s : State) (st : Status),
      s = (r.land t).accessed who → s.writeRefusal who Obj.cwtForce 0 (.num ((4 + 256 * 0 : Nat) : Int)) = some st →
      exec (.forceTwinDigest t who) r = .next (s.send (.answer who st []))) ∧
  -- FORCE_DEADLINE_MISS
  (∀ (t : Nat) (who : Path) (r s : State) (st : Status),
      s = (r.land t).accessed who → s.writeRefusal who Obj.cwtForce 0 (.num ((5 + 256 * 0 : Nat) : Int)) = some st →
      exec (.forceDeadlineMiss t who) r = .next (s.send (.answer who st []))) ∧
  -- ICU_SRC
  (∀ (t : Nat) (who : Path) (row v : Nat) (r s : State) (st : Status),
      s = (r.land t).accessed who → s.writeRefusal who Obj.icuSrc row (.num v) = some st →
      exec (.icuSrc t who row v) r = .next (s.send (.answer who st []))) ∧
  -- ICU_EXT_CLAIM
  (∀ (t : Nat) (who : Path) (r s : State) (st : Status),
      s = (r.land t).accessed who → s.accessRefusal who Obj.icuExtClaim 0 false = some st →
      exec (.icuExtClaim t who) r = .next (s.send (.answer who st []))) ∧
  -- ICU_EXT_EOI
  (∀ (t : Nat) (who : Path) (v : Nat) (r s : State) (st : Status),
      s = (r.land t).accessed who → s.writeRefusal who Obj.icuExtEoi 0 (.num v) = some st →
      exec (.icuExtEoi t who v) r = .next (s.send (.answer who st []))) ∧
  -- ICU_EXT_MASK
  (∀ (t : Nat) (who : Path) (row v : Nat) (r s : State) (st : Status),
      s = (r.land t).accessed who → s.writeRefusal who Obj.icuExtMask row (.num v) = some st →
      exec (.icuExtMask t who row v) r = .next (s.send (.answer who st []))) ∧
  -- ICU_EXT_STORM
  (∀ (t : Nat) (who : Path) (row v : Nat) (r s : State) (st : Status),
      s = (r.land t).accessed who → s.writeRefusal who Obj.icuExtStorm row (.num v) = some st →
      exec (.icuExtStorm t who row v) r = .next (s.send (.answer who st []))) ∧
  -- LOG_MARK
  (∀ (t : Nat) (who : Path) (v : Nat) (r s : State) (st : Status),
      s = (r.land t).accessed who → s.writeRefusal who Obj.logMark 0 (.num v) = some st →
      exec (.logMark t who v) r = .next (s.send (.answer who st []))) ∧
  -- SEC_IMAGE
  (∀ (t : Nat) (who : Path) (image : Bytes) (r s : State) (st : Status),
      s = (r.land t).accessed who → s.writeRefusal who Obj.secImage 0 (.bytes image) = some st →
      exec (.secImage t who image) r = .next (s.send (.answer who st []))) ∧
  -- SEC_LIFECYCLE_ADVANCE
  (∀ (t : Nat) (who : Path) (v : Nat) (r s : State) (st : Status),
      s = (r.land t).accessed who → s.writeRefusal who Obj.secLifecycleAdvance 0 (.num v) = some st →
      exec (.secLifecycleAdvance t who v) r = .next (s.send (.answer who st []))) ∧
  -- SEC_RETIRE
  (∀ (t : Nat) (who : Path) (v : Nat) (r s : State) (st : Status),
      s = (r.land t).accessed who → s.writeRefusal who Obj.secRetire 0 (.num v) = some st →
      exec (.secRetire t who v) r = .next (s.send (.answer who st []))) ∧
  -- SEC_ROLLBACK_COMMIT
  (∀ (t : Nat) (who : Path) (v : Nat) (r s : State) (st : Status),
      s = (r.land t).accessed who → s.writeRefusal who Obj.secRollbackCommit 0 (.num v) = some st →
      exec (.secRollbackCommit t who v) r = .next (s.send (.answer who st []))) ∧
  -- SEC_KEY_INSTALL
  (∀ (t : Nat) (who : Path) (seq : Nat) (data : Bytes) (r s : State) (st : Status),
      s = (r.land t).accessed who → s.writeRefusal who Obj.secKeyInstall 0 (.bytes data) = some st →
      exec (.secKeyInstall t who seq data) r = .next (s.send (.answer who st []))) ∧
  -- SEC_KEY_ERASE
  (∀ (t : Nat) (who : Path) (v : Nat) (r s : State) (st : Status),
      s = (r.land t).accessed who → s.writeRefusal who Obj.secKeyErase 0 (.num v) = some st →
      exec (.secKeyErase t who v) r = .next (s.send (.answer who st []))) ∧
  -- SEC_FW_PATCH_REMOVE
  (∀ (t : Nat) (who : Path) (v : Nat) (r s : State) (st : Status),
      s = (r.land t).accessed who → s.writeRefusal who Obj.secFwPatchRemove 0 (.num v) = some st →
      exec (.secFwPatchRemove t who v) r = .next (s.send (.answer who st []))) ∧
  -- SEC_ATT_NONCE
  (∀ (t : Nat) (who : Path) (data : Bytes) (r s : State) (st : Status),
      s = (r.land t).accessed who → s.writeRefusal who Obj.secAttNonce 0 (.bytes data) = some st →
      exec (.secAttNonce t who data) r = .next (s.send (.answer who st []))) ∧
  -- SEC_ATT_REPORT
  (∀ (t : Nat) (who : Path) (offset : Nat) (r s : State) (st : Status),
      s = (r.land t).accessed who → s.accessRefusal who Obj.secAttReport 0 false = some st →
      exec (.secAttReport t who offset) r = .next (s.send (.answer who st []))) ∧
  -- PWR_RESET
  (∀ (t : Nat) (who : Path) (v : Nat) (r s : State) (st : Status),
      s = (r.land t).accessed who → s.writeRefusal who Obj.pwrReset 0 (.num v) = some st →
      exec (.pwrReset t who v) r = .next (s.send (.answer who st [])))

/-- A step is the front command's effect on the state with the queue's rest; an empty queue idles. -/
def Obligations.StepServesTheFrontCommand : Prop :=
  ∀ s : State, (∀ c rest, s.pending = c :: rest → step s = exec c { s with pending := rest }) ∧
    (s.pending = [] → step s = .next s)

/-- What reset leaves: every bright RG object at its default, no rack, no session, SAFE and the latches clear, canonical memories. -/
def Obligations.ResetLeavesTheStatedState : Prop :=
  State.reset.memoriesWf = true ∧ State.reset.pending = [] ∧
    (∀ (o : Obj) (row : Nat), Store.read State.reset.sets.bright.objs o row = rowDefault o row) ∧
    (∀ (o : Obj) (row : Nat), Store.read State.reset.sets.green.objs o row = rowDefault o row) ∧
    State.reset.sets.rack.state = .idle ∧ State.reset.tbs.state = .free ∧ State.reset.twn.state = .off ∧
    State.reset.strel.sessions = [] ∧ State.reset.can.role = .viewer ∧ State.reset.cellar.safe = false ∧
    State.reset.cellar.realLatch.held = none ∧ State.reset.cellar.injLatch.held = none ∧ State.reset.pwr.phase = 1

/-- The roles are ordered VIEWER, OPERATOR, BREWER, VENDOR, and an access is refused with ROLE exactly below the minimum role. -/
def Obligations.SufficientRoleIsNeverRefused : Prop :=
  (Role.viewer.code < Role.operator.code ∧ Role.operator.code < Role.brewer.code ∧ Role.brewer.code < Role.vendor.code) ∧
    (∀ (s : State) (who : Path) (o : Obj) (row : Nat) (writing : Bool) (q : Role), s.roleOf who = some q →
      o.role.code ≤ q.code → s.accessRefusal who o row writing ≠ some .role) ∧
    ∀ (s : State) (who : Path) (o : Obj) (row : Nat) (writing : Bool) (q : Role), s.roleOf who = some q →
      q.code < o.role.code → (if writing then o.access.writable && !rowFixed o row else o.access.readable) = true →
      s.accessRefusal who o row writing = some .role

/-- SET_DISCARD copies every bright value into the green set, and is refused with GREEN_LOCKED unless SET_RACK_STATE is IDLE. -/
def Obligations.DiscardCopiesTheBrightSet : Prop :=
  ∀ (t : Nat) (who : Path) (v : Nat) (r s : State), s = (r.land t).accessed who →
    s.writeRefusal who Obj.setDiscard 0 (.num v) = none →
    (s.sets.rack.state = .idle → ∃ u : State, exec (.setDiscard t who v) r = .next (u.send (.answer who .ok [])) ∧
      u.sets.green = s.sets.bright ∧ u.sets.bright = s.sets.bright) ∧
    (s.sets.rack.state ≠ .idle → exec (.setDiscard t who v) r = .next (s.send (.answer who .greenLocked [])))

/-- SEC_KEY_ERASE empties its slot, is refused where no BREWER slot would stay occupied, and closes no session. -/
def Obligations.KeyEraseKeepsABrewerAndEverySession : Prop :=
  (∀ (t : Nat) (who : Path) (v : Nat) (r s : State), s = (r.land t).accessed who →
    s.writeRefusal who Obj.secKeyErase 0 (.num v) = none → bits v 15 8 ≤ 3 → bits v 7 0 ≤ 3 →
    (bits v 15 8 = 2 → (∀ p ∈ Table.erase s.trust.keys (8 + bits v 7 0), ¬ (8 ≤ p.1 ∧ p.1 < 12)) →
      exec (.secKeyErase t who v) r = .next (s.send (.answer who .state []))) ∧
    (bits v 15 8 ≤ 2 → (bits v 15 8 = 2 → ∃ p ∈ Table.erase s.trust.keys (8 + bits v 7 0), 8 ≤ p.1 ∧ p.1 < 12) →
      ∃ u : State, exec (.secKeyErase t who v) r = .next u ∧ u.strel.sessions = s.strel.sessions ∧ u.trust.vendor = s.trust.vendor ∧
        u.trust.keys = Table.erase s.trust.keys (4 * bits v 15 8 + bits v 7 0)) ∧
    (bits v 15 8 = 3 → ∃ u : State, exec (.secKeyErase t who v) r = .next u ∧ u.strel.sessions = s.strel.sessions ∧
      u.trust.keys = s.trust.keys ∧ u.trust.vendor = Table.erase s.trust.vendor (bits v 7 0))) ∧
  ∀ (t : Nat) (who : Path) (seq : Nat) (data : Bytes) (r s : State), s = (r.land t).accessed who →
    ∃ u : State, exec (.secKeyInstall t who seq data) r = .next u ∧ u.strel.sessions = s.strel.sessions

/-- A working-memory address maps to the channel and word of R325, and qdrAddress is its inverse. -/
def Obligations.WorkingMemoryMapsLineByLine : Prop :=
  (∀ w : Nat, w ≤ 0x17FFFFFF →
    qdrPlace w = ((w >>> 6) % 12, (w >>> 6) / 12 * 8 + ((w >>> 3) &&& 7)) ∧
    qdrAddress (qdrPlace w).1 (qdrPlace w).2 = w - w % 8) ∧
  ∀ c word i : Nat, c < 12 → i < 8 →
    qdrPlace (qdrAddress c word + i) = (c, word) ∧ (qdrPlace (qdrAddress c word + i + 64)).1 = (c + 1) % 12 ∧
    ∀ a, a / 64 = (qdrAddress c word + i) / 64 → (qdrPlace a).1 = c

/-- The Keg finds the lowest free buffer of a pool, and finds none only where every buffer is in use or withdrawn. -/
def Obligations.KegGrantsTheLowestFreeBuffer : Prop :=
  (∀ (s : State) (pool x : Nat), s.kegFirstFree pool = some x →
    x < s.kegCount pool ∧ s.kegUses (kegHandle pool x) = 0 ∧ s.kegWithdrawn (kegHandle pool x) = false ∧
    ∀ y < x, s.kegUses (kegHandle pool y) ≠ 0 ∨ s.kegWithdrawn (kegHandle pool y) = true) ∧
  (∀ (s : State) (pool : Nat), s.kegFirstFree pool = none →
    ∀ y < s.kegCount pool, s.kegUses (kegHandle pool y) ≠ 0 ∨ s.kegWithdrawn (kegHandle pool y) = true) ∧
  ∀ (t port size : Nat) (spill : Bool) (r s : State) (pool x : Nat), s = r.land t → 0 < size → kegFirstPool size = some pool →
    (∀ p, s.kegCompeting p = []) → s.kegFirstFree pool = some x → ∃ u : State,
      exec (.allocate t port size spill ⟨0, []⟩) r = .next (u.send (.handle port (kegHandle pool x))) ∧ u.kegUses (kegHandle pool x) = 1

/-- PUSH keeps every Wort line within its depth, and a credit-mode line never loses a word. -/
def Obligations.PushKeepsEveryLineWithinItsDepth : Prop :=
  (∀ (t line : Nat) (words : List Nat) (r u : State), exec (.push t line words) r = .next u → ∀ m : Nat,
    ((r.land t).wortLine m).fill ≤ wortDepth m → (u.wortLine m).fill ≤ wortDepth m) ∧
  ∀ (t line : Nat) (words : List Nat) (r s : State), s = r.land t → line < 128 → 1 ≤ words.length → words.length ≤ 8 →
    wortDropMode line = false → ∃ u : State, exec (.push t line words) r = .next u ∧
      (u.wortLine line).msgs ++ (u.wortLine line).waiting = (s.wortLine line).msgs ++ (s.wortLine line).waiting ++
        [{ words := words.map (· % 2 ^ 64), marker := false, bad := false }]

/-- At ceil(S(n, L)) the raster reads line L of aligned frame n, and one nanosecond earlier it does not yet. -/
def Obligations.LineInstantsReadBack : Prop :=
  ∀ (q : Raster) (n l : Nat), 0 < q.num → 0 < q.den → q.num * q.lt ≤ q.den * giga → l < q.lt →
    q.index (q.lineStart n l) = n ∧ q.ctime (q.lineStart n l) = { frame := q.frameOf n, line := l } ∧
    ∀ t < q.lineStart n l, q.index t < n ∨ (q.index t = n ∧ (q.ctime t).line < l)

/-- A Sparge access is within one run, at most 256 bytes, and crosses no 256-byte boundary; the next one starts as well placed. -/
def Obligations.AccessesStayInTheirBlocks : Prop :=
  ∀ (d : SpargeSide) (p o a : Nat), 0 < d.run → o = p % d.run → a = (d.runStart (p / d.run)).toNat →
    (o < min d.run ((spaceBlock d.space - a % spaceBlock d.space) % spaceBlock d.space) ∨ (a + o) % spaceBlock d.space = 0) →
    1 ≤ d.accessLength p ∧ d.accessLength p ≤ 256 ∧ (a + o) % 256 + d.accessLength p ≤ 256 ∧ o + d.accessLength p ≤ d.run ∧
    (o + d.accessLength p = d.run ∨ (a + o + d.accessLength p) % spaceBlock d.space = 0)

/-- A burst that writes stores the next bytes of its funnel at its address, and no other byte of any memory changes. -/
def Obligations.BurstStoresWhereItAims : Prop :=
  ∀ (t : Nat) (asserted : List Nat) (r s : State) (c : Nat), s = r.land t →
    s.spargeChoose s.spargeReady = some c → ((s.spargeCh c).req = 0 ∨ asserted.contains (s.spargeCh c).req = true) →
    (s.spargeCh c).nextReads = false → (spargeDest (s.spargeCh c).words).space ≤ 4 →
    ∃ u : State, exec (.burstIssue t asserted) r = .next u ∧
      (let d := spargeDest (s.spargeCh c).words
       let a := d.at_ (s.spargeCh c).writePos
       let data := (s.spargeCh c).funnel.take (d.accessLength (s.spargeCh c).writePos)
       (∀ j, u.spaceByte d j = if a ≤ j ∧ j < a + data.length then data.getD (j - a) 0 else s.spaceByte d j) ∧
       (d.space ≠ 0 ∧ d.space ≠ 3 → u.workMem = s.workMem ∧ u.sets = s.sets ∧ u.brew = s.brew) ∧ (d.space ≠ 1 → u.storeMem = s.storeMem) ∧
       (d.space ≠ 2 → u.sramMem = s.sramMem) ∧ (d.space ≠ 4 → u.steepMem = s.steepMem))

/-- Every command in every state has a next state: none ends in a fault or a refusal of the model. -/
def Obligations.EveryCommandCompletes : Prop :=
  ∀ (c : Instr) (s : State), ∃ u : State, exec c s = .next u

/-- Every step takes exactly the front command from the queue and leaves the rest in its order. -/
def Obligations.CommandsAreServedInOrder : Prop :=
  ∀ (s : State) (c : Instr) (rest : List Instr), s.pending = c :: rest → ∃ u : State, step s = .next u ∧ u.pending = rest

/-- Only a rack, a gap end, SYNC and a reset change the bright objects; besides them only bursts its Floor Map; only bursts and a reset a byte memory. -/
def Obligations.OnlyNamedCommandsChangeTheBrightSetOrAMemory : Prop :=
  ∀ (c : Instr) (s u : State), exec c s = .next u →
    (c.racks = false → u.sets.bright.objs = s.sets.bright.objs) ∧
    (c.racks = false → c.stores = false → u.sets.bright = s.sets.bright) ∧ (c.stores = false → u.memories = s.memories)

/-- Every step keeps every byte memory in its canonical form. -/
def Obligations.MemoriesStayCanonical : Prop :=
  ∀ s : State, s.memoriesWf = true → ∃ u : State, step s = .next u ∧ u.memoriesWf = true

/-- No step moves the lifecycle backward, lowers an anti-rollback counter or restores a revoked vendor key entry. -/
def Obligations.FusesAreNeverUnblown : Prop :=
  ∀ s u : State, step s = .next u →
    s.trust.lifecycle ≤ u.trust.lifecycle ∧ (∀ k, k ∈ s.trust.revoked → k ∈ u.trust.revoked) ∧ ∀ k, s.counter k ≤ u.counter k
end

