-- ==== Sys2Proof/Laws/Stable.lean ====
section
/-! SUPPORT. What almost no operation touches: the queue, the byte memories, the bright set and the fuses. `State.stable`
collects them; each operation that leaves them alone has a lemma `…_stable` in the file of its module, and each meaning one
that says it answers a next state and leaves them alone. -/
set_option Elab.async false
namespace Sys2Proof.Machine

/-- The queue, the byte memories, the bright set, the lifecycle, the revoked entries and the anti-rollback counters. -/
def State.stable (s : State) : List Instr × Table Byte × Table Byte × Table Byte × Table Byte × CanvasSet × Nat × List Nat × Table Nat :=
  (s.pending, s.workMem, s.storeMem, s.sramMem, s.steepMem, s.sets.bright, s.trust.lifecycle, s.trust.revoked, s.trust.counters)

@[simp] theorem State.stable_mk (now) (out) (draws) (live) (staged) (workMem) (storeMem) (sramMem) (steepMem) (sets) (strel)
    (can) (tbs) (cmp) (coding) (tuns) (dsp) (rake) (asm) (sparge) (keg) (wort) (cellar) (icu) (brew) (links) (tap) (twn)
    (dec) (mem) (trust) (cask) (pwr) (pending) :
    State.stable (State.mk now out draws live staged workMem storeMem sramMem steepMem sets strel can tbs cmp coding tuns
        dsp rake asm sparge keg wort cellar icu brew links tap twn dec mem trust cask pwr pending) =
    (pending, workMem, storeMem, sramMem, steepMem, sets.bright, trust.lifecycle, trust.revoked, trust.counters) := rfl

@[simp] theorem State.stable_eta (s : State) :
    (s.pending, s.workMem, s.storeMem, s.sramMem, s.steepMem, s.sets.bright, s.trust.lifecycle, s.trust.revoked, s.trust.counters)
      = s.stable := rfl

@[simp] theorem foldl_stable {α : Type} (f : State → α → State) (l : List α) (s : State)
    (h : ∀ (y0 : State) (y1 : α), (f y0 y1).stable = y0.stable) : (l.foldl f s).stable = s.stable := by
  induction l generalizing s with
  | nil => rfl
  | cons a l ih => simp [ih, h]

end Sys2Proof.Machine
end

