-- ==== Sys2Proof/Laws/StableOps.lean ====
section
/-! SUPPORT. The operations of `Machine/Ops.lean` that leave the queue, the byte memories, the bright set and the fuses alone. -/
set_option Elab.async false
namespace Sys2Proof.Machine

@[simp] theorem State.setWort_stable (s : State) (line : Nat) (l : WortLine) :
    (State.setWort s line l).stable = s.stable := by
  unfold State.setWort
  simp only [State.stable_mk, State.stable_eta]

@[simp] theorem State.pushCredit_stable (s : State) (line : Nat) (words : List Nat) :
    (State.pushCredit s line words).stable = s.stable := by
  unfold State.pushCredit
  dsimp only
  (repeat' split) <;> simp only [State.setWort_stable]

@[simp] theorem State.putValue_stable (s : State) (o : Obj) (row : Nat) (v : Value) :
    (State.putValue s o row v).stable = s.stable := by
  unfold State.putValue
  simp only [State.stable_mk, State.stable_eta]

@[simp] theorem State.put_stable (s : State) (o : Obj) (row : Nat) (v : Int) :
    (State.put s o row v).stable = s.stable := by
  unfold State.put
  simp only [State.putValue_stable]

@[simp] theorem State.count_stable (s : State) (o : Obj) (row : Nat) (n : Nat) :
    (State.count s o row n).stable = s.stable := by
  unfold State.count
  simp only [State.put_stable]

@[simp] theorem State.reportMsg_stable (s : State) (m : FaultMsg) :
    (State.reportMsg s m).stable = s.stable := by
  unfold State.reportMsg
  dsimp only
  (repeat' split) <;> simp only [State.stable_mk, State.stable_eta, State.pushCredit_stable]

@[simp] theorem State.report_stable (s : State) (source : Nat) (k : Kind) (address detail : Nat) :
    (State.report s source k address detail).stable = s.stable := by
  unfold State.report
  simp only [State.reportMsg_stable]

@[simp] theorem State.pushDrop_stable (s : State) (line : Nat) (words : List Nat) :
    (State.pushDrop s line words).stable = s.stable := by
  unfold State.pushDrop
  dsimp only
  (repeat' split) <;> simp only [State.count_stable, State.report_stable,
      State.setWort_stable]

@[simp] theorem State.push_stable (s : State) (line : Nat) (words : List Nat) :
    (State.push s line words).stable = s.stable := by
  unfold State.push
  split <;> simp only [State.pushCredit_stable, State.pushDrop_stable]

@[simp] theorem State.brewRec_stable (s : State) (source event args : Nat) :
    (State.brewRec s source event args).stable = s.stable := by
  unfold State.brewRec
  simp only [State.push_stable]

@[simp] theorem State.send_stable (s : State) (o : Out) :
    (State.send s o).stable = s.stable := by
  unfold State.send
  split <;> simp only [State.stable_mk, State.stable_eta]

@[simp] theorem State.txFrame_stable (s : State) (n : Nat) : (State.txFrame s n).stable = s.stable := by
  unfold State.txFrame
  split <;> simp only [State.count_stable]

@[simp] theorem State.sendOwn_stable (s : State) (n : Nat) (proto : String) (fields : List Nat) (src : Nat) (dst : Option (Bool × Nat)) :
    (State.sendOwn s n proto fields src dst).stable = s.stable := by
  unfold State.sendOwn
  simp only [State.txFrame_stable, State.send_stable]

@[simp] theorem State.strelOut_stable (s : State) (p : Peer) (opcode flags status session seq : Nat) (payload mac : Bytes) :
    (State.strelOut s p opcode flags status session seq payload mac).stable = s.stable := by
  unfold State.strelOut
  simp only [State.txFrame_stable, State.send_stable]

@[simp] theorem State.strelSend_stable (s : State) (z : Session) (opcode flags status seq : Nat) (payload : Bytes) :
    (State.strelSend s z opcode flags status seq payload).stable = s.stable := by
  unfold State.strelSend
  simp only [State.strelOut_stable]

@[simp] theorem State.notice_stable (s : State) (cls : Nat) (body : Bytes) :
    (State.notice s cls body).stable = s.stable := by
  unfold State.notice
  apply foldl_stable
  intro y0 y1
  (try dsimp only)
  (repeat' split) <;> simp

@[simp] theorem State.changeRack_stable (s : State) (f : Rack → Rack) :
    (State.changeRack s f).stable = s.stable := by
  unfold State.changeRack
  dsimp only
  (repeat' split) <;> simp only [State.stable_mk, State.stable_eta, State.brewRec_stable, State.notice_stable]

@[simp] theorem State.armRotation_stable (s : State) :
    (State.armRotation s).stable = s.stable := by
  unfold State.armRotation
  simp only [State.stable_mk, State.stable_eta]

@[simp] theorem State.endStartup_stable (s : State) :
    (State.endStartup s).stable = s.stable := by
  unfold State.endStartup
  simp only [State.stable_mk, State.stable_eta, State.armRotation_stable]

@[simp] theorem State.rackEnded_stable (s : State) :
    (State.rackEnded s).stable = s.stable := by
  unfold State.rackEnded
  split <;> simp only [State.endStartup_stable]

@[simp] theorem State.endRack_stable (s : State) (res : RackResult) :
    (State.endRack s res).stable = s.stable := by
  unfold State.endRack
  split <;> simp only [State.stable_mk, State.stable_eta, State.changeRack_stable, State.put_stable, State.rackEnded_stable]

@[simp] theorem State.when_stable (b : Bool) (f : State → State) (s : State) (h_f : ∀ (y0 : State), (f y0).stable = y0.stable) :
    (State.when b f s).stable = s.stable := by
  unfold State.when
  (repeat' split) <;> simp_all

@[simp] theorem State.forceActed_stable (s : State) :
    (State.forceActed s).stable = s.stable := by
  unfold State.forceActed
  simp only [State.stable_mk, State.stable_eta, State.put_stable]

@[simp] theorem State.reportAs_stable (s : State) (inj : Bool) (source : Nat) (k : Kind) (address detail : Nat) :
    (State.reportAs s inj source k address detail).stable = s.stable := by
  unfold State.reportAs
  simp only [State.reportMsg_stable]

@[simp] theorem State.land_stable (t : Nat) (s : State) :
    (State.land t s).stable = s.stable := by
  unfold State.land
  simp only [State.stable_mk, State.stable_eta]

@[simp] theorem State.setSession_stable (s : State) (z : Session) :
    (State.setSession s z).stable = s.stable := by
  unfold State.setSession
  simp only [State.stable_mk, State.stable_eta]

@[simp] theorem State.accessed_stable (s : State) (x0 : Path) :
    (State.accessed s x0).stable = s.stable := by
  unfold State.accessed
  dsimp only
  (repeat' split) <;> simp only [State.stable_mk, State.stable_eta, State.setSession_stable]

@[simp] theorem State.keep_stable (s : State) (o : Obj) (row : Nat) (v : Value) :
    (State.keep s o row v).stable = s.stable := by
  unfold State.keep
  simp only [State.stable_mk, State.stable_eta]

theorem objectCommand_stable (t : Nat) (who : Path) (o : Obj) (row : Nat) (v : Value) (eff : State → Effect) (s : State)
    (h_eff : ∀ (y0 : State), (eff y0).1.stable = y0.stable) :
    ∃ u, objectCommand t who o row v eff s = .next u ∧ u.stable = s.stable := by
  unfold objectCommand
  dsimp only
  split
  · exact ⟨_, rfl, by simp⟩
  · refine ⟨_, rfl, ?_⟩
    split <;> simp [h_eff]

@[simp] theorem State.drawn_stable (s : State) :
    (State.drawn s).stable = s.stable := by
  unfold State.drawn
  simp only [State.stable_mk, State.stable_eta]

@[simp] theorem State.checkTouched_stable (s : State) :
    (State.checkTouched s).stable = s.stable := by
  unfold State.checkTouched
  simp only [State.stable_mk, State.stable_eta]

@[simp] theorem State.greenTouched_stable (s : State) :
    (State.greenTouched s).stable = s.stable := by
  unfold State.greenTouched
  simp only [State.stable_mk, State.stable_eta]

@[simp] theorem State.stage_stable (s : State) (o : Obj) (row : Nat) (v : Value) :
    (State.stage s o row v).stable = s.stable := by
  unfold State.stage
  simp only [State.stable_mk, State.stable_eta]

end Sys2Proof.Machine
end

