-- ==== Sys2Proof/Laws/StablePorts.lean ====
section
/-! SUPPORT. The operations of `Machine/Ports.lean` that leave the queue, the byte memories, the bright set and the fuses alone. -/
set_option Elab.async false
namespace Sys2Proof.Machine

@[simp] theorem State.setPort_stable (s : State) (n : Nat) (p : Port) :
    (State.setPort s n p).stable = s.stable := by
  unfold State.setPort
  simp only [State.stable_mk, State.stable_eta]

end Sys2Proof.Machine
end

