-- ==== Sys2Proof/Laws/StableKegs.lean ====
section
/-! SUPPORT. The operations of `Machine/Kegs.lean` that leave the queue, the byte memories, the bright set and the fuses alone. -/
set_option Elab.async false
namespace Sys2Proof.Machine

@[simp] theorem State.kegWithdraw_stable (s : State) (h : Nat) :
    (State.kegWithdraw s h).stable = s.stable := by
  unfold State.kegWithdraw
  split <;> simp only [State.stable_mk, State.stable_eta, State.count_stable, State.report_stable]

@[simp] theorem State.kegChecked_stable (s : State) (port h ecc : Nat) (f : State → State) (h_f : ∀ (y0 : State), (f
    y0).stable = y0.stable) :
    (State.kegChecked s port h ecc f).stable = s.stable := by
  unfold State.kegChecked
  (try dsimp only)
  (repeat' split) <;> simp_all

@[simp] theorem State.kegSetUses_stable (s : State) (h n : Nat) :
    (State.kegSetUses s h n).stable = s.stable := by
  unfold State.kegSetUses
  simp only [State.stable_mk, State.stable_eta]

@[simp] theorem State.kegFree_stable (s : State) (port h : Nat) (ecc : Nat) :
    (State.kegFree s port h ecc).stable = s.stable := by
  unfold State.kegFree
  simp

@[simp] theorem State.kegFreeAll_stable (s : State) (port : Nat) (hs : List Nat) :
    (State.kegFreeAll s port hs).stable = s.stable := by
  unfold State.kegFreeAll
  simp

@[simp] theorem State.kegTake_stable (s : State) (port h : Nat) (ecc : Nat) :
    (State.kegTake s port h ecc).stable = s.stable := by
  unfold State.kegTake
  apply State.kegChecked_stable
  intro y0; split <;> simp

theorem execFreeKeg_stable (t port handle ecc : Nat) (s : State) :
    ∃ u, execFreeKeg t port handle ecc s = .next u ∧ u.stable = s.stable := by
  exact ⟨_, rfl, by simp only [State.kegFree_stable, State.land_stable]⟩

theorem execTake_stable (t port handle ecc : Nat) (s : State) :
    ∃ u, execTake t port handle ecc s = .next u ∧ u.stable = s.stable := by
  exact ⟨_, rfl, by simp only [State.kegTake_stable, State.land_stable]⟩

end Sys2Proof.Machine
end

