-- ==== Sys2Proof/Laws/StableKegAlloc.lean ====
section
/-! SUPPORT. The operations of `Machine/KegAlloc.lean` that leave the queue, the byte memories, the bright set and the fuses alone. -/
set_option Elab.async false
namespace Sys2Proof.Machine

@[simp] theorem State.setTap_stable (s : State) (p : Nat) (x : Tap) :
    (State.setTap s p x).stable = s.stable := by
  unfold State.setTap
  simp only [State.stable_mk, State.stable_eta]

@[simp] theorem State.windowRelease_stable (s : State) (p : Nat) :
    (State.windowRelease s p).stable = s.stable := by
  unfold State.windowRelease
  split <;> simp only [State.kegFreeAll_stable, State.setTap_stable]

@[simp] theorem shed_stable  (x0 : Nat) (s : State) :
    (shed x0 s).stable = s.stable := by
  induction x0 generalizing s with
  | zero => rfl
  | succ n ih =>
    unfold shed
    (repeat' split) <;> first | rfl | simp [ih]

@[simp] theorem State.kegDry_stable (s : State) (pool : Nat) :
    (State.kegDry s pool).stable = s.stable := by
  unfold State.kegDry
  dsimp only
  (repeat' split) <;> simp only [State.stable_mk, State.stable_eta, State.count_stable, State.report_stable, shed_stable]

@[simp] theorem State.kegTry_stable (s : State) (port pool : Nat) (spilled : Bool) (ecc : Nat) :
    (State.kegTry s port pool spilled ecc).1.stable = s.stable := by
  unfold State.kegTry
  dsimp only
  (repeat' split) <;> simp

@[simp] theorem kegSpill_stable (port : Nat) (x0 : Nat) (x1 : Nat) (x2 : Bool) (s : State) :
    (kegSpill port x0 x1 x2 s).1.stable = s.stable := by
  induction x0 generalizing x1 x2 s with
  | zero => rfl
  | succ n ih =>
    unfold kegSpill
    have h := State.kegTry_stable s port x1 x2 0
    split <;> rename_i e <;> rw [e] at h
    · exact h
    · split
      · rw [ih]; exact h
      · exact h

@[simp] theorem State.kegAlloc_stable (s : State) (port size : Nat) :
    (State.kegAlloc s port size).1.stable = s.stable := by
  unfold State.kegAlloc
  split <;> simp only [kegSpill_stable]

@[simp] theorem State.kegAnswer_stable (s : State) (r : KegReq) (x0 : Option Nat) :
    (State.kegAnswer s r x0).stable = s.stable := by
  unfold State.kegAnswer
  dsimp only
  (repeat' split) <;> simp only [State.stable_mk, State.stable_eta, State.send_stable]

@[simp] theorem State.kegLoser_stable (s : State) (r : KegReq) :
    (State.kegLoser s r).stable = s.stable := by
  unfold State.kegLoser
  simp only [State.stable_mk, State.stable_eta, State.kegAnswer_stable, State.kegDry_stable]

@[simp] theorem State.kegServe_stable (s : State) (pool ecc : Nat) :
    (State.kegServe s pool ecc).stable = s.stable := by
  unfold State.kegServe
  dsimp only
  (repeat' split) <;> simp

@[simp] theorem State.kegAsk_stable (s : State) (port size : Nat) (spill : Bool) :
    (State.kegAsk s port size spill).stable = s.stable := by
  unfold State.kegAsk
  split <;> simp only [State.stable_mk, State.stable_eta]

theorem execAllocate_stable (t port size : Nat) (spill : Bool) (cycle : KegCycle) (s : State) :
    ∃ u, execAllocate t port size spill cycle s = .next u ∧ u.stable = s.stable := by
  unfold execAllocate
  (try dsimp only)
  refine ⟨_, rfl, ?_⟩
  simp

theorem execAllocateSpill_stable (t port pool ecc : Nat) (s : State) :
    ∃ u, execAllocateSpill t port pool ecc s = .next u ∧ u.stable = s.stable := by
  unfold execAllocateSpill
  dsimp only
  (repeat' split) <;> refine ⟨_, rfl, ?_⟩ <;> simp only [State.kegServe_stable,
      State.land_stable]

end Sys2Proof.Machine
end

