-- ==== Sys2Proof/Laws/StableTaproom.lean ====
section
/-! SUPPORT. The operations of `Machine/Taproom.lean` that leave the queue, the byte memories, the bright set and the fuses alone. -/
set_option Elab.async false
namespace Sys2Proof.Machine

@[simp] theorem State.setSched_stable (s : State) (n : Nat) (z : PortSched) :
    (State.setSched s n z).stable = s.stable := by
  unfold State.setSched
  simp only [State.stable_mk, State.stable_eta]

@[simp] theorem State.becomeEligible_stable (s : State) (p path cls : Nat) :
    (State.becomeEligible s p path cls).stable = s.stable := by
  unfold State.becomeEligible
  dsimp only
  (repeat' split) <;> simp only [State.count_stable, State.setSched_stable,
      State.setTap_stable]

@[simp] theorem State.rehomeRef_stable (p key ref : Nat) (s : State) :
    (State.rehomeRef p key ref s).stable = s.stable := by
  unfold State.rehomeRef
  apply foldl_stable
  intro y0 y1
  (repeat' split) <;> simp

@[simp] theorem State.rehome_stable (s : State) (p : Nat) :
    (State.rehome s p).stable = s.stable := by
  unfold State.rehome
  simp

@[simp] theorem State.countOctets_stable (s : State) (p es : Nat) (l : List Nat) :
    (State.countOctets s p es l).stable = s.stable := by
  unfold State.countOctets
  simp only [State.setTap_stable]

@[simp] theorem State.restartCounts_stable (s : State) (p : Nat) : (State.restartCounts s p).stable = s.stable := by
  unfold State.restartCounts
  simp only [State.setTap_stable]

@[simp] theorem State.descriptorWritten_stable (s : State) (p cls : Nat) :
    (State.descriptorWritten s p cls).stable = s.stable := by
  unfold State.descriptorWritten
  dsimp only
  split <;> simp only [State.stable_mk, State.stable_eta]

@[simp] theorem State.descriptorRoom_stable (s : State) (p cls : Nat) :
    (State.descriptorRoom s p cls).1.stable = s.stable := by
  unfold State.descriptorRoom
  dsimp only
  split
  · simp
  · have h := State.kegAlloc_stable s 2 1024
    split <;> rename_i e <;> rw [e] at h
    · exact h
    · rw [← h]; simp

@[simp] theorem State.placeHead_stable (s : State) (p path cls : Nat) :
    (State.placeHead s p path cls).stable = s.stable := by
  unfold State.placeHead
  dsimp only
  (repeat' split) <;> simp only [State.stable_mk, State.stable_eta, State.becomeEligible_stable]

@[simp] theorem State.placeNew_stable (s : State) (p cls : Nat) (paths : List Nat) :
    (State.placeNew s p cls paths).stable = s.stable := by
  unfold State.placeNew
  apply foldl_stable
  intro y0 y1
  (try dsimp only)
  (repeat' split) <;> simp

@[simp] theorem State.queueAppend_stable (s : State) (p cls : Nat) (x : TapPkt) :
    (State.queueAppend s p cls x).stable = s.stable := by
  unfold State.queueAppend
  simp only [State.setTap_stable]

@[simp] theorem State.tapFault_stable (s : State) (p frame : Nat) (k : Kind) (detail : Nat) :
    (State.tapFault s p frame k detail).stable = s.stable := by
  unfold State.tapFault
  dsimp only
  (repeat' split) <;> simp only [State.report_stable, State.setTap_stable]

@[simp] theorem State.descriptorRelease_stable (s : State) (p cls : Nat) (x : TapPkt) :
    (State.descriptorRelease s p cls x).stable = s.stable := by
  unfold State.descriptorRelease
  dsimp only
  (repeat' split) <;> simp only [State.kegFreeAll_stable, State.setTap_stable]

@[simp] theorem State.tapMirror_stable (s : State) (p : Nat) (x : TapPkt) :
    (State.tapMirror s p x).stable = s.stable := by
  unfold State.tapMirror
  split
  · rfl
  · have h := State.descriptorRoom_stable s p 3
    split <;> rename_i e <;> rw [e] at h
    · exact h
    · rw [← h]; simp

@[simp] theorem State.dropReport_stable (s : State) (p frame cause : Nat) :
    (State.dropReport s p frame cause).stable = s.stable := by
  unfold State.dropReport
  simp only [State.count_stable, State.setTap_stable, State.tapFault_stable]

@[simp] theorem State.markerQueue_stable (s : State) (p : Nat) (x : TapPkt) :
    (State.markerQueue s p x).stable = s.stable := by
  unfold State.markerQueue
  simp only [State.placeNew_stable, State.queueAppend_stable, State.setTap_stable, State.tapMirror_stable]

@[simp] theorem State.tapMarker_stable (s : State) (p : Nat) (x : TapPkt) (cause idGm : Nat) :
    (State.tapMarker s p x cause idGm).stable = s.stable := by
  unfold State.tapMarker
  simp only [State.count_stable, State.markerQueue_stable]

@[simp] theorem State.tapDrop_stable (s : State) (p : Nat) (x : TapPkt) (cause : Nat) :
    (State.tapDrop s p x cause).stable = s.stable := by
  unfold State.tapDrop
  dsimp only
  (repeat' split) <;> simp only [State.kegFreeAll_stable, State.setTap_stable, State.dropReport_stable, State.tapMarker_stable]

@[simp] theorem State.tapTake_stable (s : State) (p : Nat) (x : TapPkt) :
    (State.tapTake s p x).stable = s.stable := by
  unfold State.tapTake
  have h := State.descriptorRoom_stable s p 0
  split <;> rename_i e <;> rw [e] at h
  · rw [← h]; simp
  · rw [← h]; simp

@[simp] theorem State.tapChain_stable (s : State) (p : Nat) (x : Pkt) (x0 : List Nat) :
    (State.tapChain s p x x0).1.stable = s.stable := by
  induction x0 generalizing s with
  | nil => rfl
  | cons a l ih => unfold State.tapChain; dsimp only; rw [ih]; simp

@[simp] theorem State.tapAccept_stable (s : State) (p : Nat) (x : Pkt) (full : Bool) :
    (State.tapAccept s p x full).stable = s.stable := by
  unfold State.tapAccept
  dsimp only
  (repeat' split) <;> simp only [State.count_stable, State.kegFreeAll_stable,
      State.tapChain_stable, State.tapDrop_stable, State.markerQueue_stable, State.tapTake_stable]

theorem execTapOffer_stable (t tap : Nat) (s : State) :
    ∃ u, execTapOffer t tap s = .next u ∧ u.stable = s.stable := by
  unfold execTapOffer
  dsimp only
  (repeat' split) <;> refine ⟨_, rfl, ?_⟩ <;> simp only [State.stable_mk, State.stable_eta, State.land_stable,
      State.tapAccept_stable]

theorem execWheelSlot_stable (t : Nat) (s : State) :
    ∃ u, execWheelSlot t s = .next u ∧ u.stable = s.stable := by
  unfold execWheelSlot
  (try dsimp only)
  refine ⟨_, rfl, ?_⟩
  simp

theorem execWheelScan_stable (t : Nat) (s : State) :
    ∃ u, execWheelScan t s = .next u ∧ u.stable = s.stable := by
  unfold execWheelScan
  dsimp only
  (repeat' split) <;> refine ⟨_, rfl, ?_⟩ <;> simp only [State.stable_mk, State.stable_eta, State.land_stable]

@[simp] theorem State.drr_stable (n key : Nat) (x0 : Nat) (s : State) :
    (State.drr n key x0 s).1.stable = s.stable := by
  induction x0 generalizing s with
  | zero => rfl
  | succ n ih =>
    unfold State.drr
    dsimp only
    (repeat' split) <;> first | rfl | (rw [ih]; simp)

@[simp] theorem State.refill_stable (s : State) (n : Nat) :
    (State.refill s n).stable = s.stable := by
  unfold State.refill
  simp only [State.setSched_stable]

@[simp] theorem State.hierChoose_stable (s : State) (n : Nat) (x0 : List Nat) :
    (State.hierChoose s n x0).1.stable = s.stable := by
  induction x0 with
  | nil => rfl
  | cons a l ih =>
    unfold State.hierChoose
    have h := State.drr_stable n a 65536 s
    generalize State.drr n a 65536 s = q at h
    obtain ⟨q1, q2⟩ := q
    cases q2 with
    | none => exact ih
    | some q2 =>
      dsimp only at h ⊢
      split
      · rw [← h]; simp
      · exact ih

@[simp] theorem State.portChoose_stable (s : State) (n : Nat) :
    (State.portChoose s n).1.stable = s.stable := by
  unfold State.portChoose
  split <;> simp only [State.drr_stable, State.hierChoose_stable, State.refill_stable]

@[simp] theorem windowTrim_stable (p win : Nat) (x0 : Nat) (s : State) :
    (windowTrim p win x0 s).stable = s.stable := by
  induction x0 generalizing s with
  | zero => rfl
  | succ n ih =>
    unfold windowTrim
    (repeat' split) <;> first | rfl | simp [ih]

@[simp] theorem State.retain_stable (s : State) (p : Nat) (x : TapPkt) :
    (State.retain s p x).stable = s.stable := by
  unfold State.retain
  simp only [State.setTap_stable, windowTrim_stable]

@[simp] theorem queueAdvance_stable (p cls : Nat) (x0 : Nat) (s : State) :
    (queueAdvance p cls x0 s).stable = s.stable := by
  induction x0 generalizing s with
  | zero => rfl
  | succ n ih =>
    unfold queueAdvance
    (try dsimp only)
    (repeat' split) <;> first | rfl | simp [ih]

@[simp] theorem State.passHead_stable (s : State) (p path cls : Nat) (sent : Bool) :
    (State.passHead s p path cls sent).stable = s.stable := by
  unfold State.passHead
  simp only [State.placeHead_stable, State.setTap_stable, queueAdvance_stable]

@[simp] theorem State.pacerSpend_stable (s : State) (p path : Nat) (h : TapPkt) :
    (State.pacerSpend s p path h).stable = s.stable := by
  unfold State.pacerSpend
  simp only [State.setTap_stable]

@[simp] theorem State.leaveIdle_stable (s : State) (n ref cls : Nat) : (State.leaveIdle s n ref cls).stable = s.stable := by
  unfold State.leaveIdle
  dsimp only
  (repeat' split) <;> first | rfl | simp only [State.setSched_stable]

@[simp] theorem State.discardHead_stable (s : State) (n ref cls : Nat) (h : TapPkt) :
    (State.discardHead s n ref cls h).stable = s.stable := by
  unfold State.discardHead
  simp only [State.leaveIdle_stable, State.passHead_stable, State.send_stable]

@[simp] theorem State.depart_stable (s : State) (n ref cls : Nat) (h : TapPkt) :
    (State.depart s n ref cls h).stable = s.stable := by
  unfold State.depart
  dsimp only
  (repeat' split) <;> simp only [State.count_stable, State.pacerSpend_stable, State.discardHead_stable, State.leaveIdle_stable,
      State.passHead_stable, State.send_stable, State.setSched_stable, State.txFrame_stable]

@[simp] theorem State.monitorShort_stable (s : State) (n : Nat) (h : TapPkt) :
    (State.monitorShort s n h).1.stable = s.stable := by
  have aux : ∀ (c : Prop) [Decidable c] (y : State) (z : PortSched), y.stable = s.stable →
      (if c then (y.setSched n z, false) else (y, true) : State × Bool).1.stable = s.stable := by
    intro c _ y z h
    split
    · rw [State.setSched_stable]; exact h
    · exact h
  exact aux _ _ _ (State.refill_stable s n)

@[simp] theorem State.choose_stable (s : State) (n ref cls : Nat) (h : TapPkt) : (State.choose s n ref cls h).stable = s.stable := by
  unfold State.choose
  simp only [State.setSched_stable]

@[simp] theorem State.portDecide_stable (s : State) (n : Nat) : (State.portDecide s n).stable = s.stable := by
  unfold State.portDecide
  have h1 := State.portChoose_stable s n
  split
  · rename_i u e
    rw [e] at h1
    exact (State.setSched_stable _ _ _).trans h1
  · rename_i u ref cls h e
    rw [e] at h1
    split
    · have h2 := State.monitorShort_stable u n h
      split <;> rename_i v e2 <;> rw [e2] at h2
      · exact (State.discardHead_stable _ _ _ _ _).trans (h2.trans h1)
      · exact (State.choose_stable _ _ _ _ _).trans (h2.trans h1)
    · exact (State.choose_stable _ _ _ _ _).trans h1

@[simp] theorem State.descriptorLost_stable (s : State) (p path cls : Nat) (h : TapPkt) :
    (State.descriptorLost s p path cls h).stable = s.stable := by
  have w : ∀ (b : Bool) (y : State), (y.when b fun z => z.count Obj.tapGapsSent).stable = y.stable := by
    intro b y; unfold State.when; split <;> simp only [State.count_stable]
  have sb : ∀ (y : State) (l : List Nat), State.stable { y with tap := { y.tap with badWords := l } } = y.stable := fun _ _ => rfl
  unfold State.descriptorLost
  dsimp only
  (repeat' split) <;>
    simp only [State.placeHead_stable, queueAdvance_stable, sb, State.setTap_stable, State.kegFreeAll_stable, w,
      State.dropReport_stable, State.tapFault_stable]

@[simp] theorem State.departChosen_stable (s : State) (n : Nat) : (State.departChosen s n).stable = s.stable := by
  unfold State.departChosen
  dsimp only
  (repeat' split) <;> simp only [State.leaveIdle_stable, State.descriptorLost_stable, State.depart_stable, State.setSched_stable]

theorem execPacketDepart_stable (t port : Nat) (s : State) :
    ∃ u, execPacketDepart t port s = .next u ∧ u.stable = s.stable := by
  unfold execPacketDepart
  dsimp only
  split
  · exact ⟨_, rfl, State.land_stable t s⟩
  · refine ⟨_, rfl, ?_⟩
    (repeat' split) <;> simp only [State.departChosen_stable, State.portDecide_stable, State.land_stable]

theorem execMonitorDiscard_stable (t port : Nat) (s : State) :
    ∃ u, execMonitorDiscard t port s = .next u ∧ u.stable = s.stable := by
  unfold execMonitorDiscard
  dsimp only
  split
  · exact ⟨_, rfl, State.land_stable t s⟩
  · refine ⟨_, rfl, ?_⟩
    rw [foldl_stable]
    · exact State.land_stable t s
    · intro y0 y1; (repeat' split) <;> simp

theorem execClassShaperRefill_stable (t port : Nat) (s : State) :
    ∃ u, execClassShaperRefill t port s = .next u ∧ u.stable = s.stable := by
  unfold execClassShaperRefill
  dsimp only
  (repeat' split) <;> refine ⟨_, rfl, ?_⟩ <;> simp only [State.land_stable, State.refill_stable, State.setSched_stable]

@[simp] theorem windowAge_stable (p : Nat) (x0 : Nat) (s : State) :
    (windowAge p x0 s).stable = s.stable := by
  induction x0 generalizing s with
  | zero => rfl
  | succ n ih =>
    unfold windowAge
    split
    · rfl
    · split
      · rw [ih, State.windowRelease_stable]
      · rfl

@[simp] theorem State.ageWindow_stable (s : State) (p : Nat) : (State.ageWindow s p).stable = s.stable := by
  unfold State.ageWindow
  split <;> simp only [windowAge_stable]

theorem execWindowAge_stable (t tap : Nat) (s : State) :
    ∃ u, execWindowAge t tap s = .next u ∧ u.stable = s.stable := by
  exact ⟨_, rfl, by simp only [State.land_stable, State.ageWindow_stable]⟩

@[simp] theorem State.flushQueue_stable (s : State) (p cls : Nat) :
    (State.flushQueue s p cls).stable = s.stable := by
  unfold State.flushQueue
  split <;> simp only [State.count_stable, State.kegFreeAll_stable, State.setTap_stable]

@[simp] theorem State.pathIdle_stable (s : State) (p path : Nat) : (State.pathIdle s p path).stable = s.stable := by
  unfold State.pathIdle
  simp only [State.stable_mk, State.stable_eta, State.setTap_stable]

@[simp] theorem tapFlush_stable (p v : Nat) (s : State) :
    (tapFlush p v s).1.stable = s.stable := by
  unfold tapFlush
  dsimp only
  (repeat' split) <;> simp

theorem execTapFlush_stable (t : Nat) (who : Path) (row v : Nat) (s : State) :
    ∃ u, execTapFlush t who row v s = .next u ∧ u.stable = s.stable := by
  exact objectCommand_stable _ _ _ _ _ _ _ (fun _ => by simp)

@[simp] theorem State.restartPacers_stable (s : State) :
    (State.restartPacers s).stable = s.stable := by
  unfold State.restartPacers
  simp only [State.stable_mk, State.stable_eta]

@[simp] theorem State.restartPacersAt_stable (s : State) (f : Nat) :
    (State.restartPacersAt s f).stable = s.stable := by
  unfold State.restartPacersAt
  simp only [State.stable_mk, State.stable_eta]

@[simp] theorem State.hierSwap_stable (s : State) (old new : CanvasSet) : (State.hierSwap s old new).stable = s.stable := by
  unfold State.hierSwap
  apply foldl_stable
  intro y0 y1
  dsimp only
  split
  · rfl
  · rw [foldl_stable]
    · simp
    · intro z0 z1
      apply foldl_stable
      intro w0 w1
      split <;> simp

end Sys2Proof.Machine
end

