-- ==== Sys2Proof/Laws/StableLinks.lean ====
section
/-! SUPPORT. The operations of `Machine/Links.lean` that leave the queue, the byte memories, the bright set and the fuses alone. -/
set_option Elab.async false
namespace Sys2Proof.Machine

@[simp] theorem State.groupFrame_stable (s : State) (m : Membership) (leave : Bool) :
    (State.groupFrame s m leave).stable = s.stable := by
  unfold State.groupFrame
  dsimp only
  (repeat' split) <;> simp only [State.sendOwn_stable]

@[simp] theorem State.groupReport_stable (s : State) (m : Membership) (leave : Bool) :
    (State.groupReport s m leave).stable = s.stable := by
  unfold State.groupReport
  simp only [State.stable_mk, State.stable_eta, State.groupFrame_stable]

@[simp] theorem State.joinGroups_stable (s : State) (want : List Membership) :
    (State.joinGroups s want).stable = s.stable := by
  unfold State.joinGroups
  simp

@[simp] theorem State.resolveSoon_stable (s : State) :
    (State.resolveSoon s).stable = s.stable := by
  unfold State.resolveSoon
  simp only [State.stable_mk, State.stable_eta]

@[simp] theorem State.leaveGroups_stable (s : State) (want : List Membership) :
    (State.leaveGroups s want).stable = s.stable := by
  unfold State.leaveGroups
  simp

@[simp] theorem State.moveGroups_stable (s : State) :
    (State.moveGroups s).stable = s.stable := by
  unfold State.moveGroups
  simp only [State.joinGroups_stable, State.leaveGroups_stable]

@[simp] theorem State.laneDown_stable (s : State) (n cause lane : Nat) (inj : Bool) :
    (State.laneDown s n cause lane inj).stable = s.stable := by
  unfold State.laneDown
  simp only [State.reportAs_stable]

@[simp] theorem State.portDown_stable (s : State) (n cause lane : Nat) (inj : Bool) :
    (State.portDown s n cause lane inj).stable = s.stable := by
  unfold State.portDown
  dsimp only
  (repeat' split) <;> simp only [State.count_stable, State.laneDown_stable,
      State.moveGroups_stable, State.rehome_stable, State.setPort_stable]

@[simp] theorem State.dadDuplicate_stable (s : State) (n : Nat) (global : Bool) :
    (State.dadDuplicate s n global).stable = s.stable := by
  unfold State.dadDuplicate
  simp only [State.brewRec_stable, State.put_stable, State.setPort_stable]

@[simp] theorem prbs_stable (lane v errors : Nat) (s : State) :
    (prbs lane v errors s).1.stable = s.stable := by
  unfold prbs
  dsimp only
  (repeat' split) <;> simp only [State.stable_mk, State.stable_eta, State.count_stable, State.put_stable]

theorem execPrbsStop_stable (t : Nat) (who : Path) (lane errors : Nat) (s : State) :
    ∃ u, execPrbsStop t who lane errors s = .next u ∧ u.stable = s.stable := by
  exact objectCommand_stable _ _ _ _ _ _ _ (fun _ => by simp)

theorem execPrbsStart_stable (t : Nat) (who : Path) (lane : Nat) (s : State) :
    ∃ u, execPrbsStart t who lane s = .next u ∧ u.stable = s.stable := by
  exact objectCommand_stable _ _ _ _ _ _ _ (fun _ => by simp)

theorem execPrbsLoopback_stable (t : Nat) (who : Path) (lane : Nat) (s : State) :
    ∃ u, execPrbsLoopback t who lane s = .next u ∧ u.stable = s.stable := by
  exact objectCommand_stable _ _ _ _ _ _ _ (fun _ => by simp)

theorem execUnsolicitedReportInterval_stable (t : Nat) (s : State) :
    ∃ u, execUnsolicitedReportInterval t s = .next u ∧ u.stable = s.stable := by
  unfold execUnsolicitedReportInterval
  (try dsimp only)
  refine ⟨_, rfl, ?_⟩
  simp

@[simp] theorem State.announce_stable (s : State) (n : Nat) :
    (State.announce s n).stable = s.stable := by
  unfold State.announce
  dsimp only
  (repeat' split) <;> simp only [State.sendOwn_stable, State.setPort_stable, State.put_stable]

theorem execDadTimerExpiry_stable (t port : Nat) (s : State) :
    ∃ u, execDadTimerExpiry t port s = .next u ∧ u.stable = s.stable := by
  unfold execDadTimerExpiry
  dsimp only
  (repeat' split) <;> refine ⟨_, rfl, ?_⟩ <;> simp only [State.land_stable,
      State.setPort_stable]

@[simp] theorem State.resolveHop_stable (s : State) (replies : List (Nat × Nat × Nat)) (n h : Nat) :
    (State.resolveHop s replies n h).stable = s.stable := by
  unfold State.resolveHop
  dsimp only
  (repeat' split) <;> first | rfl | simp only [State.stable_mk, State.stable_eta, State.sendOwn_stable]

theorem execNextHopResolve_stable (t : Nat) (replies : List (Nat × Nat × Nat)) (s : State) :
    ∃ u, execNextHopResolve t replies s = .next u ∧ u.stable = s.stable := by
  unfold execNextHopResolve
  dsimp only
  split
  · exact ⟨_, rfl, by simp⟩
  · refine ⟨_, rfl, ?_⟩
    rw [State.stable_mk]
    show State.stable (List.foldl _ _ _) = _
    rw [foldl_stable]
    · simp
    · intro y0 y1; simp

@[simp] theorem State.laneUntrain_stable (s : State) (n : Nat) : (State.laneUntrain s n).stable = s.stable := by
  unfold State.laneUntrain
  simp only [State.stable_mk, State.stable_eta]

@[simp] theorem State.laneTrain_stable (s : State) (n : Nat) : (State.laneTrain s n).stable = s.stable := by
  unfold State.laneTrain
  apply foldl_stable
  intro y0 y1
  dsimp only
  simp only [State.stable_mk, State.stable_eta, State.drawn_stable]

@[simp] theorem State.prbsStopAll_stable (s : State) : (State.prbsStopAll s).stable = s.stable := by
  unfold State.prbsStopAll
  simp

@[simp] theorem State.portStart_stable (s : State) (n : Nat) :
    (State.portStart s n).stable = s.stable := by
  unfold State.portStart
  dsimp only
  (repeat' split) <;> simp only [State.setPort_stable, State.laneUntrain_stable, State.send_stable]

theorem portEvent_stable (t port : Nat) (st : PortState) (f : State → State) (s : State) (h_f : ∀ (y0 : State), (f
    y0).stable = y0.stable) :
    ∃ u, portEvent t port st f s = .next u ∧ u.stable = s.stable := by
  unfold portEvent
  refine ⟨_, rfl, ?_⟩
  split <;> simp [h_f]

theorem execAnComplete_stable (t port : Nat) (partner : Option Nat) (s : State) :
    ∃ u, execAnComplete t port partner s = .next u ∧ u.stable = s.stable := by
  unfold execAnComplete
  apply portEvent_stable
  intro y0
  (repeat' split) <;> simp

theorem execTrainingDone_stable (t port : Nat) (failed : Option Nat) (s : State) :
    ∃ u, execTrainingDone t port failed s = .next u ∧ u.stable = s.stable := by
  unfold execTrainingDone
  apply portEvent_stable
  intro y0
  (repeat' split) <;> simp

theorem execAlignLock_stable (t port : Nat) (s : State) :
    ∃ u, execAlignLock t port s = .next u ∧ u.stable = s.stable := by
  unfold execAlignLock
  apply portEvent_stable
  intro y0
  simp

theorem execAlignTimeout_stable (t port : Nat) (why : AlignFailure) (s : State) :
    ∃ u, execAlignTimeout t port why s = .next u ∧ u.stable = s.stable := by
  unfold execAlignTimeout
  apply portEvent_stable
  intro y0
  (repeat' split) <;> simp

@[simp] theorem State.portUpNow_stable (s : State) (n : Nat) :
    (State.portUpNow s n).stable = s.stable := by
  unfold State.portUpNow
  dsimp only
  (repeat' split) <;> simp only [State.announce_stable, State.brewRec_stable,
      State.moveGroups_stable, State.rehome_stable, State.resolveSoon_stable, State.setPort_stable]

theorem execHoldExpiry_stable (t port : Nat) (s : State) :
    ∃ u, execHoldExpiry t port s = .next u ∧ u.stable = s.stable := by
  unfold execHoldExpiry
  apply portEvent_stable
  intro y0
  (repeat' split) <;> simp

theorem execPortFault_stable (t port cause lane : Nat) (s : State) :
    ∃ u, execPortFault t port cause lane s = .next u ∧ u.stable = s.stable := by
  unfold execPortFault
  refine ⟨_, rfl, ?_⟩
  split <;> simp only [State.land_stable, State.portDown_stable]

theorem execPortRetry_stable (t port : Nat) (s : State) :
    ∃ u, execPortRetry t port s = .next u ∧ u.stable = s.stable := by
  unfold execPortRetry
  apply portEvent_stable
  intro y0
  (repeat' split) <;> simp

theorem execFecWindow_stable (t port corrected received uncorrectable : Nat) (s : State) :
    ∃ u, execFecWindow t port corrected received uncorrectable s = .next u ∧ u.stable = s.stable := by
  unfold execFecWindow
  dsimp only
  (repeat' split) <;> refine ⟨_, rfl, ?_⟩ <;> simp only [State.count_stable,
      State.land_stable, State.report_stable, State.setPort_stable]

theorem execManagementLinkChange_stable (t speed : Nat) (s : State) :
    ∃ u, execManagementLinkChange t speed s = .next u ∧ u.stable = s.stable := by
  unfold execManagementLinkChange
  refine ⟨_, rfl, ?_⟩
  split <;> simp only [State.stable_mk, State.stable_eta, State.announce_stable, State.land_stable, State.put_stable]

end Sys2Proof.Machine
end

