-- ==== Sys2Proof/Laws/StableCalRows.lean ====
section
/-! SUPPORT. The operations of `Machine/CalRows.lean` that leave the queue, the byte memories, the bright set and the fuses alone. -/
set_option Elab.async false
namespace Sys2Proof.Machine

@[simp] theorem State.calTicked_stable (s : State) : (State.calTicked s).stable = s.stable := by
  unfold State.calTicked
  simp only [State.stable_mk, State.stable_eta]

end Sys2Proof.Machine
end

