-- ==== Sys2Proof/Laws/StableTwinCore.lean ====
section
/-! SUPPORT. The operations of `Machine/TwinCore.lean` that leave the queue, the byte memories, the bright set and the fuses alone. -/
set_option Elab.async false
namespace Sys2Proof.Machine

@[simp] theorem State.modTwin_stable (s : State) (f : Twin → Twin) :
    (State.modTwin s f).stable = s.stable := by
  unfold State.modTwin
  simp only [State.stable_mk, State.stable_eta]

@[simp] theorem State.twinSend_stable (s : State) (ty : Nat) (body : Bytes) :
    (State.twinSend s ty body).stable = s.stable := by
  unfold State.twinSend
  split <;> simp only [State.stable_mk, State.stable_eta, State.send_stable, State.txFrame_stable]

@[simp] theorem State.silence_stable (s : State) (cause rule frame seg y : Nat) :
    (State.silence s cause rule frame seg y).stable = s.stable := by
  unfold State.silence
  split <;> simp only [State.brewRec_stable, State.modTwin_stable, State.twinSend_stable]

@[simp] theorem State.silenceFault_stable (s : State) :
    (State.silenceFault s).stable = s.stable := by
  unfold State.silenceFault
  split <;> simp only [State.silence_stable]

end Sys2Proof.Machine
end

