-- ==== Sys2Proof/Laws/StableRake.lean ====
section
/-! SUPPORT. The operations of `Machine/Rake.lean` that leave the queue, the byte memories, the bright set and the fuses alone. -/
set_option Elab.async false
namespace Sys2Proof.Machine

@[simp] theorem State.propose_stable (s : State) (kind subj f arg : Nat) (digest stills : Bytes) :
    (State.propose s kind subj f arg digest stills).stable = s.stable := by
  unfold State.propose
  split <;> simp only [State.modTwin_stable, State.twinSend_stable]

@[simp] theorem State.unpropose_stable (s : State) (kind subj : Nat) :
    (State.unpropose s kind subj).stable = s.stable := by
  unfold State.unpropose
  simp only [State.modTwin_stable]

@[simp] theorem State.setNudge_stable (s : State) (e : Nat) (n : Nudge) :
    (State.setNudge s e n).stable = s.stable := by
  unfold State.setNudge
  simp only [State.stable_mk, State.stable_eta]

@[simp] theorem State.nudgeStart_stable (s : State) (e fn : Nat) (n : Nudge) (st : NudgeState) :
    (State.nudgeStart s e fn n st).stable = s.stable := by
  unfold State.nudgeStart
  dsimp only
  (repeat' split) <;> simp only [State.brewRec_stable, State.propose_stable,
      State.setNudge_stable]

@[simp] theorem State.nudgeRequest_stable (s : State) (e fr : Nat) :
    (State.nudgeRequest s e fr).stable = s.stable := by
  unfold State.nudgeRequest
  dsimp only
  (repeat' split) <;> simp only [State.count_stable, State.nudgeStart_stable]

@[simp] theorem State.nudgePicture_stable (s : State) (f p e : Nat) :
    (State.nudgePicture s f p e).stable = s.stable := by
  unfold State.nudgePicture
  dsimp only
  (repeat' split) <;> simp only [State.brewRec_stable, State.count_stable,
      State.setNudge_stable]

@[simp] theorem rakNudge_stable (v : Nat) (s : State) :
    (rakNudge v s).1.stable = s.stable := by
  unfold rakNudge
  (repeat' split) <;> simp only [State.nudgeRequest_stable]

theorem execRakNudge_stable (t : Nat) (who : Path) (v : Nat) (s : State) :
    ∃ u, execRakNudge t who v s = .next u ∧ u.stable = s.stable := by
  exact objectCommand_stable _ _ _ _ _ _ _ (fun _ => by simp)

theorem execRefreshNudge_stable (t seg : Nat) (s : State) :
    ∃ u, execRefreshNudge t seg s = .next u ∧ u.stable = s.stable := by
  unfold execRefreshNudge
  refine ⟨_, rfl, ?_⟩
  split <;> simp only [State.land_stable, State.setNudge_stable, State.calTicked_stable]

theorem execNudgeAgreeTimeout_stable (t seg : Nat) (s : State) :
    ∃ u, execNudgeAgreeTimeout t seg s = .next u ∧ u.stable = s.stable := by
  unfold execNudgeAgreeTimeout
  refine ⟨_, rfl, ?_⟩
  split <;> simp only [State.land_stable, State.nudgeStart_stable]

@[simp] theorem State.nudgeCommitted_stable (s : State) (f e : Nat) :
    (State.nudgeCommitted s f e).stable = s.stable := by
  unfold State.nudgeCommitted
  dsimp only
  (repeat' split) <;> simp only [State.setNudge_stable]

@[simp] theorem State.rakeMissed_stable (s : State) (e : Entry) (frame missed : Nat) :
    (State.rakeMissed s e frame missed).stable = s.stable := by
  unfold State.rakeMissed
  dsimp only
  (repeat' split) <;> simp only [State.stable_mk, State.stable_eta, State.brewRec_stable, State.count_stable,
      State.nudgeRequest_stable]

@[simp] theorem State.rakeRack_stable (s : State) (old new : CanvasSet) :
    (State.rakeRack s old new).stable = s.stable := by
  unfold State.rakeRack
  apply foldl_stable
  intro y0 y1
  (repeat' split) <;> simp

end Sys2Proof.Machine
end

