-- ==== Sys2Proof/Laws/StableCoded.lean ====
section
/-! SUPPORT. The operations of `Machine/Coded.lean` that leave the queue, the byte memories, the bright set and the fuses alone. -/
set_option Elab.async false
namespace Sys2Proof.Machine

@[simp] theorem State.setAsmStream_stable (s : State) (k : Nat) (x : AsmStream) :
    (State.setAsmStream s k x).stable = s.stable := by
  unfold State.setAsmStream
  simp only [State.stable_mk, State.stable_eta]

@[simp] theorem State.setStream_stable (s : State) (k : Nat) (x : StreamState) :
    (State.setStream s k x).stable = s.stable := by
  unfold State.setStream
  simp only [State.stable_mk, State.stable_eta]

@[simp] theorem State.restartEs_stable (s : State) (k f : Nat) :
    (State.restartEs s k f).stable = s.stable := by
  unfold State.restartEs
  simp only [State.setAsmStream_stable]

@[simp] theorem State.streamsRack_stable (s : State) (old new : CanvasSet) (f : Nat) :
    (State.streamsRack s old new f).stable = s.stable := by
  unfold State.streamsRack
  apply foldl_stable
  intro y0 y1
  (try dsimp only)
  (repeat' split) <;> simp

end Sys2Proof.Machine
end

