-- ==== Sys2Proof/Laws/StableTwinDigest.lean ====
section
/-! SUPPORT. The operations of `Machine/TwinDigest.lean` that leave the queue, the byte memories, the bright set and the fuses alone. -/
set_option Elab.async false
namespace Sys2Proof.Machine

@[simp] theorem State.forceRecord_stable (s : State) (r : DigestRec) :
    (State.forceRecord s r).1.stable = s.stable := by
  unfold State.forceRecord
  split <;> simp only [State.forceActed_stable, State.modTwin_stable]

@[simp] theorem State.setPicMatch_stable (s : State) (p : PicMatch) :
    (State.setPicMatch s p).stable = s.stable := by
  unfold State.setPicMatch
  simp only [State.modTwin_stable]

@[simp] theorem State.matched_stable (s : State) (frame : Nat) :
    (State.matched s frame).stable = s.stable := by
  unfold State.matched
  dsimp only
  (repeat' split) <;> simp only [State.modTwin_stable, State.setPicMatch_stable]

@[simp] theorem State.runBroken_stable (s : State) (frame : Nat) :
    (State.runBroken s frame).stable = s.stable := by
  unfold State.runBroken
  simp only [State.modTwin_stable]

@[simp] theorem State.mismatch_stable (s : State) (own their : DigestRec) :
    (State.mismatch s own their).stable = s.stable := by
  unfold State.mismatch
  dsimp only
  (repeat' split) <;> simp only [State.count_stable, State.nudgeRequest_stable,
      State.putValue_stable, State.reportAs_stable, State.runBroken_stable, State.setPicMatch_stable, State.silence_stable]

@[simp] theorem State.releaseSegment_stable (s : State) (frame seg y : Nat) :
    (State.releaseSegment s frame seg y).stable = s.stable := by
  unfold State.releaseSegment
  simp only [State.stable_mk, State.stable_eta]

@[simp] theorem State.pairRecord_stable (s : State) (r : DigestRec) :
    (State.pairRecord s r).stable = s.stable := by
  unfold State.pairRecord
  dsimp only
  (repeat' split) <;> simp only [State.matched_stable, State.mismatch_stable,
      State.modTwin_stable, State.releaseSegment_stable]

@[simp] theorem State.sendRecord_stable (s : State) (r : DigestRec) :
    (State.sendRecord s r).stable = s.stable := by
  unfold State.sendRecord
  simp only [State.modTwin_stable, State.pairRecord_stable, State.twinSend_stable]

@[simp] theorem State.ownRecord_stable (s : State) (r : DigestRec) :
    (State.ownRecord s r).stable = s.stable := by
  unfold State.ownRecord
  split <;> simp only [State.forceRecord_stable, State.sendRecord_stable]

end Sys2Proof.Machine
end

