-- ==== Sys2Proof/Laws/StableAssembler.lean ====
section
/-! SUPPORT. The operations of `Machine/Assembler.lean` that leave the queue, the byte memories, the bright set and the fuses alone. -/
set_option Elab.async false
namespace Sys2Proof.Machine

@[simp] theorem State.handOver_stable (s : State) (o : OutPkt) (kegs : List Nat) :
    (State.handOver s o kegs).stable = s.stable := by
  unfold State.handOver
  split <;> simp only [State.stable_mk, State.stable_eta, State.count_stable]

@[simp] theorem State.dropRun_stable (s : State) :
    (State.dropRun s).stable = s.stable := by
  unfold State.dropRun
  split
  · rfl
  · rename_i o l _
    dsimp only
    generalize hs : State.kegFreeAll _ _ _ = s1
    have h1 : s1.stable = s.stable := by rw [← hs]; simp
    have h2 : (if (s1.twinMode || (s1.setFor o.pkt.frame).nat Obj.asmGapMarkers == 0) = true then (s1, none)
        else s1.kegAlloc 1 256 : State × Option Nat).1.stable = s.stable := by split <;> simp [h1]
    split <;> rename_i e <;> rw [e] at h2
    · simpa using h2
    · rw [← h2]; simp

@[simp] theorem State.drain_stable  (x0 : Nat) (s : State) :
    (State.drain x0 s).stable = s.stable := by
  induction x0 generalizing s with
  | zero => rfl
  | succ n ih =>
    unfold State.drain
    split
    · simp
    · split
      · rw [ih]; simp
      · have h := State.kegAlloc_stable s 1 256
        split <;> rename_i e <;> rw [e] at h
        · simpa using h
        · rw [ih]; simpa using h

@[simp] theorem State.build_stable (s : State) :
    (State.build s).stable = s.stable := by
  unfold State.build
  split <;> simp only [State.drain_stable]

@[simp] theorem State.queuePackets_stable (s : State) (k tap group launch : Nat) (a : AccSeg) (sub row : Nat) (nv marker :
    Bool) (kegs : List Nat) (payloads : List Bytes) :
    (State.queuePackets s k tap group launch a sub row nv marker kegs payloads).stable = s.stable := by
  unfold State.queuePackets
  simp only [State.stable_mk, State.stable_eta, State.setAsmStream_stable, State.countOctets_stable]

@[simp] theorem State.keepHash_stable (s : State) (k f pic slot : Nat) :
    (State.keepHash s k f pic slot).stable = s.stable := by
  unfold State.keepHash
  dsimp only
  (repeat' split) <;> simp only [State.stable_mk, State.stable_eta]

@[simp] theorem State.dropHash_stable (s : State) (k f : Nat) :
    (State.dropHash s k f).stable = s.stable := by
  unfold State.dropHash
  simp only [State.stable_mk, State.stable_eta]

@[simp] theorem State.emitSlice_stable (s : State) (k tap : Nat) (a : AccSeg) (first last : Bool) :
    (State.emitSlice s k tap a first last).stable = s.stable := by
  unfold State.emitSlice
  dsimp only
  (repeat' split) <;> simp

@[simp] theorem State.startCounts_stable (s : State) (k f : Nat) : (State.startCounts s k f).stable = s.stable := by
  unfold State.startCounts
  split <;> simp only [State.restartCounts_stable]

@[simp] theorem State.streamSlice_stable (s : State) (k : Nat) (a : AccSeg) (total : Nat) :
    (State.streamSlice s k a total).stable = s.stable := by
  unfold State.streamSlice
  dsimp only
  (repeat' split) <;> simp only [State.dropHash_stable, State.emitSlice_stable, State.startCounts_stable,
      State.setAsmStream_stable]

@[simp] theorem State.markSent_stable (s : State) (canvas : Bool) (a : AccSeg) :
    (State.markSent s canvas a).stable = s.stable := by
  unfold State.markSent
  dsimp only
  (repeat' split) <;> simp only [State.stable_mk, State.stable_eta, State.kegFreeAll_stable]

@[simp] theorem State.emit_stable  (x0 : Nat) (s : State) :
    (State.emit x0 s).stable = s.stable := by
  induction x0 generalizing s with
  | zero => rfl
  | succ n ih =>
    unfold State.emit
    (repeat' split) <;> first | rfl | simp [ih]

@[simp] theorem State.assemble_stable (s : State) :
    (State.assemble s).stable = s.stable := by
  unfold State.assemble
  simp only [State.build_stable, State.emit_stable]

@[simp] theorem State.digestSegment_stable (s : State) (a : AccSeg) (ecc : Nat) :
    (State.digestSegment s a ecc).stable = s.stable := by
  unfold State.digestSegment
  simp only [State.stable_mk, State.stable_eta, State.ownRecord_stable]

theorem execSegmentAssemble_stable (t ecc : Nat) (s : State) :
    ∃ u, execSegmentAssemble t ecc s = .next u ∧ u.stable = s.stable := by
  unfold execSegmentAssemble
  dsimp only
  (repeat' split) <;> refine ⟨_, rfl, ?_⟩ <;> simp only [State.assemble_stable,
      State.digestSegment_stable, State.land_stable, State.report_stable]

theorem execTwinHoldExpiry_stable (t frame seg y : Nat) (s : State) :
    ∃ u, execTwinHoldExpiry t frame seg y s = .next u ∧ u.stable = s.stable := by
  unfold execTwinHoldExpiry
  dsimp only
  (repeat' split) <;> refine ⟨_, rfl, ?_⟩ <;> simp only [State.assemble_stable,
      State.count_stable, State.land_stable, State.releaseSegment_stable]

theorem execAsmKegRetry_stable (t : Nat) (s : State) :
    ∃ u, execAsmKegRetry t s = .next u ∧ u.stable = s.stable := by
  unfold execAsmKegRetry
  refine ⟨_, rfl, ?_⟩
  split <;> simp only [State.drain_stable, State.land_stable]

theorem execAsmDryLimit_stable (t : Nat) (s : State) :
    ∃ u, execAsmDryLimit t s = .next u ∧ u.stable = s.stable := by
  unfold execAsmDryLimit
  refine ⟨_, rfl, ?_⟩
  split <;> simp only [State.build_stable, State.dropRun_stable, State.land_stable]

@[simp] theorem State.setLane_stable (s : State) (n : Nat) (x : Lane) :
    (State.setLane s n x).stable = s.stable := by
  unfold State.setLane
  simp only [State.stable_mk, State.stable_eta]

@[simp] theorem State.bindLane_stable (s : State) (n ticket : Nat) :
    (State.bindLane s n ticket).stable = s.stable := by
  unfold State.bindLane
  simp only [State.setLane_stable]

@[simp] theorem State.unbind_stable (s : State) (ticket : Nat) :
    (State.unbind s ticket).stable = s.stable := by
  unfold State.unbind
  split <;> simp only [State.setLane_stable]

theorem execLaneKatDone_stable (t lane : Nat) (passed : Bool) (s : State) :
    ∃ u, execLaneKatDone t lane passed s = .next u ∧ u.stable = s.stable := by
  unfold execLaneKatDone
  dsimp only
  (repeat' split) <;> refine ⟨_, rfl, ?_⟩ <;> simp only [State.land_stable,
      State.report_stable, State.setLane_stable]

theorem execTasteCoverage_stable (t : Nat) (s : State) :
    ∃ u, execTasteCoverage t s = .next u ∧ u.stable = s.stable := by
  unfold execTasteCoverage
  dsimp only
  (repeat' split) <;> refine ⟨_, rfl, ?_⟩ <;> simp only [State.stable_mk, State.stable_eta, State.brewRec_stable,
      State.land_stable, State.put_stable]

end Sys2Proof.Machine
end

