-- ==== Sys2Proof/Laws/StableCoding.lean ====
section
/-! SUPPORT. The operations of `Machine/Coding.lean` that leave the queue, the byte memories, the bright set and the fuses alone. -/
set_option Elab.async false
namespace Sys2Proof.Machine

@[simp] theorem State.setRecon_stable (s : State) (k : Nat) (r : Recon) :
    (State.setRecon s k r).stable = s.stable := by
  unfold State.setRecon
  simp only [State.stable_mk, State.stable_eta]

end Sys2Proof.Machine
end

