-- ==== Sys2Proof/Laws/StableGrist.lean ====
section
/-! SUPPORT. The operations of `Machine/Grist.lean` that leave the queue, the byte memories, the bright set and the fuses alone. -/
set_option Elab.async false
namespace Sys2Proof.Machine

@[simp] theorem State.unstage_stable (s : State) (ticket : Nat) :
    (State.unstage s ticket).stable = s.stable := by
  unfold State.unstage
  simp only [State.stable_mk, State.stable_eta]

@[simp] theorem State.gristError_stable (s : State) (line : Nat) (parity : Bool) :
    (State.gristError s line parity).stable = s.stable := by
  unfold State.gristError
  split <;> simp only [State.count_stable, State.report_stable]

@[simp] theorem State.setBank_stable (s : State) (b : Nat) (x : BankState) :
    (State.setBank s b x).stable = s.stable := by
  unfold State.setBank
  simp only [State.stable_mk, State.stable_eta]

@[simp] theorem State.stageLine_stable (ticket : Nat) (s : State) (id : Nat) :
    (State.stageLine ticket s id).stable = s.stable := by
  unfold State.stageLine
  dsimp only
  (repeat' split) <;> simp only [State.stable_mk, State.stable_eta, State.count_stable]

@[simp] theorem State.stageTask_stable (s : State) (ticket : Nat) (ids : List Nat) :
    (State.stageTask s ticket ids).stable = s.stable := by
  unfold State.stageTask
  simp

end Sys2Proof.Machine
end

