-- ==== Sys2Proof/Laws/StableTunCore.lean ====
section
/-! SUPPORT. The operations of `Machine/TunCore.lean` that leave the queue, the byte memories, the bright set and the fuses alone. -/
set_option Elab.async false
namespace Sys2Proof.Machine

@[simp] theorem State.setTun_stable (s : State) (t : Nat) (x : Tun) :
    (State.setTun s t x).stable = s.stable := by
  unfold State.setTun
  simp only [State.stable_mk, State.stable_eta]

@[simp] theorem State.attend_stable (s : State) (t : Nat) (ev : Attn) :
    (State.attend s t ev).stable = s.stable := by
  unfold State.attend
  dsimp only
  (repeat' split) <;> simp only [State.setTun_stable]

@[simp] theorem State.capacity_stable (s : State) :
    (State.capacity s).stable = s.stable := by
  unfold State.capacity
  dsimp only
  (repeat' split) <;> simp only [State.stable_mk, State.stable_eta, State.attend_stable, State.brewRec_stable]

@[simp] theorem State.acknowledge_stable (s : State) (t : Nat) (ev : Attn) :
    (State.acknowledge s t ev).stable = s.stable := by
  unfold State.acknowledge
  dsimp only
  (repeat' split) <;> simp only [State.send_stable, State.setTun_stable]

@[simp] theorem State.abortsDone_stable (s : State) (t : Nat) :
    (State.abortsDone s t).stable = s.stable := by
  unfold State.abortsDone
  simp only [State.acknowledge_stable]

@[simp] theorem State.releaseItem_stable (s : State) (t : Nat) :
    (State.releaseItem s t).stable = s.stable := by
  unfold State.releaseItem
  simp

@[simp] theorem State.discardTask_stable (s : State) (t : Nat) :
    (State.discardTask s t).stable = s.stable := by
  unfold State.discardTask
  dsimp only
  (repeat' split) <;> simp only [State.stable_mk, State.stable_eta, State.abortsDone_stable, State.count_stable,
      State.kegFreeAll_stable, State.releaseItem_stable, State.setTun_stable, State.unbind_stable, State.unstage_stable]

@[simp] theorem State.unmark_stable (s : State) (t : Nat) :
    (State.unmark s t).stable = s.stable := by
  unfold State.unmark
  simp only [State.stable_mk, State.stable_eta]

@[simp] theorem State.retireTun_stable (s : State) (t : Nat) :
    (State.retireTun s t).stable = s.stable := by
  unfold State.retireTun
  simp only [State.capacity_stable, State.discardTask_stable, State.setTun_stable,
      State.unmark_stable]

@[simp] theorem State.beginBist_stable (s : State) (t why : Nat) :
    (State.beginBist s t why).stable = s.stable := by
  unfold State.beginBist
  simp only [State.capacity_stable, State.setTun_stable]

@[simp] theorem State.poisonTask_stable (s : State) (t : Nat) :
    (State.poisonTask s t).stable = s.stable := by
  unfold State.poisonTask
  simp only [State.setTun_stable]

@[simp] theorem State.tunFault_stable (s : State) (t : Nat) :
    (State.tunFault s t).stable = s.stable := by
  unfold State.tunFault
  dsimp only
  (repeat' split) <;> simp only [State.beginBist_stable, State.capacity_stable,
      State.poisonTask_stable, State.setTun_stable]

@[simp] theorem State.startTask_stable (s : State) (t : Nat) (k : Task) :
    (State.startTask s t k).stable = s.stable := by
  unfold State.startTask
  simp only [State.setTun_stable]

@[simp] theorem State.tunFree_stable (s : State) (t : Nat) :
    (State.tunFree s t).stable = s.stable := by
  unfold State.tunFree
  dsimp only
  (repeat' split) <;> simp only [State.beginBist_stable, State.capacity_stable,
      State.count_stable, State.forceActed_stable, State.reportAs_stable, State.setTun_stable]

@[simp] theorem State.endDiscard_stable (s : State) (t : Nat) :
    (State.endDiscard s t).stable = s.stable := by
  unfold State.endDiscard
  dsimp only
  (repeat' split) <;> simp only [State.beginBist_stable, State.discardTask_stable,
      State.tunFree_stable]

end Sys2Proof.Machine
end

