-- ==== Sys2Proof/Laws/StableSegments.lean ====
section
/-! SUPPORT. The operations of `Machine/Segments.lean` that leave the queue, the byte memories, the bright set and the fuses alone. -/
set_option Elab.async false
namespace Sys2Proof.Machine

@[simp] theorem State.scheduleEffort_stable (s : State) (level : Nat) :
    (State.scheduleEffort s level).stable = s.stable := by
  unfold State.scheduleEffort
  dsimp only
  (repeat' split) <;> simp only [State.stable_mk, State.stable_eta, State.propose_stable]

@[simp] theorem State.effortSettled_stable (s : State) :
    (State.effortSettled s).stable = s.stable := by
  unfold State.effortSettled
  dsimp only
  (repeat' split) <;> simp only [State.stable_mk, State.stable_eta, State.scheduleEffort_stable]

@[simp] theorem State.revokeAll_stable (s : State) :
    (State.revokeAll s).stable = s.stable := by
  unfold State.revokeAll
  dsimp only
  generalize hx : List.foldl _ s (List.range 64) = x
  have h : x.stable = s.stable := by
    rw [← hx]; apply foldl_stable; intro y0 y1; split <;> simp
  simp only [State.stable_mk, State.stable_eta]; exact h

@[simp] theorem State.modSeg_stable (s : State) (g : SegRec) (f : SegRec → SegRec) :
    (State.modSeg s g f).stable = s.stable := by
  unfold State.modSeg
  simp only [State.stable_mk, State.stable_eta]

@[simp] theorem State.fallbackFailed_stable (s : State) (g : SegRec) :
    (State.fallbackFailed s g).stable = s.stable := by
  unfold State.fallbackFailed
  simp only [State.modSeg_stable, State.report_stable]

@[simp] theorem State.preempt_stable  (x0 : Nat) (s : State) :
    (State.preempt x0 s).stable = s.stable := by
  induction x0 generalizing s with
  | zero => rfl
  | succ n ih =>
    unfold State.preempt
    (repeat' split) <;> first | rfl | simp [ih]

@[simp] theorem State.fallbacksReady_stable (s : State) (n : Nat) :
    (State.fallbacksReady s n).stable = s.stable := by
  unfold State.fallbacksReady
  simp only [State.preempt_stable]

@[simp] theorem State.becomeFallback_stable (s : State) (g : SegRec) :
    (State.becomeFallback s g).stable = s.stable := by
  unfold State.becomeFallback
  simp only [State.count_stable, State.fallbacksReady_stable, State.modSeg_stable]

@[simp] theorem State.makeFallback_stable (s : State) (g : SegRec) (code : Nat) (inj : Bool) :
    (State.makeFallback s g code inj).stable = s.stable := by
  unfold State.makeFallback
  simp only [State.becomeFallback_stable, State.reportAs_stable]

@[simp] theorem State.segPoisoned_stable (s : State) (g : SegRec) (u : Nat) :
    (State.segPoisoned s g u).stable = s.stable := by
  unfold State.segPoisoned
  dsimp only
  (repeat' split) <;> simp only [State.stable_mk, State.stable_eta, State.attend_stable, State.count_stable,
      State.fallbackFailed_stable, State.makeFallback_stable, State.modSeg_stable]

@[simp] theorem State.taskPoisoned_stable (s : State) (t : Nat) :
    (State.taskPoisoned s t).stable = s.stable := by
  unfold State.taskPoisoned
  (repeat' split) <;> simp only [State.attend_stable, State.releaseItem_stable,
      State.segPoisoned_stable]

@[simp] theorem State.retireReaction_stable (s : State) (t : Nat) :
    (State.retireReaction s t).stable = s.stable := by
  unfold State.retireReaction
  simp only [State.retireTun_stable, State.taskPoisoned_stable]

@[simp] theorem State.dropOld_stable (s : State) (f : Nat) :
    (State.dropOld s f).stable = s.stable := by
  unfold State.dropOld
  simp only [State.stable_mk, State.stable_eta]

@[simp] theorem State.startPicture_stable (s : State) (f index : Nat) :
    (State.startPicture s f index).stable = s.stable := by
  unfold State.startPicture
  dsimp only
  (repeat' split) <;> simp

@[simp] theorem State.rowSampled_stable (s : State) (f y : Nat) :
    (State.rowSampled s f y).stable = s.stable := by
  unfold State.rowSampled
  simp only [State.stable_mk, State.stable_eta]

@[simp] theorem State.segBoundary_stable (s : State) :
    (State.segBoundary s).stable = s.stable := by
  unfold State.segBoundary
  simp only [State.stable_mk, State.stable_eta]

@[simp] theorem State.setPicture_stable (s : State) (p : Picture) :
    (State.setPicture s p).stable = s.stable := by
  unfold State.setPicture
  simp only [State.stable_mk, State.stable_eta]

@[simp] theorem State.mapUnreadable_stable (s : State) (f y : Nat) (bad : List Nat) :
    (State.mapUnreadable s f y bad).stable = s.stable := by
  unfold State.mapUnreadable
  simp

theorem execSegmentAssign_stable (t : Nat) (unreadable : List Nat) (s : State) :
    ∃ u, execSegmentAssign t unreadable s = .next u ∧ u.stable = s.stable := by
  unfold execSegmentAssign
  dsimp only
  (repeat' split) <;> refine ⟨_, rfl, ?_⟩ <;> simp only [State.stable_mk, State.stable_eta, State.bindLane_stable,
      State.land_stable, State.mapUnreadable_stable, State.modSeg_stable, State.startTask_stable]

@[simp] theorem State.frameFinished_stable (s : State) (f : Nat) :
    (State.frameFinished s f).stable = s.stable := by
  unfold State.frameFinished
  dsimp only
  (repeat' split) <;> simp only [State.stable_mk, State.stable_eta]

@[simp] theorem State.pictureCommitted_stable (s : State) (p : Picture) :
    (State.pictureCommitted s p).stable = s.stable := by
  have key : ∀ (z : State) (d : Dispatcher), ({ z with dsp := d } : State).stable = z.stable := fun _ _ => rfl
  unfold State.pictureCommitted
  rw [State.frameFinished_stable, foldl_stable, foldl_stable]
  · rw [State.put_stable]; rfl
  · intro y0 y1
    split
    · simp only [State.put_stable]
    · extract_lets s1 used cap s2
      have h2 : s2.stable = y0.stable := by simp only [s2, s1, State.put_stable]
      split
      · exact h2
      · exact (key _ _).trans h2
  · intro y0 y1; simp

@[simp] theorem State.commitRecon_stable (s : State) (g : SegRec) (p : Picture) (k : Task) (forms : List CtuForm) :
    (State.commitRecon s g p k forms).stable = s.stable := by
  unfold State.commitRecon
  simp only [State.setRecon_stable]

@[simp] theorem State.commitHashes_stable (s : State) (g : SegRec) (p : Picture) :
    (State.commitHashes s g p).stable = s.stable := by
  unfold State.commitHashes
  dsimp only
  (repeat' split) <;> simp only [State.keepHash_stable]

@[simp] theorem State.acceptCommit_stable (s : State) (g : SegRec) (r : CommitRec) (k : Task) (tasted : Nat) :
    (State.acceptCommit s g r k tasted).stable = s.stable := by
  unfold State.acceptCommit
  dsimp only
  (repeat' split) <;> simp only [State.stable_mk, State.stable_eta, State.abortsDone_stable, State.commitHashes_stable,
      State.commitRecon_stable, State.count_stable, State.pictureCommitted_stable, State.rakeMissed_stable,
      State.report_stable, State.setPicture_stable, State.setTun_stable, State.tunFree_stable, State.unbind_stable,
      State.unstage_stable]

@[simp] theorem State.decideCommit_stable (s : State) (r : CommitRec) (tasted : Nat) :
    (State.decideCommit s r tasted).stable = s.stable := by
  unfold State.decideCommit
  (repeat' split) <;> simp only [State.acceptCommit_stable, State.endDiscard_stable, State.taskPoisoned_stable]

theorem execPoisonReport_stable (t tun : Nat) (s : State) :
    ∃ u, execPoisonReport t tun s = .next u ∧ u.stable = s.stable := by
  unfold execPoisonReport
  dsimp only
  (repeat' split) <;> refine ⟨_, rfl, ?_⟩ <;> simp only [State.land_stable,
      State.taskPoisoned_stable]

@[simp] theorem State.hardLimit_stable (s : State) (g : SegRec) (inj : Bool) :
    (State.hardLimit s g inj).stable = s.stable := by
  unfold State.hardLimit
  split <;> simp only [State.attend_stable, State.makeFallback_stable]

theorem execSegmentDeadline_stable (t seg y : Nat) (s : State) :
    ∃ u, execSegmentDeadline t seg y s = .next u ∧ u.stable = s.stable := by
  unfold execSegmentDeadline
  dsimp only
  (repeat' split) <;> refine ⟨_, rfl, ?_⟩ <;> simp only [State.count_stable,
      State.forceActed_stable, State.hardLimit_stable, State.land_stable, State.modSeg_stable, State.report_stable]

theorem execSegmentHardLimit_stable (t seg y : Nat) (s : State) :
    ∃ u, execSegmentHardLimit t seg y s = .next u ∧ u.stable = s.stable := by
  unfold execSegmentHardLimit
  dsimp only
  (repeat' split) <;> refine ⟨_, rfl, ?_⟩ <;> simp only [State.hardLimit_stable, State.land_stable]

theorem execFallbackTimeout_stable (t seg y : Nat) (s : State) :
    ∃ u, execFallbackTimeout t seg y s = .next u ∧ u.stable = s.stable := by
  unfold execFallbackTimeout
  dsimp only
  (repeat' split) <;> refine ⟨_, rfl, ?_⟩ <;> simp only [State.attend_stable,
      State.fallbackFailed_stable, State.land_stable]

theorem execTunRotate_stable (t : Nat) (s : State) :
    ∃ u, execTunRotate t s = .next u ∧ u.stable = s.stable := by
  unfold execTunRotate
  dsimp only
  (repeat' split) <;> refine ⟨_, rfl, ?_⟩ <;> simp only [State.stable_mk, State.stable_eta, State.armRotation_stable,
      State.beginBist_stable, State.brewRec_stable, State.calTicked_stable, State.capacity_stable, State.land_stable]

@[simp] theorem State.requestEffort_stable (s : State) :
    (State.requestEffort s).stable = s.stable := by
  unfold State.requestEffort
  dsimp only
  (repeat' split) <;> simp only [State.stable_mk, State.stable_eta, State.scheduleEffort_stable]

@[simp] theorem dspEffortCap_stable (v : Nat) (s : State) :
    (dspEffortCap v s).1.stable = s.stable := by
  unfold dspEffortCap
  split <;> simp only [State.stable_mk, State.stable_eta, State.requestEffort_stable]

theorem execDspEffortCap_stable (t : Nat) (who : Path) (v : Nat) (s : State) :
    ∃ u, execDspEffortCap t who v s = .next u ∧ u.stable = s.stable := by
  exact objectCommand_stable _ _ _ _ _ _ _ (fun _ => by simp)

theorem execEffortChange_stable (t : Nat) (s : State) :
    ∃ u, execEffortChange t s = .next u ∧ u.stable = s.stable := by
  unfold execEffortChange
  refine ⟨_, rfl, ?_⟩
  split
  · simp
  · split
    · rw [State.effortSettled_stable, foldl_stable]
      · simp
      · intro y0 y1; dsimp only; split <;> simp
    · simp

theorem execEffortAgreeTimeout_stable (t : Nat) (s : State) :
    ∃ u, execEffortAgreeTimeout t s = .next u ∧ u.stable = s.stable := by
  unfold execEffortAgreeTimeout
  refine ⟨_, rfl, ?_⟩
  split <;> simp only [State.stable_mk, State.stable_eta, State.land_stable, State.scheduleEffort_stable]

theorem execGovernorTick_stable (t : Nat) (s : State) :
    ∃ u, execGovernorTick t s = .next u ∧ u.stable = s.stable := by
  unfold execGovernorTick
  dsimp only
  (repeat' split) <;> refine ⟨_, rfl, ?_⟩ <;> simp only [State.stable_mk, State.stable_eta, State.land_stable,
      State.requestEffort_stable]

end Sys2Proof.Machine
end

