-- ==== Sys2Proof/Laws/StableAgree.lean ====
section
/-! SUPPORT. The operations of `Machine/Agree.lean` that leave the queue, the byte memories, the bright set and the fuses alone. -/
set_option Elab.async false
namespace Sys2Proof.Machine

@[simp] theorem State.effortAgreed_stable (s : State) (level f : Nat) :
    (State.effortAgreed s level f).stable = s.stable := by
  unfold State.effortAgreed
  dsimp only
  (repeat' split) <;> simp only [State.stable_mk, State.stable_eta, State.effortSettled_stable, State.unpropose_stable]

@[simp] theorem State.endPatch_stable (s : State) (res : RackResult) :
    (State.endPatch s res).stable = s.stable := by
  unfold State.endPatch
  simp only [State.stable_mk, State.stable_eta, State.unpropose_stable]

@[simp] theorem State.patchAgreed_stable (s : State) (f : Nat) :
    (State.patchAgreed s f).stable = s.stable := by
  unfold State.patchAgreed
  simp only [State.stable_mk, State.stable_eta, State.unpropose_stable]

@[simp] theorem State.rackScheduled_stable (s : State) :
    (State.rackScheduled s).stable = s.stable := by
  unfold State.rackScheduled
  simp only [State.changeRack_stable, State.joinGroups_stable, State.resolveSoon_stable,
      State.unpropose_stable]

@[simp] theorem State.answered_stable (s : State) (a : Answer) :
    (State.answered s a).stable = s.stable := by
  unfold State.answered
  dsimp only
  (repeat' split) <;> simp only [State.changeRack_stable, State.effortAgreed_stable,
      State.endPatch_stable, State.endRack_stable, State.patchAgreed_stable, State.rackScheduled_stable,
      State.setNudge_stable, State.unpropose_stable]

@[simp] theorem State.answer_stable (s : State) (p : Proposal) (verdict reason f arg : Nat) :
    (State.answer s p verdict reason f arg).stable = s.stable := by
  unfold State.answer
  simp only [State.modTwin_stable, State.twinSend_stable]

@[simp] theorem State.hold_stable (s : State) (p : Proposal) :
    (State.hold s p).stable = s.stable := by
  unfold State.hold
  simp only [State.modTwin_stable]

@[simp] theorem State.considerRack_stable (s : State) (p : Proposal) :
    (State.considerRack s p).stable = s.stable := by
  unfold State.considerRack
  dsimp only
  (repeat' split) <;> simp only [State.answer_stable, State.changeRack_stable,
      State.endRack_stable, State.hold_stable, State.rackScheduled_stable, State.unpropose_stable]

@[simp] theorem State.refuseHeldRacks_stable (s : State) :
    (State.refuseHeldRacks s).stable = s.stable := by
  unfold State.refuseHeldRacks
  simp

@[simp] theorem State.considerEffort_stable (s : State) (p : Proposal) :
    (State.considerEffort s p).stable = s.stable := by
  unfold State.considerEffort
  simp only [State.answer_stable, State.effortAgreed_stable]

@[simp] theorem State.considerNudge_stable (s : State) (p : Proposal) :
    (State.considerNudge s p).stable = s.stable := by
  unfold State.considerNudge
  dsimp only
  (repeat' split) <;> simp only [State.answer_stable, State.brewRec_stable,
      State.count_stable, State.setNudge_stable, State.unpropose_stable]

@[simp] theorem State.considerPatch_stable (s : State) (p : Proposal) :
    (State.considerPatch s p).stable = s.stable := by
  unfold State.considerPatch
  dsimp only
  (repeat' split) <;> simp only [State.answer_stable, State.endPatch_stable,
      State.hold_stable, State.patchAgreed_stable]

@[simp] theorem State.consider_stable (s : State) (p : Proposal) :
    (State.consider s p).stable = s.stable := by
  unfold State.consider
  (repeat' split) <;> simp only [State.considerEffort_stable, State.considerNudge_stable,
      State.answer_stable, State.considerPatch_stable, State.considerRack_stable]

@[simp] theorem State.serveHeld_stable (s : State) :
    (State.serveHeld s).stable = s.stable := by
  unfold State.serveHeld
  simp

@[simp] theorem State.proposed_stable (s : State) (p : Proposal) :
    (State.proposed s p).stable = s.stable := by
  unfold State.proposed
  (repeat' split) <;> simp only [State.consider_stable,
      State.twinSend_stable]

end Sys2Proof.Machine
end

