-- ==== Sys2Proof/Laws/StableCalendar.lean ====
section
/-! SUPPORT. The operations of `Machine/Calendar.lean` that leave the queue, the byte memories, the bright set and the fuses alone. -/
set_option Elab.async false
namespace Sys2Proof.Machine

@[simp] theorem State.calMissInternal_stable (s : State) (old new : CTime) :
    (State.calMissInternal s old new).stable = s.stable := by
  unfold State.calMissInternal
  simp

@[simp] theorem State.setCal_stable (s : State) (row w0 w1 : Nat) :
    (State.setCal s row w0 w1).stable = s.stable := by
  unfold State.setCal
  simp only [State.put_stable]

@[simp] theorem State.calMiss_stable (s : State) (row : Nat) (c : CTime) :
    (State.calMiss s row c).stable = s.stable := by
  unfold State.calMiss
  dsimp only
  (repeat' split) <;> simp only [State.brewRec_stable, State.count_stable,
      State.setCal_stable]

@[simp] theorem State.calSweep_stable (s : State) (old new : CTime) :
    (State.calSweep s old new).stable = s.stable := by
  unfold State.calSweep
  rw [State.calMissInternal_stable]
  apply foldl_stable
  intro y0 y1; split <;> simp

@[simp] theorem State.calFired_stable (s : State) (row : Nat) :
    (State.calFired s row).stable = s.stable := by
  unfold State.calFired
  dsimp only
  (repeat' split) <;> simp only [State.count_stable, State.setCal_stable]

theorem calFire_stable (t row action : Nat) (act : Nat → State → State) (s : State) (h_act : ∀ (y0 : Nat) (y1 : State), (act
    y0 y1).stable = y1.stable) :
    ∃ u, calFire t row action act s = .next u ∧ u.stable = s.stable := by
  unfold calFire
  refine ⟨_, rfl, ?_⟩
  split <;> simp [h_act]

@[simp] theorem State.gpioOut_stable (s : State) (pin : Nat) (level : Bool) :
    (State.gpioOut s pin level).stable = s.stable := by
  unfold State.gpioOut
  simp only [State.put_stable]

theorem execCalNoneFire_stable (t row : Nat) (s : State) :
    ∃ u, execCalNoneFire t row s = .next u ∧ u.stable = s.stable := by
  unfold execCalNoneFire
  apply calFire_stable
  intro y0
  simp

theorem execGpioSet_stable (t row : Nat) (s : State) :
    ∃ u, execGpioSet t row s = .next u ∧ u.stable = s.stable := by
  unfold execGpioSet
  apply calFire_stable
  intro y0
  simp

theorem execGpioPulse_stable (t row : Nat) (s : State) :
    ∃ u, execGpioPulse t row s = .next u ∧ u.stable = s.stable := by
  unfold execGpioPulse
  apply calFire_stable
  intro y0
  simp

theorem execGpioPulseEnd_stable (t pin : Nat) (s : State) :
    ∃ u, execGpioPulseEnd t pin s = .next u ∧ u.stable = s.stable := by
  unfold execGpioPulseEnd
  refine ⟨_, rfl, ?_⟩
  split <;> simp only [State.stable_mk, State.stable_eta, State.gpioOut_stable, State.land_stable]

theorem execTallySet_stable (t row : Nat) (s : State) :
    ∃ u, execTallySet t row s = .next u ∧ u.stable = s.stable := by
  unfold execTallySet
  apply calFire_stable
  intro y0
  simp

theorem execCalMark_stable (t row : Nat) (s : State) :
    ∃ u, execCalMark t row s = .next u ∧ u.stable = s.stable := by
  unfold execCalMark
  apply calFire_stable
  intro y0
  simp

@[simp] theorem State.setHeld_stable (s : State) (who : Path) (words untils : Table Nat) :
    (State.setHeld s who words untils).stable = s.stable := by
  unfold State.setHeld
  dsimp only
  (repeat' split) <;> simp only [State.stable_mk, State.stable_eta, State.setSession_stable]

@[simp] theorem State.dropHeld_stable (s : State) (who : Path) (row : Nat) :
    (State.dropHeld s who row).stable = s.stable := by
  unfold State.dropHeld
  simp only [State.setHeld_stable]

@[simp] theorem tbsCalW0_stable (who : Path) (row v : Nat) (s : State) :
    (tbsCalW0 who row v s).1.stable = s.stable := by
  unfold tbsCalW0
  split <;> simp only [State.setHeld_stable]

@[simp] theorem tbsCalW1_stable (who : Path) (row v : Nat) (s : State) :
    (tbsCalW1 who row v s).1.stable = s.stable := by
  unfold tbsCalW1
  dsimp only
  (repeat' split) <;> simp only [State.calMiss_stable, State.dropHeld_stable,
      State.put_stable, State.setCal_stable]

theorem execTbsCalW0_stable (t : Nat) (who : Path) (row v : Nat) (s : State) :
    ∃ u, execTbsCalW0 t who row v s = .next u ∧ u.stable = s.stable := by
  exact objectCommand_stable _ _ _ _ _ _ _ (fun _ => by simp)

theorem execTbsCalW1_stable (t : Nat) (who : Path) (row v : Nat) (s : State) :
    ∃ u, execTbsCalW1 t who row v s = .next u ∧ u.stable = s.stable := by
  exact objectCommand_stable _ _ _ _ _ _ _ (fun _ => by simp)

theorem execCalHeldW0Expiry_stable (t : Nat) (who : Path) (row : Nat) (s : State) :
    ∃ u, execCalHeldW0Expiry t who row s = .next u ∧ u.stable = s.stable := by
  unfold execCalHeldW0Expiry
  refine ⟨_, rfl, ?_⟩
  split <;> simp only [State.dropHeld_stable, State.land_stable]

end Sys2Proof.Machine
end

