-- ==== Sys2Proof/Laws/StableSessions.lean ====
section
/-! SUPPORT. The operations of `Machine/Sessions.lean` that leave the queue, the byte memories, the bright set and the fuses alone. -/
set_option Elab.async false
namespace Sys2Proof.Machine

@[simp] theorem State.authFailed_stable (s : State) (role slot : Nat) (can : Bool) :
    (State.authFailed s role slot can).stable = s.stable := by
  unfold State.authFailed
  dsimp only
  (repeat' split) <;> simp only [State.stable_mk, State.stable_eta, State.brewRec_stable, State.count_stable]

@[simp] theorem replyStatus_stable (s : State) (st : Status) :
    (replyStatus s st).s.stable = s.stable := by
  unfold replyStatus
  simp only

@[simp] theorem State.refuse_stable (s : State) (m : StrelMsg) (opcode : Nat) (st : Status) :
    (State.refuse s m opcode st).stable = s.stable := by
  unfold State.refuse
  simp only [State.strelOut_stable]

theorem State.headed_stable (s : State) (m : StrelMsg) (r : StrelReply) (h : r.s.stable = s.stable) :
    (State.headed s m r).s.stable = s.stable := by
  unfold State.headed
  (repeat' split) <;> first | exact h | rfl

@[simp] theorem State.runRequest_stable (s : State) (z : Session) (opcode : Nat) (m : StrelMsg)
    (run : Session → State → StrelReply) (h_run : ∀ (y0 : Session) (y1 : State), (run y0 y1).s.stable = y1.stable) :
    (State.runRequest s z opcode m run).stable = s.stable := by
  unfold State.runRequest
  dsimp only
  rw [State.strelSend_stable, State.setSession_stable]
  exact State.headed_stable _ _ _ (h_run _ _)

theorem sessionRequest_stable (t opcode : Nat) (m : StrelMsg) (run : Session → State → StrelReply) (s : State)
    (h_run : ∀ (y0 : Session) (y1 : State), (run y0 y1).s.stable = y1.stable) :
    ∃ u, sessionRequest t opcode m run s = .next u ∧ u.stable = s.stable := by
  unfold sessionRequest
  refine ⟨_, rfl, ?_⟩
  dsimp only
  (repeat' split) <;> simp [h_run]

theorem execAuthLockExpiry_stable (t role slot : Nat) (s : State) :
    ∃ u, execAuthLockExpiry t role slot s = .next u ∧ u.stable = s.stable := by
  unfold execAuthLockExpiry
  refine ⟨_, rfl, ?_⟩
  split <;> simp only [State.stable_mk, State.stable_eta, State.land_stable]

@[simp] theorem State.challenge_stable (s : State) (m : StrelMsg) :
    (State.challenge s m).stable = s.stable := by
  unfold State.challenge
  simp only [State.stable_mk, State.stable_eta, State.drawn_stable, State.strelOut_stable]

theorem execHello_stable (t : Nat) (m : StrelMsg) (s : State) :
    ∃ u, execHello t m s = .next u ∧ u.stable = s.stable := by
  unfold execHello
  dsimp only
  (repeat' split) <;> refine ⟨_, rfl, ?_⟩ <;> simp only [State.challenge_stable,
      State.land_stable, State.refuse_stable]

@[simp] theorem State.sessionNotice_stable (s : State) (id opened : Nat) :
    (State.sessionNotice s id opened).stable = s.stable := by
  unfold State.sessionNotice
  simp only [State.brewRec_stable, State.notice_stable]

@[simp] theorem State.forget_stable (s : State) (id : Nat) :
    (State.forget s id).stable = s.stable := by
  unfold State.forget
  simp only [State.stable_mk, State.stable_eta]

@[simp] theorem State.grant_stable (s : State) (p : Provisional) (k : Bytes) (seq : Nat) :
    (State.grant s p k seq).stable = s.stable := by
  unfold State.grant
  simp only [State.stable_mk, State.stable_eta, State.sessionNotice_stable, State.strelSend_stable]

@[simp] theorem State.prove_stable (s : State) (m : StrelMsg) (p : Provisional) :
    (State.prove s m p).stable = s.stable := by
  unfold State.prove
  dsimp only
  (repeat' split) <;> simp only [State.authFailed_stable, State.forget_stable,
      State.grant_stable, State.refuse_stable]

theorem execProof_stable (t : Nat) (m : StrelMsg) (s : State) :
    ∃ u, execProof t m s = .next u ∧ u.stable = s.stable := by
  unfold execProof
  dsimp only
  (repeat' split) <;> refine ⟨_, rfl, ?_⟩ <;> simp only [State.land_stable,
      State.prove_stable, State.refuse_stable]

theorem execProofTimeout_stable (t id : Nat) (s : State) :
    ∃ u, execProofTimeout t id s = .next u ∧ u.stable = s.stable := by
  unfold execProofTimeout
  refine ⟨_, rfl, ?_⟩
  split <;> simp only [State.forget_stable, State.land_stable]

@[simp] theorem State.closeSession_stable (s : State) (id : Nat) :
    (State.closeSession s id).stable = s.stable := by
  unfold State.closeSession
  split <;> simp only [State.stable_mk, State.stable_eta, State.sessionNotice_stable]

@[simp] theorem State.closeAll_stable (s : State) :
    (State.closeAll s).stable = s.stable := by
  unfold State.closeAll
  simp

theorem execSessionIdleTimeout_stable (t id : Nat) (s : State) :
    ∃ u, execSessionIdleTimeout t id s = .next u ∧ u.stable = s.stable := by
  unfold execSessionIdleTimeout
  refine ⟨_, rfl, ?_⟩
  split <;> simp only [State.closeSession_stable, State.land_stable]

@[simp] theorem setSessionKill_stable (v : Nat) (s : State) :
    (setSessionKill v s).1.stable = s.stable := by
  unfold setSessionKill
  split <;> simp only [State.closeSession_stable]

theorem execSetSessionKill_stable (t : Nat) (who : Path) (v : Nat) (s : State) :
    ∃ u, execSetSessionKill t who v s = .next u ∧ u.stable = s.stable := by
  exact objectCommand_stable _ _ _ _ _ _ _ (fun _ => by simp)

@[simp] theorem setStrelPort_stable (v : Nat) (s : State) :
    (setStrelPort v s).1.stable = s.stable := by
  unfold setStrelPort
  simp only [State.closeAll_stable, State.stage_stable]

theorem execSetStrelPort_stable (t : Nat) (who : Path) (v : Nat) (s : State) :
    ∃ u, execSetStrelPort t who v s = .next u ∧ u.stable = s.stable := by
  exact objectCommand_stable _ _ _ _ _ _ _ (fun _ => by simp)

@[simp] theorem emptyRequest_stable (m : StrelMsg) (s : State) :
    (emptyRequest m s).s.stable = s.stable := by
  unfold emptyRequest
  simp only [replyStatus_stable]

theorem execPing_stable (t : Nat) (m : StrelMsg) (s : State) :
    ∃ u, execPing t m s = .next u ∧ u.stable = s.stable := by
  unfold execPing
  apply sessionRequest_stable
  intro y0
  simp

@[simp] theorem State.closeIfAsked_stable (s : State) (id : Nat) :
    (State.closeIfAsked s id).stable = s.stable := by
  unfold State.closeIfAsked
  split <;> simp only [State.closeSession_stable]

theorem execClose_stable (t : Nat) (m : StrelMsg) (s : State) :
    ∃ u, execClose t m s = .next u ∧ u.stable = s.stable := by
  unfold execClose
  obtain ⟨u, e, h⟩ := sessionRequest_stable t 0x05 m (fun _ s => emptyRequest m s) s (by intro _ _; simp)
  rw [e]
  exact ⟨_, rfl, by simp [h]⟩

@[simp] theorem subscribe_stable (m : StrelMsg) (z : Session) (s : State) :
    (subscribe m z s).s.stable = s.stable := by
  unfold subscribe
  dsimp only
  (repeat' split) <;> simp only [State.setSession_stable, replyStatus_stable]

theorem execSubscribe_stable (t : Nat) (m : StrelMsg) (s : State) :
    ∃ u, execSubscribe t m s = .next u ∧ u.stable = s.stable := by
  unfold execSubscribe
  apply sessionRequest_stable
  intro y0
  simp

end Sys2Proof.Machine
end

