-- ==== Sys2Proof/Laws/StableCanPath.lean ====
section
/-! SUPPORT. The operations of `Machine/CanPath.lean` that leave the queue, the byte memories, the bright set and the fuses alone. -/
set_option Elab.async false
namespace Sys2Proof.Machine

@[simp] theorem State.nmt_stable (s : State) (new : NmtState) :
    (State.nmt s new).stable = s.stable := by
  unfold State.nmt
  dsimp only
  (repeat' split) <;> simp only [State.stable_mk, State.stable_eta, State.send_stable]

theorem execNmtStart_stable (t : Nat) (s : State) :
    ∃ u, execNmtStart t s = .next u ∧ u.stable = s.stable := by
  exact ⟨_, rfl, by simp only [State.land_stable, State.nmt_stable]⟩

theorem execNmtStop_stable (t : Nat) (s : State) :
    ∃ u, execNmtStop t s = .next u ∧ u.stable = s.stable := by
  exact ⟨_, rfl, by simp only [State.land_stable, State.nmt_stable]⟩

theorem execNmtEnterPreOperational_stable (t : Nat) (s : State) :
    ∃ u, execNmtEnterPreOperational t s = .next u ∧ u.stable = s.stable := by
  exact ⟨_, rfl, by simp only [State.land_stable, State.nmt_stable]⟩

@[simp] theorem State.resetCommunication_stable (s : State) :
    (State.resetCommunication s).stable = s.stable := by
  unfold State.resetCommunication
  split <;> simp only [State.stable_mk, State.stable_eta, State.putValue_stable, State.send_stable]

theorem execNmtResetCommunication_stable (t : Nat) (s : State) :
    ∃ u, execNmtResetCommunication t s = .next u ∧ u.stable = s.stable := by
  exact ⟨_, rfl, by simp only [State.land_stable, State.resetCommunication_stable]⟩

theorem execNmtResetNode_stable (t : Nat) (s : State) :
    ∃ u, execNmtResetNode t s = .next u ∧ u.stable = s.stable := by
  exact ⟨_, rfl, by simp only [State.land_stable, State.resetCommunication_stable]⟩

theorem execCanHeartbeat_stable (t : Nat) (s : State) :
    ∃ u, execCanHeartbeat t s = .next u ∧ u.stable = s.stable := by
  unfold execCanHeartbeat
  refine ⟨_, rfl, ?_⟩
  split <;> simp only [State.stable_mk, State.stable_eta, State.land_stable, State.send_stable]

@[simp] theorem State.readCanNonce_stable (s : State) :
    (State.readCanNonce s).1.stable = s.stable := by
  unfold State.readCanNonce
  simp only [State.stable_mk, State.stable_eta, State.drawn_stable]

theorem execSetCanNonce_stable (t : Nat) (who : Path) (s : State) :
    ∃ u, execSetCanNonce t who s = .next u ∧ u.stable = s.stable := by
  unfold execSetCanNonce
  dsimp only
  (repeat' split) <;> refine ⟨_, rfl, ?_⟩ <;> simp only [State.accessed_stable,
      State.land_stable, State.readCanNonce_stable, State.send_stable]

theorem execCanNonceExpiry_stable (t : Nat) (s : State) :
    ∃ u, execCanNonceExpiry t s = .next u ∧ u.stable = s.stable := by
  unfold execCanNonceExpiry
  refine ⟨_, rfl, ?_⟩
  split <;> simp only [State.stable_mk, State.stable_eta, State.land_stable]

@[simp] theorem setCanProof_stable (data : Bytes) (s : State) :
    (setCanProof data s).1.stable = s.stable := by
  unfold setCanProof
  dsimp only
  (repeat' split) <;> simp only [State.stable_mk, State.stable_eta, State.authFailed_stable]

theorem execSetCanProof_stable (t : Nat) (who : Path) (data : Bytes) (s : State) :
    ∃ u, execSetCanProof t who data s = .next u ∧ u.stable = s.stable := by
  exact objectCommand_stable _ _ _ _ _ _ _ (fun _ => by simp)

@[simp] theorem State.lockCan_stable (s : State) :
    (State.lockCan s).stable = s.stable := by
  unfold State.lockCan
  simp only [State.stable_mk, State.stable_eta]

@[simp] theorem setCanLock_stable (s : State) :
    (setCanLock s).1.stable = s.stable := by
  unfold setCanLock
  simp only [State.lockCan_stable]

theorem execSetCanLock_stable (t : Nat) (who : Path) (v : Nat) (s : State) :
    ∃ u, execSetCanLock t who v s = .next u ∧ u.stable = s.stable := by
  exact objectCommand_stable _ _ _ _ _ _ _ (fun _ => by simp)

theorem execCanRoleTimeout_stable (t : Nat) (s : State) :
    ∃ u, execCanRoleTimeout t s = .next u ∧ u.stable = s.stable := by
  unfold execCanRoleTimeout
  refine ⟨_, rfl, ?_⟩
  split <;> simp only [State.land_stable, State.lockCan_stable]

end Sys2Proof.Machine
end

