-- ==== Sys2Proof/Laws/StableCaskRegions.lean ====
section
/-! SUPPORT. The operations of `Machine/CaskRegions.lean` that leave the queue, the byte memories, the bright set and the fuses alone. -/
set_option Elab.async false
namespace Sys2Proof.Machine

@[simp] theorem State.caskRegionState_stable (s : State) (code v : Nat) :
    (State.caskRegionState s code v).stable = s.stable := by
  unfold State.caskRegionState
  simp only [State.stable_mk, State.stable_eta]

@[simp] theorem State.caskErr_stable (s : State) (off : Nat) :
    (State.caskErr s off).stable = s.stable := by
  unfold State.caskErr
  simp only [State.report_stable]

@[simp] theorem State.putSlot_stable (s : State) (k : Nat) (x : Slot) :
    (State.putSlot s k x).stable = s.stable := by
  unfold State.putSlot
  split <;> simp only [State.stable_mk, State.stable_eta]

@[simp] theorem State.slotDamaged_stable (s : State) (k : Nat) :
    (State.slotDamaged s k).stable = s.stable := by
  unfold State.slotDamaged
  simp only [State.caskRegionState_stable, State.putSlot_stable]

end Sys2Proof.Machine
end

