-- ==== Sys2Proof/Laws/StableMemory.lean ====
section
/-! SUPPORT. The operations of `Machine/Memory.lean` that leave the queue, the byte memories, the bright set and the fuses alone. -/
set_option Elab.async false
namespace Sys2Proof.Machine

@[simp] theorem State.armPause_stable (s : State) :
    (State.armPause s).stable = s.stable := by
  unfold State.armPause
  split <;> simp only [State.stable_mk, State.stable_eta]

@[simp] theorem State.modDdr_stable (s : State) (c : Nat) (f : DdrCh → DdrCh) :
    (State.modDdr s c f).stable = s.stable := by
  unfold State.modDdr
  simp only [State.stable_mk, State.stable_eta]

@[simp] theorem State.safeBy_stable (s : State) (m : FaultMsg) :
    (State.safeBy s m).stable = s.stable := by
  unfold State.safeBy
  split <;> simp only [State.stable_mk, State.stable_eta]

@[simp] theorem State.ddrGone_stable (s : State) (c detail : Nat) (m : FaultMsg) :
    (State.ddrGone s c detail m).stable = s.stable := by
  unfold State.ddrGone
  dsimp only
  (repeat' split) <;> simp only [State.stable_mk, State.stable_eta, State.brewRec_stable, State.modDdr_stable,
      State.safeBy_stable, State.setRecon_stable, State.silenceFault_stable]

@[simp] theorem State.modQdr_stable (s : State) (c : Nat) (f : QdrCh → QdrCh) :
    (State.modQdr s c f).stable = s.stable := by
  unfold State.modQdr
  simp only [State.stable_mk, State.stable_eta]

@[simp] theorem State.logWordBad_stable (s : State) (a : Nat) :
    (State.logWordBad s a).stable = s.stable := by
  unfold State.logWordBad
  split <;> simp only [State.stable_mk, State.stable_eta]

@[simp] theorem State.descriptorWordBad_stable (s : State) (a : Nat) :
    (State.descriptorWordBad s a).stable = s.stable := by
  unfold State.descriptorWordBad
  split <;> simp only [State.stable_mk, State.stable_eta]

@[simp] theorem State.qdrError_stable (s : State) (c w result how : Nat) :
    (State.qdrError s c w result how).stable = s.stable := by
  unfold State.qdrError
  dsimp only
  (repeat' split) <;> simp only [State.count_stable, State.logWordBad_stable, State.descriptorWordBad_stable,
      State.modQdr_stable, State.report_stable]

theorem execQdrScrub_stable (t channel result : Nat) (s : State) :
    ∃ u, execQdrScrub t channel result s = .next u ∧ u.stable = s.stable := by
  unfold execQdrScrub
  refine ⟨_, rfl, ?_⟩
  split <;> simp only [State.land_stable, State.modQdr_stable, State.qdrError_stable]

@[simp] theorem State.ddrError_stable (s : State) (c l result lane part : Nat) :
    (State.ddrError s c l result lane part).stable = s.stable := by
  unfold State.ddrError
  dsimp only
  (repeat' split) <;> simp only [State.count_stable, State.modDdr_stable,
      State.report_stable]

theorem execDdrScrub_stable (t channel result lane part : Nat) (s : State) :
    ∃ u, execDdrScrub t channel result lane part s = .next u ∧ u.stable = s.stable := by
  unfold execDdrScrub
  refine ⟨_, rfl, ?_⟩
  split <;> simp only [State.ddrError_stable, State.land_stable, State.modDdr_stable]

@[simp] theorem memRetrain_stable (v : Nat) (s : State) :
    (memRetrain v s).1.stable = s.stable := by
  unfold memRetrain
  (repeat' split) <;> simp only [State.armPause_stable, State.modDdr_stable,
      State.modQdr_stable]

theorem execMemRetrain_stable (t : Nat) (who : Path) (v : Nat) (s : State) :
    ∃ u, execMemRetrain t who v s = .next u ∧ u.stable = s.stable := by
  exact objectCommand_stable _ _ _ _ _ _ _ (fun _ => by simp)

theorem execQdrMarginLow_stable (t channel : Nat) (s : State) :
    ∃ u, execQdrMarginLow t channel s = .next u ∧ u.stable = s.stable := by
  unfold execQdrMarginLow
  refine ⟨_, rfl, ?_⟩
  split <;> simp only [State.armPause_stable, State.land_stable, State.modQdr_stable]

theorem execQdrImmediateRetrain_stable (t channel : Nat) (s : State) :
    ∃ u, execQdrImmediateRetrain t channel s = .next u ∧ u.stable = s.stable := by
  unfold execQdrImmediateRetrain
  refine ⟨_, rfl, ?_⟩
  split <;> simp only [State.land_stable, State.modQdr_stable]

@[simp] theorem State.pauseOver_stable (s : State) :
    (State.pauseOver s).stable = s.stable := by
  unfold State.pauseOver
  dsimp only
  (repeat' split) <;> simp only [State.stable_mk, State.stable_eta, State.armPause_stable]

theorem execQdrRetrainDone_stable (t channel : Nat) (trained : Bool) (s : State) :
    ∃ u, execQdrRetrainDone t channel trained s = .next u ∧ u.stable = s.stable := by
  unfold execQdrRetrainDone
  dsimp only
  (repeat' split) <;> refine ⟨_, rfl, ?_⟩ <;> simp only [State.count_stable,
      State.land_stable, State.modQdr_stable, State.pauseOver_stable, State.report_stable]

theorem execRetrainDue_stable (t channel : Nat) (s : State) :
    ∃ u, execRetrainDue t channel s = .next u ∧ u.stable = s.stable := by
  unfold execRetrainDue
  refine ⟨_, rfl, ?_⟩
  split <;> simp only [State.armPause_stable, State.land_stable, State.modDdr_stable]

theorem execRetrainPause_stable (t : Nat) (s : State) :
    ∃ u, execRetrainPause t s = .next u ∧ u.stable = s.stable := by
  unfold execRetrainPause
  dsimp only
  (repeat' split) <;> refine ⟨_, rfl, ?_⟩ <;> simp only [State.stable_mk, State.stable_eta, State.land_stable,
      State.modDdr_stable, State.modQdr_stable, State.calTicked_stable]

@[simp] theorem State.retireDdr_stable (s : State) (c detail : Nat) :
    (State.retireDdr s c detail).stable = s.stable := by
  unfold State.retireDdr
  dsimp only
  (repeat' split) <;> simp only [State.ddrGone_stable, State.reportMsg_stable]

@[simp] theorem State.cacheTraining_stable (s : State) (c : Nat) :
    (State.cacheTraining s c).stable = s.stable := by
  unfold State.cacheTraining
  split <;> simp only [State.stable_mk, State.stable_eta, State.modDdr_stable]

theorem execRetrainDone_stable (t : Nat) (trained : Bool) (s : State) :
    ∃ u, execRetrainDone t trained s = .next u ∧ u.stable = s.stable := by
  unfold execRetrainDone
  dsimp only
  (repeat' split) <;> refine ⟨_, rfl, ?_⟩ <;> simp only [State.cacheTraining_stable,
      State.count_stable, State.land_stable, State.modDdr_stable, State.pauseOver_stable, State.putValue_stable,
      State.retireDdr_stable]

theorem execSelfRefreshEntry_stable (t channel : Nat) (s : State) :
    ∃ u, execSelfRefreshEntry t channel s = .next u ∧ u.stable = s.stable := by
  unfold execSelfRefreshEntry
  refine ⟨_, rfl, ?_⟩
  split <;> simp only [State.land_stable, State.modDdr_stable]

theorem execSelfRefreshExit_stable (t channel : Nat) (s : State) :
    ∃ u, execSelfRefreshExit t channel s = .next u ∧ u.stable = s.stable := by
  unfold execSelfRefreshExit
  dsimp only
  (repeat' split) <;> refine ⟨_, rfl, ?_⟩ <;> simp only [State.count_stable,
      State.land_stable, State.modDdr_stable, State.putValue_stable]

theorem execDdrRefresh_stable (t channel bank choice : Nat) (s : State) :
    ∃ u, execDdrRefresh t channel bank choice s = .next u ∧ u.stable = s.stable := by
  unfold execDdrRefresh
  dsimp only
  (repeat' split) <;> refine ⟨_, rfl, ?_⟩ <;> simp only [State.land_stable, State.modDdr_stable]

theorem execDramTempRead_stable (t channel : Nat) (hot : Bool) (s : State) :
    ∃ u, execDramTempRead t channel hot s = .next u ∧ u.stable = s.stable := by
  unfold execDramTempRead
  refine ⟨_, rfl, ?_⟩
  split <;> simp only [State.land_stable, State.modDdr_stable]

theorem execPageClose_stable (t channel bank : Nat) (s : State) :
    ∃ u, execPageClose t channel bank s = .next u ∧ u.stable = s.stable := by
  unfold execPageClose
  refine ⟨_, rfl, ?_⟩
  split <;> simp only [State.land_stable, State.modDdr_stable]

@[simp] theorem State.ddrQueues_stable (s : State) (c : Nat) (panic : Bool) (req : Option (Bool × DdrReq)) (served : List Nat) :
    (State.ddrQueues s c panic req served).stable = s.stable := by
  unfold State.ddrQueues
  simp only [State.modDdr_stable]

@[simp] theorem State.waitEnds_stable (s : State) (row waited : Nat) : (State.waitEnds s row waited).stable = s.stable := rfl

theorem execArbitration_stable (t channel : Nat) (requests : List Nat) (panic emergency : Bool) (beat : ChannelBeat) (s : State) :
    ∃ u, execArbitration t channel requests panic emergency beat s = .next u ∧ u.stable = s.stable := by
  have key : ∀ (z : State) (d : Mem), ({ z with mem := d } : State).stable = z.stable := fun _ _ => rfl
  unfold execArbitration
  extract_lets s0 panic a a1 rows grants fair won lose x since a2 src s1 queues
  have h0 : s0.stable = s.stable := State.land_stable t s
  have h1 : s1.stable = s.stable := (key _ _).trans h0
  clear_value won
  have hq : ∀ z : State, (queues z).stable = z.stable := by
    intro z
    simp only [queues]
    split
    · rfl
    · rw [State.ddrQueues_stable]
      cases beat.refill with
      | none => rfl
      | some r => exact State.gristError_stable _ _ _
  split
  · exact ⟨_, rfl, h0⟩
  · cases won with
    | none => exact ⟨_, rfl, (hq _).trans h1⟩
    | some r =>
      exact ⟨_, rfl, (hq _).trans ((State.waitEnds_stable _ _ _).trans h1)⟩

@[simp] theorem memArbPrio_stable (row v : Nat) (s : State) :
    (memArbPrio row v s).1.stable = s.stable := by
  unfold memArbPrio
  simp only [State.put_stable]

theorem execMemArbPrio_stable (t : Nat) (who : Path) (row v : Nat) (s : State) :
    ∃ u, execMemArbPrio t who row v s = .next u ∧ u.stable = s.stable := by
  exact objectCommand_stable _ _ _ _ _ _ _ (fun _ => by simp)

@[simp] theorem memGrSelftest_stable (v : Nat) (s : State) :
    (memGrSelftest v s).1.stable = s.stable := by
  unfold memGrSelftest
  (repeat' split) <;> simp only [State.setBank_stable]

theorem execMemGrSelftest_stable (t : Nat) (who : Path) (v : Nat) (s : State) :
    ∃ u, execMemGrSelftest t who v s = .next u ∧ u.stable = s.stable := by
  exact objectCommand_stable _ _ _ _ _ _ _ (fun _ => by simp)

theorem execGristTestStart_stable (t bank : Nat) (s : State) :
    ∃ u, execGristTestStart t bank s = .next u ∧ u.stable = s.stable := by
  unfold execGristTestStart
  refine ⟨_, rfl, ?_⟩
  split <;> simp only [State.stable_mk, State.stable_eta, State.land_stable, State.setBank_stable]

@[simp] theorem State.retireBank_stable (s : State) (b : Nat) :
    (State.retireBank s b).stable = s.stable := by
  unfold State.retireBank
  simp only [State.report_stable, State.setBank_stable]

theorem execGristTestDone_stable (t bank : Nat) (passed : Bool) (s : State) :
    ∃ u, execGristTestDone t bank passed s = .next u ∧ u.stable = s.stable := by
  unfold execGristTestDone
  dsimp only
  (repeat' split) <;> refine ⟨_, rfl, ?_⟩ <;> simp only [State.land_stable,
      State.retireBank_stable, State.setBank_stable]

end Sys2Proof.Machine
end

