-- ==== Sys2Proof/Laws/StableWort.lean ====
section
/-! SUPPORT. The operations of `Machine/Wort.lean` that leave the queue, the byte memories, the bright set and the fuses alone. -/
set_option Elab.async false
namespace Sys2Proof.Machine

@[simp] theorem State.wortEcc_stable (s : State) (line ecc : Nat) :
    (State.wortEcc s line ecc).stable = s.stable := by
  unfold State.wortEcc
  dsimp only
  (repeat' split) <;> simp only [State.count_stable, State.report_stable,
      State.setWort_stable]

theorem execPush_stable (t line : Nat) (words : List Nat) (s : State) :
    ∃ u, execPush t line words s = .next u ∧ u.stable = s.stable := by
  unfold execPush
  (try dsimp only)
  refine ⟨_, rfl, ?_⟩
  simp

theorem execPop_stable (t line ecc : Nat) (s : State) :
    ∃ u, execPop t line ecc s = .next u ∧ u.stable = s.stable := by
  unfold execPop
  dsimp only
  (repeat' split) <;> refine ⟨_, rfl, ?_⟩ <;> simp only [State.land_stable,
      State.send_stable, State.setWort_stable, State.wortEcc_stable]

@[simp] theorem wortFlushSet_stable (line : Nat) (s : State) :
    (wortFlushSet line s).1.stable = s.stable := by
  unfold wortFlushSet
  dsimp only
  (repeat' split) <;> simp only [State.put_stable, State.setWort_stable]

@[simp] theorem wortFlushClear_stable (line : Nat) (s : State) :
    (wortFlushClear line s).1.stable = s.stable := by
  unfold wortFlushClear
  dsimp only
  (repeat' split) <;> simp only [State.count_stable, State.put_stable, State.setWort_stable]

@[simp] theorem wortFlush_stable (line v : Nat) (s : State) :
    (wortFlush line v s).1.stable = s.stable := by
  unfold wortFlush
  split <;> simp only [wortFlushClear_stable, wortFlushSet_stable]

theorem execWrtFlushSet_stable (t : Nat) (who : Path) (line : Nat) (s : State) :
    ∃ u, execWrtFlushSet t who line s = .next u ∧ u.stable = s.stable := by
  exact objectCommand_stable _ _ _ _ _ _ _ (fun _ => by simp)

theorem execWrtFlushClear_stable (t : Nat) (who : Path) (line : Nat) (s : State) :
    ∃ u, execWrtFlushClear t who line s = .next u ∧ u.stable = s.stable := by
  exact objectCommand_stable _ _ _ _ _ _ _ (fun _ => by simp)

end Sys2Proof.Machine
end

