-- ==== Sys2Proof/Laws/StableCellar.lean ====
section
/-! SUPPORT. The operations of `Machine/Cellar.lean` that leave the queue, the byte memories, the bright set and the fuses alone. -/
set_option Elab.async false
namespace Sys2Proof.Machine

@[simp] theorem State.modCellar_stable (s : State) (f : Cellar → Cellar) :
    (State.modCellar s f).stable = s.stable := by
  unfold State.modCellar
  simp only [State.stable_mk, State.stable_eta]

@[simp] theorem State.stopForSafe_stable (s : State) :
    (State.stopForSafe s).stable = s.stable := by
  unfold State.stopForSafe
  dsimp only
  (repeat' split) <;> simp only [State.stable_mk, State.stable_eta, State.endRack_stable, State.modCellar_stable,
      State.prbsStopAll_stable, State.revokeAll_stable, State.unpropose_stable]

@[simp] theorem State.enterSafe_stable (s : State) (m : FaultMsg) :
    (State.enterSafe s m).stable = s.stable := by
  unfold State.enterSafe
  split <;> simp only [State.stable_mk, State.stable_eta, State.brewRec_stable, State.stopForSafe_stable]

theorem execSafeEntry_stable (t : Nat) (s : State) :
    ∃ u, execSafeEntry t s = .next u ∧ u.stable = s.stable := by
  unfold execSafeEntry
  dsimp only
  (repeat' split) <;> refine ⟨_, rfl, ?_⟩ <;> simp only [State.enterSafe_stable,
      State.land_stable]

@[simp] theorem cwtSafeEnter_stable (s : State) :
    (cwtSafeEnter s).1.stable = s.stable := by
  unfold cwtSafeEnter
  simp only [State.report_stable]

theorem execCwtSafeEnter_stable (t : Nat) (who : Path) (v : Nat) (s : State) :
    ∃ u, execCwtSafeEnter t who v s = .next u ∧ u.stable = s.stable := by
  exact objectCommand_stable _ _ _ _ _ _ _ (fun _ => by simp)

@[simp] theorem State.emcy_stable (s : State) (m : FaultMsg) :
    (State.emcy s m).stable = s.stable := by
  unfold State.emcy
  dsimp only
  (repeat' split) <;> simp only [State.stable_mk, State.stable_eta, State.send_stable]

@[simp] theorem State.notify_stable (s : State) (m : FaultMsg) :
    (State.notify s m).stable = s.stable := by
  unfold State.notify
  simp only [State.stable_mk, State.stable_eta, State.emcy_stable, State.notice_stable]

@[simp] theorem State.retireUnit_stable (s : State) (x : Nat) :
    (State.retireUnit s x).stable = s.stable := by
  unfold State.retireUnit
  dsimp only
  (repeat' split) <;> simp only [State.armPause_stable, State.modDdr_stable,
      State.moveGroups_stable, State.rehome_stable, State.retireReaction_stable, State.setBank_stable, State.setLane_stable,
      State.setPort_stable, State.count_stable]

@[simp] theorem State.react_stable (s : State) (m : FaultMsg) (r : Nat) :
    (State.react s m r).stable = s.stable := by
  unfold State.react
  dsimp only
  (repeat' split) <;> simp only [State.enterSafe_stable, State.moveGroups_stable,
      State.rehome_stable, State.retireUnit_stable, State.setPort_stable, State.silenceFault_stable]

@[simp] theorem State.latch_stable (s : State) (m : FaultMsg) (time : Nat) :
    (State.latch s m time).1.stable = s.stable := by
  unfold State.latch
  split <;> simp only [State.stable_mk, State.stable_eta]

@[simp] theorem State.recordPair_stable (s : State) (m : FaultMsg) (x : Recorded) :
    (State.recordPair s m x).stable = s.stable := by
  unfold State.recordPair
  simp only [State.stable_mk, State.stable_eta]

@[simp] theorem State.faultRecord_stable (s : State) (m : FaultMsg) (restart took : Bool) :
    (State.faultRecord s m restart took).stable = s.stable := by
  unfold State.faultRecord
  simp only [State.push_stable]

@[simp] theorem State.collect_stable (s : State) (m : FaultMsg) (parity : Bool) :
    (State.collect s m parity).stable = s.stable := by
  have kc : ∀ (z : State) (d : Cellar), ({ z with cellar := d } : State).stable = z.stable := fun _ _ => rfl
  unfold State.collect
  split
  · exact State.report_stable _ _ _ _ _
  · extract_lets s1 time l signalled s2 s3 s4 r src s5 restart s6 s7 src1 s8 s9 s10 src2
    have hs1 : s1.stable = s.stable := by simp only [s1, State.count_stable]
    have hs2 : s2.stable = s.stable := (State.latch_stable s1 m time).trans hs1
    have hs3 : s3.stable = s.stable := by
      simp only [s3]; split
      · exact (State.modCellar_stable _ _).trans ((State.enterSafe_stable _ _).trans hs2)
      · exact hs2
    have hs4 : s4.stable = s.stable := by
      simp only [s4]; split
      · exact (State.report_stable _ _ _ _ _).trans hs3
      · exact hs3
    split
    · rw [State.count_stable]
      simp only [s5]
      cases State.recordedPair s4 m with
      | none => exact hs4
      | some x => exact (kc _ _).trans hs4
    · have hs6 : s6.stable = s.stable := (State.faultRecord_stable _ _ _ _).trans hs4
      have hs7 : s7.stable = s.stable := by
        simp only [s7]; split
        · exact hs6
        · exact (State.recordPair_stable _ _ _).trans hs6
      have hs8 : s8.stable = s.stable := by
        simp only [s8]; split
        · exact (kc _ _).trans hs7
        · exact hs7
      have hs9 : s9.stable = s.stable := by
        simp only [s9]; split
        · exact (State.notify_stable _ _).trans hs8
        · exact hs8
      have hs10 : s10.stable = s.stable := (State.react_stable _ _ _).trans hs9
      split
      · exact (kc _ _).trans hs10
      · exact hs10

theorem execFaultMessage_stable (t : Nat) (damaged parity : Bool) (s : State) :
    ∃ u, execFaultMessage t damaged parity s = .next u ∧ u.stable = s.stable := by
  unfold execFaultMessage
  dsimp only
  split
  · exact ⟨_, rfl, State.land_stable t s⟩
  · rename_i line e
    generalize h1 : (if damaged = true then (State.land t s).wortEcc line 2 else State.land t s) = s1
    have h1 : s1.stable = s.stable := by rw [← h1]; split <;> simp
    generalize (s1.wortLine line).msgs = q
    split
    · refine ⟨_, rfl, ?_⟩
      simp only [State.stable_mk]; exact (State.setWort_stable _ _ _).trans h1
    · refine ⟨_, rfl, ?_⟩
      split
      · rw [State.report_stable, State.stable_mk]; exact (State.setWort_stable _ _ _).trans h1
      · rw [State.collect_stable, State.stable_mk]; exact (State.setWort_stable _ _ _).trans h1

theorem execCollectorSelftest_stable (t : Nat) (passed : Bool) (s : State) :
    ∃ u, execCollectorSelftest t passed s = .next u ∧ u.stable = s.stable := by
  unfold execCollectorSelftest
  dsimp only
  (repeat' split) <;> refine ⟨_, rfl, ?_⟩ <;> simp only [State.stable_mk, State.stable_eta, State.land_stable,
      State.report_stable]

@[simp] theorem cwtClear_stable (v : Nat) (s : State) :
    (cwtClear v s).1.stable = s.stable := by
  unfold cwtClear
  dsimp only
  (repeat' split) <;> simp only [State.stable_mk, State.stable_eta, State.brewRec_stable]

theorem execClearRealLatch_stable (t : Nat) (who : Path) (s : State) :
    ∃ u, execClearRealLatch t who s = .next u ∧ u.stable = s.stable := by
  exact objectCommand_stable _ _ _ _ _ _ _ (fun _ => by simp)

theorem execClearInjectedLatch_stable (t : Nat) (who : Path) (s : State) :
    ∃ u, execClearInjectedLatch t who s = .next u ∧ u.stable = s.stable := by
  exact objectCommand_stable _ _ _ _ _ _ _ (fun _ => by simp)

@[simp] theorem cwtAck_stable (v : Nat) (s : State) :
    (cwtAck v s).1.stable = s.stable := by
  unfold cwtAck
  simp only [State.stable_mk, State.stable_eta]

theorem execAckClass_stable (t : Nat) (who : Path) (cls : Nat) (s : State) :
    ∃ u, execAckClass t who cls s = .next u ∧ u.stable = s.stable := by
  exact objectCommand_stable _ _ _ _ _ _ _ (fun _ => by simp)

theorem execAckCollectorSelf_stable (t : Nat) (who : Path) (s : State) :
    ∃ u, execAckCollectorSelf t who s = .next u ∧ u.stable = s.stable := by
  exact objectCommand_stable _ _ _ _ _ _ _ (fun _ => by simp)

@[simp] theorem cwtForce_stable (v : Nat) (s : State) :
    (cwtForce v s).1.stable = s.stable := by
  unfold cwtForce
  dsimp only
  (repeat' split) <;> simp only [State.stable_mk, State.stable_eta, State.count_stable, State.forceActed_stable,
      State.portDown_stable, State.reportAs_stable, State.tunFault_stable]

theorem forceCommand_stable (t : Nat) (who : Path) (code target : Nat) (s : State) :
    ∃ u, forceCommand t who code target s = .next u ∧ u.stable = s.stable := by
  exact objectCommand_stable _ _ _ _ _ _ _ (fun _ => by simp)

theorem execForceTunFault_stable (t : Nat) (who : Path) (target : Nat) (s : State) :
    ∃ u, execForceTunFault t who target s = .next u ∧ u.stable = s.stable := by
  unfold execForceTunFault
  exact forceCommand_stable _ _ _ _ _

theorem execForceLaneLoss_stable (t : Nat) (who : Path) (target : Nat) (s : State) :
    ∃ u, execForceLaneLoss t who target s = .next u ∧ u.stable = s.stable := by
  unfold execForceLaneLoss
  exact forceCommand_stable _ _ _ _ _

theorem execForceTasterMismatch_stable (t : Nat) (who : Path) (target : Nat) (s : State) :
    ∃ u, execForceTasterMismatch t who target s = .next u ∧ u.stable = s.stable := by
  unfold execForceTasterMismatch
  exact forceCommand_stable _ _ _ _ _

theorem execForceTwinDigest_stable (t : Nat) (who : Path) (s : State) :
    ∃ u, execForceTwinDigest t who s = .next u ∧ u.stable = s.stable := by
  unfold execForceTwinDigest
  exact forceCommand_stable _ _ _ _ _

theorem execForceDeadlineMiss_stable (t : Nat) (who : Path) (s : State) :
    ∃ u, execForceDeadlineMiss t who s = .next u ∧ u.stable = s.stable := by
  unfold execForceDeadlineMiss
  exact forceCommand_stable _ _ _ _ _

end Sys2Proof.Machine
end

