-- ==== Sys2Proof/Laws/StableDecodeStreams.lean ====
section
/-! SUPPORT. The operations of `Machine/DecodeStreams.lean` that leave the queue, the byte memories, the bright set and the fuses alone. -/
set_option Elab.async false
namespace Sys2Proof.Machine

@[simp] theorem State.setDec_stable (s : State) (d : Nat) (x : DecStream) :
    (State.setDec s d x).stable = s.stable := by
  unfold State.setDec
  simp only [State.stable_mk, State.stable_eta]

@[simp] theorem State.decReset_stable (s : State) (d st : Nat) :
    (State.decReset s d st).stable = s.stable := by
  unfold State.decReset
  refine (State.setDec_stable _ _ _).trans (foldl_stable _ _ _ ?_)
  intro y0 y1; (repeat' split) <;> simp

@[simp] theorem State.decSelect_stable (s : State) (d f n : Nat) :
    (State.decSelect s d f n).stable = s.stable := by
  unfold State.decSelect
  dsimp only
  (repeat' split) <;> simp only [State.brewRec_stable, State.count_stable,
      State.report_stable, State.setDec_stable]

@[simp] theorem State.decFault_stable (s : State) (d cls : Nat) (poc : Int) :
    (State.decFault s d cls poc).stable = s.stable := by
  unfold State.decFault
  simp only [State.report_stable]

@[simp] theorem State.startAu_stable (s : State) (d ts own : Nat) (nals : List Bytes) (info : Config.AuInfo) :
    (State.startAu s d ts own nals info).stable = s.stable := by
  unfold State.startAu
  dsimp only
  (repeat' split) <;> simp only [State.count_stable, State.decFault_stable, State.setDec_stable]

@[simp] theorem State.auEnd_stable (s : State) (d : Nat) :
    (State.auEnd s d).stable = s.stable := by
  unfold State.auEnd
  extract_lets x nals ts x1 s1 c hevc unit sets size held s2 info s3
  have h1 : s1.stable = s.stable := State.setDec_stable _ _ _
  have h2 : s2.stable = s.stable := (State.setDec_stable _ _ _).trans h1
  have h3 : s3.stable = s.stable := by
    refine Eq.trans (foldl_stable _ _ _ ?_) h2
    intro y0 y1; (repeat' split) <;> simp
  (repeat' split)
  · exact h1
  · exact (State.decFault_stable _ _ _ _).trans h2
  · exact (State.count_stable _ _ _ _).trans h2
  · exact (State.decFault_stable _ _ _ _).trans ((State.setDec_stable _ _ _).trans h3)
  · exact h2
  · exact (State.startAu_stable _ _ _ _ _ _).trans h2

@[simp] theorem State.dropFragment_stable (s : State) (d : Nat) (seen more : Bool) :
    (State.dropFragment s d seen more).stable = s.stable := by
  unfold State.dropFragment
  dsimp only
  (repeat' split) <;> simp only [State.count_stable, State.setDec_stable]

@[simp] theorem State.addNals_stable (s : State) (d : Nat) (nals : List Bytes) :
    (State.addNals s d nals).stable = s.stable := by
  unfold State.addNals
  simp only [State.setDec_stable]

@[simp] theorem State.depacketise_stable (s : State) (d : Nat) (b : Bytes) :
    (State.depacketise s d b).stable = s.stable := by
  unfold State.depacketise
  dsimp only
  (repeat' split) <;> simp only [State.addNals_stable, State.count_stable,
      State.dropFragment_stable, State.setDec_stable]

@[simp] theorem State.releaseDec_stable (s : State) (d : Nat) (p : DecWait) :
    (State.releaseDec s d p).stable = s.stable := by
  unfold State.releaseDec
  dsimp only
  (repeat' split) <;> simp only [State.auEnd_stable, State.depacketise_stable,
      State.dropFragment_stable, State.setDec_stable]

@[simp] theorem State.releaseRun_stable (d : Nat) (x0 : Nat) (s : State) :
    (State.releaseRun d x0 s).stable = s.stable := by
  induction x0 generalizing s with
  | zero => rfl
  | succ n ih =>
    unfold State.releaseRun
    (try dsimp only)
    (repeat' split) <;> first | rfl | simp [ih]

theorem execDecodePacketRx_stable (t stream : Nat) (pathB : Bool) (seq pt ts : Nat) (marker : Bool) (payload : Bytes) (s :
    State) :
    ∃ u, execDecodePacketRx t stream pathB seq pt ts marker payload s = .next u ∧ u.stable = s.stable := by
  unfold execDecodePacketRx
  dsimp only
  (repeat' split) <;> refine ⟨_, rfl, ?_⟩ <;> simp only [State.count_stable,
      State.land_stable, State.releaseRun_stable, State.setDec_stable]

theorem execReorderTimeout_stable (t stream : Nat) (s : State) :
    ∃ u, execReorderTimeout t stream s = .next u ∧ u.stable = s.stable := by
  unfold execReorderTimeout
  dsimp only
  (repeat' split) <;> refine ⟨_, rfl, ?_⟩ <;> simp only [State.count_stable, State.dropFragment_stable, State.land_stable, State.releaseRun_stable, State.setDec_stable]

@[simp] theorem State.modItem_stable (s : State) (d pic item : Nat) (f : DecItem → DecItem) :
    (State.modItem s d pic item f).stable = s.stable := by
  unfold State.modItem
  simp only [State.setDec_stable]

@[simp] theorem State.readItem_stable (s : State) (u d pic item : Nat) : (State.readItem s u d pic item).stable = s.stable := by
  unfold State.readItem
  split <;> simp only [State.setTun_stable]

@[simp] theorem State.refUnreadable_stable (s : State) (k : Task) (c block : Nat) :
    (State.refUnreadable s k c block).stable = s.stable := by
  unfold State.refUnreadable
  simp only [State.report_stable, State.modItem_stable]

theorem execDecodeItemAssign_stable (t : Nat) (s : State) :
    ∃ u, execDecodeItemAssign t s = .next u ∧ u.stable = s.stable := by
  unfold execDecodeItemAssign
  dsimp only
  (repeat' split) <;> refine ⟨_, rfl, ?_⟩ <;> simp only [State.stable_mk, State.stable_eta, State.land_stable,
      State.modItem_stable, State.readItem_stable, State.startTask_stable]

@[simp] theorem State.commitItem_stable (s : State) (u : Nat) (k : Task) :
    (State.commitItem s u k).stable = s.stable := by
  unfold State.commitItem
  dsimp only
  (repeat' split) <;> simp only [State.abortsDone_stable, State.count_stable,
      State.endDiscard_stable, State.modItem_stable, State.setTun_stable, State.tunFree_stable, State.unstage_stable]

theorem execCompletionItem_stable (t stream : Nat) (s : State) :
    ∃ u, execCompletionItem t stream s = .next u ∧ u.stable = s.stable := by
  unfold execCompletionItem
  dsimp only
  split
  · exact ⟨_, rfl, State.land_stable t s⟩
  · refine ⟨_, rfl, ?_⟩
    (repeat' split) <;>
      simp only [State.put_stable, State.count_stable, State.decFault_stable, State.setDec_stable, State.land_stable]

end Sys2Proof.Machine
end

