-- ==== Sys2Proof/Laws/StableCompositor.lean ====
section
/-! SUPPORT. The operations of `Machine/Compositor.lean` that leave the queue, the byte memories, the bright set and the fuses alone. -/
set_option Elab.async false
namespace Sys2Proof.Machine

@[simp] theorem State.setFlow_stable (s : State) (f : Nat) (x : Flow) :
    (State.setFlow s f x).stable = s.stable := by
  unfold State.setFlow
  simp only [State.stable_mk, State.stable_eta]

theorem execFlowPacketRx_stable (t flow : Nat) (pathB : Bool) (seq ts : Nat) (payload : Bytes) (s : State) :
    ∃ u, execFlowPacketRx t flow pathB seq ts payload s = .next u ∧ u.stable = s.stable := by
  unfold execFlowPacketRx
  dsimp only
  (repeat' split) <;> refine ⟨_, rfl, ?_⟩ <;> simp only [State.count_stable,
      State.land_stable, State.setFlow_stable]

theorem execFrameBufferCopy_stable (t flow line : Nat) (s : State) :
    ∃ u, execFrameBufferCopy t flow line s = .next u ∧ u.stable = s.stable := by
  unfold execFrameBufferCopy
  dsimp only
  (repeat' split) <;> refine ⟨_, rfl, ?_⟩ <;> simp only [State.count_stable,
      State.land_stable, State.setFlow_stable]

@[simp] theorem State.rackEmpties_stable (s : State) :
    (State.rackEmpties s).stable = s.stable := by
  unfold State.rackEmpties
  dsimp only
  (repeat' split) <;> simp

@[simp] theorem State.rackCompositor_stable (s : State) (old new : CanvasSet) (f : Nat) :
    (State.rackCompositor s old new f).stable = s.stable := by
  unfold State.rackCompositor
  dsimp only
  (repeat' split) <;> simp only [State.stable_mk, State.stable_eta, State.rackEmpties_stable]

@[simp] theorem State.needLine_stable (s : State) (c : CanvasSet) (f n j : Nat) (bad : Bool) :
    (State.needLine s c f n j bad).1.stable = s.stable := by
  unfold State.needLine
  dsimp only
  (repeat' split) <;> simp only [State.stable_mk, State.stable_eta, State.count_stable, State.setFlow_stable]

@[simp] theorem State.flowStatus_stable (s : State) (c : CanvasSet) (f row : Nat) (k : Nat) :
    (State.flowStatus s c f row k).stable = s.stable := by
  unfold State.flowStatus
  dsimp only
  (repeat' split) <;> simp only [State.brewRec_stable, State.report_stable,
      State.setFlow_stable]

@[simp] theorem State.sampleSlot_stable (s : State) (c : CanvasSet) (f n row : Nat) (unreadable : List (Nat × Nat × Nat)) (i
    : Nat) (l : Layer) (seen : List (Nat × Nat × Bool)) :
    (State.sampleSlot s c f n row unreadable i l seen).1.stable = s.stable := by
  have foldl_fst : ∀ {β α : Type} (f : State × β → α → State × β) (l : List α) (y : State × β),
      (∀ q x, (f q x).1.stable = q.1.stable) → (l.foldl f y).1.stable = y.1.stable := by
    intro β α f l y h
    induction l generalizing y with
    | nil => rfl
    | cons a l ih => exact (ih _).trans (h _ _)
  unfold State.sampleSlot
  refine foldl_fst _ _ _ ?_
  rintro ⟨q, seen, missing⟩ x
  dsimp only
  split
  · rfl
  · split
    · rw [State.needLine_stable]
      (repeat' split) <;> first | rfl | exact State.report_stable _ _ _ _ _
    · (repeat' split) <;> first | rfl | exact State.report_stable _ _ _ _ _

@[simp] theorem State.frameStart_stable (s : State) (f n : Nat) :
    (State.frameStart s f n).stable = s.stable := by
  unfold State.frameStart
  simp only [State.stable_mk, State.stable_eta, State.rackEmpties_stable, State.startPicture_stable]

theorem execRowSamplePoint_stable (t row : Nat) (unreadable : List (Nat × Nat × Nat)) (s : State) :
    ∃ u, execRowSamplePoint t row unreadable s = .next u ∧ u.stable = s.stable := by
  have foldl_fst : ∀ {β α : Type} (f : State × β → α → State × β) (l : List α) (y : State × β),
      (∀ q x, (f q x).1.stable = q.1.stable) → (l.foldl f y).1.stable = y.1.stable := by
    intro β α f l y h
    induction l generalizing y with
    | nil => rfl
    | cons a l ih => exact (ih _).trans (h _ _)
  have kc : ∀ (z : State) (d : Compositor), ({ z with cmp := d } : State).stable = z.stable := fun _ _ => rfl
  unfold execRowSamplePoint
  extract_lets s0 now f c due n s1 work src s2 s3
  have h0 : s0.stable = s.stable := State.land_stable t s
  split
  · exact ⟨_, rfl, h0⟩
  · have h1 : s1.stable = s.stable := by
      simp only [s1]; split
      · exact (State.frameStart_stable _ _ _).trans h0
      · exact h0
    have h2 : s2.stable = s.stable := (kc _ _).trans h1
    have h3 : s3.stable = s.stable := by
      refine Eq.trans (foldl_stable _ _ _ ?_) h2
      intro y0 y1; split <;> simp
    generalize hq : List.foldl _ (s3, ([] : List (Nat × Nat × Bool)), ([] : List (Nat × Nat))) _ = q
    have h4 : q.1.stable = s.stable := by
      rw [← hq]
      refine Eq.trans (foldl_fst _ _ _ ?_) h3
      intro y x; exact State.sampleSlot_stable _ _ _ _ _ _ _ _ _
    obtain ⟨s4, seen, missing⟩ := q
    dsimp only at h4 ⊢
    clear hq
    refine ⟨_, rfl, (State.rowSampled_stable _ _ _).trans ?_⟩
    split
    · refine Eq.trans (foldl_stable _ _ _ ?_) ((kc _ _).trans h4)
      intro y0 y1; split <;> simp
    · exact (kc _ _).trans h4

@[simp] theorem State.rawPacket_stable (s : State) (c : CanvasSet) (w : RowWork) (z : RawGroup) (k p m : Nat) (data : Bytes) :
    (State.rawPacket s c w z k p m data).stable = s.stable := by
  unfold State.rawPacket
  dsimp only
  (repeat' split) <;> simp only [State.stable_mk, State.stable_eta, State.count_stable, State.countOctets_stable, State.kegAlloc_stable]

@[simp] theorem State.rawSend_stable (c : CanvasSet) (w : RowWork) (z : RawGroup) (avail : Nat) (x0 : Nat) (x1 : Nat) (x2 :
    Nat) (x3 : Bytes) (s : State) :
    (State.rawSend c w z avail x0 x1 x2 x3 s).stable = s.stable := by
  induction x0 generalizing x1 x2 x3 s with
  | zero => rfl
  | succ n ih =>
    unfold State.rawSend
    (try dsimp only)
    (repeat' split) <;> first | rfl | simp [ih]

@[simp] theorem State.rawRow_stable (s : State) (r : RowPx) (g : Nat) :
    (State.rawRow s r g).stable = s.stable := by
  unfold State.rawRow
  dsimp only
  (repeat' split) <;> simp only [State.rawSend_stable]

@[simp] theorem State.setRow_stable (s : State) (w : RowWork) :
    (State.setRow s w).stable = s.stable := by
  unfold State.setRow
  simp only [State.stable_mk, State.stable_eta]

@[simp] theorem State.parityFound_stable (s : State) (w : RowWork) (slots : List Nat) :
    (State.parityFound s w slots).1.stable = s.stable := by
  unfold State.parityFound
  simp

@[simp] theorem State.loseIntegrity_stable (s : State) (f row : Nat) (bad : List Nat) :
    (State.loseIntegrity s f row bad).stable = s.stable := rfl

@[simp] theorem State.composeCols_stable (s : State) (w : RowWork) (upto limit : Nat) :
    (State.composeCols s w upto limit).stable = s.stable := by
  have kc : ∀ (z : State) (d : Compositor), ({ z with cmp := d } : State).stable = z.stable := fun _ _ => rfl
  unfold State.composeCols
  extract_lets c r cols px lost concealed segs bad con key composing new s1
  have h1 : s1.stable = s.stable := by
    unfold s1; split
    · rfl
    · exact State.count_stable _ _ _ _
  exact (State.setRow_stable _ _).trans ((State.loseIntegrity_stable _ _ _ _).trans ((kc _ _).trans h1))

@[simp] theorem State.composeRow_stable (s : State) (w : RowWork) (limit : Nat) :
    (State.composeRow s w limit).stable = s.stable := by
  unfold State.composeRow
  dsimp only
  (repeat' split) <;> simp

@[simp] theorem State.rowBoundary_stable (s : State) :
    (State.rowBoundary s).stable = s.stable := by
  unfold State.rowBoundary
  simp only [State.stable_mk, State.stable_eta]

theorem execRowCompositionDone_stable (t row : Nat) (parity : List Nat) (s : State) :
    ∃ u, execRowCompositionDone t row parity s = .next u ∧ u.stable = s.stable := by
  unfold execRowCompositionDone
  refine ⟨_, rfl, ?_⟩
  split
  · simp
  · split
    · simp
    · dsimp only
      rw [State.composeRow_stable, State.parityFound_stable, State.land_stable]

theorem execCompositionLimit_stable (t row : Nat) (late : LateRow) (s : State) :
    ∃ u, execCompositionLimit t row late s = .next u ∧ u.stable = s.stable := by
  unfold execCompositionLimit
  dsimp only
  (repeat' split) <;> refine ⟨_, rfl, ?_⟩ <;> simp only [State.composeRow_stable,
      State.count_stable, State.land_stable, State.parityFound_stable, State.report_stable]

theorem execSegmentComposed_stable (t seg : Nat) (done : ComposedRow) (s : State) :
    ∃ u, execSegmentComposed t seg done s = .next u ∧ u.stable = s.stable := by
  unfold execSegmentComposed
  dsimp only
  (repeat' split) <;> refine ⟨_, rfl, ?_⟩ <;> simp only [State.composeCols_stable,
      State.land_stable, State.modSeg_stable, State.parityFound_stable]

@[simp] theorem State.setStill_stable (s : State) (n : Nat) (x : Still) :
    (State.setStill s n x).stable = s.stable := by
  unfold State.setStill
  simp only [State.stable_mk, State.stable_eta]

@[simp] theorem cmpStillDesc_stable (row v : Nat) (s : State) :
    (cmpStillDesc row v s).1.stable = s.stable := by
  unfold cmpStillDesc
  (repeat' split) <;> simp only [State.put_stable, State.setStill_stable]

theorem execCmpStillDesc_stable (t : Nat) (who : Path) (row v : Nat) (s : State) :
    ∃ u, execCmpStillDesc t who row v s = .next u ∧ u.stable = s.stable := by
  exact objectCommand_stable _ _ _ _ _ _ _ (fun _ => by simp)

@[simp] theorem cmpStillData_stable (row : Nat) (data : Bytes) (s : State) :
    (cmpStillData row data s).1.stable = s.stable := by
  unfold cmpStillData
  dsimp only
  (repeat' split) <;> simp only [State.setStill_stable]

theorem execCmpStillData_stable (t : Nat) (who : Path) (row : Nat) (data : Bytes) (s : State) :
    ∃ u, execCmpStillData t who row data s = .next u ∧ u.stable = s.stable := by
  exact objectCommand_stable _ _ _ _ _ _ _ (fun _ => by simp)

end Sys2Proof.Machine
end

