-- ==== Sys2Proof/Laws/StableFloorMap.lean ====
section
/-! SUPPORT. The operations of `Machine/FloorMap.lean` that leave the queue, the byte memories, the bright set and the fuses alone. -/
set_option Elab.async false
namespace Sys2Proof.Machine

@[simp] theorem State.floorResult_stable (s : State) (r : Nat × Nat × Option Nat) :
    (State.floorResult s r).stable = s.stable := by
  unfold State.floorResult
  split <;> simp only [State.put_stable]

@[simp] theorem State.setGreenMap_stable (s : State) (m : FloorMap) :
    (State.setGreenMap s m).stable = s.stable := by
  unfold State.setGreenMap
  simp only [State.stable_mk, State.stable_eta, State.checkTouched_stable, State.greenTouched_stable]

@[simp] theorem flrFill_stable (v : Nat) (s : State) :
    (flrFill v s).1.stable = s.stable := by
  unfold flrFill
  split <;> simp only [State.setGreenMap_stable]

theorem execFlrFill_stable (t : Nat) (who : Path) (v : Nat) (s : State) :
    ∃ u, execFlrFill t who v s = .next u ∧ u.stable = s.stable := by
  exact objectCommand_stable _ _ _ _ _ _ _ (fun _ => by simp)

@[simp] theorem flrRegions_stable (b : Bytes) (s : State) :
    (flrRegions b s).1.stable = s.stable := by
  unfold flrRegions
  dsimp only
  (repeat' split) <;> simp only [State.put_stable, State.setGreenMap_stable]

theorem execFlrRegions_stable (t : Nat) (who : Path) (form : Bytes) (s : State) :
    ∃ u, execFlrRegions t who form s = .next u ∧ u.stable = s.stable := by
  exact objectCommand_stable _ _ _ _ _ _ _ (fun _ => by simp)

@[simp] theorem flrCheck_stable (s : State) :
    (flrCheck s).1.stable = s.stable := by
  unfold flrCheck
  simp only [State.stable_mk, State.stable_eta, State.put_stable]

theorem execFlrCheck_stable (t : Nat) (who : Path) (v : Nat) (s : State) :
    ∃ u, execFlrCheck t who v s = .next u ∧ u.stable = s.stable := by
  exact objectCommand_stable _ _ _ _ _ _ _ (fun _ => by simp)

theorem execFlrCheckComplete_stable (t : Nat) (s : State) :
    ∃ u, execFlrCheckComplete t s = .next u ∧ u.stable = s.stable := by
  unfold execFlrCheckComplete
  dsimp only
  (repeat' split) <;> refine ⟨_, rfl, ?_⟩ <;> simp only [State.stable_mk, State.stable_eta, State.floorResult_stable,
      State.land_stable, State.put_stable]

end Sys2Proof.Machine
end

