-- ==== Sys2Proof/Laws/StableImages.lean ====
section
/-! SUPPORT. The operations of `Machine/Images.lean` that leave the queue, the byte memories, the bright set and the fuses alone. -/
set_option Elab.async false
namespace Sys2Proof.Machine

@[simp] theorem State.modTrust_stable (s : State) (f : Trust → Trust) (h1 : (f s.trust).lifecycle = s.trust.lifecycle)
    (h2 : (f s.trust).revoked = s.trust.revoked) (h3 : (f s.trust).counters = s.trust.counters) :
    (State.modTrust s f).stable = s.stable := by
  unfold State.modTrust; simp [h1, h2, h3]

@[simp] theorem State.blow_stable (s : State) (fuse target : Nat) :
    (State.blow s fuse target).stable = s.stable := by
  unfold State.blow
  split <;> simp only [State.modTrust_stable]

@[simp] theorem State.raiseCounter_stable (s : State) (k svn : Nat) :
    (State.raiseCounter s k svn).stable = s.stable := by
  unfold State.raiseCounter
  split <;> simp only [State.blow_stable]

@[simp] theorem State.applied_stable (s : State) (counter : Nat) (image : Bytes) :
    (State.applied s counter image).stable = s.stable := by
  unfold State.applied
  split <;> simp only [State.raiseCounter_stable]

@[simp] theorem State.checkImage_stable (s : State) (who : Path) (sec : Bool) (image : Bytes) :
    (State.checkImage s who sec image).stable = s.stable := by
  unfold State.checkImage
  simp only [State.modTrust_stable]

@[simp] theorem State.imageFailed_stable (s : State) (status ty : Nat) :
    (State.imageFailed s status ty).stable = s.stable := by
  unfold State.imageFailed
  simp only [State.count_stable, State.report_stable]

end Sys2Proof.Machine
end

