-- ==== Sys2Proof/Laws/StableIngress.lean ====
section
/-! SUPPORT. The operations of `Machine/Ingress.lean` that leave the queue, the byte memories, the bright set and the fuses alone. -/
set_option Elab.async false
namespace Sys2Proof.Machine

@[simp] theorem State.police_stable (s : State) (r : Nat) (e : EthFrame) (dscp : Nat) :
    (State.police s r e dscp).1.stable = s.stable := by
  unfold State.police
  dsimp only
  (repeat' split) <;> simp only [State.stable_mk, State.stable_eta, State.count_stable]

@[simp] theorem State.policersSwap_stable (s : State) (old new : CanvasSet) :
    (State.policersSwap s old new).stable = s.stable := by
  have key : ∀ (z : State) (d : Links), ({ z with links := d } : State).stable = z.stable := fun _ _ => rfl
  unfold State.policersSwap
  apply foldl_stable
  intro y0 y1
  exact key _ _

@[simp] theorem State.rxDiscard_stable (s : State) (port : Nat) :
    (State.rxDiscard s port).stable = s.stable := by
  unfold State.rxDiscard
  split <;> simp only [State.count_stable]

@[simp] theorem State.puntAllowed_stable (s : State) (port : Nat) :
    (State.puntAllowed s port).1.stable = s.stable := by
  unfold State.puntAllowed
  dsimp only
  (repeat' split) <;> simp only [State.count_stable, State.setPort_stable]

@[simp] theorem State.punt_stable (s : State) (port : Nat) (b : Bytes) :
    (State.punt s port b).stable = s.stable := by
  unfold State.punt
  simp only [State.stable_mk, State.stable_eta, State.push_stable]

@[simp] theorem State.flowFrame_stable (s : State) (port r : Nat) (e : EthFrame) :
    (State.flowFrame s port r e).stable = s.stable := by
  unfold State.flowFrame
  dsimp only
  (repeat' split) <;> simp only [State.count_stable, State.police_stable,
      State.rxDiscard_stable, State.send_stable]

theorem execRxFrame_stable (t port : Nat) (fcsGood : Bool) (frame : Bytes) (s : State) :
    ∃ u, execRxFrame t port fcsGood frame s = .next u ∧ u.stable = s.stable := by
  unfold execRxFrame
  dsimp only
  (repeat' split) <;> refine ⟨_, rfl, ?_⟩ <;> simp only [State.count_stable,
      State.flowFrame_stable, State.land_stable, State.punt_stable, State.puntAllowed_stable, State.rxDiscard_stable,
      State.send_stable]

@[simp] theorem State.answerArp_stable (s : State) (port : Nat) (b : Bytes) :
    (State.answerArp s port b).stable = s.stable := by
  unfold State.answerArp
  split <;> simp only [State.sendOwn_stable]

@[simp] theorem State.noteQuerier_stable (s : State) (port : Nat) (v6 : Bool) (b : Bytes) :
    (State.noteQuerier s port v6 b).stable = s.stable := by
  unfold State.noteQuerier
  dsimp only
  (repeat' split) <;> simp only [State.stable_mk, State.stable_eta, State.setPort_stable]

@[simp] theorem State.answerQuery_stable (s : State) (port : Nat) (v6 : Bool) (b : Bytes) :
    (State.answerQuery s port v6 b).stable = s.stable := by
  unfold State.answerQuery
  simp

@[simp] theorem State.answerV4_stable (s : State) (port : Nat) (p : IpPacket) (b : Bytes) :
    (State.answerV4 s port p b).stable = s.stable := by
  unfold State.answerV4
  (repeat' split) <;> simp only [State.answerQuery_stable, State.sendOwn_stable]

@[simp] theorem State.answerV6_stable (s : State) (port : Nat) (p : IpPacket) (b : Bytes) :
    (State.answerV6 s port p b).stable = s.stable := by
  unfold State.answerV6
  dsimp only
  (repeat' split) <;> simp only [State.answerQuery_stable, State.dadDuplicate_stable,
      State.sendOwn_stable, State.setPort_stable]

theorem execPuntFrame_stable (t : Nat) (s : State) :
    ∃ u, execPuntFrame t s = .next u ∧ u.stable = s.stable := by
  unfold execPuntFrame
  dsimp only
  (repeat' split) <;> refine ⟨_, rfl, ?_⟩ <;> simp only [State.stable_mk, State.stable_eta, State.answerArp_stable,
      State.answerV4_stable, State.answerV6_stable, State.land_stable, State.setWort_stable]

end Sys2Proof.Machine
end

