-- ==== Sys2Proof/Laws/StablePower.lean ====
section
/-! SUPPORT. The operations of `Machine/Power.lean` that leave the queue, the byte memories, the bright set and the fuses alone. -/
set_option Elab.async false
namespace Sys2Proof.Machine

@[simp] theorem State.modPwr_stable (s : State) (f : Power → Power) :
    (State.modPwr s f).stable = s.stable := by
  unfold State.modPwr
  simp only [State.stable_mk, State.stable_eta]

@[simp] theorem State.vout_stable (s : State) (v : Nat) :
    (State.vout s v).stable = s.stable := by
  unfold State.vout
  simp only [State.modPwr_stable, State.send_stable]

@[simp] theorem pwrReset_stable (v : Nat) (s : State) :
    (pwrReset v s).1.stable = s.stable := by
  unfold pwrReset
  split <;> simp only [State.modPwr_stable]

theorem execPwrReset_stable (t : Nat) (who : Path) (v : Nat) (s : State) :
    ∃ u, execPwrReset t who v s = .next u ∧ u.stable = s.stable := by
  exact objectCommand_stable _ _ _ _ _ _ _ (fun _ => by simp)

@[simp] theorem State.exclude_stable (s : State) (rs : List Int) :
    (State.exclude s rs).stable = s.stable := by
  unfold State.exclude
  apply foldl_stable
  intro y0 y1
  (repeat' split) <;> simp

@[simp] theorem State.thermWarn_stable (s : State) :
    (State.thermWarn s).stable = s.stable := by
  unfold State.thermWarn
  dsimp only
  (repeat' split) <;> simp only [State.modPwr_stable, State.report_stable]

@[simp] theorem State.thermCrit_stable (s : State) :
    (State.thermCrit s).stable = s.stable := by
  unfold State.thermCrit
  dsimp only
  (repeat' split) <;> simp only [State.modPwr_stable, State.report_stable]

theorem execLifeSave_stable (t : Nat) (s : State) :
    ∃ u, execLifeSave t s = .next u ∧ u.stable = s.stable := by
  unfold execLifeSave
  refine ⟨_, rfl, ?_⟩
  split <;> simp only [State.stable_mk, State.stable_eta, State.land_stable, State.modPwr_stable]

@[simp] theorem State.avsStop_stable (s : State) (why : Nat) :
    (State.avsStop s why).stable = s.stable := by
  unfold State.avsStop
  simp only [State.count_stable, State.modPwr_stable, State.report_stable]

theorem execAvsRampStep_stable (t : Nat) (acked : Bool) (s : State) :
    ∃ u, execAvsRampStep t acked s = .next u ∧ u.stable = s.stable := by
  unfold execAvsRampStep
  dsimp only
  (repeat' split) <;> refine ⟨_, rfl, ?_⟩ <;> simp only [State.avsStop_stable,
      State.land_stable, State.vout_stable]

@[simp] theorem State.readBack_stable (s : State) (mv da : Nat) :
    (State.readBack s mv da).stable = s.stable := by
  unfold State.readBack
  dsimp only
  (repeat' split) <;> simp only [State.avsStop_stable, State.modPwr_stable, State.put_stable]

theorem execAvsTick_stable (t : Nat) (slack : Int) (acked : Bool) (readMv readDa : Nat) (s : State) :
    ∃ u, execAvsTick t slack acked readMv readDa s = .next u ∧ u.stable = s.stable := by
  unfold execAvsTick
  dsimp only
  (repeat' split) <;> refine ⟨_, rfl, ?_⟩ <;> simp only [State.avsStop_stable,
      State.land_stable, State.modPwr_stable, State.readBack_stable, State.vout_stable]

end Sys2Proof.Machine
end

