-- ==== Sys2Proof/Laws/StablePatches.lean ====
section
/-! SUPPORT. The operations of `Machine/Patches.lean` that leave the queue, the byte memories, the bright set and the fuses alone. -/
set_option Elab.async false
namespace Sys2Proof.Machine

@[simp] theorem tunPatchImage_stable (who : Path) (image : Bytes) (s : State) :
    (tunPatchImage who image s).1.stable = s.stable := by
  unfold tunPatchImage
  (repeat' split) <;> simp only [State.checkImage_stable]

theorem execTunPatchImage_stable (t : Nat) (who : Path) (image : Bytes) (s : State) :
    ∃ u, execTunPatchImage t who image s = .next u ∧ u.stable = s.stable := by
  exact objectCommand_stable _ _ _ _ _ _ _ (fun _ => by simp)

@[simp] theorem secImage_stable (who : Path) (image : Bytes) (s : State) :
    (secImage who image s).1.stable = s.stable := by
  unfold secImage
  (repeat' split) <;> simp only [State.checkImage_stable]

theorem execSecImage_stable (t : Nat) (who : Path) (image : Bytes) (s : State) :
    ∃ u, execSecImage t who image s = .next u ∧ u.stable = s.stable := by
  exact objectCommand_stable _ _ _ _ _ _ _ (fun _ => by simp)

@[simp] theorem State.recipeChecked_stable (s : State) (image : Bytes) (status : Nat) :
    (State.recipeChecked s image status).stable = s.stable := by
  unfold State.recipeChecked
  simp only [State.stable_mk, State.stable_eta]

@[simp] theorem State.firmwareAreaLost_stable (s : State) :
    (State.firmwareAreaLost s).stable = s.stable := by
  unfold State.firmwareAreaLost
  simp only [State.caskRegionState_stable, State.modTrust_stable]

theorem execImageCheckDone_stable (t : Nat) (stored : Bool) (s : State) :
    ∃ u, execImageCheckDone t stored s = .next u ∧ u.stable = s.stable := by
  unfold execImageCheckDone
  dsimp only
  (repeat' split) <;> refine ⟨_, rfl, ?_⟩ <;> simp only [State.caskErr_stable,
      State.count_stable, State.firmwareAreaLost_stable, State.imageFailed_stable, State.land_stable, State.modTrust_stable,
      State.put_stable, State.recipeChecked_stable]

@[simp] theorem State.scheduleSwitch_stable (s : State) (bank : PatchBank) (target : Nat) :
    (State.scheduleSwitch s bank target).stable = s.stable := by
  unfold State.scheduleSwitch
  dsimp only
  (repeat' split) <;> simp only [State.stable_mk, State.stable_eta, State.propose_stable, State.serveHeld_stable]

@[simp] theorem tunPatchApply_stable (v : Nat) (s : State) :
    (tunPatchApply v s).1.stable = s.stable := by
  unfold tunPatchApply
  (repeat' split) <;> simp only [State.scheduleSwitch_stable]

theorem execTunPatchApply_stable (t : Nat) (who : Path) (v : Nat) (s : State) :
    ∃ u, execTunPatchApply t who v s = .next u ∧ u.stable = s.stable := by
  exact objectCommand_stable _ _ _ _ _ _ _ (fun _ => by simp)

@[simp] theorem tunPatchRemove_stable (s : State) :
    (tunPatchRemove s).1.stable = s.stable := by
  unfold tunPatchRemove
  split <;> simp only [State.scheduleSwitch_stable]

theorem execTunPatchRemove_stable (t : Nat) (who : Path) (v : Nat) (s : State) :
    ∃ u, execTunPatchRemove t who v s = .next u ∧ u.stable = s.stable := by
  exact objectCommand_stable _ _ _ _ _ _ _ (fun _ => by simp)

@[simp] theorem State.switchBank_stable (s : State) (w : PatchSwitch) :
    (State.switchBank s w).stable = s.stable := by
  unfold State.switchBank
  dsimp only
  (repeat' split) <;> simp only [State.stable_mk, State.stable_eta, State.raiseCounter_stable]

theorem execPatchSwitch_stable (t : Nat) (s : State) :
    ∃ u, execPatchSwitch t s = .next u ∧ u.stable = s.stable := by
  unfold execPatchSwitch
  dsimp only
  (repeat' split) <;> refine ⟨_, rfl, ?_⟩ <;> simp only [State.land_stable,
      State.switchBank_stable, State.calTicked_stable]

theorem execPatchAgreeTimeout_stable (t : Nat) (s : State) :
    ∃ u, execPatchAgreeTimeout t s = .next u ∧ u.stable = s.stable := by
  unfold execPatchAgreeTimeout
  dsimp only
  (repeat' split) <;> refine ⟨_, rfl, ?_⟩ <;> simp only [State.endPatch_stable,
      State.land_stable]

end Sys2Proof.Machine
end

