-- ==== Sys2Proof/Laws/StableSecurity.lean ====
section
/-! SUPPORT. The operations of `Machine/Security.lean` that leave the queue, the byte memories, the bright set and the fuses alone. -/
set_option Elab.async false
namespace Sys2Proof.Machine

@[simp] theorem State.keepReport_stable (s : State) (who : Path) (r : Bytes) :
    (State.keepReport s who r).stable = s.stable := by
  unfold State.keepReport
  dsimp only
  (repeat' split) <;> simp only [State.stable_mk, State.stable_eta, State.setSession_stable]

@[simp] theorem State.leafUsed_stable (s : State) :
    (State.leafUsed s).stable = s.stable := by
  unfold State.leafUsed
  simp only [State.modTrust_stable]

@[simp] theorem State.readReport_stable (s : State) (who : Path) (offset : Nat) :
    (State.readReport s who offset).1.stable = s.stable := by
  unfold State.readReport
  dsimp only
  (repeat' split) <;> simp only [State.drawn_stable, State.keepReport_stable,
      State.leafUsed_stable]

@[simp] theorem State.imageDone_stable (s : State) :
    (State.imageDone s).stable = s.stable := by
  unfold State.imageDone
  simp only [State.modTrust_stable]

theorem execFirmwarePatch_stable (t : Nat) (s : State) :
    ∃ u, execFirmwarePatch t s = .next u ∧ u.stable = s.stable := by
  unfold execFirmwarePatch
  refine ⟨_, rfl, ?_⟩
  split <;> simp only [State.imageDone_stable, State.land_stable, State.modTrust_stable]

theorem execKeyRevoke_stable (t : Nat) (s : State) :
    ∃ u, execKeyRevoke t s = .next u ∧ u.stable = s.stable := by
  unfold execKeyRevoke
  refine ⟨_, rfl, ?_⟩
  split <;> simp only [State.applied_stable, State.blow_stable, State.imageDone_stable,
      State.land_stable]

theorem execKeyReset_stable (t : Nat) (s : State) :
    ∃ u, execKeyReset t s = .next u ∧ u.stable = s.stable := by
  unfold execKeyReset
  refine ⟨_, rfl, ?_⟩
  split <;> simp only [State.stable_mk, State.stable_eta, State.applied_stable, State.imageDone_stable, State.land_stable,
      State.modTrust_stable]

theorem execVendorGrant_stable (t : Nat) (s : State) :
    ∃ u, execVendorGrant t s = .next u ∧ u.stable = s.stable := by
  unfold execVendorGrant
  refine ⟨_, rfl, ?_⟩
  split <;> simp only [State.applied_stable, State.imageDone_stable, State.land_stable,
      State.modTrust_stable]

theorem execVendorGrantExpiry_stable (t slot : Nat) (s : State) :
    ∃ u, execVendorGrantExpiry t slot s = .next u ∧ u.stable = s.stable := by
  exact ⟨_, rfl, by simp only [State.land_stable, State.modTrust_stable]⟩

theorem execIdentity_stable (t : Nat) (s : State) :
    ∃ u, execIdentity t s = .next u ∧ u.stable = s.stable := by
  unfold execIdentity
  refine ⟨_, rfl, ?_⟩
  split <;> simp only [State.imageDone_stable, State.land_stable, State.modTrust_stable]

@[simp] theorem State.clearRehearsals_stable (s : State) :
    (State.clearRehearsals s).stable = s.stable := by
  unfold State.clearRehearsals
  apply foldl_stable
  intro y0 y1
  (repeat' split) <;> simp

@[simp] theorem secRollbackCommit_stable (v : Nat) (s : State) :
    (secRollbackCommit v s).1.stable = s.stable := by
  unfold secRollbackCommit
  dsimp only
  (repeat' split) <;> simp only [State.raiseCounter_stable]

theorem execSecRollbackCommit_stable (t : Nat) (who : Path) (v : Nat) (s : State) :
    ∃ u, execSecRollbackCommit t who v s = .next u ∧ u.stable = s.stable := by
  exact objectCommand_stable _ _ _ _ _ _ _ (fun _ => by simp)

@[simp] theorem secFwPatchRemove_stable (s : State) :
    (secFwPatchRemove s).1.stable = s.stable := by
  unfold secFwPatchRemove
  simp only [State.modTrust_stable]

theorem execSecFwPatchRemove_stable (t : Nat) (who : Path) (v : Nat) (s : State) :
    ∃ u, execSecFwPatchRemove t who v s = .next u ∧ u.stable = s.stable := by
  exact objectCommand_stable _ _ _ _ _ _ _ (fun _ => by simp)

@[simp] theorem secKeyInstall_stable (who : Path) (seq : Nat) (data : Bytes) (s : State) :
    (secKeyInstall who seq data s).1.stable = s.stable := by
  unfold secKeyInstall
  dsimp only
  (repeat' split) <;> simp only [State.stable_mk, State.stable_eta, State.modTrust_stable]

theorem execSecKeyInstall_stable (t : Nat) (who : Path) (seq : Nat) (data : Bytes) (s : State) :
    ∃ u, execSecKeyInstall t who seq data s = .next u ∧ u.stable = s.stable := by
  exact objectCommand_stable _ _ _ _ _ _ _ (fun _ => by simp)

@[simp] theorem twnKey_stable (who : Path) (seq : Nat) (data : Bytes) (s : State) :
    (twnKey who seq data s).1.stable = s.stable := by
  unfold twnKey
  split <;> simp only [State.modTrust_stable]

theorem execTwnKey_stable (t : Nat) (who : Path) (seq : Nat) (data : Bytes) (s : State) :
    ∃ u, execTwnKey t who seq data s = .next u ∧ u.stable = s.stable := by
  exact objectCommand_stable _ _ _ _ _ _ _ (fun _ => by simp)

@[simp] theorem secKeyErase_stable (v : Nat) (s : State) :
    (secKeyErase v s).1.stable = s.stable := by
  unfold secKeyErase
  dsimp only
  (repeat' split) <;> simp only [State.modTrust_stable]

theorem execSecKeyErase_stable (t : Nat) (who : Path) (v : Nat) (s : State) :
    ∃ u, execSecKeyErase t who v s = .next u ∧ u.stable = s.stable := by
  exact objectCommand_stable _ _ _ _ _ _ _ (fun _ => by simp)

@[simp] theorem secAttNonce_stable (who : Path) (data : Bytes) (s : State) :
    (secAttNonce who data s).1.stable = s.stable := by
  unfold secAttNonce
  dsimp only
  (repeat' split) <;> simp only [State.stable_mk, State.stable_eta, State.setSession_stable]

theorem execSecAttNonce_stable (t : Nat) (who : Path) (data : Bytes) (s : State) :
    ∃ u, execSecAttNonce t who data s = .next u ∧ u.stable = s.stable := by
  exact objectCommand_stable _ _ _ _ _ _ _ (fun _ => by simp)

theorem execSecAttReport_stable (t : Nat) (who : Path) (offset : Nat) (s : State) :
    ∃ u, execSecAttReport t who offset s = .next u ∧ u.stable = s.stable := by
  unfold execSecAttReport
  dsimp only
  (repeat' split) <;> refine ⟨_, rfl, ?_⟩ <;> simp only [State.accessed_stable,
      State.land_stable, State.readReport_stable, State.send_stable]

theorem execBottomTreeDone_stable (t : Nat) (s : State) :
    ∃ u, execBottomTreeDone t s = .next u ∧ u.stable = s.stable := by
  unfold execBottomTreeDone
  refine ⟨_, rfl, ?_⟩
  split <;> simp only [State.land_stable, State.modTrust_stable]

@[simp] theorem State.ckptWordLost_stable (s : State) (off : Nat) :
    (State.ckptWordLost s off).stable = s.stable := by
  have key : ∀ b : BrewLog, ((({ s with brew := b } : State)).brewRec 0x000 0x006 1).stable = s.stable := by
    intro b; rw [State.brewRec_stable]; rfl
  exact key _

@[simp] theorem State.caskLost_stable (s : State) (off : Nat) (both : Bool) :
    (State.caskLost s off both).stable = s.stable := by
  unfold State.caskLost
  dsimp only
  (repeat' split) <;> simp only [State.stable_mk, State.stable_eta, State.caskRegionState_stable, State.ckptWordLost_stable,
      State.firmwareAreaLost_stable, State.modTrust_stable, State.slotDamaged_stable]

theorem execCaskScrub_stable (t offset result : Nat) (s : State) :
    ∃ u, execCaskScrub t offset result s = .next u ∧ u.stable = s.stable := by
  unfold execCaskScrub
  dsimp only
  (repeat' split) <;> refine ⟨_, rfl, ?_⟩ <;> simp only [State.stable_mk, State.stable_eta, State.caskErr_stable,
      State.caskLost_stable, State.caskRegionState_stable, State.count_stable, State.land_stable]

end Sys2Proof.Machine
end

