-- ==== Sys2Proof/Laws/StableSparge.lean ====
section
/-! SUPPORT. The operations of `Machine/Sparge.lean` that leave the queue, the byte memories, the bright set and the fuses alone. -/
set_option Elab.async false
namespace Sys2Proof.Machine

@[simp] theorem State.setSpargeCh_stable (s : State) (c : Nat) (ch : SpargeChannel) :
    (State.setSpargeCh s c ch).stable = s.stable := by
  unfold State.setSpargeCh
  simp only [State.stable_mk, State.stable_eta]

@[simp] theorem State.spargePost_stable (s : State) (c : Nat) (w : List Nat) :
    (State.spargePost s c w).stable = s.stable := by
  unfold State.spargePost
  dsimp only
  (repeat' split) <;> simp only [State.report_stable, State.setSpargeCh_stable]

theorem execDescriptorPost_stable (t channel : Nat) (words : List Nat) (s : State) :
    ∃ u, execDescriptorPost t channel words s = .next u ∧ u.stable = s.stable := by
  unfold execDescriptorPost
  (try dsimp only)
  refine ⟨_, rfl, ?_⟩
  simp

theorem execChannelAbort_stable (t channel : Nat) (s : State) :
    ∃ u, execChannelAbort t channel s = .next u ∧ u.stable = s.stable := by
  unfold execChannelAbort
  dsimp only
  (repeat' split) <;> refine ⟨_, rfl, ?_⟩ <;> simp only [State.land_stable,
      State.setSpargeCh_stable]

theorem execDescriptorDone_stable (t channel : Nat) (s : State) :
    ∃ u, execDescriptorDone t channel s = .next u ∧ u.stable = s.stable := by
  unfold execDescriptorDone
  dsimp only
  (repeat' split) <;> refine ⟨_, rfl, ?_⟩ <;> simp only [State.land_stable,
      State.setSpargeCh_stable, State.spargePost_stable]

@[simp] theorem spgDiagDesc_stable (data : Bytes) (s : State) :
    (spgDiagDesc data s).1.stable = s.stable := by
  unfold spgDiagDesc
  dsimp only
  (repeat' split) <;> simp only [State.spargePost_stable]

theorem execSpgDiagDesc_stable (t : Nat) (who : Path) (data : Bytes) (s : State) :
    ∃ u, execSpgDiagDesc t who data s = .next u ∧ u.stable = s.stable := by
  exact objectCommand_stable _ _ _ _ _ _ _ (fun _ => by simp)

end Sys2Proof.Machine
end

