-- ==== Sys2Proof/Laws/StableTuns.lean ====
section
/-! SUPPORT. The operations of `Machine/Tuns.lean` that leave the queue, the byte memories, the bright set and the fuses alone. -/
set_option Elab.async false
namespace Sys2Proof.Machine

@[simp] theorem State.drainEnd_stable (s : State) (t : Nat) :
    (State.drainEnd s t).stable = s.stable := by
  unfold State.drainEnd
  simp only [State.endDiscard_stable, State.taskPoisoned_stable]

@[simp] theorem State.takeCommit_stable (s : State) (t : Nat) :
    (State.takeCommit s t).stable = s.stable := by
  unfold State.takeCommit
  simp only [State.stable_mk, State.stable_eta]

@[simp] theorem State.tasteRefuse_stable (s : State) (t lane : Nat) (k : Task) :
    (State.tasteRefuse s t lane k).stable = s.stable := by
  unfold State.tasteRefuse
  dsimp only
  (repeat' split) <;> simp only [State.count_stable, State.drainEnd_stable,
      State.poisonTask_stable, State.setLane_stable, State.setTun_stable, State.takeCommit_stable, State.unbind_stable]

@[simp] theorem State.tunKegs_stable (t : Nat) (x0 : Nat) (s : State) :
    (State.tunKegs t x0 s).1.stable = s.stable := by
  induction x0 generalizing s with
  | zero => rfl
  | succ n ih =>
    unfold State.tunKegs
    have h := State.kegAlloc_stable s (8 * t) 4096
    split <;> rename_i e <;> rw [e] at h
    · exact h
    · rw [ih, ← h]; simp

@[simp] theorem State.stageTo_stable (s : State) (t ctus sent : Nat) : (State.stageTo s t ctus sent).1.stable = s.stable := by
  unfold State.stageTo
  dsimp only
  split
  · rfl
  · dsimp only
    rw [State.setTun_stable, State.tunKegs_stable]
    split <;> simp only [State.modItem_stable, State.setTun_stable, State.stageTask_stable]

@[simp] theorem State.issueOut_stable (s : State) (t draw g base : Nat) : (State.issueOut s t draw g base).stable = s.stable := by
  unfold State.issueOut
  dsimp only
  (repeat' split) <;> simp only [State.stageTo_stable]

@[simp] theorem State.stepTun_stable (s : State) (tun : Nat) (f : Tun → Tun) :
    (State.stepTun s tun f).stable = s.stable := by
  unfold State.stepTun
  simp only [State.stable_mk, State.stable_eta, State.setTun_stable, State.issueOut_stable]

@[simp] theorem State.tunPhase_stable (s : State) (tun : Nat) :
    (State.tunPhase s tun).stable = s.stable := by
  unfold State.tunPhase
  simp only [State.setTun_stable]

theorem execNextStep_stable (t tun : Nat) (s : State) :
    ∃ u, execNextStep t tun s = .next u ∧ u.stable = s.stable := by
  unfold execNextStep
  refine ⟨_, rfl, ?_⟩
  split <;> simp only [State.land_stable, State.stepTun_stable, State.tunPhase_stable]

theorem execBranchStep_stable (t tun : Nat) (s : State) :
    ∃ u, execBranchStep t tun s = .next u ∧ u.stable = s.stable := by
  unfold execBranchStep
  refine ⟨_, rfl, ?_⟩
  split <;> simp only [State.stable_mk, State.stable_eta, State.land_stable, State.stepTun_stable, State.tunPhase_stable]

theorem execJumpStep_stable (t tun : Nat) (s : State) :
    ∃ u, execJumpStep t tun s = .next u ∧ u.stable = s.stable := by
  unfold execJumpStep
  refine ⟨_, rfl, ?_⟩
  split <;> simp only [State.land_stable, State.stepTun_stable, State.tunPhase_stable]

@[simp] theorem State.tunReport_stable (s : State) (t : Nat) (inj : Bool) (k : Kind) (detail : Nat) :
    (State.tunReport s t inj k detail).stable = s.stable := by
  unfold State.tunReport
  simp only [State.count_stable, State.reportAs_stable, State.tunFault_stable]

theorem execCallStep_stable (t tun : Nat) (s : State) :
    ∃ u, execCallStep t tun s = .next u ∧ u.stable = s.stable := by
  unfold execCallStep
  dsimp only
  (repeat' split) <;> refine ⟨_, rfl, ?_⟩ <;> simp only [State.land_stable,
      State.setTun_stable, State.stepTun_stable, State.tunPhase_stable, State.tunReport_stable]

theorem execLoopStep_stable (t tun : Nat) (s : State) :
    ∃ u, execLoopStep t tun s = .next u ∧ u.stable = s.stable := by
  unfold execLoopStep
  refine ⟨_, rfl, ?_⟩
  split <;> simp only [State.land_stable, State.stepTun_stable, State.tunPhase_stable]

@[simp] theorem State.recalled_stable (s : State) (t : Nat) :
    (State.recalled s t).stable = s.stable := by
  unfold State.recalled
  simp only [State.acknowledge_stable, State.setTun_stable, State.tunFree_stable,
      State.unmark_stable]

@[simp] theorem State.preload_stable (s : State) (t : Nat) :
    (State.preload s t).stable = s.stable := by
  unfold State.preload
  split <;> simp only [State.acknowledge_stable, State.setTun_stable]

@[simp] theorem State.handlerEnd_stable (s : State) (t : Nat) :
    (State.handlerEnd s t).stable = s.stable := by
  unfold State.handlerEnd
  dsimp only
  (repeat' split) <;> simp only [State.abortsDone_stable, State.acknowledge_stable,
      State.drainEnd_stable,
      State.endDiscard_stable, State.preload_stable, State.recalled_stable, State.setTun_stable]

@[simp] theorem State.handlerReturn_stable (s : State) (t : Nat) :
    (State.handlerReturn s t).stable = s.stable := by
  unfold State.handlerReturn
  split <;> simp only [State.handlerEnd_stable, State.setTun_stable]

@[simp] theorem State.takeAttention_stable (s : State) (t : Nat) :
    (State.takeAttention s t).stable = s.stable := by
  unfold State.takeAttention
  dsimp only
  (repeat' split) <;> simp only [State.setTun_stable, State.tunReport_stable]

@[simp] theorem State.yieldAction_stable (s : State) (t : Nat) :
    (State.yieldAction s t).stable = s.stable := by
  unfold State.yieldAction
  dsimp only
  (repeat' split) <;> simp only [State.count_stable, State.drainEnd_stable,
      State.forceActed_stable, State.reportAs_stable, State.setTun_stable, State.takeAttention_stable,
      State.tunFault_stable]

theorem execReturnStep_stable (t tun : Nat) (s : State) :
    ∃ u, execReturnStep t tun s = .next u ∧ u.stable = s.stable := by
  unfold execReturnStep
  dsimp only
  (repeat' split) <;> refine ⟨_, rfl, ?_⟩ <;> simp only [State.drawn_stable,
      State.handlerReturn_stable, State.land_stable, State.stepTun_stable, State.tunPhase_stable]

theorem execYieldStep_stable (t tun : Nat) (s : State) :
    ∃ u, execYieldStep t tun s = .next u ∧ u.stable = s.stable := by
  unfold execYieldStep
  dsimp only
  (repeat' split) <;> refine ⟨_, rfl, ?_⟩ <;> simp only [State.land_stable,
      State.put_stable, State.stepTun_stable, State.tunPhase_stable, State.yieldAction_stable]

theorem execYieldWatchdog_stable (t tun : Nat) (s : State) :
    ∃ u, execYieldWatchdog t tun s = .next u ∧ u.stable = s.stable := by
  unfold execYieldWatchdog
  dsimp only
  (repeat' split) <;> refine ⟨_, rfl, ?_⟩ <;> simp only [State.drainEnd_stable,
      State.land_stable, State.setTun_stable, State.tunReport_stable]

theorem execEndStep_stable (t tun : Nat) (s : State) :
    ∃ u, execEndStep t tun s = .next u ∧ u.stable = s.stable := by
  unfold execEndStep
  dsimp only
  (repeat' split) <;> refine ⟨_, rfl, ?_⟩ <;> simp only [State.drainEnd_stable,
      State.endDiscard_stable, State.handlerEnd_stable, State.land_stable, State.stepTun_stable, State.tunPhase_stable]

@[simp] theorem State.submitCommit_stable (s : State) (t : Nat) (r : CommitRec) :
    (State.submitCommit s t r).stable = s.stable := by
  unfold State.submitCommit
  dsimp only
  split
  · rfl
  · rename_i k _
    have h := State.stageTo_stable s t k.ctus r.slice.length
    generalize State.stageTo s t k.ctus r.slice.length = q at h
    obtain ⟨q1, q2⟩ := q
    dsimp only at h ⊢
    (repeat' split) <;> simp only [State.stable_mk, State.stable_eta, State.decideCommit_stable, State.drainEnd_stable,
      State.setTun_stable] <;> exact h

theorem execCommit_stable (t tun : Nat) (slice : Bytes) (spent : Bool) (trims floors : Nat) (s : State) :
    ∃ u, execCommit t tun slice spent trims floors s = .next u ∧ u.stable = s.stable := by
  unfold execCommit
  dsimp only
  (repeat' split) <;> refine ⟨_, rfl, ?_⟩ <;> simp only [State.commitItem_stable,
      State.drainEnd_stable, State.land_stable, State.stageTo_stable, State.submitCommit_stable]

theorem execTunKegRetry_stable (t tun : Nat) (s : State) :
    ∃ u, execTunKegRetry t tun s = .next u ∧ u.stable = s.stable := by
  unfold execTunKegRetry
  dsimp only
  (repeat' split) <;> refine ⟨_, rfl, ?_⟩ <;> simp only [State.drainEnd_stable,
      State.land_stable, State.setTun_stable, State.stageTo_stable, State.submitCommit_stable, State.takeAttention_stable]

@[simp] theorem State.tasteFail_stable (s : State) (t check : Nat) (inj : Bool) :
    (State.tasteFail s t check inj).stable = s.stable := by
  unfold State.tasteFail
  (repeat' split) <;> simp only [State.reportAs_stable, State.tasteRefuse_stable]

theorem execTasteVerdict_stable (t tun verdict : Nat) (s : State) :
    ∃ u, execTasteVerdict t tun verdict s = .next u ∧ u.stable = s.stable := by
  unfold execTasteVerdict
  dsimp only
  (repeat' split) <;> refine ⟨_, rfl, ?_⟩ <;> simp only [State.decideCommit_stable,
      State.forceActed_stable, State.land_stable, State.takeCommit_stable, State.tasteFail_stable]

theorem execTasteWindowEnd_stable (t tun decoded : Nat) (s : State) :
    ∃ u, execTasteWindowEnd t tun decoded s = .next u ∧ u.stable = s.stable := by
  unfold execTasteWindowEnd
  dsimp only
  (repeat' split) <;> refine ⟨_, rfl, ?_⟩ <;> simp only [State.decideCommit_stable,
      State.land_stable, State.takeCommit_stable, State.tasteFail_stable]

theorem execTasteMismatch_stable (t tun check : Nat) (s : State) :
    ∃ u, execTasteMismatch t tun check s = .next u ∧ u.stable = s.stable := by
  unfold execTasteMismatch
  refine ⟨_, rfl, ?_⟩
  split <;> simp only [State.land_stable, State.tasteFail_stable]

@[simp] theorem State.tunBusErr_stable (s : State) (tun detail : Nat) : (State.tunBusErr s tun detail).stable = s.stable := by
  unfold State.tunBusErr
  dsimp only
  split <;> simp only [State.tunReport_stable, State.gristError_stable]

theorem execTunPoison_stable (t tun kind detail : Nat) (s : State) :
    ∃ u, execTunPoison t tun kind detail s = .next u ∧ u.stable = s.stable := by
  unfold execTunPoison
  dsimp only
  (repeat' split) <;> refine ⟨_, rfl, ?_⟩ <;> simp only [State.count_stable,
      State.land_stable, State.report_stable, State.refUnreadable_stable, State.setTun_stable, State.tunBusErr_stable, State.tunReport_stable]

theorem execTunBistDone_stable (t tun phase : Nat) (s : State) :
    ∃ u, execTunBistDone t tun phase s = .next u ∧ u.stable = s.stable := by
  unfold execTunBistDone
  dsimp only
  (repeat' split) <;> refine ⟨_, rfl, ?_⟩ <;> simp only [State.capacity_stable,
      State.count_stable, State.land_stable, State.report_stable, State.setTun_stable, State.tunFree_stable,
      State.unmark_stable]

@[simp] theorem tunSelftest_stable (u : Nat) (s : State) :
    (tunSelftest u s).1.stable = s.stable := by
  unfold tunSelftest
  dsimp only
  (repeat' split) <;> simp only [State.beginBist_stable, State.setTun_stable]

theorem execTunSelftest_stable (t : Nat) (who : Path) (v : Nat) (s : State) :
    ∃ u, execTunSelftest t who v s = .next u ∧ u.stable = s.stable := by
  exact objectCommand_stable _ _ _ _ _ _ _ (fun _ => by simp)

@[simp] theorem tunReinstate_stable (u : Nat) (s : State) :
    (tunReinstate u s).1.stable = s.stable := by
  unfold tunReinstate
  dsimp only
  (repeat' split) <;> simp only [State.setTun_stable, State.tunFree_stable]

theorem execTunReinstate_stable (t : Nat) (who : Path) (v : Nat) (s : State) :
    ∃ u, execTunReinstate t who v s = .next u ∧ u.stable = s.stable := by
  exact objectCommand_stable _ _ _ _ _ _ _ (fun _ => by simp)

theorem execClockGroupEnable_stable (t group : Nat) (s : State) :
    ∃ u, execClockGroupEnable t group s = .next u ∧ u.stable = s.stable := by
  unfold execClockGroupEnable
  refine ⟨_, rfl, ?_⟩
  split
  · simp
  · rw [foldl_stable]
    · simp
    · intro y0 y1; dsimp only; split <;> simp

end Sys2Proof.Machine
end

