-- ==== Sys2Proof/Laws/StableTwin.lean ====
section
/-! SUPPORT. The operations of `Machine/Twin.lean` that leave the queue, the byte memories, the bright set and the fuses alone. -/
set_option Elab.async false
namespace Sys2Proof.Machine

@[simp] theorem State.enterSolo_stable (s : State) :
    (State.enterSolo s).stable = s.stable := by
  unfold State.enterSolo
  dsimp only
  (repeat' split) <;> simp only [State.stable_mk, State.stable_eta, State.assemble_stable, State.modTwin_stable,
      State.rackScheduled_stable]

@[simp] theorem State.presenceAct_stable (s : State) (row : Nat) :
    (State.presenceAct s row).stable = s.stable := by
  unfold State.presenceAct
  (repeat' split) <;> simp only [State.enterSolo_stable, State.silence_stable]

@[simp] theorem State.conclude_stable (s : State) :
    (State.conclude s).stable = s.stable := by
  unfold State.conclude
  dsimp only
  (repeat' split) <;> simp only [State.brewRec_stable, State.modTwin_stable,
      State.presenceAct_stable]

@[simp] theorem State.linkLost_stable (s : State) :
    (State.linkLost s).stable = s.stable := by
  unfold State.linkLost
  simp only [State.conclude_stable, State.count_stable, State.modTwin_stable]

theorem State.twinAccept_stable (s : State) (ty : Nat) (m : TwinMsg) (u : State) :
    State.twinAccept s ty m = some u → u.stable = s.stable := by
  unfold State.twinAccept
  dsimp only
  intro h
  split at h
  · cases h
  · injection h with h
    subst h
    (repeat' split) <;> simp

theorem twinFrame_stable (t ty : Nat) (m : TwinMsg) (ok : Bool) (f : State → State) (s : State) (h_f : ∀ (y0 : State), (f
    y0).stable = y0.stable) :
    ∃ u, twinFrame t ty m ok f s = .next u ∧ u.stable = s.stable := by
  unfold twinFrame
  refine ⟨_, rfl, ?_⟩
  split
  · simp
  · rename_i u e
    have h := State.twinAccept_stable _ _ _ _ e
    split <;> simp [h_f, h]

theorem execHeartbeatTx_stable (t : Nat) (s : State) :
    ∃ u, execHeartbeatTx t s = .next u ∧ u.stable = s.stable := by
  unfold execHeartbeatTx
  refine ⟨_, rfl, ?_⟩
  split <;> simp only [State.land_stable, State.modTwin_stable, State.twinSend_stable]

theorem execTwinOkInChange_stable (t : Nat) (high : Bool) (s : State) :
    ∃ u, execTwinOkInChange t high s = .next u ∧ u.stable = s.stable := by
  exact ⟨_, rfl, by simp only [State.conclude_stable, State.land_stable,
      State.modTwin_stable]⟩

theorem execTwinLinkDown_stable (t : Nat) (s : State) :
    ∃ u, execTwinLinkDown t s = .next u ∧ u.stable = s.stable := by
  unfold execTwinLinkDown
  refine ⟨_, rfl, ?_⟩
  split <;> simp only [State.land_stable, State.linkLost_stable, State.report_stable]

@[simp] theorem State.pairFailed_stable (s : State) (h : Heart) (c : Nat) :
    (State.pairFailed s h c).stable = s.stable := by
  unfold State.pairFailed
  dsimp only
  (repeat' split) <;> simp only [State.put_stable, State.report_stable, State.silence_stable]

@[simp] theorem State.pairCheck_stable (s : State) (h : Heart) :
    (State.pairCheck s h).stable = s.stable := by
  unfold State.pairCheck
  apply foldl_stable
  intro y0 y1
  (repeat' split) <;> simp

@[simp] theorem State.syncRequest_stable (s : State) :
    (State.syncRequest s).stable = s.stable := by
  unfold State.syncRequest
  simp only [State.modTwin_stable, State.twinSend_stable]

@[simp] theorem State.heartBeat_stable (s : State) (h : Heart) (last : Nat) :
    (State.heartBeat s h last).stable = s.stable := by
  unfold State.heartBeat
  dsimp only
  (repeat' split) <;> simp only [State.conclude_stable, State.modTwin_stable,
      State.silence_stable, State.syncRequest_stable]

theorem execHeartbeat_stable (t : Nat) (m : TwinMsg) (s : State) :
    ∃ u, execHeartbeat t m s = .next u ∧ u.stable = s.stable := by
  unfold execHeartbeat
  apply twinFrame_stable
  intro y0
  (try dsimp only); (repeat' split) <;> simp

theorem execDigests_stable (t : Nat) (m : TwinMsg) (s : State) :
    ∃ u, execDigests t m s = .next u ∧ u.stable = s.stable := by
  unfold execDigests
  apply twinFrame_stable
  intro y0
  (try dsimp only); (repeat' split) <;> simp

theorem execDigestMissing_stable (t frame : Nat) (s : State) :
    ∃ u, execDigestMissing t frame s = .next u ∧ u.stable = s.stable := by
  unfold execDigestMissing
  dsimp only
  (repeat' split) <;> refine ⟨_, rfl, ?_⟩ <;> simp only [State.count_stable,
      State.land_stable, State.modTwin_stable, State.runBroken_stable]

theorem execPropose_stable (t : Nat) (m : TwinMsg) (s : State) :
    ∃ u, execPropose t m s = .next u ∧ u.stable = s.stable := by
  unfold execPropose
  apply twinFrame_stable
  intro y0
  simp

theorem execAnswer_stable (t : Nat) (m : TwinMsg) (s : State) :
    ∃ u, execAnswer t m s = .next u ∧ u.stable = s.stable := by
  unfold execAnswer
  apply twinFrame_stable
  intro y0
  simp

theorem execProposeRepeat_stable (t : Nat) (s : State) :
    ∃ u, execProposeRepeat t s = .next u ∧ u.stable = s.stable := by
  unfold execProposeRepeat
  (try dsimp only)
  refine ⟨_, rfl, ?_⟩
  simp

theorem execSilence_stable (t : Nat) (m : TwinMsg) (s : State) :
    ∃ u, execSilence t m s = .next u ∧ u.stable = s.stable := by
  unfold execSilence
  apply twinFrame_stable
  intro y0
  simp

@[simp] theorem silenceSet_stable (s : State) :
    (silenceSet s).1.stable = s.stable := by
  unfold silenceSet
  (repeat' split) <;> simp only [State.modTwin_stable, State.silence_stable]

theorem execTwnSilenceSet_stable (t : Nat) (who : Path) (s : State) :
    ∃ u, execTwnSilenceSet t who s = .next u ∧ u.stable = s.stable := by
  exact objectCommand_stable _ _ _ _ _ _ _ (fun _ => by simp)

@[simp] theorem silenceClear_stable (s : State) :
    (silenceClear s).1.stable = s.stable := by
  unfold silenceClear
  simp only [State.modTwin_stable]

theorem execTwnSilenceClear_stable (t : Nat) (who : Path) (s : State) :
    ∃ u, execTwnSilenceClear t who s = .next u ∧ u.stable = s.stable := by
  exact objectCommand_stable _ _ _ _ _ _ _ (fun _ => by simp)

theorem execTwinRejoin_stable (t : Nat) (s : State) :
    ∃ u, execTwinRejoin t s = .next u ∧ u.stable = s.stable := by
  unfold execTwinRejoin
  refine ⟨_, rfl, ?_⟩
  split <;> simp only [State.land_stable, State.modTwin_stable, State.twinSend_stable]

theorem execRejoin_stable (t : Nat) (m : TwinMsg) (s : State) :
    ∃ u, execRejoin t m s = .next u ∧ u.stable = s.stable := by
  unfold execRejoin
  apply twinFrame_stable
  intro y0
  simp

@[simp] theorem discardEarlier_stable (p path cls fr : Nat) (x0 : Nat) (s : State) :
    (discardEarlier p path cls fr x0 s).stable = s.stable := by
  induction x0 generalizing s with
  | zero => rfl
  | succ n ih =>
    unfold discardEarlier
    (try dsimp only)
    (repeat' split) <;> first | rfl | simp [ih]

@[simp] theorem State.discardBefore_stable (s : State) (fr : Nat) :
    (State.discardBefore s fr).stable = s.stable := by
  unfold State.discardBefore
  simp

@[simp] theorem State.resume_stable (s : State) (fr : Nat) :
    (State.resume s fr).stable = s.stable := by
  unfold State.resume
  simp only [State.brewRec_stable, State.count_stable, State.discardBefore_stable,
      State.modTwin_stable]

theorem execRejoinLine_stable (t : Nat) (s : State) :
    ∃ u, execRejoinLine t s = .next u ∧ u.stable = s.stable := by
  unfold execRejoinLine
  dsimp only
  (repeat' split) <;> refine ⟨_, rfl, ?_⟩ <;> simp only [State.land_stable,
      State.modTwin_stable, State.resume_stable]

@[simp] theorem State.syncSend_stable (y : SyncState) (x0 : Nat) (x1 : Nat) (x2 : List SyncEntry) (s : State) :
    (State.syncSend y x0 x1 x2 s).stable = s.stable := by
  induction x0 generalizing x1 x2 s with
  | zero => rfl
  | succ n ih =>
    unfold State.syncSend
    dsimp only
    split
    · simp
    · rw [ih]; simp

theorem execSyncReq_stable (t : Nat) (m : TwinMsg) (s : State) :
    ∃ u, execSyncReq t m s = .next u ∧ u.stable = s.stable := by
  unfold execSyncReq
  apply twinFrame_stable
  intro y0
  (try dsimp only); (repeat' split) <;> simp

@[simp] theorem State.syncWhole_stable (s : State) :
    (State.syncWhole s).stable = s.stable := by
  unfold State.syncWhole
  dsimp only
  (repeat' split) <;> simp only [State.brewRec_stable, State.modTwin_stable]

theorem execSync_stable (t : Nat) (m : TwinMsg) (s : State) :
    ∃ u, execSync t m s = .next u ∧ u.stable = s.stable := by
  unfold execSync
  apply twinFrame_stable
  intro y0
  (try dsimp only); (repeat' split) <;> simp

theorem execSyncReqRetry_stable (t : Nat) (s : State) :
    ∃ u, execSyncReqRetry t s = .next u ∧ u.stable = s.stable := by
  unfold execSyncReqRetry
  refine ⟨_, rfl, ?_⟩
  split <;> simp only [State.land_stable, State.syncRequest_stable]

@[simp] theorem State.syncEntry_stable (s : State) (y : SyncState) (kept : Table Nudge) (e : SyncEntry) :
    (State.syncEntry s y kept e).stable = s.stable := by
  unfold State.syncEntry
  simp only [State.setAsmStream_stable, State.setNudge_stable, State.setStream_stable]

@[simp] theorem State.syncCoding_stable (s : State) (y : SyncState) (es : List SyncEntry) (kept : Table Nudge) :
    (State.syncCoding s y es kept).stable = s.stable := by
  unfold State.syncCoding
  simp

@[simp] theorem State.standAlone_stable (s : State) :
    (State.standAlone s).stable = s.stable := by
  unfold State.standAlone
  dsimp only
  (repeat' split) <;> simp only [State.brewRec_stable, State.enterSolo_stable,
      State.modTwin_stable, State.silence_stable]

theorem execPairingListenEnd_stable (t : Nat) (s : State) :
    ∃ u, execPairingListenEnd t s = .next u ∧ u.stable = s.stable := by
  unfold execPairingListenEnd
  dsimp only
  (repeat' split) <;> refine ⟨_, rfl, ?_⟩ <;> simp only [State.land_stable,
      State.modTwin_stable, State.standAlone_stable, State.syncRequest_stable]

end Sys2Proof.Machine
end

