-- ==== Sys2Proof/Laws/StableInjection.lean ====
section
/-! SUPPORT. The operations of `Machine/Injection.lean` that leave the queue, the byte memories, the bright set and the fuses alone. -/
set_option Elab.async false
namespace Sys2Proof.Machine

@[simp] theorem State.tunActs_stable (s : State) (t kind : Nat) :
    (State.tunActs s t kind).stable = s.stable := by
  unfold State.tunActs
  dsimp only
  (repeat' split) <;> simp only [State.capacity_stable, State.count_stable,
      State.setTun_stable, State.tunFault_stable]

@[simp] theorem State.portActs_stable (s : State) (n cause : Nat) :
    (State.portActs s n cause).stable = s.stable := by
  unfold State.portActs
  dsimp only
  (repeat' split) <;> simp only [State.count_stable,
      State.moveGroups_stable, State.rehome_stable, State.setPort_stable]

@[simp] theorem State.laneActs_stable (s : State) (lane kind : Nat) :
    (State.laneActs s lane kind).stable = s.stable := by
  unfold State.laneActs
  split
  · simp
  · split
    · split
      · rename_i t e
        cases (s.tun t).task <;> simp
      · rfl
    · rfl

@[simp] theorem State.dispatcherActs_stable (s : State) (m : FaultMsg) :
    (State.dispatcherActs s m).stable = s.stable := by
  unfold State.dispatcherActs
  (repeat' split) <;> simp only [State.attend_stable, State.becomeFallback_stable,
      State.count_stable, State.modSeg_stable]

@[simp] theorem State.twinActs_stable (s : State) (m : FaultMsg) :
    (State.twinActs s m).stable = s.stable := by
  unfold State.twinActs
  (repeat' split) <;> simp only [State.linkLost_stable, State.silence_stable]

@[simp] theorem State.packageActs_stable (s : State) (m : FaultMsg) :
    (State.packageActs s m).stable = s.stable := by
  unfold State.packageActs
  dsimp only
  (repeat' split) <;> simp only [State.stable_mk, State.stable_eta, State.count_stable, State.modPwr_stable]

@[simp] theorem State.moverActs_stable (s : State) (m : FaultMsg) :
    (State.moverActs s m).stable = s.stable := by
  unfold State.moverActs
  dsimp only
  (repeat' split) <;> simp only [State.count_stable, State.setSpargeCh_stable, shed_stable]

@[simp] theorem State.memoryActs_stable (s : State) (m : FaultMsg) :
    (State.memoryActs s m).stable = s.stable := by
  unfold State.memoryActs
  dsimp only
  (repeat' split) <;> simp only [State.count_stable, State.ddrGone_stable,
      State.modQdr_stable, State.setBank_stable]

@[simp] theorem State.timebaseActs_stable (s : State) (kind : Nat) :
    (State.timebaseActs s kind).stable = s.stable := by
  unfold State.timebaseActs
  split <;> simp only [State.stable_mk, State.stable_eta, State.brewRec_stable]

@[simp] theorem State.sourceActs_stable (s : State) (m : FaultMsg) :
    (State.sourceActs s m).stable = s.stable := by
  unfold State.sourceActs
  dsimp only
  (repeat' split) <;> simp only [State.count_stable, State.setDec_stable,
      State.setFlow_stable]

@[simp] theorem State.decodeActs_stable (s : State) (m : FaultMsg) :
    (State.decodeActs s m).stable = s.stable := by
  unfold State.decodeActs
  dsimp only
  (repeat' split) <;> simp only [State.count_stable, State.setDec_stable]

@[simp] theorem State.taproomActs_stable (s : State) (m : FaultMsg) :
    (State.taproomActs s m).stable = s.stable := by
  unfold State.taproomActs
  dsimp only
  (repeat' split) <;> simp only [State.count_stable, State.nudgeRequest_stable]

@[simp] theorem State.loneUnitActs_stable (s : State) (m : FaultMsg) : (State.loneUnitActs s m).stable = s.stable := by
  unfold State.loneUnitActs
  dsimp only
  (repeat' split) <;> simp only [State.count_stable, State.dispatcherActs_stable, State.packageActs_stable,
      State.sourceActs_stable, State.timebaseActs_stable, State.twinActs_stable, State.decodeActs_stable,
      State.taproomActs_stable, State.caskLost_stable]

@[simp] theorem State.unitActs_stable (s : State) (m : FaultMsg) : (State.unitActs s m).stable = s.stable := by
  unfold State.unitActs
  dsimp only
  (repeat' split) <;> simp only [State.laneActs_stable, State.memoryActs_stable, State.moverActs_stable,
      State.portActs_stable, State.tunActs_stable, State.loneUnitActs_stable]

@[simp] theorem cwtInject_stable (b : Bytes) (s : State) :
    (cwtInject b s).1.stable = s.stable := by
  unfold cwtInject
  dsimp only
  (repeat' split) <;> simp only [State.reportMsg_stable, State.unitActs_stable]

theorem execInjectCollect_stable (t : Nat) (who : Path) (data : Bytes) (s : State) :
    ∃ u, execInjectCollect t who data s = .next u ∧ u.stable = s.stable := by
  exact objectCommand_stable _ _ _ _ _ _ _ (fun _ => by simp)

theorem execInjectAct_stable (t : Nat) (who : Path) (data : Bytes) (s : State) :
    ∃ u, execInjectAct t who data s = .next u ∧ u.stable = s.stable := by
  exact objectCommand_stable _ _ _ _ _ _ _ (fun _ => by simp)

end Sys2Proof.Machine
end

