-- ==== Sys2Proof/Laws/StableInterrupts.lean ====
section
/-! SUPPORT. The operations of `Machine/Interrupts.lean` that leave the queue, the byte memories, the bright set and the fuses alone. -/
set_option Elab.async false
namespace Sys2Proof.Machine

theorem execExternalPoll_stable (t : Nat) (s : State) :
    ∃ u, execExternalPoll t s = .next u ∧ u.stable = s.stable := by
  exact ⟨_, rfl, by simp only [State.stable_mk, State.stable_eta, State.land_stable]⟩

@[simp] theorem icuSrc_stable (row v : Nat) (s : State) :
    (icuSrc row v s).1.stable = s.stable := by
  unfold icuSrc
  simp only [State.put_stable]

theorem execIcuSrc_stable (t : Nat) (who : Path) (row v : Nat) (s : State) :
    ∃ u, execIcuSrc t who row v s = .next u ∧ u.stable = s.stable := by
  exact objectCommand_stable _ _ _ _ _ _ _ (fun _ => by simp)

@[simp] theorem State.modExt_stable (s : State) (f : IcuTarget → IcuTarget) :
    (State.modExt s f).stable = s.stable := by
  unfold State.modExt
  simp only [State.stable_mk, State.stable_eta]

@[simp] theorem State.stormCheck_stable (s : State) (id : Nat) :
    (State.stormCheck s id).stable = s.stable := by
  unfold State.stormCheck
  dsimp only
  (repeat' split) <;> simp only [State.brewRec_stable, State.modExt_stable]

@[simp] theorem State.extClaim_stable (s : State) :
    (State.extClaim s).1.stable = s.stable := by
  unfold State.extClaim
  split <;> simp only [State.count_stable, State.modExt_stable, State.stormCheck_stable]

theorem execIcuExtClaim_stable (t : Nat) (who : Path) (s : State) :
    ∃ u, execIcuExtClaim t who s = .next u ∧ u.stable = s.stable := by
  unfold execIcuExtClaim
  dsimp only
  (repeat' split) <;> refine ⟨_, rfl, ?_⟩ <;> simp only [State.accessed_stable,
      State.extClaim_stable, State.land_stable, State.send_stable]

@[simp] theorem icuExtEoi_stable (v : Nat) (s : State) :
    (icuExtEoi v s).1.stable = s.stable := by
  unfold icuExtEoi
  split <;> simp only [State.count_stable, State.modExt_stable]

theorem execIcuExtEoi_stable (t : Nat) (who : Path) (v : Nat) (s : State) :
    ∃ u, execIcuExtEoi t who v s = .next u ∧ u.stable = s.stable := by
  exact objectCommand_stable _ _ _ _ _ _ _ (fun _ => by simp)

@[simp] theorem icuExtMask_stable (row v : Nat) (s : State) :
    (icuExtMask row v s).1.stable = s.stable := by
  unfold icuExtMask
  simp only [State.modExt_stable]

theorem execIcuExtMask_stable (t : Nat) (who : Path) (row v : Nat) (s : State) :
    ∃ u, execIcuExtMask t who row v s = .next u ∧ u.stable = s.stable := by
  exact objectCommand_stable _ _ _ _ _ _ _ (fun _ => by simp)

@[simp] theorem icuExtStorm_stable (row v : Nat) (s : State) :
    (icuExtStorm row v s).1.stable = s.stable := by
  unfold icuExtStorm
  simp only [State.modExt_stable]

theorem execIcuExtStorm_stable (t : Nat) (who : Path) (row v : Nat) (s : State) :
    ∃ u, execIcuExtStorm t who row v s = .next u ∧ u.stable = s.stable := by
  exact objectCommand_stable _ _ _ _ _ _ _ (fun _ => by simp)

theorem execStormClear_stable (t : Nat) (s : State) :
    ∃ u, execStormClear t s = .next u ∧ u.stable = s.stable := by
  exact ⟨_, rfl, by simp only [State.stable_mk, State.stable_eta, State.land_stable]⟩

@[simp] theorem State.logRecord_stable (s : State) (r : BrewRec) :
    (State.logRecord s r).stable = s.stable := by
  unfold State.logRecord
  simp only [State.stable_mk, State.stable_eta]

theorem execLogWrite_stable (t : Nat) (s : State) :
    ∃ u, execLogWrite t s = .next u ∧ u.stable = s.stable := by
  unfold execLogWrite
  dsimp only
  (repeat' split) <;> refine ⟨_, rfl, ?_⟩ <;> simp only [State.stable_mk, State.stable_eta, State.count_stable,
      State.land_stable, State.logRecord_stable, State.setWort_stable]

@[simp] theorem logMark_stable (v : Nat) (s : State) :
    (logMark v s).1.stable = s.stable := by
  unfold logMark
  simp only [State.brewRec_stable]

theorem execLogMark_stable (t : Nat) (who : Path) (v : Nat) (s : State) :
    ∃ u, execLogMark t who v s = .next u ∧ u.stable = s.stable := by
  exact objectCommand_stable _ _ _ _ _ _ _ (fun _ => by simp)

theorem execLogCheckpoint_stable (t : Nat) (written : Bool) (s : State) :
    ∃ u, execLogCheckpoint t written s = .next u ∧ u.stable = s.stable := by
  have k1 : ∀ (x : State) (b : BrewLog) (v : Int), ((({ x with brew := b } : State)).put Obj.logCkptLastSeq 0 v).stable =
      x.stable := by
    intro x b v; rw [State.put_stable]; rfl
  have k2 : ∀ (x : State) (b : BrewLog) (c n : Nat), (((({ x with brew := b } : State)).caskErr c).brewRec 0x000 0x006
      n).stable = x.stable := by
    intro x b c n; rw [State.brewRec_stable, State.caskErr_stable]; rfl
  unfold execLogCheckpoint
  dsimp only
  (repeat' split)
  · exact ⟨_, rfl, State.land_stable t s⟩
  · exact ⟨_, rfl, (k1 _ _ _).trans (State.land_stable t s)⟩
  · exact ⟨_, rfl, (k2 _ _ _ _).trans (State.land_stable t s)⟩

end Sys2Proof.Machine
end

