-- ==== Sys2Proof/Laws/StablePortWrite.lean ====
section
/-! SUPPORT. The operations of `Machine/PortWrite.lean` that leave the queue, the byte memories, the bright set and the fuses alone. -/
set_option Elab.async false
namespace Sys2Proof.Machine

@[simp] theorem State.portWritten_stable (s : State) (n word old v : Nat) (moved : Bool) :
    (State.portWritten s n word old v moved).stable = s.stable := by
  unfold State.portWritten
  dsimp only
  (repeat' split) <;> simp only [State.announce_stable, State.moveGroups_stable,
      State.portStart_stable, State.rehome_stable, State.setPort_stable, State.count_stable]

@[simp] theorem lnkPort_stable (n word v : Nat) (s : State) :
    (lnkPort n word v s).1.stable = s.stable := by
  unfold lnkPort
  dsimp only
  (repeat' split) <;> simp only [State.portWritten_stable, State.put_stable]

theorem execLnkPortWrite_stable (t : Nat) (who : Path) (row word v : Nat) (s : State) :
    ∃ u, execLnkPortWrite t who row word v s = .next u ∧ u.stable = s.stable := by
  exact objectCommand_stable _ _ _ _ _ _ _ (fun _ => by simp)

end Sys2Proof.Machine
end

