-- ==== Sys2Proof/Laws/StableReads.lean ====
section
/-! SUPPORT. The operations of `Machine/Reads.lean` that leave the queue, the byte memories, the bright set and the fuses alone. -/
set_option Elab.async false
namespace Sys2Proof.Machine

@[simp] theorem State.selectRow_stable (s : State) (who : Path) (index v : Nat) :
    (State.selectRow s who index v).stable = s.stable := by
  unfold State.selectRow
  split <;> simp only [State.stable_mk, State.stable_eta]

@[simp] theorem State.readObject_stable (s : State) (who : Path) (bright : Bool) (o : Obj) (row offset : Nat) :
    (State.readObject s who bright o row offset).1.stable = s.stable := by
  unfold State.readObject
  dsimp only
  (repeat' split) <;> simp only [State.count_stable, State.drawn_stable,
      State.extClaim_stable, State.readCanNonce_stable, State.readReport_stable]

@[simp] theorem State.readRecords_stable (s : State) (o : Obj) (offset maxlen : Nat) :
    (State.readRecords s o offset maxlen).1.stable = s.stable := by
  unfold State.readRecords
  dsimp only
  (repeat' split) <;> simp only [State.count_stable]

end Sys2Proof.Machine
end

