-- ==== Sys2Proof/Laws/StableRequests.lean ====
section
/-! SUPPORT. The operations of `Machine/Requests.lean` that leave the queue, the byte memories, the bright set and the fuses alone. -/
set_option Elab.async false
namespace Sys2Proof.Machine

@[simp] theorem replyWith_stable (s : State) (last : Bool) (payload : Bytes) :
    (replyWith s last payload).s.stable = s.stable := by
  unfold replyWith
  simp only

@[simp] theorem State.readFixed_stable (s : State) (who : Path) (bright : Bool) (o : Obj) (row : Nat) :
    (State.readFixed s who bright o row).s.stable = s.stable := by
  unfold State.readFixed
  dsimp only
  (repeat' split) <;> simp only [State.readObject_stable, replyStatus_stable,
      replyWith_stable]

@[simp] theorem State.readDomain_stable (s : State) (who : Path) (bright : Bool) (o : Obj) (row offset maxlen : Nat) :
    (State.readDomain s who bright o row offset maxlen).s.stable = s.stable := by
  unfold State.readDomain
  dsimp only
  (repeat' split) <;> simp only [State.readObject_stable, State.readRecords_stable,
      replyStatus_stable, replyWith_stable]

@[simp] theorem strelRead_stable (m : StrelMsg) (z : Session) (s : State) :
    (strelRead m z s).s.stable = s.stable := by
  unfold strelRead
  dsimp only
  (repeat' split) <;> simp only [State.readDomain_stable, State.readFixed_stable,
      replyStatus_stable]

theorem execRead_stable (t : Nat) (m : StrelMsg) (s : State) :
    ∃ u, execRead t m s = .next u ∧ u.stable = s.stable := by
  unfold execRead
  apply sessionRequest_stable
  intro y0
  simp

@[simp] theorem State.setTransfer_stable (s : State) (id : Nat) (x : Option Transfer) :
    (State.setTransfer s id x).stable = s.stable := by
  unfold State.setTransfer
  split <;> simp only [State.setSession_stable]

@[simp] theorem State.readRun_stable (who : Path) (bright : Bool) (o : Obj) (x0 : Nat) (x1 : Nat) (s : State) :
    (State.readRun who bright o x0 x1 s).1.stable = s.stable := by
  induction x0 generalizing x1 s with
  | zero => rfl
  | succ n ih =>
    unfold State.readRun
    dsimp only
    split
    · simp
    · split <;> simp [ih]

@[simp] theorem strelReadRows_stable (m : StrelMsg) (z : Session) (s : State) :
    (strelReadRows m z s).s.stable = s.stable := by
  unfold strelReadRows
  dsimp only
  (repeat' split) <;> simp only [State.readRun_stable, replyStatus_stable, replyWith_stable]

theorem execReadRows_stable (t : Nat) (m : StrelMsg) (s : State) :
    ∃ u, execReadRows t m s = .next u ∧ u.stable = s.stable := by
  unfold execReadRows
  apply sessionRequest_stable
  intro y0
  simp

@[simp] theorem strelDescribe_stable (m : StrelMsg) (s : State) :
    (strelDescribe m s).s.stable = s.stable := by
  unfold strelDescribe
  dsimp only
  (repeat' split) <;> simp only [replyStatus_stable, replyWith_stable]

theorem execDescribe_stable (t : Nat) (m : StrelMsg) (s : State) :
    ∃ u, execDescribe t m s = .next u ∧ u.stable = s.stable := by
  unfold execDescribe
  apply sessionRequest_stable
  intro y0
  simp

@[simp] theorem State.usdoRead_stable (s : State) (o : Obj) (row : Nat) :
    (State.usdoRead s o row).1.stable = s.stable := by
  unfold State.usdoRead
  dsimp only
  (repeat' split) <;> simp only [State.readObject_stable, State.readRecords_stable]

@[simp] theorem State.takeStaged_stable (s : State) (p : Nat × Value) :
    (State.takeStaged s p).stable = s.stable := by
  unfold State.takeStaged
  split <;> simp only [State.putValue_stable]

@[simp] theorem State.stagedTaken_stable (old s : State) : (State.stagedTaken old s).stable = s.stable := by
  unfold State.stagedTaken
  dsimp only
  (repeat' split) <;> simp

@[simp] theorem State.takeSnapshot_stable (s : State) :
    (State.takeSnapshot s).stable = s.stable := by
  unfold State.takeSnapshot
  split <;> simp only [State.stable_mk, State.stable_eta]

theorem execLineBoundary_stable (t : Nat) (s : State) :
    ∃ u, execLineBoundary t s = .next u ∧ u.stable = s.stable := by
  unfold execLineBoundary
  refine ⟨_, rfl, ?_⟩
  split
  · simp
  · dsimp only
    rw [State.stable_mk]
    show State.stable (State.segBoundary _) = _
    simp

end Sys2Proof.Machine
end

