-- ==== Sys2Proof/Laws/StableSets.lean ====
section
/-! SUPPORT. The operations of `Machine/Sets.lean` that leave the queue, the byte memories, the bright set and the fuses alone. -/
set_option Elab.async false
namespace Sys2Proof.Machine

@[simp] theorem State.startValidation_stable (s : State) :
    (State.startValidation s).stable = s.stable := by
  unfold State.startValidation
  simp only [State.stable_mk, State.stable_eta, State.put_stable]

@[simp] theorem State.requestRack_stable (s : State) (target : Nat) :
    (State.requestRack s target).stable = s.stable := by
  unfold State.requestRack
  simp only [State.changeRack_stable, State.startValidation_stable]

@[simp] theorem setRack_stable (v : Nat) (s : State) :
    (setRack v s).1.stable = s.stable := by
  unfold setRack
  (repeat' split) <;> simp only [State.requestRack_stable]

theorem execSetRack_stable (t : Nat) (who : Path) (v : Nat) (s : State) :
    ∃ u, execSetRack t who v s = .next u ∧ u.stable = s.stable := by
  exact objectCommand_stable _ _ _ _ _ _ _ (fun _ => by simp)

@[simp] theorem setRackCancel_stable (s : State) :
    (setRackCancel s).1.stable = s.stable := by
  unfold setRackCancel
  (repeat' split) <;> simp only [State.endRack_stable, State.moveGroups_stable]

theorem execSetRackCancel_stable (t : Nat) (who : Path) (v : Nat) (s : State) :
    ∃ u, execSetRackCancel t who v s = .next u ∧ u.stable = s.stable := by
  exact objectCommand_stable _ _ _ _ _ _ _ (fun _ => by simp)

@[simp] theorem setDiscard_stable (s : State) :
    (setDiscard s).1.stable = s.stable := by
  unfold setDiscard
  split <;> simp only [State.stable_mk, State.stable_eta, State.checkTouched_stable, State.greenTouched_stable]

theorem execSetDiscard_stable (t : Nat) (who : Path) (v : Nat) (s : State) :
    ∃ u, execSetDiscard t who v s = .next u ∧ u.stable = s.stable := by
  exact objectCommand_stable _ _ _ _ _ _ _ (fun _ => by simp)

@[simp] theorem setValidate_stable (s : State) :
    (setValidate s).1.stable = s.stable := by
  unfold setValidate
  simp only [State.startValidation_stable]

theorem execSetValidate_stable (t : Nat) (who : Path) (v : Nat) (s : State) :
    ∃ u, execSetValidate t who v s = .next u ∧ u.stable = s.stable := by
  exact objectCommand_stable _ _ _ _ _ _ _ (fun _ => by simp)

@[simp] theorem State.rackPassed_stable (s : State) :
    (State.rackPassed s).stable = s.stable := by
  unfold State.rackPassed
  dsimp only
  (repeat' split) <;> simp only [State.changeRack_stable, State.endRack_stable,
      State.propose_stable, State.rackScheduled_stable, State.refuseHeldRacks_stable, State.serveHeld_stable]

theorem execSetValidationDone_stable (t : Nat) (s : State) :
    ∃ u, execSetValidationDone t s = .next u ∧ u.stable = s.stable := by
  unfold execSetValidationDone
  dsimp only
  (repeat' split) <;> refine ⟨_, rfl, ?_⟩ <;> simp only [State.stable_mk, State.stable_eta, State.endRack_stable,
      State.floorResult_stable, State.land_stable, State.put_stable, State.rackPassed_stable, State.refuseHeldRacks_stable]

theorem execRackAgreeTimeout_stable (t : Nat) (s : State) :
    ∃ u, execRackAgreeTimeout t s = .next u ∧ u.stable = s.stable := by
  unfold execRackAgreeTimeout
  refine ⟨_, rfl, ?_⟩
  split <;> simp only [State.endRack_stable, State.land_stable, State.unpropose_stable]

@[simp] theorem State.reanchor_stable (s : State) (new : CanvasSet) (f : Nat) :
    (State.reanchor s new f).stable = s.stable := by
  unfold State.reanchor
  dsimp only
  (repeat' split) <;> simp only [State.stable_mk, State.stable_eta]

theorem execReseedComplete_stable (t : Nat) (s : State) :
    ∃ u, execReseedComplete t s = .next u ∧ u.stable = s.stable := by
  unfold execReseedComplete
  refine ⟨_, rfl, ?_⟩
  split <;> simp only [State.stable_mk, State.stable_eta, State.changeRack_stable, State.land_stable]

@[simp] theorem setSave_stable (v : Nat) (s : State) :
    (setSave v s).1.stable = s.stable := by
  unfold setSave
  split <;> simp only [State.stable_mk, State.stable_eta, State.put_stable]

theorem execSetSave_stable (t : Nat) (who : Path) (v : Nat) (s : State) :
    ∃ u, execSetSave t who v s = .next u ∧ u.stable = s.stable := by
  exact objectCommand_stable _ _ _ _ _ _ _ (fun _ => by simp)

theorem execSetSaveDone_stable (t : Nat) (written : Bool) (s : State) :
    ∃ u, execSetSaveDone t written s = .next u ∧ u.stable = s.stable := by
  unfold execSetSaveDone
  dsimp only
  (repeat' split) <;> refine ⟨_, rfl, ?_⟩ <;> simp only [State.stable_mk, State.stable_eta, State.brewRec_stable,
      State.caskErr_stable, State.land_stable, State.put_stable, State.putSlot_stable, State.slotDamaged_stable]

@[simp] theorem setLoad_stable (v : Nat) (s : State) :
    (setLoad v s).1.stable = s.stable := by
  unfold setLoad
  dsimp only
  (repeat' split) <;> simp only [State.stable_mk, State.stable_eta]

theorem execSetLoad_stable (t : Nat) (who : Path) (v : Nat) (s : State) :
    ∃ u, execSetLoad t who v s = .next u ∧ u.stable = s.stable := by
  exact objectCommand_stable _ _ _ _ _ _ _ (fun _ => by simp)

@[simp] theorem State.loadSlot_stable (s : State) (x : Slot) :
    (State.loadSlot s x).stable = s.stable := by
  unfold State.loadSlot
  simp only [State.stable_mk, State.stable_eta, State.checkTouched_stable, State.greenTouched_stable]

theorem execSetLoadDone_stable (t : Nat) (s : State) :
    ∃ u, execSetLoadDone t s = .next u ∧ u.stable = s.stable := by
  unfold execSetLoadDone
  dsimp only
  (repeat' split) <;> refine ⟨_, rfl, ?_⟩ <;> simp only [State.stable_mk, State.stable_eta, State.land_stable,
      State.loadSlot_stable]

theorem execBootRackRequest_stable (t : Nat) (s : State) :
    ∃ u, execBootRackRequest t s = .next u ∧ u.stable = s.stable := by
  unfold execBootRackRequest
  dsimp only
  (repeat' split) <;> refine ⟨_, rfl, ?_⟩ <;> simp only [State.stable_mk, State.stable_eta, State.land_stable,
      State.requestRack_stable]

end Sys2Proof.Machine
end

