-- ==== Sys2Proof/Laws/StableTimebase.lean ====
section
/-! SUPPORT. The operations of `Machine/Timebase.lean` that leave the queue, the byte memories, the bright set and the fuses alone. -/
set_option Elab.async false
namespace Sys2Proof.Machine

@[simp] theorem State.startPairing_stable (s : State) :
    (State.startPairing s).stable = s.stable := by
  unfold State.startPairing
  simp only [State.stable_mk, State.stable_eta]

@[simp] theorem State.setLock_stable (s : State) :
    (State.setLock s).stable = s.stable := by
  unfold State.setLock
  dsimp only
  (repeat' split) <;> simp only [State.stable_mk, State.stable_eta, State.endStartup_stable, State.startPairing_stable]

@[simp] theorem State.setTbs_stable (s : State) (new : TbsState) :
    (State.setTbs s new).stable = s.stable := by
  unfold State.setTbs
  dsimp only
  (repeat' split) <;> simp only [State.stable_mk, State.stable_eta, State.brewRec_stable, State.report_stable]

@[simp] theorem State.tryLock_stable (s : State) :
    (State.tryLock s).stable = s.stable := by
  unfold State.tryLock
  dsimp only
  (repeat' split) <;> simp only [State.setLock_stable, State.setTbs_stable]

@[simp] theorem State.jump_stable (s : State) (d : Int) :
    (State.jump s d).stable = s.stable := by
  unfold State.jump
  simp only [State.stable_mk, State.stable_eta]

@[simp] theorem State.noteStep_stable (s : State) (d : Int) :
    (State.noteStep s d).stable = s.stable := by
  unfold State.noteStep
  simp only [State.stable_mk, State.stable_eta, State.brewRec_stable, State.count_stable, State.put_stable]

@[simp] theorem State.setFreq_stable (s : State) (freq : Int) :
    (State.setFreq s freq).stable = s.stable := by
  unfold State.setFreq
  simp only [State.stable_mk, State.stable_eta]

@[simp] theorem State.slew_stable (s : State) (o : Int) :
    (State.slew s o).stable = s.stable := by
  unfold State.slew
  simp only [State.setFreq_stable]

@[simp] theorem State.slewBy_stable (s : State) (d : Int) :
    (State.slewBy s d).stable = s.stable := by
  have key : ∀ (z : State) (d : Timebase), ({ z with tbs := d } : State).stable = z.stable := fun _ _ => rfl
  unfold State.slewBy
  extract_lets ppb lim freq until_ s1
  exact (key _ _).trans (State.setFreq_stable _ _)

@[simp] theorem State.planStep_stable (s : State) (d : Int) :
    (State.planStep s d).stable = s.stable := by
  unfold State.planStep
  split <;> simp only [State.stable_mk, State.stable_eta]

@[simp] theorem State.correct_stable (s : State) (o : Int) :
    (State.correct s o).stable = s.stable := by
  unfold State.correct
  split <;> simp only [State.planStep_stable, State.slew_stable]

@[simp] theorem State.measure_stable (s : State) (o : Int) (runs : Nat) :
    (State.measure s o runs).stable = s.stable := by
  unfold State.measure
  dsimp only
  (repeat' split) <;> simp only [State.stable_mk, State.stable_eta, State.correct_stable, State.planStep_stable,
      State.put_stable, State.setTbs_stable, State.slew_stable, State.tryLock_stable]

theorem execPtpAnnounceRx_stable (t port domain identity rank announceNs syncNs utcOffset : Nat) (s : State) :
    ∃ u, execPtpAnnounceRx t port domain identity rank announceNs syncNs utcOffset s = .next u ∧ u.stable = s.stable := by
  unfold execPtpAnnounceRx
  dsimp only
  (repeat' split) <;> refine ⟨_, rfl, ?_⟩ <;> simp only [State.stable_mk, State.stable_eta, State.land_stable,
      State.put_stable, State.putValue_stable, State.setTbs_stable]

@[simp] theorem State.syncMeasure_stable (s : State) (rx origin : Nat) :
    (State.syncMeasure s rx origin).stable = s.stable := by
  unfold State.syncMeasure
  simp only [State.stable_mk, State.stable_eta, State.measure_stable]

theorem execPtpSyncRx_stable (t port domain identity seq : Nat) (stampErr : Int) (originNs : Nat) (twoStep : Bool) (tlv : Bytes) (s : State) :
    ∃ u, execPtpSyncRx t port domain identity seq stampErr originNs twoStep tlv s = .next u ∧ u.stable = s.stable := by
  unfold execPtpSyncRx
  dsimp only
  (repeat' split) <;> refine ⟨_, rfl, ?_⟩ <;> simp only [State.stable_mk, State.stable_eta, State.land_stable,
      State.putValue_stable, State.syncMeasure_stable]

theorem execPtpFollowUpRx_stable (t port domain identity seq originNs : Nat) (s : State) :
    ∃ u, execPtpFollowUpRx t port domain identity seq originNs s = .next u ∧ u.stable = s.stable := by
  unfold execPtpFollowUpRx
  dsimp only
  (repeat' split) <;> refine ⟨_, rfl, ?_⟩ <;> simp only [State.stable_mk, State.stable_eta, State.land_stable,
      State.syncMeasure_stable]

theorem execPtpDelayRespRx_stable (t port domain identity seq receivedNs : Nat) (s : State) :
    ∃ u, execPtpDelayRespRx t port domain identity seq receivedNs s = .next u ∧ u.stable = s.stable := by
  unfold execPtpDelayRespRx
  dsimp only
  (repeat' split) <;> refine ⟨_, rfl, ?_⟩ <;> simp only [State.stable_mk, State.stable_eta, State.land_stable, State.put_stable]

theorem execPtpDelayReq_stable (t : Nat) (s : State) :
    ∃ u, execPtpDelayReq t s = .next u ∧ u.stable = s.stable := by
  unfold execPtpDelayReq
  dsimp only
  (repeat' split) <;> refine ⟨_, rfl, ?_⟩ <;> simp only [State.stable_mk, State.stable_eta, State.land_stable,
      State.send_stable, State.txFrame_stable]

@[simp] theorem State.edge_stable (s : State) (o : Int) :
    (State.edge s o).stable = s.stable := by
  unfold State.edge
  dsimp only
  (repeat' split) <;> simp only [State.stable_mk, State.stable_eta, State.measure_stable, State.setTbs_stable]

theorem execPpsInEdge_stable (t : Nat) (s : State) :
    ∃ u, execPpsInEdge t s = .next u ∧ u.stable = s.stable := by
  unfold execPpsInEdge
  refine ⟨_, rfl, ?_⟩
  split <;> simp only [State.edge_stable, State.land_stable]

theorem execFrameInEdge_stable (t : Nat) (s : State) :
    ∃ u, execFrameInEdge t s = .next u ∧ u.stable = s.stable := by
  unfold execFrameInEdge
  refine ⟨_, rfl, ?_⟩
  split <;> simp only [State.edge_stable, State.land_stable]

theorem execReferenceLost_stable (t : Nat) (s : State) :
    ∃ u, execReferenceLost t s = .next u ∧ u.stable = s.stable := by
  unfold execReferenceLost
  dsimp only
  (repeat' split) <;> refine ⟨_, rfl, ?_⟩ <;> simp only [State.stable_mk, State.stable_eta, State.land_stable,
      State.setFreq_stable, State.setTbs_stable, State.tryLock_stable]

theorem execHoldoverLimit_stable (t : Nat) (s : State) :
    ∃ u, execHoldoverLimit t s = .next u ∧ u.stable = s.stable := by
  unfold execHoldoverLimit
  refine ⟨_, rfl, ?_⟩
  split <;> simp only [State.land_stable, State.report_stable, State.setTbs_stable,
      State.tryLock_stable]

@[simp] theorem tbsSource_stable (v : Nat) (s : State) :
    (tbsSource v s).1.stable = s.stable := by
  unfold tbsSource
  dsimp only
  (repeat' split) <;> simp only [State.stable_mk, State.stable_eta, State.put_stable, State.setTbs_stable, State.tryLock_stable]

theorem execTbsSource_stable (t : Nat) (who : Path) (v : Nat) (s : State) :
    ∃ u, execTbsSource t who v s = .next u ∧ u.stable = s.stable := by
  exact objectCommand_stable _ _ _ _ _ _ _ (fun _ => by simp)

@[simp] theorem tbsTodSet_stable (b : Bytes) (s : State) :
    (tbsTodSet b s).1.stable = s.stable := by
  have key : ∀ (z : State) (d : Timebase), ({ z with tbs := d } : State).stable = z.stable := fun _ _ => rfl
  unfold tbsTodSet
  extract_lets d steps s1
  have h1 : s1.stable = s.stable := by
    simp only [s1]
    (repeat' split)
    · exact State.planStep_stable _ _
    · rfl
    · exact State.slewBy_stable _ _
  split
  · rfl
  · split
    · rfl
    · exact (State.tryLock_stable _).trans ((key _ _).trans h1)

theorem execTbsTodSet_stable (t : Nat) (who : Path) (time80 : Bytes) (s : State) :
    ∃ u, execTbsTodSet t who time80 s = .next u ∧ u.stable = s.stable := by
  exact objectCommand_stable _ _ _ _ _ _ _ (fun _ => by simp)

theorem execTodWaitExpiry_stable (t : Nat) (s : State) :
    ∃ u, execTodWaitExpiry t s = .next u ∧ u.stable = s.stable := by
  unfold execTodWaitExpiry
  dsimp only
  (repeat' split) <;> refine ⟨_, rfl, ?_⟩ <;> simp only [State.stable_mk, State.stable_eta, State.land_stable,
      State.tryLock_stable]

end Sys2Proof.Machine
end

