-- ==== Sys2Proof/Laws/StableStartup.lean ====
section
/-! SUPPORT. The operations of `Machine/Startup.lean` that leave the queue, the byte memories, the bright set and the fuses alone. -/
set_option Elab.async false
namespace Sys2Proof.Machine

@[simp] theorem State.toPhase_stable (s : State) (n : Nat) :
    (State.toPhase s n).stable = s.stable := by
  unfold State.toPhase
  simp only [State.modPwr_stable]

theorem startupStep_stable (t phase : Nat) (f : State → State) (s : State) (h_f : ∀ (y0 : State), (f y0).stable = y0.stable) :
    ∃ u, startupStep t phase f s = .next u ∧ u.stable = s.stable := by
  unfold startupStep
  refine ⟨_, rfl, ?_⟩
  split <;> simp [h_f]

theorem execRomBootDone_stable (t : Nat) (passed osc : Bool) (s : State) :
    ∃ u, execRomBootDone t passed osc s = .next u ∧ u.stable = s.stable := by
  unfold execRomBootDone
  apply startupStep_stable
  intro y0
  (repeat' split) <;> simp

@[simp] theorem State.tunStarted_stable (s : State) (failed : List Nat) (k : Nat) :
    (State.tunStarted s failed k).stable = s.stable := by
  unfold State.tunStarted
  dsimp only
  (repeat' split) <;> simp only [State.setTun_stable]

theorem execBistPhaseDone_stable (t : Nat) (failedTuns failedBanks failedLanes : List Nat) (othersGood : Bool) (s : State) :
    ∃ u, execBistPhaseDone t failedTuns failedBanks failedLanes othersGood s = .next u ∧ u.stable = s.stable := by
  unfold execBistPhaseDone
  apply startupStep_stable
  intro y0
  split <;> simp

@[simp] theorem State.loadLive_stable (s : State) :
    (State.loadLive s).stable = s.stable := by
  unfold State.loadLive
  simp only [State.stable_mk, State.stable_eta]

@[simp] theorem State.loadPools_stable (s : State) :
    (State.loadPools s).stable = s.stable := by
  unfold State.loadPools
  simp

@[simp] theorem State.loadFirmware_stable (s : State) :
    (State.loadFirmware s).stable = s.stable := by
  unfold State.loadFirmware
  dsimp only
  (repeat' split) <;> simp only [State.applied_stable, State.imageFailed_stable,
      State.modTrust_stable]

@[simp] theorem State.loadRecipe_stable (s : State) :
    (State.loadRecipe s).stable = s.stable := by
  unfold State.loadRecipe
  split <;> simp only [State.stable_mk, State.stable_eta]

@[simp] theorem State.loadBootSlot_stable (s : State) :
    (State.loadBootSlot s).stable = s.stable := by
  unfold State.loadBootSlot
  dsimp only
  (repeat' split) <;> simp only [State.stable_mk, State.stable_eta, State.loadSlot_stable]

@[simp] theorem State.loadTwin_stable (s : State) :
    (State.loadTwin s).stable = s.stable := by
  unfold State.loadTwin
  simp only [State.stable_mk, State.stable_eta, State.drawn_stable]

@[simp] theorem State.openCan_stable (s : State) :
    (State.openCan s).stable = s.stable := by
  unfold State.openCan
  split <;> simp only [State.stable_mk, State.stable_eta, State.send_stable]

@[simp] theorem State.startAvs_stable (s : State) :
    (State.startAvs s).stable = s.stable := by
  unfold State.startAvs
  split <;> simp only [State.modPwr_stable]

theorem execCaskLoadDone_stable (t : Nat) (s : State) :
    ∃ u, execCaskLoadDone t s = .next u ∧ u.stable = s.stable := by
  unfold execCaskLoadDone
  apply startupStep_stable
  intro y0
  dsimp only; split <;> simp

theorem execQdrTrainingDone_stable (t : Nat) (failed : List Nat) (s : State) :
    ∃ u, execQdrTrainingDone t failed s = .next u ∧ u.stable = s.stable := by
  unfold execQdrTrainingDone
  apply startupStep_stable
  intro y0
  dsimp only
  rw [State.toPhase_stable, foldl_stable]
  intro y1 y2; split <;> simp

theorem execDdrTrainingDone_stable (t : Nat) (verified : Bool) (failed : List Nat) (s : State) :
    ∃ u, execDdrTrainingDone t verified failed s = .next u ∧ u.stable = s.stable := by
  unfold execDdrTrainingDone
  apply startupStep_stable
  intro y0
  dsimp only
  rw [State.toPhase_stable, foldl_stable, foldl_stable, foldl_stable]
  · split <;> simp
  · intro y1 y2; simp
  · intro y1 y2; simp
  · intro y1 y2; split <;> simp

theorem execLanesDone_stable (t : Nat) (s : State) :
    ∃ u, execLanesDone t s = .next u ∧ u.stable = s.stable := by
  unfold execLanesDone
  apply startupStep_stable
  intro y0
  (repeat' split) <;> simp

end Sys2Proof.Machine
end

