-- ==== Sys2Proof/Laws/StableTapRepair.lean ====
section
/-! SUPPORT. The operations of `Machine/TapRepair.lean` that leave the queue, the byte memories, the bright set and the fuses alone. -/
set_option Elab.async false
namespace Sys2Proof.Machine

@[simp] theorem State.repair_stable (s : State) (p : Nat) (x : TapPkt) :
    (State.repair s p x).stable = s.stable := by
  unfold State.repair
  split
  · rfl
  · have h := State.descriptorRoom_stable s p 1
    split <;> rename_i e <;> rw [e] at h
    · exact h
    · rw [← h]; dsimp only; simp

@[simp] theorem State.nackUnserved_stable (s : State) (p k e : Nat) :
    (State.nackUnserved s p k e).stable = s.stable := by
  unfold State.nackUnserved
  split <;> simp only [State.count_stable, State.nudgeRequest_stable, State.tapFault_stable]

@[simp] theorem State.serveNack_stable (s : State) (p k e : Nat) :
    (State.serveNack s p k e).stable = s.stable := by
  unfold State.serveNack
  dsimp only
  (repeat' split) <;> simp only [State.count_stable, State.nackUnserved_stable,
      State.repair_stable]

@[simp] theorem State.nack_stable (s : State) (pkt : Bytes) :
    (State.nack s pkt).stable = s.stable := by
  unfold State.nack
  dsimp only
  (repeat' split)
  · simp
  · simp
  · rw [foldl_stable]
    · simp
    · intro y0 y1; split <;> simp

theorem execRtcpNack_stable (t : Nat) (data : Bytes) (s : State) :
    ∃ u, execRtcpNack t data s = .next u ∧ u.stable = s.stable := by
  unfold execRtcpNack
  dsimp only
  split
  · exact ⟨_, rfl, State.land_stable t s⟩
  · refine ⟨_, rfl, ?_⟩
    rw [foldl_stable]
    · simp
    · intro y0 y1; (repeat' split) <;> simp

@[simp] theorem State.sendReport_stable (s : State) (p f k ssrc es : Nat) :
    (State.sendReport s p f k ssrc es).stable = s.stable := by
  unfold State.sendReport
  dsimp only
  split
  · simp
  · have h := State.descriptorRoom_stable (s.setTap p { s.tapAt p with srFrame := some f }) p 2
    split <;> rename_i e <;> rw [e] at h
    · simpa using h
    · rw [State.setTap_stable] at h; rw [← h]; simp

theorem execSenderReport_stable (t tap : Nat) (s : State) :
    ∃ u, execSenderReport t tap s = .next u ∧ u.stable = s.stable := by
  unfold execSenderReport
  dsimp only
  (repeat' split) <;> refine ⟨_, rfl, ?_⟩ <;> simp only [State.land_stable,
      State.sendReport_stable]

end Sys2Proof.Machine
end

