-- ==== Sys2Proof/Laws/StableTimeStep.lean ====
section
/-! SUPPORT. The operations of `Machine/TimeStep.lean` that leave the queue, the byte memories, the bright set and the fuses alone. -/
set_option Elab.async false
namespace Sys2Proof.Machine

@[simp] theorem State.rackStepped_stable (s : State) (first : Nat) (old : CTime) :
    (State.rackStepped s first old).stable = s.stable := by
  unfold State.rackStepped
  dsimp only
  (repeat' split) <;> simp only [State.changeRack_stable, State.endRack_stable,
      State.moveGroups_stable, State.unpropose_stable]

theorem execTimeStep_stable (t : Nat) (s : State) :
    ∃ u, execTimeStep t s = .next u ∧ u.stable = s.stable := by
  unfold execTimeStep
  dsimp only
  (repeat' split) <;> refine ⟨_, rfl, ?_⟩ <;> simp only [State.stable_mk, State.stable_eta, State.calSweep_stable,
      State.jump_stable, State.land_stable, State.noteStep_stable, State.rackStepped_stable, State.restartPacers_stable]

end Sys2Proof.Machine
end

