-- ==== Sys2Proof/Laws/StableWrites.lean ====
section
/-! SUPPORT. The operations of `Machine/Writes.lean` that leave the queue, the byte memories, the bright set and the fuses alone. -/
set_option Elab.async false
namespace Sys2Proof.Machine

@[simp] theorem lnkMgIpv4_stable (v : Nat) (s : State) :
    (lnkMgIpv4 v s).1.stable = s.stable := by
  unfold lnkMgIpv4
  dsimp only
  (repeat' split) <;> simp only [State.announce_stable, State.put_stable]

@[simp] theorem State.writeGreen_stable (s : State) (o : Obj) (row : Nat) (v : Value) :
    (State.writeGreen s o row v).stable = s.stable := by
  unfold State.writeGreen
  dsimp only
  (repeat' split) <;> simp only [State.stable_mk, State.stable_eta, State.checkTouched_stable, State.greenTouched_stable]

end Sys2Proof.Machine
end

