-- ==== Sys2Proof/Laws/Tables.lean ====
section
/-! SUPPORT. Sparse tables: what a write leaves, and that every operation keeps the canonical form. -/
set_option Elab.async false
namespace Sys2Proof.Machine

@[simp] theorem Table.get_nil {α : Type} (d : α) (k : Nat) : Table.get d [] k = d := rfl

theorem Table.get_insert {α : Type} (d : α) (t : Table α) (k j : Nat) (v : α) :
    Table.get d (Table.insert t k v) j = if j = k then v else Table.get d t j := by
  induction t with
  | nil => simp [Table.insert, Table.get, eq_comm]
  | cons p t ih =>
    obtain ⟨i, w⟩ := p
    unfold Table.insert
    by_cases h1 : k < i
    · rw [if_pos h1]
      by_cases h : j = k
      · rw [if_pos h, Table.get, if_pos h.symm]
      · rw [if_neg h, Table.get, if_neg (Ne.symm h)]
    · by_cases h2 : i = k
      · rw [if_neg h1, if_pos h2]
        by_cases h : j = k
        · rw [if_pos h, Table.get, if_pos h.symm]
        · rw [if_neg h, Table.get, if_neg (Ne.symm h), Table.get, if_neg (by rw [h2]; exact Ne.symm h)]
      · simp only [h1, h2, if_false, Table.get, ih]
        by_cases h : i = j
        · subst h; simp [h2]
        · simp [h]

theorem Table.wfFrom_mono {α : Type} [DecidableEq α] {d : α} {t : Table α} {lo lo' : Nat} (h : lo' ≤ lo)
    (w : Table.wfFrom d lo t = true) : Table.wfFrom d lo' t = true := by
  cases t with
  | nil => rfl
  | cons p t =>
    simp only [Table.wfFrom, Bool.and_eq_true, decide_eq_true_eq] at w ⊢
    exact ⟨⟨Nat.le_trans h w.1.1, w.1.2⟩, w.2⟩

/-- Below a canonical table's first row everything reads as the default. -/
theorem Table.get_below {α : Type} [DecidableEq α] {d : α} {t : Table α} {lo j : Nat}
    (w : Table.wfFrom d lo t = true) (h : j < lo) : Table.get d t j = d := by
  induction t generalizing lo with
  | nil => rfl
  | cons p t ih =>
    simp only [Table.wfFrom, Bool.and_eq_true, decide_eq_true_eq] at w
    unfold Table.get
    rw [if_neg (by omega), ih w.2 (by omega)]

theorem Table.get_erase {α : Type} (d : α) (t : Table α) (k j : Nat) :
    Table.get d (Table.erase t k) j = if j = k then d else Table.get d t j := by
  induction t with
  | nil => simp [Table.erase]
  | cons p t ih =>
    obtain ⟨i, v⟩ := p
    unfold Table.erase
    by_cases h : i = k
    · subst h
      rw [if_pos rfl, ih]
      by_cases hj : j = i
      · rw [if_pos hj, if_pos hj]
      · rw [if_neg hj, if_neg hj, Table.get, if_neg (Ne.symm hj)]
    · rw [if_neg h]
      simp only [Table.get, ih]
      by_cases hj : i = j
      · subst hj; simp [h]
      · simp [hj]

/-- A table after a write: the row written, and every other row as before. -/
theorem Table.get_set {α : Type} [DecidableEq α] (d : α) (t : Table α) (k j : Nat) (v : α) :
    Table.get d (Table.set d t k v) j = if j = k then v else Table.get d t j := by
  unfold Table.set
  by_cases h : v = d
  · subst h; simp only [if_true]; exact Table.get_erase v t k j
  · simp only [h, if_false]; exact Table.get_insert d t k j v

theorem Table.wfFrom_insert {α : Type} [DecidableEq α] {d : α} {t : Table α} {lo k : Nat} {v : α}
    (w : Table.wfFrom d lo t = true) (h : lo ≤ k) (hv : v ≠ d) : Table.wfFrom d lo (Table.insert t k v) = true := by
  induction t generalizing lo with
  | nil => simp [Table.insert, Table.wfFrom, h, hv]
  | cons p t ih =>
    obtain ⟨i, x⟩ := p
    simp only [Table.wfFrom, Bool.and_eq_true, decide_eq_true_eq] at w
    unfold Table.insert
    by_cases h1 : k < i
    · simp only [h1, if_true, Table.wfFrom, Bool.and_eq_true, decide_eq_true_eq]
      exact ⟨⟨h, hv⟩, ⟨⟨h1, w.1.2⟩, w.2⟩⟩
    · by_cases h2 : i = k
      · subst h2; simp only [if_neg h1, if_true, Table.wfFrom, Bool.and_eq_true, decide_eq_true_eq]
        exact ⟨⟨h, hv⟩, w.2⟩
      · simp only [h1, h2, if_false, Table.wfFrom, Bool.and_eq_true, decide_eq_true_eq]
        exact ⟨w.1, ih w.2 (by omega)⟩

theorem Table.wfFrom_erase {α : Type} [DecidableEq α] {d : α} {t : Table α} {lo k : Nat}
    (w : Table.wfFrom d lo t = true) : Table.wfFrom d lo (Table.erase t k) = true := by
  induction t generalizing lo with
  | nil => rfl
  | cons p t ih =>
    obtain ⟨i, x⟩ := p
    simp only [Table.wfFrom, Bool.and_eq_true, decide_eq_true_eq] at w
    unfold Table.erase
    by_cases h : i = k
    · simp only [h, if_true]; exact ih (Table.wfFrom_mono (by omega) w.2)
    · simp only [h, if_false, Table.wfFrom, Bool.and_eq_true, decide_eq_true_eq]
      exact ⟨w.1, ih w.2⟩

/-- A write keeps the canonical form. -/
theorem Table.wf_set {α : Type} [DecidableEq α] {d : α} {t : Table α} (k : Nat) (v : α) (w : Table.wf d t = true) :
    Table.wf d (Table.set d t k v) = true := by
  unfold Table.set
  by_cases h : v = d
  · simp only [h, if_true]; exact Table.wfFrom_erase w
  · simp only [h, if_false]; exact Table.wfFrom_insert w (Nat.zero_le _) h

/-- Two canonical tables that read alike in every row are one table. -/
theorem Table.ext_wf {α : Type} [DecidableEq α] {d : α} {t u : Table α} {lo : Nat} (wt : Table.wfFrom d lo t = true)
    (wu : Table.wfFrom d lo u = true) (h : ∀ k, Table.get d t k = Table.get d u k) : t = u := by
  induction t generalizing u lo with
  | nil =>
    cases u with
    | nil => rfl
    | cons p u =>
      obtain ⟨i, x⟩ := p
      simp only [Table.wfFrom, Bool.and_eq_true, decide_eq_true_eq] at wu
      exact absurd (by simpa [Table.get] using (h i).symm) wu.1.2
  | cons p t ih =>
    obtain ⟨i, x⟩ := p
    simp only [Table.wfFrom, Bool.and_eq_true, decide_eq_true_eq] at wt
    cases u with
    | nil => exact absurd (by simpa [Table.get] using h i) wt.1.2
    | cons q u =>
      obtain ⟨j, y⟩ := q
      simp only [Table.wfFrom, Bool.and_eq_true, decide_eq_true_eq] at wu
      have hij : i = j := by
        rcases Nat.lt_trichotomy i j with c | c | c
        · have e := h i
          simp only [Table.get, if_true, if_neg (Nat.ne_of_gt c)] at e
          rw [Table.get_below wu.2 (by omega)] at e
          exact absurd e wt.1.2
        · exact c
        · have e := h j
          simp only [Table.get, if_true, if_neg (Nat.ne_of_gt c)] at e
          rw [Table.get_below wt.2 (by omega)] at e
          exact absurd e.symm wu.1.2
      subst hij
      have hxy : x = y := by simpa [Table.get] using h i
      subst hxy
      congr 1
      refine ih wt.2 wu.2 fun k => ?_
      by_cases c : i = k
      · subst c; rw [Table.get_below wt.2 (by omega), Table.get_below wu.2 (by omega)]
      · have e := h k
        simpa only [Table.get, if_neg c] using e

end Sys2Proof.Machine
end

