-- ==== Sys2Proof/Laws/Advance.lean ====
section
/-! SUPPORT. What every operation keeps: the queue, the canonical form of the byte memories, and what fuses hold. An operation
that leaves `State.stable` alone keeps all three; the few that do not have a lemma of their own here. -/
set_option Elab.async false
namespace Sys2Proof.Machine

/-- From `s` to `u` the queue stands, canonical memories stay canonical, no fuse is unblown, the bright set's objects stand unless
`swaps`, its Floor Map unless `swaps` or `stores`, and every memory stands unless `stores`. -/
structure State.Advances (swaps stores : Bool) (s u : State) : Prop where
  bright : swaps = false → u.sets.bright.objs = s.sets.bright.objs
  map : swaps = false → stores = false → u.sets.bright.map = s.sets.bright.map
  bytes : stores = false → u.memories = s.memories
  queue : u.pending = s.pending
  memories : s.memoriesWf = true → u.memoriesWf = true
  lifecycle : s.trust.lifecycle ≤ u.trust.lifecycle
  revoked : ∀ k, k ∈ s.trust.revoked → k ∈ u.trust.revoked
  counters : ∀ k, s.counter k ≤ u.counter k

variable {b ms : Bool}

theorem State.Advances.refl (s : State) : s.Advances b ms s := ⟨fun _ => rfl, fun _ _ => rfl, fun _ => rfl, rfl, id, Nat.le_refl _, fun _ h => h, fun _ => Nat.le_refl _⟩

theorem State.Advances.trans {s u v : State} (a : s.Advances b ms u) (c : u.Advances b ms v) : s.Advances b ms v :=
  ⟨fun h => (c.bright h).trans (a.bright h), fun h g => (c.map h g).trans (a.map h g), fun h => (c.bytes h).trans (a.bytes h), c.queue.trans a.queue, fun h => c.memories (a.memories h),
   Nat.le_trans a.lifecycle c.lifecycle, fun k h => c.revoked k (a.revoked k h),
   fun k => Nat.le_trans (a.counters k) (c.counters k)⟩

/-- An operation that leaves the stable part alone advances. -/
theorem State.Advances.of_stable {s u : State} (h : u.stable = s.stable) : s.Advances b ms u := by
  simp only [State.stable, Prod.mk.injEq] at h
  obtain ⟨h1, h2, h3, h4, h5, h6, h7, h8, h9⟩ := h
  refine ⟨fun _ => by rw [h6], fun _ _ => by rw [h6], fun _ => by simp only [State.memories, h2, h3, h4, h5], h1, ?_, Nat.le_of_eq h7.symm, fun k hk => by rw [h8]; exact hk, fun k => ?_⟩
  · simp only [State.memoriesWf, h2, h3, h4, h5, imp_self]
  · simp only [State.counter, h9, Nat.le_refl]

theorem State.Advances.foldl {α : Type} (f : State → α → State) (l : List α) (s : State)
    (h : ∀ y a, State.Advances b ms y (f y a)) : s.Advances b ms (l.foldl f s) := by
  induction l generalizing s with
  | nil => exact State.Advances.refl s
  | cons a l ih => exact (h s a).trans (ih _)

/-! ### The Sparge -/

theorem putBytes_wf (m : Table Byte) (a : Nat) (bs : Bytes) (h : Memory.wf m = true) : Memory.wf (putBytes m a bs) = true := by
  induction bs generalizing m a with
  | nil => exact h
  | cons b bs ih => exact ih _ _ (Table.wf_set a b h)

/-- A write of a side's space, read back: the bytes written, and every other byte as before. -/
theorem get_putBytes (m : Table Byte) (a : Nat) (bs : Bytes) (k : Nat) :
    Table.get 0 (putBytes m a bs) k = if a ≤ k ∧ k < a + bs.length then bs.getD (k - a) 0 else Table.get 0 m k := by
  induction bs generalizing m a with
  | nil => simp only [putBytes, List.length_nil, Nat.add_zero]; rw [if_neg (by omega)]
  | cons b bs ih =>
    rw [putBytes, ih, Table.get_set, List.length_cons]
    by_cases c1 : a + 1 ≤ k ∧ k < a + 1 + bs.length
    · rw [if_pos c1, if_pos (by omega)]
      have e : k - a = (k - (a + 1)) + 1 := by omega
      rw [e, List.getD_cons_succ]
    · rw [if_neg c1]
      by_cases c2 : k = a
      · subst c2; rw [if_pos rfl, if_pos (by omega), Nat.sub_self, List.getD_cons_zero]
      · rw [if_neg c2, if_neg (by omega)]

/-- A byte of working memory is written into a copy of the Floor Map, the log ring or the working memory's own bytes. -/
theorem State.workPut_advances (s : State) (a : Nat) (v : Byte) : s.Advances b true (s.workPut a v) := by
  have k : ∀ u : State, u.sets.bright.objs = s.sets.bright.objs → u.pending = s.pending → u.trust = s.trust →
      (s.memoriesWf = true → u.memoriesWf = true) → s.Advances b true u := fun u h1 h2 h3 h4 =>
    ⟨fun _ => h1, (fun _ h => nomatch h), (fun h => nomatch h), h2, h4, by rw [h3], fun _ h => by rw [h3]; exact h,
      fun _ => by simp only [State.counter, h3, Nat.le_refl]⟩
  unfold State.workPut
  split
  · dsimp only
    split <;> exact k _ rfl rfl rfl id
  · split
    · exact k _ rfl rfl rfl id
    · refine k _ rfl rfl rfl fun h => ?_
      simp only [State.memoriesWf, Bool.and_eq_true] at h ⊢
      exact ⟨⟨⟨Table.wf_set a v h.1.1.1, h.1.1.2⟩, h.1.2⟩, h.2⟩

theorem State.workWrite_advances (s : State) (a : Nat) (bs : Bytes) : s.Advances b true (s.workWrite a bs) := by
  induction bs generalizing s a with
  | nil => exact .refl s
  | cons v bs ih => exact (State.workPut_advances s a v).trans (ih _ _)

theorem State.spaceWrite_advances (s : State) (d : SpargeSide) (a : Nat) (bs : Bytes) : s.Advances b true (s.spaceWrite d a bs) := by
  have k : ∀ u : State, u.sets = s.sets → u.pending = s.pending → u.trust = s.trust →
      (s.memoriesWf = true → u.memoriesWf = true) → s.Advances b true u := fun u h1 h2 h3 h4 =>
    ⟨fun _ => by rw [h1], (fun _ h => nomatch h), (fun h => nomatch h), h2, h4, by rw [h3], fun _ h => by rw [h3]; exact h,
      fun _ => by simp only [State.counter, h3, Nat.le_refl]⟩
  unfold State.spaceWrite
  split
  · exact State.workWrite_advances s a bs
  · refine k _ rfl rfl rfl fun h => ?_
    simp only [State.memoriesWf, Bool.and_eq_true] at h ⊢
    exact ⟨⟨⟨h.1.1.1, putBytes_wf _ _ _ h.1.1.2⟩, h.1.2⟩, h.2⟩
  · refine k _ rfl rfl rfl fun h => ?_
    simp only [State.memoriesWf, Bool.and_eq_true] at h ⊢
    exact ⟨⟨⟨h.1.1.1, h.1.1.2⟩, putBytes_wf _ _ _ h.1.2⟩, h.2⟩
  · exact State.workWrite_advances s _ bs
  · refine k _ rfl rfl rfl fun h => ?_
    simp only [State.memoriesWf, Bool.and_eq_true] at h ⊢
    exact ⟨⟨⟨h.1.1.1, h.1.1.2⟩, h.1.2⟩, putBytes_wf _ _ _ h.2⟩
  · exact .refl s

theorem State.spargeBurst_advances (s : State) (c : Nat) : s.Advances b true (s.spargeBurst c) := by
  unfold State.spargeBurst
  dsimp only
  generalize hs : ({ s with sparge := _ } : State) = s1
  have h1 : s.Advances b true s1 := by subst hs; exact .of_stable rfl
  split
  · exact h1.trans (.of_stable (by simp only [State.setSpargeCh_stable]))
  · exact (h1.trans (State.spaceWrite_advances s1 _ _ _)).trans
      (.of_stable ((State.setSpargeCh_stable _ _ _).trans (State.count_stable _ _ _ _)))

theorem spargeDecide_advances (asserted : List Nat) (fuel : Nat) (ready : List Nat) (s : State) :
    s.Advances b true (spargeDecide asserted fuel ready s) := by
  induction fuel generalizing ready s with
  | zero => exact .refl s
  | succ n ih =>
    unfold spargeDecide
    split
    · exact .refl s
    · dsimp only
      split
      · exact State.Advances.trans (.of_stable (by simp)) (ih _ _)
      · refine State.Advances.trans (.of_stable ?_) (State.spargeBurst_advances _ _)
        exact foldl_stable _ _ _ (fun _ _ => by simp)

theorem State.spargeUndo_advances (s : State) (c : Nat) : s.Advances b true (s.spargeUndo c) := by
  unfold State.spargeUndo
  dsimp only
  split
  · exact .refl s
  · split
    · exact (State.spaceWrite_advances s _ _ _).trans (.of_stable ((State.setSpargeCh_stable _ _ _).trans rfl))
    · exact .of_stable (State.setSpargeCh_stable _ _ _)

/-! ### Reset and the swap -/

theorem State.deviceReset_advances (s : State) (cause : Nat) : s.Advances true true (s.deviceReset cause) :=
  ⟨(fun h => nomatch h), (fun h => nomatch h), (fun h => nomatch h), rfl, fun _ => rfl, Nat.le_refl _, fun _ h => h, fun _ => Nat.le_refl _⟩

theorem State.leaveReset_advances (s : State) : s.Advances true true s.leaveReset := by
  unfold State.leaveReset; split
  · exact .refl s
  · exact State.deviceReset_advances s _

theorem State.modPwr_advances (s : State) (f : Power → Power) : s.Advances b ms (s.modPwr f) := .of_stable (by simp)

theorem State.trip_advances (s : State) : s.Advances true true s.trip :=
  (State.modPwr_advances s _).trans (State.deviceReset_advances _ _)

/-- A swap changes the bright set and nothing else of the stable part. -/
theorem State.swapSets_stable (s : State) (f : Nat) (agreed : Bool) :
    (s.swapSets f agreed).stable =
      ({ s with sets := { s.sets with green := s.sets.bright, bright := s.sets.green } } : State).stable := by
  unfold State.swapSets
  extract_lets old new src s1 s2 s3 start src4 s4 s5 s6 s7 mode s8
  have h2 : s2.stable = s1.stable := State.changeRack_stable _ _
  have h3 : s3.stable = s1.stable := by
    simp only [s3, State.hierSwap_stable, State.policersSwap_stable, State.rackCompositor_stable, State.rakeRack_stable, State.streamsRack_stable, h2]
  have h4 : s4.stable = s1.stable := by simp only [s4, State.stable_mk, State.stable_eta, h3]
  have h5 : s5.stable = s1.stable := by
    simp only [s5]; split <;> simp only [State.restartPacersAt_stable, h4]
  have h6 : s6.stable = s1.stable := (State.capacity_stable _).trans h5
  have h7 : s7.stable = s1.stable := by
    refine Eq.trans (foldl_stable _ _ _ ?_) h6
    intro y a; dsimp only; split <;> simp only [State.attend_stable]
  rw [State.rackEnded_stable]
  refine Eq.trans ?_ h7
  simp only [s8]
  clear s8 h7
  clear_value s7 mode
  (repeat' split) <;> exact State.startPairing_stable _

theorem State.swapSets_advances (s : State) (f : Nat) (agreed : Bool) : s.Advances true ms (s.swapSets f agreed) := by
  have h := State.swapSets_stable s f agreed
  generalize State.swapSets s f agreed = u at h
  exact State.Advances.trans
    (u := { s with sets := { s.sets with green := s.sets.bright, bright := s.sets.green } })
    ⟨(fun h => nomatch h), (fun h => nomatch h), fun _ => rfl, rfl, id, Nat.le_refl _, fun _ h => h, fun _ => Nat.le_refl _⟩ (.of_stable h)

/-! ### The lifecycle and the writers -/

theorem State.modTrust_advances (s : State) (f : Trust → Trust) (h1 : s.trust.lifecycle ≤ (f s.trust).lifecycle)
    (h2 : (f s.trust).revoked = s.trust.revoked) (h3 : (f s.trust).counters = s.trust.counters) :
    s.Advances b ms (s.modTrust f) :=
  ⟨fun _ => rfl, fun _ _ => rfl, fun _ => rfl, rfl, id, h1, fun k hk => by simpa only [State.modTrust, h2] using hk,
   fun k => by simp only [State.modTrust, State.counter, h3, Nat.le_refl]⟩

theorem secLifecycleAdvance_advances (s : State) : s.Advances b ms (secLifecycleAdvance s).1 := by
  unfold secLifecycleAdvance
  split
  · exact .refl s
  · rename_i h
    have h1 : s.trust.lifecycle ≤ 2 := by omega
    have h2 := State.modTrust_advances (b := b) (ms := ms) s
      (fun x => { x with lifecycle := 2, keys := s.claimKeys.filter fun p => p.1 == 8 || p.1 == 16, vendor := [] }) h1 rfl rfl
    refine h2.trans (.of_stable ?_)
    dsimp only
    rw [State.clearRehearsals_stable]

theorem secRetire_advances (v : Nat) (s : State) : s.Advances b ms (secRetire v s).1 := by
  unfold secRetire
  split
  · exact .refl s
  · split
    · exact .refl s
    · rename_i h
      have h1 : s.trust.lifecycle ≤ 3 := by omega
      have h2 := State.modTrust_advances (b := b) (ms := ms) s (fun x => { x with lifecycle := 3, keys := [], vendor := [], accepted := none }) h1 rfl rfl
      refine h2.trans (.of_stable ?_)
      dsimp only
      simp only [cwtSafeEnter_stable, State.stable_mk, State.stable_eta]

/-- Every object's own rule advances. -/
theorem writers_advance : ∀ p ∈ writers, ∀ (who : Path) (seq row : Nat) (v : Value) (s : State),
    s.Advances b ms (p.2 who seq row v s).1 := by
  unfold writers writersSet writersUnits writersCare
  simp only [List.forall_mem_append, List.forall_mem_cons, List.not_mem_nil, false_imp_iff, implies_true, and_true, byNumber, byRow,
    byBytes, byEvent]
  repeat' apply And.intro
  all_goals
    intro who seq row v s
    first
    | exact secRetire_advances _ _
    | exact secLifecycleAdvance_advances _
    | exact .of_stable (by simp)
    | (split <;> exact .of_stable (by simp))

theorem State.writeEffect_advances (s : State) (who : Path) (seq : Nat) (o : Obj) (row : Nat) (v : Value) :
    s.Advances b ms (s.writeEffect who seq o row v).1 := by
  unfold State.writeEffect
  (repeat' split)
  · exact .of_stable (by simp)
  · exact .of_stable (by simp)
  · exact .refl s
  · rename_i p h; exact writers_advance p (List.mem_of_find?_eq_some h) who seq row v s
  · exact .of_stable (by simp)
  · exact .of_stable (by simp)

theorem State.writeObject_advances (s : State) (who : Path) (seq : Nat) (o : Obj) (row : Nat) (v : Value) :
    s.Advances b ms (s.writeObject who seq o row v).1 := by
  unfold State.writeObject
  split
  · exact .refl s
  · refine (State.writeEffect_advances s who seq o row v).trans ?_
    dsimp only
    split
    · exact .of_stable (by simp)
    · exact .refl _

theorem State.writeFragment_advances (s : State) (id seq : Nat) (o : Obj) (row offset : Nat) (last reserved : Bool) (data : Bytes) :
    s.Advances b ms (s.writeFragment id seq o row offset last reserved data).1 := by
  unfold State.writeFragment
  split
  · exact .refl s
  · exact .of_stable (by simp)
  · exact .of_stable (by simp)
  · exact State.Advances.trans (.of_stable (by simp)) (State.writeObject_advances _ _ _ _ _ _)

theorem State.writeRun_advances (who : Path) (seq : Nat) (o : Obj) (n row : Nat) (data : Bytes) (s : State) :
    s.Advances b ms (State.writeRun who seq o n row data s).1 := by
  induction n generalizing row data s with
  | zero => exact .refl s
  | succ n ih =>
    unfold State.writeRun
    dsimp only
    split
    · exact (State.writeObject_advances _ _ _ _ _ _).trans (ih _ _ _)
    · exact State.writeObject_advances _ _ _ _ _ _

theorem State.usdoWrite_advances (s : State) (o : Obj) (row : Nat) (data : Bytes) : s.Advances b ms (s.usdoWrite o row data).1 := by
  unfold State.usdoWrite
  dsimp only
  split
  · exact .refl s
  · exact State.writeObject_advances _ _ _ _ _ _

theorem strelWrite_advances (m : StrelMsg) (z : Session) (s : State) : s.Advances b ms (strelWrite m z s).s := by
  unfold strelWrite
  dsimp only
  (repeat' split) <;> first
    | exact .of_stable (replyStatus_stable _ _)
    | exact (State.writeFragment_advances _ _ _ _ _ _ _ _ _).trans (.of_stable (replyStatus_stable _ _))
    | exact (State.writeObject_advances _ _ _ _ _ _).trans (.of_stable (replyStatus_stable _ _))

theorem strelWriteRows_advances (m : StrelMsg) (z : Session) (s : State) : s.Advances b ms (strelWriteRows m z s).s := by
  unfold strelWriteRows
  dsimp only
  (repeat' split) <;> first
    | exact .of_stable (replyStatus_stable _ _)
    | exact (State.writeRun_advances _ _ _ _ _ _ _).trans (.of_stable (replyStatus_stable _ _))

theorem State.runRequest_advances (s : State) (z : Session) (opcode : Nat) (m : StrelMsg) (run : Session → State → StrelReply)
    (h : ∀ (y0 : Session) (y1 : State), y1.Advances b ms (run y0 y1).s) : s.Advances b ms (s.runRequest z opcode m run) := by
  have hh : s.Advances b ms (s.headed m (run z s)).s := by
    unfold State.headed
    (repeat' split) <;> first | exact h z s | exact .refl s
  unfold State.runRequest
  exact hh.trans (.of_stable ((State.strelSend_stable _ _ _ _ _ _ _).trans (State.setSession_stable _ _)))

theorem sessionRequest_advances (t opcode : Nat) (m : StrelMsg) (run : Session → State → StrelReply) (s : State)
    (h : ∀ (y0 : Session) (y1 : State), y1.Advances b ms (run y0 y1).s) :
    ∃ u, sessionRequest t opcode m run s = .next u ∧ s.Advances b ms u := by
  unfold sessionRequest
  refine ⟨_, rfl, ?_⟩
  refine State.Advances.trans (.of_stable (State.land_stable t s)) ?_
  dsimp only
  (repeat' split) <;> first
    | exact State.Advances.trans (.of_stable (State.setSession_stable _ _)) (State.runRequest_advances _ _ _ _ _ h)
    | exact .of_stable (by simp)

theorem objectCommand_advances (t : Nat) (who : Path) (o : Obj) (row : Nat) (v : Value) (eff : State → Effect) (s : State)
    (h : ∀ y, State.Advances b ms y (eff y).1) : ∃ u, objectCommand t who o row v eff s = .next u ∧ s.Advances b ms u := by
  have h0 : s.Advances b ms ((s.land t).accessed who) := .of_stable (by simp)
  unfold objectCommand
  dsimp only
  split
  · exact ⟨_, rfl, h0.trans (.of_stable (by simp))⟩
  · refine ⟨_, rfl, (h0.trans (h _)).trans (.of_stable ?_)⟩
    split <;> simp

/-! ### Commands -/

theorem State.land_advances (t : Nat) (s : State) : s.Advances b ms (s.land t) := .of_stable (State.land_stable t s)

theorem execObjectWrite_advances (t : Nat) (who : Path) (index sub row : Nat) (data : Bytes) (s : State) :
    ∃ u, execObjectWrite t who index sub row data s = .next u ∧ s.Advances b ms u := by
  have h0 : s.Advances b ms ((s.land t).accessed who) := .of_stable (by simp)
  refine ⟨_, rfl, h0.trans ?_⟩
  dsimp only
  split
  · exact .of_stable (State.send_stable _ _)
  · exact (State.writeObject_advances _ _ _ _ _ _).trans (.of_stable (State.send_stable _ _))

theorem execWrite_advances (t : Nat) (m : StrelMsg) (s : State) : ∃ u, execWrite t m s = .next u ∧ s.Advances b ms u :=
  sessionRequest_advances _ _ _ _ _ (strelWrite_advances m)

theorem execWriteRows_advances (t : Nat) (m : StrelMsg) (s : State) : ∃ u, execWriteRows t m s = .next u ∧ s.Advances b ms u :=
  sessionRequest_advances _ _ _ _ _ (strelWriteRows_advances m)

theorem execCanUsdoTransfer_advances (t : Nat) (unicast : Bool) (index sub : Nat) (data : Option Bytes) (s : State) :
    ∃ u, execCanUsdoTransfer t unicast index sub data s = .next u ∧ s.Advances b ms u := by
  refine ⟨_, rfl, (State.land_advances t s).trans ?_⟩
  dsimp only
  split
  · exact .refl _
  · refine State.Advances.trans (.of_stable (State.accessed_stable _ .can)) ?_
    (repeat' split) <;> first
      | exact (State.usdoWrite_advances _ _ _ _).trans (.of_stable (State.send_stable _ _))
      | exact .of_stable (by simp)

theorem execBurstIssue_advances (t : Nat) (asserted : List Nat) (s : State) :
    ∃ u, execBurstIssue t asserted s = .next u ∧ s.Advances b true u :=
  ⟨_, rfl, (State.land_advances t s).trans (spargeDecide_advances _ _ _ _)⟩

theorem execReqAssert_advances (t source : Nat) (s : State) : ∃ u, execReqAssert t source s = .next u ∧ s.Advances b true u :=
  ⟨_, rfl, (State.land_advances t s).trans (spargeDecide_advances _ _ _ _)⟩

theorem execBurstFail_advances (t channel : Nat) (timeout : Bool) (s : State) :
    ∃ u, execBurstFail t channel timeout s = .next u ∧ s.Advances b true u := by
  unfold execBurstFail
  dsimp only
  have h := State.land_advances (b := b) (ms := true) t s
  have h1 : s.Advances b true (((State.land t s).count Obj.spgBusErrs).spargeUndo channel) :=
    (h.trans (.of_stable (State.count_stable _ _ _ _))).trans (State.spargeUndo_advances _ _)
  split
  · split
    · exact ⟨_, rfl, h1.trans (.of_stable (by simp))⟩
    · exact ⟨_, rfl, h1.trans (.of_stable (by simp))⟩
  · exact ⟨_, rfl, h⟩

theorem execBurstRetry_advances (t channel : Nat) (s : State) :
    ∃ u, execBurstRetry t channel s = .next u ∧ s.Advances b true u := by
  unfold execBurstRetry
  dsimp only
  have h := State.land_advances (b := b) (ms := true) t s
  split
  · exact ⟨_, rfl, (h.trans (.of_stable (State.count_stable _ _ _ _))).trans (State.spargeBurst_advances _ _)⟩
  · exact ⟨_, rfl, h⟩

theorem execChannelResume_advances (t channel : Nat) (s : State) :
    ∃ u, execChannelResume t channel s = .next u ∧ s.Advances b true u := by
  unfold execChannelResume
  dsimp only
  have h := State.land_advances (b := b) (ms := true) t s
  split
  · exact ⟨_, rfl, (h.trans (.of_stable (State.setSpargeCh_stable _ _ _))).trans (State.spargeBurst_advances _ _)⟩
  · exact ⟨_, rfl, h⟩

theorem State.reanchor_advances (s : State) (new : CanvasSet) (f : Nat) : s.Advances b ms (s.reanchor new f) :=
  .of_stable (State.reanchor_stable _ _ _)

theorem execRackSwap_advances (t : Nat) (s : State) : ∃ u, execRackSwap t s = .next u ∧ s.Advances true ms u := by
  refine ⟨_, rfl, (State.land_advances t s).trans ?_⟩
  split
  · exact ((State.swapSets_advances _ _ _).trans (State.reanchor_advances _ _ _)).trans (.of_stable (State.calTicked_stable _))
  · exact .refl _

theorem execRasterGapEnd_advances (t : Nat) (s : State) : ∃ u, execRasterGapEnd t s = .next u ∧ s.Advances true ms u := by
  refine ⟨_, rfl, (State.land_advances t s).trans ?_⟩
  generalize State.land t s = s0
  split
  · exact .refl _
  · split
    · exact .refl _
    · extract_lets plan moved src s1 s1c s2 r s3
      have h1 : s0.Advances true ms s1c := .trans (.of_stable rfl) (.of_stable (State.calSweep_stable s1 _ _))
      have h2 : s0.Advances true ms s2 := by
        simp only [s2]; split
        · exact h1.trans (.of_stable (State.restartPacers_stable _))
        · exact h1
      refine State.Advances.trans ?_ (.of_stable (State.fallbacksReady_stable _ _))
      simp only [s3]
      split
      · exact (h2.trans (State.swapSets_advances _ _ _)).trans (State.reanchor_advances _ _ _)
      · exact h2

theorem execSyncApply_advances (t : Nat) (s : State) : ∃ u, execSyncApply t s = .next u ∧ s.Advances true ms u := by
  refine ⟨_, rfl, (State.land_advances t s).trans ?_⟩
  generalize State.land t s = s0
  split
  · exact .refl _
  · rename_i y e
    split
    · exact .refl _
    · split
      · exact .of_stable (State.modTwin_stable _ _)
      · extract_lets r es kept src s1 src2 s2 s3 s4
        have h1 : s0.Advances true ms s1 := .of_stable rfl
        have h2 : s0.Advances true ms s2 := h1.trans (.of_stable rfl)
        refine (h2.trans (State.swapSets_advances s2 y.fj false)).trans (.of_stable ?_)
        simp only [s4, s3, State.silence_stable, State.modTwin_stable, State.restartPacers_stable, State.syncCoding_stable]

theorem execPorstNAssert_advances (t : Nat) (s : State) : ∃ u, execPorstNAssert t s = .next u ∧ s.Advances true true u :=
  ⟨_, rfl, ((State.land_advances t s).trans (State.modPwr_advances _ _)).trans (State.deviceReset_advances _ _)⟩

theorem execPorstNRelease_advances (t nodeId twinRole bootSel : Nat) (s : State) :
    ∃ u, execPorstNRelease t nodeId twinRole bootSel s = .next u ∧ s.Advances true true u := by
  refine ⟨_, rfl, (State.land_advances t s).trans ?_⟩
  split
  · exact .refl _
  · exact (State.modPwr_advances _ _).trans (State.leaveReset_advances _)

theorem execBrownout_advances (t rail mv : Nat) (s : State) : ∃ u, execBrownout t rail mv s = .next u ∧ s.Advances true true u := by
  refine ⟨_, rfl, (State.land_advances t s).trans ?_⟩
  split
  · exact .refl _
  · exact (State.modPwr_advances _ _).trans (State.deviceReset_advances _ _)

theorem execBrownoutRecovery_advances (t rail mv : Nat) (s : State) :
    ∃ u, execBrownoutRecovery t rail mv s = .next u ∧ s.Advances true true u := by
  refine ⟨_, rfl, (State.land_advances t s).trans ?_⟩
  split
  · exact .refl _
  · exact (State.modPwr_advances _ _).trans (State.leaveReset_advances _)

theorem execRefclkSysLoss_advances (t : Nat) (s : State) : ∃ u, execRefclkSysLoss t s = .next u ∧ s.Advances true true u :=
  ⟨_, rfl, ((State.land_advances t s).trans (State.modPwr_advances _ _)).trans (State.deviceReset_advances _ _)⟩

theorem execRefclkSysReturn_advances (t : Nat) (s : State) : ∃ u, execRefclkSysReturn t s = .next u ∧ s.Advances true true u := by
  refine ⟨_, rfl, (State.land_advances t s).trans ?_⟩
  split
  · exact .refl _
  · exact (State.modPwr_advances _ _).trans (State.leaveReset_advances _)

theorem execPwrResetDelay_advances (t : Nat) (s : State) : ∃ u, execPwrResetDelay t s = .next u ∧ s.Advances true true u := by
  refine ⟨_, rfl, (State.land_advances t s).trans ?_⟩
  split
  · exact State.deviceReset_advances _ _
  · exact .refl _

theorem execMaltsterWatchdog_advances (t core : Nat) (s : State) :
    ∃ u, execMaltsterWatchdog t core s = .next u ∧ s.Advances true true u := by
  refine ⟨_, rfl, (State.land_advances t s).trans ?_⟩
  split
  · exact State.deviceReset_advances _ _
  · exact .refl _

theorem execSensorRead_advances (t : Nat) (readings : List Int) (s : State) :
    ∃ u, execSensorRead t readings s = .next u ∧ s.Advances true true u := by
  refine ⟨_, rfl, (State.land_advances t s).trans ?_⟩
  split
  · exact .refl _
  · extract_lets s1 tj levels s2
    have h2 : (State.land t s).Advances true true s2 :=
      (State.Advances.of_stable (State.exclude_stable _ readings)).trans (State.modPwr_advances _ _)
    split
    · exact h2.trans (State.trip_advances _)
    · exact h2.trans (.of_stable ((State.thermCrit_stable _).trans (State.thermWarn_stable _)))

theorem execSecLifecycleAdvance_advances (t : Nat) (who : Path) (v : Nat) (s : State) :
    ∃ u, execSecLifecycleAdvance t who v s = .next u ∧ s.Advances b ms u :=
  objectCommand_advances _ _ _ _ _ _ _ secLifecycleAdvance_advances

theorem execSecRetire_advances (t : Nat) (who : Path) (v : Nat) (s : State) :
    ∃ u, execSecRetire t who v s = .next u ∧ s.Advances b ms u :=
  objectCommand_advances _ _ _ _ _ _ _ (secRetire_advances v)

theorem execBlankToManufacture_advances (t : Nat) (s : State) :
    ∃ u, execBlankToManufacture t s = .next u ∧ s.Advances b ms u := by
  refine ⟨_, rfl, (State.land_advances t s).trans ?_⟩
  split
  · rename_i h
    exact (State.modTrust_advances _ _ (by rw [h]; exact Nat.zero_le _) rfl rfl).trans (.of_stable (State.drawn_stable _))
  · exact .refl _

theorem execRollbackFuseBlown_advances (t : Nat) (s : State) :
    ∃ u, execRollbackFuseBlown t s = .next u ∧ s.Advances b ms u := by
  unfold execRollbackFuseBlown
  dsimp only
  have h := State.land_advances (b := b) (ms := ms) t s
  generalize State.land t s = s0 at h
  split
  · exact ⟨_, rfl, h⟩
  · rename_i f rest e
    split
    · exact ⟨_, rfl, h⟩
    · split
      · refine ⟨_, rfl, h.trans ⟨fun _ => rfl, fun _ _ => rfl, fun _ => rfl, rfl, id, Nat.le_refl _, fun k hk => ?_, fun k => Nat.le_refl _⟩⟩
        simp only [State.modTrust, List.mem_append]; exact .inl hk
      · refine ⟨_, rfl, h.trans ⟨fun _ => rfl, fun _ _ => rfl, fun _ => rfl, rfl, id, Nat.le_refl _, fun _ hk => hk, fun k => ?_⟩⟩
        have e1 : ∀ (c : Table Nat) (i v : Nat), v ≠ 0 → Table.get 0 c i ≤ v →
            Table.get 0 c k ≤ Table.get 0 (Table.set 0 c i v) k := by
          intro c i v hz hv
          unfold Table.set
          rw [if_neg hz, Table.get_insert]
          split
          · rename_i hk; rw [hk]; exact hv
          · exact Nat.le_refl _
        exact e1 _ _ _ (Nat.succ_ne_zero _) (Nat.le_succ _)

end Sys2Proof.Machine
end

