-- ==== Sys2Proof/Laws/Commands.lean ====
section
/-! SUPPORT. What a command on one object answers, once for all of them: refused by a check of R454, refused by the object's
own rule, or taken. Each meaning built on `objectCommand` cites these instead of unfolding it. -/
set_option Elab.async false
namespace Sys2Proof.Machine

variable {t : Nat} {who : Path} {o : Obj} {row : Nat} {v : Value} {eff : State → Effect} {r u : State} {st : Status}

/-- R454: the first condition an access breaks is answered, and nothing else happens. -/
theorem objectCommand_refused (h : ((r.land t).accessed who).writeRefusal who o row v = some st) :
    objectCommand t who o row v eff r = .next (((r.land t).accessed who).send (.answer who st [])) := by
  simp only [objectCommand, h]

/-- A command that the checks of R454 let through, of an object the Cask does not keep, has its effect and answers its status. -/
theorem objectCommand_takes (h : ((r.land t).accessed who).writeRefusal who o row v = none) (hk : o.kept = false)
    (he : eff ((r.land t).accessed who) = (u, st)) :
    objectCommand t who o row v eff r = .next (u.send (.answer who st [])) := by
  simp only [objectCommand, h, hk, he, Bool.false_eq_true, and_false, if_false]

/-- The same for an object the Cask keeps: the value of a write answered OK is kept there. -/
theorem objectCommand_keeps (h : ((r.land t).accessed who).writeRefusal who o row v = none) (hk : o.kept = true)
    (he : eff ((r.land t).accessed who) = (u, .ok)) :
    objectCommand t who o row v eff r = .next ((u.keep o row v).send (.answer who .ok [])) := by
  simp only [objectCommand, h, hk, he, and_self, if_true]

end Sys2Proof.Machine
end

