-- ==== Sys2Proof/Laws/State.lean ====
section
/-! SUPPORT. What the common updates of a state leave in each of its fields. -/
set_option Elab.async false
namespace Sys2Proof.Machine

/-! A command lands: the running time moves and what the command before it sent is gone. -/

@[simp] theorem State.land_now (t : Nat) (s : State) : (s.land t).now = max s.now t := rfl
@[simp] theorem State.land_out (t : Nat) (s : State) : (s.land t).out = [] := rfl
@[simp] theorem State.land_draws (t : Nat) (s : State) : (s.land t).draws = s.draws := rfl
@[simp] theorem State.land_live (t : Nat) (s : State) : (s.land t).live = s.live := rfl
@[simp] theorem State.land_staged (t : Nat) (s : State) : (s.land t).staged = s.staged := rfl
@[simp] theorem State.land_workMem (t : Nat) (s : State) : (s.land t).workMem = s.workMem := rfl
@[simp] theorem State.land_storeMem (t : Nat) (s : State) : (s.land t).storeMem = s.storeMem := rfl
@[simp] theorem State.land_sramMem (t : Nat) (s : State) : (s.land t).sramMem = s.sramMem := rfl
@[simp] theorem State.land_steepMem (t : Nat) (s : State) : (s.land t).steepMem = s.steepMem := rfl
@[simp] theorem State.land_sets (t : Nat) (s : State) : (s.land t).sets = s.sets := rfl
@[simp] theorem State.land_strel (t : Nat) (s : State) : (s.land t).strel = s.strel := rfl
@[simp] theorem State.land_can (t : Nat) (s : State) : (s.land t).can = s.can := rfl
@[simp] theorem State.land_tbs (t : Nat) (s : State) : (s.land t).tbs = s.tbs := rfl
@[simp] theorem State.land_cmp (t : Nat) (s : State) : (s.land t).cmp = s.cmp := rfl
@[simp] theorem State.land_coding (t : Nat) (s : State) : (s.land t).coding = s.coding := rfl
@[simp] theorem State.land_tuns (t : Nat) (s : State) : (s.land t).tuns = s.tuns := rfl
@[simp] theorem State.land_dsp (t : Nat) (s : State) : (s.land t).dsp = s.dsp := rfl
@[simp] theorem State.land_rake (t : Nat) (s : State) : (s.land t).rake = s.rake := rfl
@[simp] theorem State.land_asm (t : Nat) (s : State) : (s.land t).asm = s.asm := rfl
@[simp] theorem State.land_sparge (t : Nat) (s : State) : (s.land t).sparge = s.sparge := rfl
@[simp] theorem State.land_keg (t : Nat) (s : State) : (s.land t).keg = s.keg := rfl
@[simp] theorem State.land_wort (t : Nat) (s : State) : (s.land t).wort = s.wort := rfl
@[simp] theorem State.land_cellar (t : Nat) (s : State) : (s.land t).cellar = s.cellar := rfl
@[simp] theorem State.land_icu (t : Nat) (s : State) : (s.land t).icu = s.icu := rfl
@[simp] theorem State.land_brew (t : Nat) (s : State) : (s.land t).brew = s.brew := rfl
@[simp] theorem State.land_links (t : Nat) (s : State) : (s.land t).links = s.links := rfl
@[simp] theorem State.land_tap (t : Nat) (s : State) : (s.land t).tap = s.tap := rfl
@[simp] theorem State.land_twn (t : Nat) (s : State) : (s.land t).twn = s.twn := rfl
@[simp] theorem State.land_dec (t : Nat) (s : State) : (s.land t).dec = s.dec := rfl
@[simp] theorem State.land_mem (t : Nat) (s : State) : (s.land t).mem = s.mem := rfl
@[simp] theorem State.land_trust (t : Nat) (s : State) : (s.land t).trust = s.trust := rfl
@[simp] theorem State.land_cask (t : Nat) (s : State) : (s.land t).cask = s.cask := rfl
@[simp] theorem State.land_pwr (t : Nat) (s : State) : (s.land t).pwr = s.pwr := rfl
@[simp] theorem State.land_pending (t : Nat) (s : State) : (s.land t).pending = s.pending := rfl

/-! A free value is drawn. -/

@[simp] theorem State.drawn_now (s : State) : (s.drawn).now = s.now := rfl
@[simp] theorem State.drawn_out (s : State) : (s.drawn).out = s.out := rfl
@[simp] theorem State.drawn_draws (s : State) : (s.drawn).draws = s.draws + 1 := rfl
@[simp] theorem State.drawn_live (s : State) : (s.drawn).live = s.live := rfl
@[simp] theorem State.drawn_staged (s : State) : (s.drawn).staged = s.staged := rfl
@[simp] theorem State.drawn_workMem (s : State) : (s.drawn).workMem = s.workMem := rfl
@[simp] theorem State.drawn_storeMem (s : State) : (s.drawn).storeMem = s.storeMem := rfl
@[simp] theorem State.drawn_sramMem (s : State) : (s.drawn).sramMem = s.sramMem := rfl
@[simp] theorem State.drawn_steepMem (s : State) : (s.drawn).steepMem = s.steepMem := rfl
@[simp] theorem State.drawn_sets (s : State) : (s.drawn).sets = s.sets := rfl
@[simp] theorem State.drawn_strel (s : State) : (s.drawn).strel = s.strel := rfl
@[simp] theorem State.drawn_can (s : State) : (s.drawn).can = s.can := rfl
@[simp] theorem State.drawn_tbs (s : State) : (s.drawn).tbs = s.tbs := rfl
@[simp] theorem State.drawn_cmp (s : State) : (s.drawn).cmp = s.cmp := rfl
@[simp] theorem State.drawn_coding (s : State) : (s.drawn).coding = s.coding := rfl
@[simp] theorem State.drawn_tuns (s : State) : (s.drawn).tuns = s.tuns := rfl
@[simp] theorem State.drawn_dsp (s : State) : (s.drawn).dsp = s.dsp := rfl
@[simp] theorem State.drawn_rake (s : State) : (s.drawn).rake = s.rake := rfl
@[simp] theorem State.drawn_asm (s : State) : (s.drawn).asm = s.asm := rfl
@[simp] theorem State.drawn_sparge (s : State) : (s.drawn).sparge = s.sparge := rfl
@[simp] theorem State.drawn_keg (s : State) : (s.drawn).keg = s.keg := rfl
@[simp] theorem State.drawn_wort (s : State) : (s.drawn).wort = s.wort := rfl
@[simp] theorem State.drawn_cellar (s : State) : (s.drawn).cellar = s.cellar := rfl
@[simp] theorem State.drawn_icu (s : State) : (s.drawn).icu = s.icu := rfl
@[simp] theorem State.drawn_brew (s : State) : (s.drawn).brew = s.brew := rfl
@[simp] theorem State.drawn_links (s : State) : (s.drawn).links = s.links := rfl
@[simp] theorem State.drawn_tap (s : State) : (s.drawn).tap = s.tap := rfl
@[simp] theorem State.drawn_twn (s : State) : (s.drawn).twn = s.twn := rfl
@[simp] theorem State.drawn_dec (s : State) : (s.drawn).dec = s.dec := rfl
@[simp] theorem State.drawn_mem (s : State) : (s.drawn).mem = s.mem := rfl
@[simp] theorem State.drawn_trust (s : State) : (s.drawn).trust = s.trust := rfl
@[simp] theorem State.drawn_cask (s : State) : (s.drawn).cask = s.cask := rfl
@[simp] theorem State.drawn_pwr (s : State) : (s.drawn).pwr = s.pwr := rfl
@[simp] theorem State.drawn_pending (s : State) : (s.drawn).pending = s.pending := rfl

/-! An object in force gets a value. -/

@[simp] theorem State.putValue_now (s : State) (o : Obj) (row : Nat) (v : Value) : (s.putValue o row v).now = s.now := rfl
@[simp] theorem State.putValue_out (s : State) (o : Obj) (row : Nat) (v : Value) : (s.putValue o row v).out = s.out := rfl
@[simp] theorem State.putValue_draws (s : State) (o : Obj) (row : Nat) (v : Value) : (s.putValue o row v).draws = s.draws := rfl
@[simp] theorem State.putValue_live (s : State) (o : Obj) (row : Nat) (v : Value) : (s.putValue o row v).live = Store.write s.live o row v := rfl
@[simp] theorem State.putValue_staged (s : State) (o : Obj) (row : Nat) (v : Value) : (s.putValue o row v).staged = s.staged := rfl
@[simp] theorem State.putValue_workMem (s : State) (o : Obj) (row : Nat) (v : Value) : (s.putValue o row v).workMem = s.workMem := rfl
@[simp] theorem State.putValue_storeMem (s : State) (o : Obj) (row : Nat) (v : Value) : (s.putValue o row v).storeMem = s.storeMem := rfl
@[simp] theorem State.putValue_sramMem (s : State) (o : Obj) (row : Nat) (v : Value) : (s.putValue o row v).sramMem = s.sramMem := rfl
@[simp] theorem State.putValue_steepMem (s : State) (o : Obj) (row : Nat) (v : Value) : (s.putValue o row v).steepMem = s.steepMem := rfl
@[simp] theorem State.putValue_sets (s : State) (o : Obj) (row : Nat) (v : Value) : (s.putValue o row v).sets = s.sets := rfl
@[simp] theorem State.putValue_strel (s : State) (o : Obj) (row : Nat) (v : Value) : (s.putValue o row v).strel = s.strel := rfl
@[simp] theorem State.putValue_can (s : State) (o : Obj) (row : Nat) (v : Value) : (s.putValue o row v).can = s.can := rfl
@[simp] theorem State.putValue_tbs (s : State) (o : Obj) (row : Nat) (v : Value) : (s.putValue o row v).tbs = s.tbs := rfl
@[simp] theorem State.putValue_cmp (s : State) (o : Obj) (row : Nat) (v : Value) : (s.putValue o row v).cmp = s.cmp := rfl
@[simp] theorem State.putValue_coding (s : State) (o : Obj) (row : Nat) (v : Value) : (s.putValue o row v).coding = s.coding := rfl
@[simp] theorem State.putValue_tuns (s : State) (o : Obj) (row : Nat) (v : Value) : (s.putValue o row v).tuns = s.tuns := rfl
@[simp] theorem State.putValue_dsp (s : State) (o : Obj) (row : Nat) (v : Value) : (s.putValue o row v).dsp = s.dsp := rfl
@[simp] theorem State.putValue_rake (s : State) (o : Obj) (row : Nat) (v : Value) : (s.putValue o row v).rake = s.rake := rfl
@[simp] theorem State.putValue_asm (s : State) (o : Obj) (row : Nat) (v : Value) : (s.putValue o row v).asm = s.asm := rfl
@[simp] theorem State.putValue_sparge (s : State) (o : Obj) (row : Nat) (v : Value) : (s.putValue o row v).sparge = s.sparge := rfl
@[simp] theorem State.putValue_keg (s : State) (o : Obj) (row : Nat) (v : Value) : (s.putValue o row v).keg = s.keg := rfl
@[simp] theorem State.putValue_wort (s : State) (o : Obj) (row : Nat) (v : Value) : (s.putValue o row v).wort = s.wort := rfl
@[simp] theorem State.putValue_cellar (s : State) (o : Obj) (row : Nat) (v : Value) : (s.putValue o row v).cellar = s.cellar := rfl
@[simp] theorem State.putValue_icu (s : State) (o : Obj) (row : Nat) (v : Value) : (s.putValue o row v).icu = s.icu := rfl
@[simp] theorem State.putValue_brew (s : State) (o : Obj) (row : Nat) (v : Value) : (s.putValue o row v).brew = s.brew := rfl
@[simp] theorem State.putValue_links (s : State) (o : Obj) (row : Nat) (v : Value) : (s.putValue o row v).links = s.links := rfl
@[simp] theorem State.putValue_tap (s : State) (o : Obj) (row : Nat) (v : Value) : (s.putValue o row v).tap = s.tap := rfl
@[simp] theorem State.putValue_twn (s : State) (o : Obj) (row : Nat) (v : Value) : (s.putValue o row v).twn = s.twn := rfl
@[simp] theorem State.putValue_dec (s : State) (o : Obj) (row : Nat) (v : Value) : (s.putValue o row v).dec = s.dec := rfl
@[simp] theorem State.putValue_mem (s : State) (o : Obj) (row : Nat) (v : Value) : (s.putValue o row v).mem = s.mem := rfl
@[simp] theorem State.putValue_trust (s : State) (o : Obj) (row : Nat) (v : Value) : (s.putValue o row v).trust = s.trust := rfl
@[simp] theorem State.putValue_cask (s : State) (o : Obj) (row : Nat) (v : Value) : (s.putValue o row v).cask = s.cask := rfl
@[simp] theorem State.putValue_pwr (s : State) (o : Obj) (row : Nat) (v : Value) : (s.putValue o row v).pwr = s.pwr := rfl
@[simp] theorem State.putValue_pending (s : State) (o : Obj) (row : Nat) (v : Value) : (s.putValue o row v).pending = s.pending := rfl

/-! An object in force gets a number. -/

@[simp] theorem State.put_now (s : State) (o : Obj) (row : Nat) (v : Int) : (s.put o row v).now = s.now := rfl
@[simp] theorem State.put_out (s : State) (o : Obj) (row : Nat) (v : Int) : (s.put o row v).out = s.out := rfl
@[simp] theorem State.put_draws (s : State) (o : Obj) (row : Nat) (v : Int) : (s.put o row v).draws = s.draws := rfl
@[simp] theorem State.put_live (s : State) (o : Obj) (row : Nat) (v : Int) : (s.put o row v).live = Store.write s.live o row (.num v) := rfl
@[simp] theorem State.put_staged (s : State) (o : Obj) (row : Nat) (v : Int) : (s.put o row v).staged = s.staged := rfl
@[simp] theorem State.put_workMem (s : State) (o : Obj) (row : Nat) (v : Int) : (s.put o row v).workMem = s.workMem := rfl
@[simp] theorem State.put_storeMem (s : State) (o : Obj) (row : Nat) (v : Int) : (s.put o row v).storeMem = s.storeMem := rfl
@[simp] theorem State.put_sramMem (s : State) (o : Obj) (row : Nat) (v : Int) : (s.put o row v).sramMem = s.sramMem := rfl
@[simp] theorem State.put_steepMem (s : State) (o : Obj) (row : Nat) (v : Int) : (s.put o row v).steepMem = s.steepMem := rfl
@[simp] theorem State.put_sets (s : State) (o : Obj) (row : Nat) (v : Int) : (s.put o row v).sets = s.sets := rfl
@[simp] theorem State.put_strel (s : State) (o : Obj) (row : Nat) (v : Int) : (s.put o row v).strel = s.strel := rfl
@[simp] theorem State.put_can (s : State) (o : Obj) (row : Nat) (v : Int) : (s.put o row v).can = s.can := rfl
@[simp] theorem State.put_tbs (s : State) (o : Obj) (row : Nat) (v : Int) : (s.put o row v).tbs = s.tbs := rfl
@[simp] theorem State.put_cmp (s : State) (o : Obj) (row : Nat) (v : Int) : (s.put o row v).cmp = s.cmp := rfl
@[simp] theorem State.put_coding (s : State) (o : Obj) (row : Nat) (v : Int) : (s.put o row v).coding = s.coding := rfl
@[simp] theorem State.put_tuns (s : State) (o : Obj) (row : Nat) (v : Int) : (s.put o row v).tuns = s.tuns := rfl
@[simp] theorem State.put_dsp (s : State) (o : Obj) (row : Nat) (v : Int) : (s.put o row v).dsp = s.dsp := rfl
@[simp] theorem State.put_rake (s : State) (o : Obj) (row : Nat) (v : Int) : (s.put o row v).rake = s.rake := rfl
@[simp] theorem State.put_asm (s : State) (o : Obj) (row : Nat) (v : Int) : (s.put o row v).asm = s.asm := rfl
@[simp] theorem State.put_sparge (s : State) (o : Obj) (row : Nat) (v : Int) : (s.put o row v).sparge = s.sparge := rfl
@[simp] theorem State.put_keg (s : State) (o : Obj) (row : Nat) (v : Int) : (s.put o row v).keg = s.keg := rfl
@[simp] theorem State.put_wort (s : State) (o : Obj) (row : Nat) (v : Int) : (s.put o row v).wort = s.wort := rfl
@[simp] theorem State.put_cellar (s : State) (o : Obj) (row : Nat) (v : Int) : (s.put o row v).cellar = s.cellar := rfl
@[simp] theorem State.put_icu (s : State) (o : Obj) (row : Nat) (v : Int) : (s.put o row v).icu = s.icu := rfl
@[simp] theorem State.put_brew (s : State) (o : Obj) (row : Nat) (v : Int) : (s.put o row v).brew = s.brew := rfl
@[simp] theorem State.put_links (s : State) (o : Obj) (row : Nat) (v : Int) : (s.put o row v).links = s.links := rfl
@[simp] theorem State.put_tap (s : State) (o : Obj) (row : Nat) (v : Int) : (s.put o row v).tap = s.tap := rfl
@[simp] theorem State.put_twn (s : State) (o : Obj) (row : Nat) (v : Int) : (s.put o row v).twn = s.twn := rfl
@[simp] theorem State.put_dec (s : State) (o : Obj) (row : Nat) (v : Int) : (s.put o row v).dec = s.dec := rfl
@[simp] theorem State.put_mem (s : State) (o : Obj) (row : Nat) (v : Int) : (s.put o row v).mem = s.mem := rfl
@[simp] theorem State.put_trust (s : State) (o : Obj) (row : Nat) (v : Int) : (s.put o row v).trust = s.trust := rfl
@[simp] theorem State.put_cask (s : State) (o : Obj) (row : Nat) (v : Int) : (s.put o row v).cask = s.cask := rfl
@[simp] theorem State.put_pwr (s : State) (o : Obj) (row : Nat) (v : Int) : (s.put o row v).pwr = s.pwr := rfl
@[simp] theorem State.put_pending (s : State) (o : Obj) (row : Nat) (v : Int) : (s.put o row v).pending = s.pending := rfl

/-! A counter advances. -/

@[simp] theorem State.count_now (s : State) (o : Obj) (row n : Nat) : (s.count o row n).now = s.now := rfl
@[simp] theorem State.count_out (s : State) (o : Obj) (row n : Nat) : (s.count o row n).out = s.out := rfl
@[simp] theorem State.count_draws (s : State) (o : Obj) (row n : Nat) : (s.count o row n).draws = s.draws := rfl
@[simp] theorem State.count_live (s : State) (o : Obj) (row n : Nat) : (s.count o row n).live = Store.write s.live o row (.num (satAdd (8 * o.ty.width) (s.val o row) n : Nat)) := rfl
@[simp] theorem State.count_staged (s : State) (o : Obj) (row n : Nat) : (s.count o row n).staged = s.staged := rfl
@[simp] theorem State.count_workMem (s : State) (o : Obj) (row n : Nat) : (s.count o row n).workMem = s.workMem := rfl
@[simp] theorem State.count_storeMem (s : State) (o : Obj) (row n : Nat) : (s.count o row n).storeMem = s.storeMem := rfl
@[simp] theorem State.count_sramMem (s : State) (o : Obj) (row n : Nat) : (s.count o row n).sramMem = s.sramMem := rfl
@[simp] theorem State.count_steepMem (s : State) (o : Obj) (row n : Nat) : (s.count o row n).steepMem = s.steepMem := rfl
@[simp] theorem State.count_sets (s : State) (o : Obj) (row n : Nat) : (s.count o row n).sets = s.sets := rfl
@[simp] theorem State.count_strel (s : State) (o : Obj) (row n : Nat) : (s.count o row n).strel = s.strel := rfl
@[simp] theorem State.count_can (s : State) (o : Obj) (row n : Nat) : (s.count o row n).can = s.can := rfl
@[simp] theorem State.count_tbs (s : State) (o : Obj) (row n : Nat) : (s.count o row n).tbs = s.tbs := rfl
@[simp] theorem State.count_cmp (s : State) (o : Obj) (row n : Nat) : (s.count o row n).cmp = s.cmp := rfl
@[simp] theorem State.count_coding (s : State) (o : Obj) (row n : Nat) : (s.count o row n).coding = s.coding := rfl
@[simp] theorem State.count_tuns (s : State) (o : Obj) (row n : Nat) : (s.count o row n).tuns = s.tuns := rfl
@[simp] theorem State.count_dsp (s : State) (o : Obj) (row n : Nat) : (s.count o row n).dsp = s.dsp := rfl
@[simp] theorem State.count_rake (s : State) (o : Obj) (row n : Nat) : (s.count o row n).rake = s.rake := rfl
@[simp] theorem State.count_asm (s : State) (o : Obj) (row n : Nat) : (s.count o row n).asm = s.asm := rfl
@[simp] theorem State.count_sparge (s : State) (o : Obj) (row n : Nat) : (s.count o row n).sparge = s.sparge := rfl
@[simp] theorem State.count_keg (s : State) (o : Obj) (row n : Nat) : (s.count o row n).keg = s.keg := rfl
@[simp] theorem State.count_wort (s : State) (o : Obj) (row n : Nat) : (s.count o row n).wort = s.wort := rfl
@[simp] theorem State.count_cellar (s : State) (o : Obj) (row n : Nat) : (s.count o row n).cellar = s.cellar := rfl
@[simp] theorem State.count_icu (s : State) (o : Obj) (row n : Nat) : (s.count o row n).icu = s.icu := rfl
@[simp] theorem State.count_brew (s : State) (o : Obj) (row n : Nat) : (s.count o row n).brew = s.brew := rfl
@[simp] theorem State.count_links (s : State) (o : Obj) (row n : Nat) : (s.count o row n).links = s.links := rfl
@[simp] theorem State.count_tap (s : State) (o : Obj) (row n : Nat) : (s.count o row n).tap = s.tap := rfl
@[simp] theorem State.count_twn (s : State) (o : Obj) (row n : Nat) : (s.count o row n).twn = s.twn := rfl
@[simp] theorem State.count_dec (s : State) (o : Obj) (row n : Nat) : (s.count o row n).dec = s.dec := rfl
@[simp] theorem State.count_mem (s : State) (o : Obj) (row n : Nat) : (s.count o row n).mem = s.mem := rfl
@[simp] theorem State.count_trust (s : State) (o : Obj) (row n : Nat) : (s.count o row n).trust = s.trust := rfl
@[simp] theorem State.count_cask (s : State) (o : Obj) (row n : Nat) : (s.count o row n).cask = s.cask := rfl
@[simp] theorem State.count_pwr (s : State) (o : Obj) (row n : Nat) : (s.count o row n).pwr = s.pwr := rfl
@[simp] theorem State.count_pending (s : State) (o : Obj) (row n : Nat) : (s.count o row n).pending = s.pending := rfl

/-! The Cask keeps a value. -/

@[simp] theorem State.keep_now (s : State) (o : Obj) (row : Nat) (v : Value) : (s.keep o row v).now = s.now := rfl
@[simp] theorem State.keep_out (s : State) (o : Obj) (row : Nat) (v : Value) : (s.keep o row v).out = s.out := rfl
@[simp] theorem State.keep_draws (s : State) (o : Obj) (row : Nat) (v : Value) : (s.keep o row v).draws = s.draws := rfl
@[simp] theorem State.keep_live (s : State) (o : Obj) (row : Nat) (v : Value) : (s.keep o row v).live = s.live := rfl
@[simp] theorem State.keep_staged (s : State) (o : Obj) (row : Nat) (v : Value) : (s.keep o row v).staged = s.staged := rfl
@[simp] theorem State.keep_workMem (s : State) (o : Obj) (row : Nat) (v : Value) : (s.keep o row v).workMem = s.workMem := rfl
@[simp] theorem State.keep_storeMem (s : State) (o : Obj) (row : Nat) (v : Value) : (s.keep o row v).storeMem = s.storeMem := rfl
@[simp] theorem State.keep_sramMem (s : State) (o : Obj) (row : Nat) (v : Value) : (s.keep o row v).sramMem = s.sramMem := rfl
@[simp] theorem State.keep_steepMem (s : State) (o : Obj) (row : Nat) (v : Value) : (s.keep o row v).steepMem = s.steepMem := rfl
@[simp] theorem State.keep_sets (s : State) (o : Obj) (row : Nat) (v : Value) : (s.keep o row v).sets = s.sets := rfl
@[simp] theorem State.keep_strel (s : State) (o : Obj) (row : Nat) (v : Value) : (s.keep o row v).strel = s.strel := rfl
@[simp] theorem State.keep_can (s : State) (o : Obj) (row : Nat) (v : Value) : (s.keep o row v).can = s.can := rfl
@[simp] theorem State.keep_tbs (s : State) (o : Obj) (row : Nat) (v : Value) : (s.keep o row v).tbs = s.tbs := rfl
@[simp] theorem State.keep_cmp (s : State) (o : Obj) (row : Nat) (v : Value) : (s.keep o row v).cmp = s.cmp := rfl
@[simp] theorem State.keep_coding (s : State) (o : Obj) (row : Nat) (v : Value) : (s.keep o row v).coding = s.coding := rfl
@[simp] theorem State.keep_tuns (s : State) (o : Obj) (row : Nat) (v : Value) : (s.keep o row v).tuns = s.tuns := rfl
@[simp] theorem State.keep_dsp (s : State) (o : Obj) (row : Nat) (v : Value) : (s.keep o row v).dsp = s.dsp := rfl
@[simp] theorem State.keep_rake (s : State) (o : Obj) (row : Nat) (v : Value) : (s.keep o row v).rake = s.rake := rfl
@[simp] theorem State.keep_asm (s : State) (o : Obj) (row : Nat) (v : Value) : (s.keep o row v).asm = s.asm := rfl
@[simp] theorem State.keep_sparge (s : State) (o : Obj) (row : Nat) (v : Value) : (s.keep o row v).sparge = s.sparge := rfl
@[simp] theorem State.keep_keg (s : State) (o : Obj) (row : Nat) (v : Value) : (s.keep o row v).keg = s.keg := rfl
@[simp] theorem State.keep_wort (s : State) (o : Obj) (row : Nat) (v : Value) : (s.keep o row v).wort = s.wort := rfl
@[simp] theorem State.keep_cellar (s : State) (o : Obj) (row : Nat) (v : Value) : (s.keep o row v).cellar = s.cellar := rfl
@[simp] theorem State.keep_icu (s : State) (o : Obj) (row : Nat) (v : Value) : (s.keep o row v).icu = s.icu := rfl
@[simp] theorem State.keep_brew (s : State) (o : Obj) (row : Nat) (v : Value) : (s.keep o row v).brew = s.brew := rfl
@[simp] theorem State.keep_links (s : State) (o : Obj) (row : Nat) (v : Value) : (s.keep o row v).links = s.links := rfl
@[simp] theorem State.keep_tap (s : State) (o : Obj) (row : Nat) (v : Value) : (s.keep o row v).tap = s.tap := rfl
@[simp] theorem State.keep_twn (s : State) (o : Obj) (row : Nat) (v : Value) : (s.keep o row v).twn = s.twn := rfl
@[simp] theorem State.keep_dec (s : State) (o : Obj) (row : Nat) (v : Value) : (s.keep o row v).dec = s.dec := rfl
@[simp] theorem State.keep_mem (s : State) (o : Obj) (row : Nat) (v : Value) : (s.keep o row v).mem = s.mem := rfl
@[simp] theorem State.keep_trust (s : State) (o : Obj) (row : Nat) (v : Value) : (s.keep o row v).trust = s.trust := rfl
@[simp] theorem State.keep_cask (s : State) (o : Obj) (row : Nat) (v : Value) : (s.keep o row v).cask = { s.cask with live := Store.write s.cask.live o row v } := rfl
@[simp] theorem State.keep_pwr (s : State) (o : Obj) (row : Nat) (v : Value) : (s.keep o row v).pwr = s.pwr := rfl
@[simp] theorem State.keep_pending (s : State) (o : Obj) (row : Nat) (v : Value) : (s.keep o row v).pending = s.pending := rfl

/-! The device sends or answers. -/

@[simp] theorem State.send_now (s : State) (o : Out) : (s.send o).now = s.now := by unfold State.send; split <;> rfl
@[simp] theorem State.send_out (s : State) (o : Out) : (s.send o).out = if s.cellar.safe ∧ o.onLane then s.out else s.out ++ [o] := by unfold State.send; split <;> rfl
@[simp] theorem State.send_draws (s : State) (o : Out) : (s.send o).draws = s.draws := by unfold State.send; split <;> rfl
@[simp] theorem State.send_live (s : State) (o : Out) : (s.send o).live = s.live := by unfold State.send; split <;> rfl
@[simp] theorem State.send_staged (s : State) (o : Out) : (s.send o).staged = s.staged := by unfold State.send; split <;> rfl
@[simp] theorem State.send_workMem (s : State) (o : Out) : (s.send o).workMem = s.workMem := by unfold State.send; split <;> rfl
@[simp] theorem State.send_storeMem (s : State) (o : Out) : (s.send o).storeMem = s.storeMem := by unfold State.send; split <;> rfl
@[simp] theorem State.send_sramMem (s : State) (o : Out) : (s.send o).sramMem = s.sramMem := by unfold State.send; split <;> rfl
@[simp] theorem State.send_steepMem (s : State) (o : Out) : (s.send o).steepMem = s.steepMem := by unfold State.send; split <;> rfl
@[simp] theorem State.send_sets (s : State) (o : Out) : (s.send o).sets = s.sets := by unfold State.send; split <;> rfl
@[simp] theorem State.send_strel (s : State) (o : Out) : (s.send o).strel = s.strel := by unfold State.send; split <;> rfl
@[simp] theorem State.send_can (s : State) (o : Out) : (s.send o).can = s.can := by unfold State.send; split <;> rfl
@[simp] theorem State.send_tbs (s : State) (o : Out) : (s.send o).tbs = s.tbs := by unfold State.send; split <;> rfl
@[simp] theorem State.send_cmp (s : State) (o : Out) : (s.send o).cmp = s.cmp := by unfold State.send; split <;> rfl
@[simp] theorem State.send_coding (s : State) (o : Out) : (s.send o).coding = s.coding := by unfold State.send; split <;> rfl
@[simp] theorem State.send_tuns (s : State) (o : Out) : (s.send o).tuns = s.tuns := by unfold State.send; split <;> rfl
@[simp] theorem State.send_dsp (s : State) (o : Out) : (s.send o).dsp = s.dsp := by unfold State.send; split <;> rfl
@[simp] theorem State.send_rake (s : State) (o : Out) : (s.send o).rake = s.rake := by unfold State.send; split <;> rfl
@[simp] theorem State.send_asm (s : State) (o : Out) : (s.send o).asm = s.asm := by unfold State.send; split <;> rfl
@[simp] theorem State.send_sparge (s : State) (o : Out) : (s.send o).sparge = s.sparge := by unfold State.send; split <;> rfl
@[simp] theorem State.send_keg (s : State) (o : Out) : (s.send o).keg = s.keg := by unfold State.send; split <;> rfl
@[simp] theorem State.send_wort (s : State) (o : Out) : (s.send o).wort = s.wort := by unfold State.send; split <;> rfl
@[simp] theorem State.send_cellar (s : State) (o : Out) : (s.send o).cellar = s.cellar := by unfold State.send; split <;> rfl
@[simp] theorem State.send_icu (s : State) (o : Out) : (s.send o).icu = s.icu := by unfold State.send; split <;> rfl
@[simp] theorem State.send_brew (s : State) (o : Out) : (s.send o).brew = s.brew := by unfold State.send; split <;> rfl
@[simp] theorem State.send_links (s : State) (o : Out) : (s.send o).links = s.links := by unfold State.send; split <;> rfl
@[simp] theorem State.send_tap (s : State) (o : Out) : (s.send o).tap = s.tap := by unfold State.send; split <;> rfl
@[simp] theorem State.send_twn (s : State) (o : Out) : (s.send o).twn = s.twn := by unfold State.send; split <;> rfl
@[simp] theorem State.send_dec (s : State) (o : Out) : (s.send o).dec = s.dec := by unfold State.send; split <;> rfl
@[simp] theorem State.send_mem (s : State) (o : Out) : (s.send o).mem = s.mem := by unfold State.send; split <;> rfl
@[simp] theorem State.send_trust (s : State) (o : Out) : (s.send o).trust = s.trust := by unfold State.send; split <;> rfl
@[simp] theorem State.send_cask (s : State) (o : Out) : (s.send o).cask = s.cask := by unfold State.send; split <;> rfl
@[simp] theorem State.send_pwr (s : State) (o : Out) : (s.send o).pwr = s.pwr := by unfold State.send; split <;> rfl
@[simp] theorem State.send_pending (s : State) (o : Out) : (s.send o).pending = s.pending := by unfold State.send; split <;> rfl

/-! A path is used. -/

@[simp] theorem State.accessed_now (s : State) (who : Path) : (s.accessed who).now = s.now := by cases who <;> simp only [State.accessed] <;> (try split) <;> rfl
@[simp] theorem State.accessed_out (s : State) (who : Path) : (s.accessed who).out = s.out := by cases who <;> simp only [State.accessed] <;> (try split) <;> rfl
@[simp] theorem State.accessed_draws (s : State) (who : Path) : (s.accessed who).draws = s.draws := by cases who <;> simp only [State.accessed] <;> (try split) <;> rfl
@[simp] theorem State.accessed_live (s : State) (who : Path) : (s.accessed who).live = s.live := by cases who <;> simp only [State.accessed] <;> (try split) <;> rfl
@[simp] theorem State.accessed_staged (s : State) (who : Path) : (s.accessed who).staged = s.staged := by cases who <;> simp only [State.accessed] <;> (try split) <;> rfl
@[simp] theorem State.accessed_workMem (s : State) (who : Path) : (s.accessed who).workMem = s.workMem := by cases who <;> simp only [State.accessed] <;> (try split) <;> rfl
@[simp] theorem State.accessed_storeMem (s : State) (who : Path) : (s.accessed who).storeMem = s.storeMem := by cases who <;> simp only [State.accessed] <;> (try split) <;> rfl
@[simp] theorem State.accessed_sramMem (s : State) (who : Path) : (s.accessed who).sramMem = s.sramMem := by cases who <;> simp only [State.accessed] <;> (try split) <;> rfl
@[simp] theorem State.accessed_steepMem (s : State) (who : Path) : (s.accessed who).steepMem = s.steepMem := by cases who <;> simp only [State.accessed] <;> (try split) <;> rfl
@[simp] theorem State.accessed_sets (s : State) (who : Path) : (s.accessed who).sets = s.sets := by cases who <;> simp only [State.accessed] <;> (try split) <;> rfl
@[simp] theorem State.accessed_tbs (s : State) (who : Path) : (s.accessed who).tbs = s.tbs := by cases who <;> simp only [State.accessed] <;> (try split) <;> rfl
@[simp] theorem State.accessed_cmp (s : State) (who : Path) : (s.accessed who).cmp = s.cmp := by cases who <;> simp only [State.accessed] <;> (try split) <;> rfl
@[simp] theorem State.accessed_coding (s : State) (who : Path) : (s.accessed who).coding = s.coding := by cases who <;> simp only [State.accessed] <;> (try split) <;> rfl
@[simp] theorem State.accessed_tuns (s : State) (who : Path) : (s.accessed who).tuns = s.tuns := by cases who <;> simp only [State.accessed] <;> (try split) <;> rfl
@[simp] theorem State.accessed_dsp (s : State) (who : Path) : (s.accessed who).dsp = s.dsp := by cases who <;> simp only [State.accessed] <;> (try split) <;> rfl
@[simp] theorem State.accessed_rake (s : State) (who : Path) : (s.accessed who).rake = s.rake := by cases who <;> simp only [State.accessed] <;> (try split) <;> rfl
@[simp] theorem State.accessed_asm (s : State) (who : Path) : (s.accessed who).asm = s.asm := by cases who <;> simp only [State.accessed] <;> (try split) <;> rfl
@[simp] theorem State.accessed_sparge (s : State) (who : Path) : (s.accessed who).sparge = s.sparge := by cases who <;> simp only [State.accessed] <;> (try split) <;> rfl
@[simp] theorem State.accessed_keg (s : State) (who : Path) : (s.accessed who).keg = s.keg := by cases who <;> simp only [State.accessed] <;> (try split) <;> rfl
@[simp] theorem State.accessed_wort (s : State) (who : Path) : (s.accessed who).wort = s.wort := by cases who <;> simp only [State.accessed] <;> (try split) <;> rfl
@[simp] theorem State.accessed_cellar (s : State) (who : Path) : (s.accessed who).cellar = s.cellar := by cases who <;> simp only [State.accessed] <;> (try split) <;> rfl
@[simp] theorem State.accessed_icu (s : State) (who : Path) : (s.accessed who).icu = s.icu := by cases who <;> simp only [State.accessed] <;> (try split) <;> rfl
@[simp] theorem State.accessed_brew (s : State) (who : Path) : (s.accessed who).brew = s.brew := by cases who <;> simp only [State.accessed] <;> (try split) <;> rfl
@[simp] theorem State.accessed_links (s : State) (who : Path) : (s.accessed who).links = s.links := by cases who <;> simp only [State.accessed] <;> (try split) <;> rfl
@[simp] theorem State.accessed_tap (s : State) (who : Path) : (s.accessed who).tap = s.tap := by cases who <;> simp only [State.accessed] <;> (try split) <;> rfl
@[simp] theorem State.accessed_twn (s : State) (who : Path) : (s.accessed who).twn = s.twn := by cases who <;> simp only [State.accessed] <;> (try split) <;> rfl
@[simp] theorem State.accessed_dec (s : State) (who : Path) : (s.accessed who).dec = s.dec := by cases who <;> simp only [State.accessed] <;> (try split) <;> rfl
@[simp] theorem State.accessed_mem (s : State) (who : Path) : (s.accessed who).mem = s.mem := by cases who <;> simp only [State.accessed] <;> (try split) <;> rfl
@[simp] theorem State.accessed_trust (s : State) (who : Path) : (s.accessed who).trust = s.trust := by cases who <;> simp only [State.accessed] <;> (try split) <;> rfl
@[simp] theorem State.accessed_cask (s : State) (who : Path) : (s.accessed who).cask = s.cask := by cases who <;> simp only [State.accessed] <;> (try split) <;> rfl
@[simp] theorem State.accessed_pwr (s : State) (who : Path) : (s.accessed who).pwr = s.pwr := by cases who <;> simp only [State.accessed] <;> (try split) <;> rfl
@[simp] theorem State.accessed_pending (s : State) (who : Path) : (s.accessed who).pending = s.pending := by cases who <;> simp only [State.accessed] <;> (try split) <;> rfl

end Sys2Proof.Machine
end

