-- ==== Sys2Proof/Laws/WorkMemory.lean ====
section
/-! SUPPORT. Working memory as the Sparge sees it: a byte written is read back, and every other byte reads as before, in the copies of the
Floor Map and in the log ring too (R326). -/
set_option Elab.async false
namespace Sys2Proof.Machine

theorem wordPut_byte (v : Nat) (b : Byte) (i k : Nat) (hi : i < 8) (hk : k < 8) :
    BitVec.ofNat 8 (wordPut v i b / 256 ^ (7 - k)) = if k = i then b else BitVec.ofNat 8 (v / 256 ^ (7 - k)) := by
  have hb : b.toNat < 256 := b.isLt
  apply BitVec.eq_of_toNat_eq
  rw [apply_ite BitVec.toNat]
  simp only [BitVec.toNat_ofNat, wordPut]
  interval_cases i <;> interval_cases k <;> simp <;> omega

/-- A map after a write: the row written, and every other row as before. -/
theorem FloorMap.get_set (m : FloorMap) (r v k : Nat) : (m.set r v).get k = if k = r then v else m.get k :=
  Table.get_set m.fill m.rows r k v

theorem bytesBE_length (n v : Nat) : (bytesBE n v).length = n := by
  induction n generalizing v with
  | zero => rfl
  | succ n ih => simp [bytesBE, ih]

theorem ofBytesBE_append (a : Bytes) (x : Byte) : ofBytesBE (a ++ [x]) = ofBytesBE a * 256 + x.toNat := by
  simp [ofBytesBE]

/-- The number that `n` bytes spell, as bytes again. -/
theorem bytesBE_ofBytesBE (n : Nat) (l : Bytes) (h : l.length = n) : bytesBE n (ofBytesBE l) = l := by
  induction n generalizing l with
  | zero => rw [List.length_eq_zero_iff.mp h]; rfl
  | succ n ih =>
    obtain rfl | ⟨a, x, rfl⟩ := List.eq_nil_or_concat l
    · cases h
    · rw [List.concat_eq_append] at h ⊢
      have ha : a.length = n := by simpa using h
      have hx : x.toNat < 256 := x.isLt
      have e1 : ofBytesBE (a ++ [x]) / 256 = ofBytesBE a := by rw [ofBytesBE_append]; omega
      have e2 : BitVec.ofNat 8 (ofBytesBE (a ++ [x])) = x := by
        apply BitVec.eq_of_toNat_eq
        rw [BitVec.toNat_ofNat, ofBytesBE_append]; omega
      rw [bytesBE, e1, e2, ih a ha]

theorem bytesBE_fieldBE (l : Bytes) (o n : Nat) (h : o + n ≤ l.length) : bytesBE n (fieldBE l o n) = slice l o n :=
  bytesBE_ofBytesBE n _ (by simp [slice]; omega)

theorem fieldBE_lt (l : Bytes) (o n : Nat) : fieldBE l o n < 256 ^ n := by
  have k : ∀ a : Bytes, ofBytesBE a < 256 ^ a.length := by
    intro a
    induction a using List.reverseRecOn with
    | nil => simp [ofBytesBE]
    | append_singleton a x ih =>
      have hx : x.toNat < 256 := x.isLt
      rw [ofBytesBE_append, List.length_append, List.length_singleton, Nat.pow_succ]; omega
  exact lt_of_lt_of_le (k _) (Nat.pow_le_pow_right (by decide) (by simp [slice]))

theorem BrewRec.bytes_length (r : BrewRec) : r.bytes.length = 32 := by
  simp [BrewRec.bytes, BrewRec.tail, CTime.bytes, bytesBE_length]

/-- A record holds every 32 bytes as they are. -/
theorem BrewRec.bytes_ofBytes (l : Bytes) (h : l.length = 32) : (BrewRec.ofBytes l).bytes = l := by
  have e : fieldBE l 20 3 / 4096 % 4096 * 4096 + fieldBE l 20 3 % 4096 % 4096 = fieldBE l 20 3 := by
    have := fieldBE_lt l 20 3; omega
  simp only [BrewRec.bytes, BrewRec.tail, CTime.bytes, BrewRec.ofBytes, e]
  rw [bytesBE_fieldBE _ _ _ (by omega), bytesBE_fieldBE _ _ _ (by omega), bytesBE_fieldBE _ _ _ (by omega),
    bytesBE_fieldBE _ _ _ (by omega), bytesBE_fieldBE _ _ _ (by omega), bytesBE_fieldBE _ _ _ (by omega),
    bytesBE_fieldBE _ _ _ (by omega)]
  have j : ∀ (o n m : Nat), slice l o n ++ slice l (o + n) m = slice l o (n + m) := fun o n m => by
    simp [slice, List.take_add, List.drop_drop]
  have j1 : slice l 23 1 ++ slice l 24 8 = slice l 23 9 := j 23 1 8
  have j2 : slice l 20 3 ++ slice l 23 9 = slice l 20 12 := j 20 3 9
  have j3 : slice l 10 10 ++ slice l 20 12 = slice l 10 22 := j 10 10 12
  have j4 : slice l 8 2 ++ slice l 10 22 = slice l 8 24 := j 8 2 22
  have j5 : slice l 4 4 ++ slice l 8 24 = slice l 4 28 := j 4 4 24
  have j6 : slice l 0 4 ++ slice l 4 28 = slice l 0 32 := j 0 4 28
  simp only [List.append_assoc, j1, j2, j3, j4, j5, j6]
  simp [slice, ← h]

theorem List.getD_set' {α : Type} (l : List α) (i j : Nat) (x d : α) (h : i < l.length) :
    (l.set i x).getD j d = if j = i then x else l.getD j d := by
  simp only [List.getD_eq_getElem?_getD, List.getElem?_set]
  by_cases e : i = j
  · subst e; simp [h]
  · simp [e, Ne.symm e]

/-- A byte of working memory after a write of one byte. -/
theorem State.workByte_workPut (s : State) (a j : Nat) (v : Byte) :
    (s.workPut a v).workByte j = if j = a then v else s.workByte j := by
  have hc : s.sets.rack.count % 2 < 2 := Nat.mod_lt _ (by decide)
  unfold State.workPut
  by_cases ha : a < 0x02000000
  · rw [if_pos ha]
    by_cases hj : j < 0x02000000
    · have key : ∀ m : FloorMap, a / 16777216 = j / 16777216 →
          BitVec.ofNat 8 ((m.set (a % 16777216 / 8) (wordPut (m.get (a % 16777216 / 8)) (a % 8) v)).get (j % 16777216 / 8) / 256 ^ (7 - j % 8)) =
            if j = a then v else BitVec.ofNat 8 (m.get (j % 16777216 / 8) / 256 ^ (7 - j % 8)) := by
        intro m e
        rw [FloorMap.get_set]
        by_cases r : j % 16777216 / 8 = a % 16777216 / 8
        · rw [if_pos r, wordPut_byte _ _ _ _ (Nat.mod_lt _ (by decide)) (Nat.mod_lt _ (by decide)), r]
          exact if_congr (by omega) rfl rfl
        · rw [if_neg r, if_neg (by rintro rfl; exact r rfl)]
      dsimp only
      by_cases hb : s.inBrightCopy a = true
      · rw [if_pos hb]
        simp only [State.workByte, if_pos hj]
        simp only [State.inBrightCopy, beq_iff_eq] at hb ⊢
        by_cases hb' : j / 16777216 = s.sets.rack.count % 2
        · simp only [hb', if_true]; exact key _ (hb.trans hb'.symm)
        · simp only [hb', if_false]; rw [if_neg (by rintro rfl; exact hb' hb)]
      · rw [if_neg hb]
        simp only [State.workByte, if_pos hj]
        simp only [State.inBrightCopy, beq_iff_eq] at hb ⊢
        by_cases hb' : j / 16777216 = s.sets.rack.count % 2
        · simp only [hb', if_true]; rw [if_neg (by rintro rfl; exact hb hb')]
        · simp only [hb', if_false]; exact key _ (by omega)
    · rw [if_neg (show ¬ j = a by rintro rfl; exact hj ha)]
      dsimp only
      split <;> simp only [State.workByte, if_neg hj]
  · rw [if_neg ha]
    by_cases hr : 0x13800000 ≤ a ∧ a < 0x14800000
    · rw [if_pos hr]
      by_cases hj : j < 0x02000000
      · rw [if_neg (show ¬ j = a by omega)]; simp only [State.workByte, State.inBrightCopy, if_pos hj]; rfl
      · simp only [State.workByte, if_neg hj]
        by_cases hq : 0x13800000 ≤ j ∧ j < 0x14800000
        · rw [if_pos hq, if_pos hq, Table.get_insert]
          by_cases r : (j - 0x13800000) / 32 = (a - 0x13800000) / 32
          · rw [if_pos r, BrewRec.bytes_ofBytes _ (by rw [List.length_set, BrewRec.bytes_length]),
              List.getD_set' _ _ _ _ _ (by rw [BrewRec.bytes_length]; exact Nat.mod_lt _ (by decide)), r]
            exact if_congr (by omega) rfl rfl
          · rw [if_neg r, if_neg (by rintro rfl; exact r rfl)]
        · rw [if_neg hq, if_neg hq, if_neg (by rintro rfl; exact hq hr)]
    · rw [if_neg hr]
      by_cases hj : j < 0x02000000
      · rw [if_neg (show ¬ j = a by omega)]; simp only [State.workByte, State.inBrightCopy, if_pos hj]; rfl
      · simp only [State.workByte, if_neg hj]
        by_cases hq : 0x13800000 ≤ j ∧ j < 0x14800000
        · rw [if_pos hq, if_pos hq, if_neg (by rintro rfl; exact hr hq)]
        · rw [if_neg hq, if_neg hq]; exact Table.get_set _ _ _ _ _

/-- Working memory after a write of bytes: the bytes written, and every other byte as before. -/
theorem State.workByte_workWrite (s : State) (a : Nat) (bs : Bytes) (j : Nat) :
    (s.workWrite a bs).workByte j = if a ≤ j ∧ j < a + bs.length then bs.getD (j - a) 0 else s.workByte j := by
  induction bs generalizing s a with
  | nil => simp only [State.workWrite, List.length_nil, Nat.add_zero]; rw [if_neg (by omega)]
  | cons v bs ih =>
    rw [State.workWrite, ih, State.workByte_workPut, List.length_cons]
    by_cases c1 : a + 1 ≤ j ∧ j < a + 1 + bs.length
    · rw [if_pos c1, if_pos (by omega), show j - a = (j - (a + 1)) + 1 by omega, List.getD_cons_succ]
    · rw [if_neg c1]
      by_cases c2 : j = a
      · subst c2; rw [if_pos rfl, if_pos (by omega), Nat.sub_self, List.getD_cons_zero]
      · rw [if_neg c2, if_neg (by omega)]

end Sys2Proof.Machine
end

