-- ==== Sys2Proof/Tests/States.lean ====
section
/-! SUPPORT. Small states and operands that the tests and witnesses use. -/
set_option Elab.async false
namespace Sys2Proof.Machine

/-- The head of a region form without regions for a set without a canvas (R27). -/
def emptyHead : Bytes := bytesBE 4 0x464C5247 ++ bytesBE 2 1 ++ zeros 26

/-- That form. -/
def emptyForm : Bytes := emptyHead ++ sha384 emptyHead

/-- `r` with its `sets` changed. -/
def State.setsIs (r : State) (f : Sets → Sets) : State := { r with sets := f r.sets }

/-- `r` with its `strel` changed. -/
def State.strelIs (r : State) (f : Strel → Strel) : State := { r with strel := f r.strel }

/-- `r` with its `can` changed. -/
def State.canIs (r : State) (f : Can → Can) : State := { r with can := f r.can }

/-- `r` with its `tbs` changed. -/
def State.tbsIs (r : State) (f : Timebase → Timebase) : State := { r with tbs := f r.tbs }

/-- `r` with its `cmp` changed. -/
def State.cmpIs (r : State) (f : Compositor → Compositor) : State := { r with cmp := f r.cmp }

/-- `r` with its `coding` changed. -/
def State.codingIs (r : State) (f : Coding → Coding) : State := { r with coding := f r.coding }

/-- `r` with its `tuns` changed. -/
def State.tunsIs (r : State) (f : TunArray → TunArray) : State := { r with tuns := f r.tuns }

/-- `r` with its `dsp` changed. -/
def State.dspIs (r : State) (f : Dispatcher → Dispatcher) : State := { r with dsp := f r.dsp }

/-- `r` with its `rake` changed. -/
def State.rakeIs (r : State) (f : Rake → Rake) : State := { r with rake := f r.rake }

/-- `r` with its `asm` changed. -/
def State.asmIs (r : State) (f : Assembler → Assembler) : State := { r with asm := f r.asm }

/-- `r` with its `sparge` changed. -/
def State.spargeIs (r : State) (f : Sparge → Sparge) : State := { r with sparge := f r.sparge }

/-- `r` with its `keg` changed. -/
def State.kegIs (r : State) (f : Keg → Keg) : State := { r with keg := f r.keg }

/-- `r` with its `cellar` changed. -/
def State.cellarIs (r : State) (f : Cellar → Cellar) : State := { r with cellar := f r.cellar }

/-- `r` with its `icu` changed. -/
def State.icuIs (r : State) (f : Icu → Icu) : State := { r with icu := f r.icu }

/-- `r` with its `brew` changed. -/
def State.brewIs (r : State) (f : BrewLog → BrewLog) : State := { r with brew := f r.brew }

/-- `r` with its `links` changed. -/
def State.linksIs (r : State) (f : Links → Links) : State := { r with links := f r.links }

/-- `r` with its `tap` changed. -/
def State.tapIs (r : State) (f : Taproom → Taproom) : State := { r with tap := f r.tap }

/-- `r` with its `twn` changed. -/
def State.twnIs (r : State) (f : Twin → Twin) : State := { r with twn := f r.twn }

/-- `r` with its `mem` changed. -/
def State.memIs (r : State) (f : Mem → Mem) : State := { r with mem := f r.mem }

/-- `r` with its `trust` changed. -/
def State.trustIs (r : State) (f : Trust → Trust) : State := { r with trust := f r.trust }

/-- `r` with its `cask` changed. -/
def State.caskIs (r : State) (f : Cask → Cask) : State := { r with cask := f r.cask }

/-- `r` with its `pwr` changed. -/
def State.pwrIs (r : State) (f : Power → Power) : State := { r with pwr := f r.pwr }

/-- The device at reset. -/
def r0 : State := State.reset

/-- A peer on the management port. -/
def aPeer : Peer := { addr := 1, port := 1, via := 96, own := 0 }

/-- An open session of that peer, its keys all zeros. -/
def aSession : Session :=
  { id := 7, row := 0, role := .vendor, slot := 0, peer := aPeer, lastSeq := 0, kept := none, keys := zeros 96, ks := [],
    salt := [], idleDeadline := 60 * giga, classes := 0, noticeSeq := 0, rowSelect := [], transfer := none, attNonce := none,
    attReport := [], heldW0 := [], heldUntil := [] }

/-- Its first request, authenticated. -/
def aRequest (opcode : Nat) (payload : Bytes) : StrelMsg :=
  { peer := aPeer, magic := 0x5354, version := 1, flags := 0, status := 0, length := payload.length, session := 7, seq := 1,
    payload := payload, mac := strelMac (zeros 48) (strelHeader opcode 0 0 payload.length 7 1) payload }

/-- The device with that session open. -/
def rSession : State := r0.strelIs fun x => { x with listening := true, sessions := [aSession] }

/-- The device listening for Strel. -/
def rListens : State := r0.strelIs fun x => { x with listening := true }

/-- A HELLO with the given SESSION field. -/
def aHello (session : Nat) : StrelMsg :=
  { peer := aPeer, magic := 0x5354, version := 1, flags := 0, status := 0, length := 36, session := session, seq := 0,
    payload := zeros 36, mac := [] }

/-- A provisional session of that peer. -/
def aProvisional : Provisional :=
  { id := 9, role := .viewer, slot := 0, cn := zeros 32, dn := zeros 32, peer := aPeer, deadline := 5 * giga }

/-- The device with it and a viewer key. -/
def rProvisional : State :=
  (r0.strelIs fun x => { x with listening := true, provisional := [aProvisional] }).trustIs fun x => { x with keys := [(0, zeros 48)] }

/-- A PROOF with the given payload. -/
def aProof (payload : Bytes) : StrelMsg :=
  { peer := aPeer, magic := 0x5354, version := 1, flags := 0, status := 0, length := payload.length, session := 9, seq := 1,
    payload := payload, mac := [] }

theorem proof_formed (b : Bytes) : (aProof b).formed false = true := by
  simp [aProof, StrelMsg.formed, bit]; decide

/-- The device with an operator key and a CAN nonce. -/
def rUnlocks : State :=
  (r0.canIs fun x => { x with nonce := some (zeros 32, 5 * giga) }).trustIs fun x => { x with keys := [(4, zeros 48)] }

/-- The device acquiring. -/
def rPtp : State := r0.pwrIs fun x => { x with phase := 7 }

/-- A PTP master on port 0. -/
def aMaster : Master := { port := 0, identity := 1, rank := 1, announceNs := giga, syncNs := giga, lastAnnounce := 0, since := 0 }

/-- The device with that master. -/
def rMaster : State := rPtp.tbsIs fun x => { x with master := some aMaster }

/-- The device with an object's stored value set. -/
def State.holds (r : State) (o : Obj) (row : Nat) (v : Int) : State := { r with live := Store.write r.live o row (.num v) }

/-- The device with calendar row 2 armed for line 0 of frame 0. -/
def rCal (action : Nat) : State := r0.holds Obj.tbsCalW1 2 (2 ^ 52 + action * 2 ^ 20 : Nat)

/-- The device with an object of the bright set changed. -/
def State.brightHas (r : State) (o : Obj) (row : Nat) (v : Int) : State :=
  r.setsIs fun x => { x with bright := { x.bright with objs := Store.write x.bright.objs o row (.num v) } }

/-- The device with flow 3 enabled in FRAME mode and a complete line in its staging ring. -/
def rFlow : State :=
  (((r0.brightHas Obj.cmpFlowW0 3 17).brightHas Obj.cmpFlowW1 3 (60 + 65536 : Nat)).brightHas Obj.flrRateNum 0 60).setFlow 3
    { Flow.idle with ring := [(0, { ts := 0, line := 0, received := 64, data := [] })] }

/-- A segment in waiting. -/
def aSeg : SegRec :=
  { pic := 0, s := 1, y := 2, frame := 0, x0 := 0, w := 1, booked := 0, late := false, composed := false, fallback := false, respared := false,
    count := 0, sinceFallback := 0, poisons := 0, ticket := none, tun := 0, failed := false, si := true, anom := 0 }

/-- An encode task with a ticket. -/
def aTask (ticket : Nat) (poisoned : Bool) : Task :=
  { isDecode := false, pic := 0, s := 1, y := 2, frame := 0, ticket := ticket, bank := 0, effort := 0, version := 0,
    k := 0, p := 0, sweeps := [], input := SegInput.blank, poisoned := poisoned, kegs := [], ctus := 1, startedAt := 0,
    staged := 0, sent := 0 }

/-- A commit record. -/
def aCommit : CommitRec :=
  { tun := 2, ticket := 9, slice := [], length := 0, spent := false, trims := 0, floors := 0, forms := [], traces := [], lane := none, windowEnd := 0 }

/-- The device with Tun 2 READY at the first patched step, whose operation is `q`, after `f`. -/
def rTunBy (q : Nat) (f : Tun → Tun) : State :=
  r0.tunsIs fun x => { x with tuns := [(2, f { Tun.idle with state := .ready, cur := 0x8000 })],
                              bank0 := { PatchBank.empty with steps := [q * 8192] } }

/-- The same Tun as it stands. -/
def rTun (q : Nat) : State := rTunBy q id

/-- A Tun sends the record that its task's inputs determine. -/
theorem record_sends (k : Task) (tun : Nat) :
    k.sends tun (k.record tun).spent (k.record tun).trims (k.record tun).floors = true := by
  simp [Task.sends]

/-- A record with another count of planar forms is not sent. -/
theorem sends_floors (k : Task) (h : k.isDecode = false) (tun : Nat) (spent : Bool) (trims : Nat) :
    k.sends tun spent trims ((k.record tun).floors + 1) = false := by
  simp [Task.sends, h]

/-- The device with an encode task on Tun 2. -/
def rTask : State := r0.tunsIs fun x => { x with tuns := [(2, { Tun.idle with state := .encode, task := some (aTask 9 false) })] }

/-- A picture in coding. -/
def aPicture : Picture :=
  { pic := 0, frame := 0, index := 0, n := 0, k := 0, p := 0, gdr := false, effort := 0, bank := 0, version := 0, slot := 0, refs := [], sweeps := [],
    columns := [], total := 1, committed := [], used := [], spent := [] }

/-- The device with a ready segment and a READY Tun. -/
def rReady : State :=
  (r0.dspIs fun x => { x with segs := [{ aSeg with fallback := true }], pictures := [aPicture] }).tunsIs fun x =>
    { x with tuns := [(2, { Tun.idle with state := .ready })] }

/-- An accepted segment without a digest. -/
def anAccepted : AccSeg :=
  { pic := 0, s := 1, y := 2, frame := 0, index := 0, n := 0, gdr := false, p := 0, slice := [], si := true, fb := false, kegs := [], anom := 0,
    ecc := 0, digest := [], holdUntil := none, released := false, subSent := false, canvasSent := false }

/-- What a partner in PAIRED tells. -/
def aHeart : Heart :=
  { state := 3, role := 1, frame := 0, picN := 0, bright := [], patchId := 0, effort := 0, tbs := 0, flags := 0, stills := [] }

/-- A Twin frame under the empty key. -/
def aTwin (ty : Nat) (body : Bytes) : TwinMsg :=
  let m : TwinMsg := { peer := 0, magic := 0x5457, version := 1, role := 1, state := 3, epoch := 1, seq := 1, frame := 0, line := 0,
                       reserved := 0, body := body, mac := [] }
  { m with mac := twinMac [] ty m }

/-- The device in PAIRED, in twin mode. -/
def rTwin : State := (r0.brightHas Obj.twnMode 0 1).twnIs fun x => { x with state := .paired }

/-- The device in JOINING. -/
def rJoining : State := r0.twnIs fun x => { x with state := .joining }

/-- `s` once it has accepted that frame. -/
def accepted (s : State) (ty : Nat) (body : Bytes) : State := (s.twinAccept ty (aTwin ty body)).getD r0

theorem some_getD {α : Type} {x : Option α} {d : α} (h : x.isSome = true) : x = some (x.getD d) := by
  cases x with
  | none => cases h
  | some y => rfl

/-- A SYNC for frame 0. -/
def aSync : SyncState :=
  { fj := 0, n := 0, nk := 0, fk := 0, k := 0, p := 0, effort := 0, effPend := 0, effF := 0, patchId := 0, canvasEs := 0 }

/-- A decode packet that waits. -/
def aWait : DecWait := { ext := 9, at_ := 0, marker := false, ts := 0, payload := [] }

/-- A picture of one cell in decode. -/
def aPic : DecPic :=
  { number := 0, epoch := 0, ts := 0, poc := 0, w := 32, h := 32, cropL := 0, cropT := 0, chroma := 0, depth8 := true, rgb := false, cells := [],
    planes := { y := [], cb := [], cr := [] }, motion := [], substitute := false }

/-- Its access unit, whose one item has committed or not. -/
def anAu (done : Bool) : DecAu :=
  { nals := [], bytes := 0, pic := aPic, rap := 1, recovers := none, refs := [], held := [], wpp := false,
    motion := 0, log2 := 5, badUnits := 0,
    items := [{ number := 0, units := [0], ctus := [0], tun := none, progress := 0, done := done, lost := [], zeroed := [] }] }

/-- The device with that picture in decode stream 3 and Tun 2 READY. -/
def rItem (done : Bool) : State :=
  ({ r0 with dec := [(3, { DecStream.idle with state := 2, aus := [anAu done] })] }.brightHas Obj.dspDecodeTuns 0 1).tunsIs fun x =>
    { x with tuns := [(2, { Tun.idle with state := .ready })] }

/-- An ARP request for 1.2.3.4, padded, with room for its FCS. -/
def anArp : Bytes :=
  List.replicate 6 255 ++ zeros 5 ++ [7] ++ bytesBE 2 0x0806 ++ bytesBE 2 1 ++ bytesBE 2 0x0800 ++ [6, 4] ++ bytesBE 2 1 ++ zeros 10 ++
    zeros 6 ++ [1, 2, 3, 4] ++ zeros 22

/-- Port 3 UP with the address 1.2.3.4 and punt tokens. -/
def rArp : State :=
  ((r0.setPort 3 { Port.idle with state := .up, puntTokens := giga }).holds Obj.lnkPortW2 3 0x01020304).holds Obj.lnkPortW3 3 16384

/-- A packet of stream 1. -/
def aPkt : Pkt :=
  { stream := 1, frame := 0, index := 0, es := 0, rawNs := none, launch := 0, payload := [0], ctAt := 0, gapCount := 0, gapCause := 0,
    chain := [], kegs := [] }

/-- The same in a tap's queue or window. -/
def aTapPkt : TapPkt :=
  { pkt := aPkt, charge := 0, v := 0, line := 0, ns := 0, offered := 0, doneA := false, doneB := false, slot := false, sent := false, departed := 0,
    copied := none }

/-- Tap 3's path A active on port 0 with a packet at its head. -/
def rTapOut : State :=
  ((r0.setTap 3 { Tap.idle with video := { TapQueue.empty with pkts := [aTapPkt] }, pathA := { TapPath.idle with eligible := [0] } }).setSched 0
    { PortSched.empty with active := [(4, [12])] })

/-- The same as a monitor packet that waits without tokens. -/
def rMonOut : State :=
  (r0.setTap 3 { Tap.idle with monitor := { TapQueue.empty with pkts := [{ aTapPkt with charge := 1 }] },
                               pathM := { TapPath.idle with eligible := [3] } }).setSched 0
    { PortSched.empty with active := [(4, [14])], dc := [(4 * 65536 + 14, 1)], tokens := [(3, 0)] }

/-- An IPv4 UDP frame to group 224.0.0.5, destination port 9. -/
def aUdp : Bytes :=
  zeros 12 ++ bytesBE 2 0x0800 ++ [0x45, 0] ++ bytesBE 2 28 ++ zeros 4 ++ [1, 17] ++ bytesBE 2 0xD9CC ++ zeros 4 ++ [224, 0, 0, 5] ++
    bytesBE 2 1 ++ bytesBE 2 9 ++ bytesBE 2 8 ++ zeros 2 ++ zeros 22

/-- Port 3 UP and flow row 0 for that group, on any port. -/
def rFlowRow : State :=
  (((r0.setPort 3 { Port.idle with state := .up }).brightHas Obj.lnkFlowW0 0 (1 + 127 * 2 ^ 16 + 9 * 2 ^ 24 + 2 ^ 40 : Nat)).brightHas
    Obj.lnkFlowW3 0 0xE0000005)

/-- The device with the recorder's stream on tap 3, which sends reports. -/
def rReport : State := (r0.brightHas Obj.tapW0 3 65).brightHas Obj.cmpRawW0 2 (1 + 3 * 8 : Nat)

/-- Channel 3 with a burst in flight and `n` retries left. -/
def aBurst (n : Nat) : State :=
  r0.spargeIs fun x => { x with channels := [(3, { SpargeChannel.idle with
    state := .run, retriesLeft := n, flight := some { write := false, data := [] } })] }

/-- A descriptor from the diagnostic window to itself, one byte on. -/
def diagWords : List Nat :=
  [1, 0x3F0000 + 2 ^ 49, 0, 0, 0x3F0001 + 2 ^ 49, 0, 0, 0]

/-- A fault report's 12 bytes: TIMEOUT of the Twin, class as the kind has it. -/
def aFault : Bytes := (FaultMsg.words { faultMsg 0x3C0 .timeout 0 0 with inj := false }).flatMap (bytesBE 8) |>.take 12

/-- The device in lifecycle state MANUFACTURE. -/
def rMan : State := r0.trustIs fun x => { x with lifecycle := 1 }

/-- Source 20 asserted, routed to the external target at priority 3, and unmasked there. -/
def rPolled : State :=
  (r0.holds Obj.icuSrc 20 (3 + 2 * 16 : Nat)).icuIs fun x => { x with polled := [20], external := { x.external with mask := [(0, 0)] } }

/-- The head of an image of type `ty`. -/
def imageOf (ty : Nat) : Bytes := zeros 6 ++ bytesBE 2 ty

/-- An accepted image of type `ty`. -/
def anImage (ty : Nat) : State :=
  r0.trustIs fun x => { x with accepted := some { image := imageOf ty, sec := true, role := .brewer, since := 0 } }

/-- The device with an open session of a brewer. -/
def rTop : State := r0.strelIs fun x => { x with listening := true, sessions := [{ aSession with role := .brewer }] }

/-- The serial number is a value that an unbounded UNSIGNED32 command object takes. -/
theorem serial_fits {s : State} {who : Path} {o : Obj} (ha : s.accessRefusal who o 0 true = none)
    (ht : (o.ty == .u32 && o.range.isEmpty && o.fields.isEmpty && o.reservedMask == 0 && o.access != .rg) = true)
    (hf : ([Obj.cmpRawW0, Obj.cmpRawW1, Obj.tapW0, Obj.cmpSlotW0, Obj.lnkFlowW0, Obj.flrSubW0, Obj.lnkPortW0, Obj.cwtExc, Obj.cmpFlowW0,
        Obj.cmpFlowW1, Obj.finStrW1, Obj.finStrW0].all
      fun x => o.code != x.code) = true) (he : (entryRules.all fun p => p.1 != o.code) = true) :
    s.writeRefusal who o 0 (.num (Config.serial : Nat)) = none := by
  simp only [Bool.and_eq_true, beq_iff_eq, bne_iff_ne, ne_eq, List.isEmpty_iff] at ht
  obtain ⟨⟨⟨⟨h1, h2⟩, h3⟩, h4⟩, h5⟩ := ht
  simp only [List.all_cons, List.all_nil, Bool.and_true, Bool.and_eq_true, bne_iff_ne, ne_eq] at hf
  obtain ⟨f1, f2, f3, f4, f5, f6, f7, f8, f9, f10, f11, f12⟩ := hf
  have hn : Config.serial < 2 ^ 32 := Config.serialNumber.isLt
  have b : boundsHold o 0 (.num (Config.serial : Nat)) = true := by
    simp [boundsHold, f1, f2]
  have g : fieldsAgree o Config.serial = true := by
    rw [fieldsAgree, if_neg f3, if_neg f4, if_neg f5, if_neg f6, if_neg f9, if_neg (not_or.mpr ⟨f10, f11⟩),
      if_neg f12, if_neg f7, if_neg f8]
  have e : entryHolds o Config.serial = true := by
    simp only [entryHolds, List.all_eq_true] at he ⊢
    intro p hp
    simp only [he p hp, Bool.true_or]
  have w : Ty.fits .u32 (Config.serial : Nat) = true := by
    simp only [Ty.fits, Ty.isSigned, Ty.width, Bool.false_eq_true, if_false, Bool.and_eq_true]
    exact ⟨decide_eq_true (Int.natCast_nonneg _), decide_eq_true (by exact_mod_cast hn)⟩
  have i : inRange o 0 (.num (Config.serial : Nat)) = true := by
    simp [inRange, b, g, e, h1, h2, h3]
  rw [State.writeRefusal, ha]
  simp only [formRefusal, h1, w, Ty.isNumeric, and_self, if_true, setsReserved, h4, Nat.and_zero, bne_self_eq_false, Bool.false_eq_true,
    if_false, i, Bool.true_eq_false, h5, false_and]

/-- The device with a patch switch scheduled. -/
def rSwitch : State := r0.tunsIs fun x => { x with switch := some { frame := 9, bank := PatchBank.empty, agreed := true } }

/-- The device with its CAN path open to a viewer. -/
def rPre : State := r0.canIs fun x => { x with nmt := .operational }

/-- Channel 3 with everything read and one byte in its funnel. -/
def rWrites : State :=
  r0.spargeIs fun x => { x with channels := [(3, { SpargeChannel.idle with
    state := .run, words := [1, 0, 0, 0, 1048576, 0, 0, 0], readPos := 1, funnel := [5] })] }


/-- CTU row 0 of frame 0 in composition, `lines` line boundaries after its sample line. -/
def aRow (lines : Nat) : RowWork :=
  { frame := 0, index := 0, row := 0, pinned := [], missing := [], written := 0, parity := [], lost := [], lines := lines }

/-- A gap that ends at once and leaves the raster as it is. -/
def aGap : Gap := { reads := { frame := 0, line := 0 }, fromNs := 0, untilNs := 0, next := r0.tbs.raster }

/-- The device in that gap. -/
def rGap : State := r0.tbsIs fun x => { x with gap := some aGap }

/-- The device in that gap with a rack that waits for its end. -/
def rGapRack : State := rGap.setsIs fun x => { x with rack := { x.rack with state := .scheduled, swapAtGap := true } }

/-- `s` as the gap's end leaves it: without the gap, the calendar's missed instants found. -/
def pastGap (s : State) : State :=
  let u : State := s.tbsIs fun x => { x with gap := none }
  u.calSweep aGap.place u.ctime

/-- The device at a rotation instant. -/
def rRotate : State := (r0.dspIs fun x => { x with rotateAt := some 0 }).holds Obj.dspRotateS 0 60

/-- The same with every Tun READY. -/
def rRotates : State := rRotate.tunsIs fun x => { x with tuns := (List.range 64).map fun k => (k, { Tun.idle with state := .ready }) }

/-- `s` once its rotation entry has fired and the next is armed. -/
def rotated (s : State) : State :=
  let v := s.calTicked
  State.armRotation { v with dsp := { v.dsp with rotatedAt := 0 } }

/-- A path on which the CAN service is closed is refused every write that an object's class permits. -/
theorem refused_closed {o : Obj} {row : Nat} {v : Value} (h : (o.access.writable && !rowFixed o row) = true) :
    ((r0.land 5).accessed .can).writeRefusal .can o row v = some .noSession := by
  have c : ((r0.land 5).accessed .can).roleOf .can = none := by decide +kernel
  simp only [State.writeRefusal, State.accessRefusal, if_true, h, Bool.true_eq_false, if_false, c]

end Sys2Proof.Machine
end

