-- ==== Sys2Proof/WellFormed.lean ====
section
/-! DEFINITION. Which commands are well formed: every numeric operand lies within the width of the field, or the number of
units, that the manual gives it. A running time, a device time and a byte string have no bound of their own. The meanings
answer ill-formed commands too; well-formedness says which ones the device can meet. -/
set_option Elab.async false
namespace Sys2Proof

/-- An operand beside the number it lies below. -/
abbrev Operand := Nat × Nat

/-- The session ID of a path (Table 2-7: 32 bits). -/
def Machine.Path.operand : Machine.Path → Operand
  | .strel id => (id, 2 ^ 32)
  | .can | .firmware => (0, 1)

/-- A requester of the Keg (R371): the port, of six, and the Tun, of 64, which it has on port 0 alone. -/
def requester (n : Nat) : List Operand := [(n % 8, 6), (n / 8, if n % 8 = 0 then 64 else 1)]

/-- The fields of a Strel message (Table 2-7) and of its peer's addresses: IPv4 or IPv6 (R50), a UDP port, the port it came by, and the
device's own address. -/
def Machine.StrelMsg.operands (m : Machine.StrelMsg) : List Operand :=
  [(m.peer.addr, 2 ^ 128), (m.peer.port, 65536), (m.peer.via, 97), (m.peer.own, 2 ^ 128), (m.magic, 65536), (m.version, 256), (m.flags, 256),
   (m.status, 256), (m.length, 65536), (m.session, 2 ^ 32), (m.seq, 2 ^ 32)]

/-- The fields of a twin frame's header (Table 10-2). -/
def Machine.TwinMsg.operands (m : Machine.TwinMsg) : List Operand :=
  [(m.peer, 2 ^ 48), (m.magic, 65536), (m.version, 256), (m.role, 256), (m.state, 256), (m.epoch, 2 ^ 32), (m.seq, 2 ^ 32),
   (m.frame, 2 ^ 32), (m.line, 65536), (m.reserved, 65536)]

/-- The bounded operands of a command. -/
def Instr.operands : Instr → List Operand
  | .objectWrite _ who index sub row _ => [who.operand, (index, 65536), (sub, 256), (row, 2 ^ 21)]
  | .flrFill _ who v => [who.operand, (v, 2 ^ 64)]
  | .flrRegions _ who _ => [who.operand]
  | .flrCheck _ who v => [who.operand, (v, 2 ^ 64)]
  | .flrCheckComplete _ => []
  | .setRack _ who v => [who.operand, (v, 2 ^ 64)]
  | .setRackCancel _ who v => [who.operand, (v, 2 ^ 64)]
  | .setDiscard _ who v => [who.operand, (v, 2 ^ 64)]
  | .setValidate _ who v => [who.operand, (v, 2 ^ 64)]
  | .setValidationDone _ => []
  | .rackAgreeTimeout _ => []
  | .rackSwap _ => []
  | .reseedComplete _ => []
  | .setSave _ who v => [who.operand, (v, 2 ^ 64)]
  | .setSaveDone _ _ => []
  | .setLoad _ who v => [who.operand, (v, 2 ^ 64)]
  | .setLoadDone _ => []
  | .bootRackRequest _ => []
  | .hello _ m => m.operands
  | .proof _ m => m.operands
  | .proofTimeout _ id => [(id, 2 ^ 32)]
  | .authLockExpiry _ role slot => [(role, 4), (slot, 4)]
  | .close _ m => m.operands
  | .ping _ m => m.operands
  | .read _ m => m.operands
  | .write _ m => m.operands
  | .readRows _ m => m.operands
  | .writeRows _ m => m.operands
  | .describe _ m => m.operands
  | .subscribe _ m => m.operands
  | .sessionIdleTimeout _ id => [(id, 2 ^ 32)]
  | .setSessionKill _ who v => [who.operand, (v, 2 ^ 64)]
  | .setStrelPort _ who v => [who.operand, (v, 2 ^ 64)]
  | .canUsdoTransfer _ _ index sub _ => [(index, 65536), (sub, 256)]
  | .nmtStart _ => []
  | .nmtStop _ => []
  | .nmtEnterPreOperational _ => []
  | .nmtResetCommunication _ => []
  | .nmtResetNode _ => []
  | .canHeartbeat _ => []
  | .setCanNonce _ who => [who.operand]
  | .canNonceExpiry _ => []
  | .setCanProof _ who _ => [who.operand]
  | .setCanLock _ who v => [who.operand, (v, 2 ^ 64)]
  | .canRoleTimeout _ => []
  | .tbsSource _ who v => [who.operand, (v, 2 ^ 64)]
  | .tbsTodSet _ who _ => [who.operand]
  | .ptpAnnounceRx _ port domain clock rank _ _ utcOffset => [(port, 97), (domain, 128), (clock, 2 ^ 80), (rank, 2 ^ 200), (utcOffset, 65536)]
  | .ptpSyncRx _ port domain clock seq _ _ _ _ => [(port, 97), (domain, 128), (clock, 2 ^ 80), (seq, 65536)]
  | .ptpFollowUpRx _ port domain clock seq _ => [(port, 97), (domain, 128), (clock, 2 ^ 80), (seq, 65536)]
  | .ptpDelayRespRx _ port domain clock seq _ => [(port, 97), (domain, 128), (clock, 2 ^ 80), (seq, 65536)]
  | .ptpDelayReq _ => []
  | .ppsInEdge _ => []
  | .frameInEdge _ => []
  | .referenceLost _ => []
  | .holdoverLimit _ => []
  | .todWaitExpiry _ => []
  | .timeStep _ => []
  | .rasterGapEnd _ => []
  | .tbsCalW0 _ who row v => [who.operand, (row, 2 ^ 21), (v, 2 ^ 64)]
  | .tbsCalW1 _ who row v => [who.operand, (row, 2 ^ 21), (v, 2 ^ 64)]
  | .calHeldW0Expiry _ who row => [who.operand, (row, 2 ^ 21)]
  | .gpioSet _ row => [(row, 2 ^ 21)]
  | .gpioPulse _ row => [(row, 2 ^ 21)]
  | .gpioPulseEnd _ pin => [(pin, 16)]
  | .tallySet _ row => [(row, 2 ^ 21)]
  | .calMark _ row => [(row, 2 ^ 21)]
  | .flowPacketRx _ flow _ seq ts _ => [(flow, 64), (seq, 65536), (ts, 2 ^ 32)]
  | .frameBufferCopy _ flow line => [(flow, 64), (line, 65536)]
  | .rowSamplePoint _ row _ => [(row, 1024)]
  | .rowCompositionDone _ row _ => [(row, 1024)]
  | .compositionLimit _ row late => [(row, 1024), (late.fromCx, 2048)]
  | .cmpStillDesc _ who row v => [who.operand, (row, 2 ^ 21), (v, 2 ^ 64)]
  | .cmpStillData _ who row _ => [who.operand, (row, 2 ^ 21)]
  | .segmentComposed _ seg done => [(seg, 4096), (done.y, 1024)]
  | .segmentAssign _ _ => []
  | .nextStep _ tun => [(tun, 64)]
  | .branchStep _ tun => [(tun, 64)]
  | .jumpStep _ tun => [(tun, 64)]
  | .callStep _ tun => [(tun, 64)]
  | .returnStep _ tun => [(tun, 64)]
  | .yieldStep _ tun => [(tun, 64)]
  | .loopStep _ tun => [(tun, 64)]
  | .endStep _ tun => [(tun, 64)]
  | .commit _ tun _ _ trims floors => [(tun, 64), (trims, 2049), (floors, 2049)]
  | .yieldWatchdog _ tun => [(tun, 64)]
  | .tunKegRetry _ tun => [(tun, 64)]
  | .tunPoison _ tun kind detail => [(tun, 64), (kind, 8), (detail, 65536)]
  | .tunBistDone _ tun phase => [(tun, 64), (phase, 64)]
  | .tunSelftest _ who v => [who.operand, (v, 2 ^ 64)]
  | .tunReinstate _ who v => [who.operand, (v, 2 ^ 64)]
  | .tunPatchImage _ who _ => [who.operand]
  | .tunPatchApply _ who v => [who.operand, (v, 2 ^ 64)]
  | .tunPatchRemove _ who v => [who.operand, (v, 2 ^ 64)]
  | .patchSwitch _ => []
  | .poisonReport _ tun => [(tun, 64)]
  | .segmentDeadline _ seg y => [(seg, 4096), (y, 1024)]
  | .segmentHardLimit _ seg y => [(seg, 4096), (y, 1024)]
  | .fallbackTimeout _ seg y => [(seg, 4096), (y, 1024)]
  | .tunRotate _ => []
  | .governorTick _ => []
  | .dspEffortCap _ who v => [who.operand, (v, 2 ^ 64)]
  | .effortChange _ => []
  | .effortAgreeTimeout _ => []
  | .clockGroupEnable _ group => [(group, 8)]
  | .rakNudge _ who v => [who.operand, (v, 2 ^ 64)]
  | .refreshNudge _ seg => [(seg, 4096)]
  | .nudgeAgreeTimeout _ seg => [(seg, 4096)]
  | .tasteVerdict _ tun verdict => [(tun, 64), (verdict, 7)]
  | .tasteWindowEnd _ tun decoded => [(tun, 64), (decoded, 2 ^ 32)]
  | .tasteMismatch _ tun check => [(tun, 64), (check, 7)]
  | .laneKatDone _ lane _ => [(lane, 48)]
  | .tasteCoverage _ => []
  | .segmentAssemble _ ecc => [(ecc, 3)]
  | .asmKegRetry _ => []
  | .asmDryLimit _ => []
  | .twinHoldExpiry _ frame seg y => [(frame, 2 ^ 32), (seg, 4096), (y, 1024)]
  | .heartbeatTx _ => []
  | .heartbeat _ m => m.operands
  | .twinLinkDown _ => []
  | .digests _ m => m.operands
  | .digestMissing _ frame => [(frame, 2 ^ 32)]
  | .propose _ m => m.operands
  | .proposeRepeat _ => []
  | .answer _ m => m.operands
  | .silence _ m => m.operands
  | .twinRejoin _ => []
  | .rejoin _ m => m.operands
  | .rejoinLine _ => []
  | .syncReq _ m => m.operands
  | .sync _ m => m.operands
  | .syncReqRetry _ => []
  | .syncApply _ => []
  | .pairingListenEnd _ => []
  | .twinOkInChange _ _ => []
  | .twnSilenceSet _ who => [who.operand]
  | .twnSilenceClear _ who => [who.operand]
  | .twnKey _ who seq _ => [who.operand, (seq, 2 ^ 32)]
  | .decodePacketRx _ stream _ seq pt ts _ _ => [(stream, 32), (seq, 65536), (pt, 128), (ts, 2 ^ 32)]
  | .reorderTimeout _ stream => [(stream, 32)]
  | .decodeItemAssign _ => []
  | .completionItem _ stream => [(stream, 32)]
  | .lnkPortWrite _ who row word v => [who.operand, (row, 2 ^ 21), (word, 6), (v, 2 ^ 64)]
  | .anComplete _ port partner => [(port, 97), (partner.getD 0, 128)]
  | .trainingDone _ port failed => [(port, 97), (failed.getD 0, 96)]
  | .alignLock _ port => [(port, 97)]
  | .alignTimeout _ port why => [(port, 97), (why.lane, 96)]
  | .holdExpiry _ port => [(port, 97)]
  | .portFault _ port cause lane => [(port, 97), (cause, 16), (lane, 96)]
  | .portRetry _ port => [(port, 97)]
  | .fecWindow _ port corrected received uncorrectable => [(port, 97), (corrected, 2 ^ 64), (received, 2 ^ 64), (uncorrectable, 2 ^ 64)]
  | .prbsStop _ who lane errors => [who.operand, (lane, 96), (errors, 2 ^ 64)]
  | .prbsStart _ who lane => [who.operand, (lane, 96)]
  | .prbsLoopback _ who lane => [who.operand, (lane, 96)]
  | .rxFrame _ port _ _ => [(port, 97)]
  | .puntFrame _ => []
  | .nextHopResolve _ _ => []
  | .tapOffer _ tap => [(tap, 16384)]
  | .wheelSlot _ => []
  | .wheelScan _ => []
  | .packetDepart _ port => [(port, 97)]
  | .monitorDiscard _ port => [(port, 97)]
  | .windowAge _ tap => [(tap, 16384)]
  | .rtcpNack _ _ => []
  | .senderReport _ tap => [(tap, 16384)]
  | .tapFlush _ who row v => [who.operand, (row, 2 ^ 21), (v, 2 ^ 64)]
  | .qdrScrub _ channel result => [(channel, 24), (result, 4)]
  | .ddrScrub _ channel result lane part => [(channel, 24), (result, 4), (lane, 64), (part, 4)]
  | .qdrMarginLow _ channel => [(channel, 24)]
  | .qdrImmediateRetrain _ channel => [(channel, 24)]
  | .qdrRetrainDone _ channel _ => [(channel, 24)]
  | .retrainPause _ => []
  | .retrainDone _ _ => []
  | .memRetrain _ who v => [who.operand, (v, 2 ^ 64)]
  | .selfRefreshEntry _ channel => [(channel, 8)]
  | .selfRefreshExit _ channel => [(channel, 24)]
  | .ddrRefresh _ channel bank choice => [(channel, 24), (bank, 128), (choice, 3)]
  | .dramTempRead _ channel _ => [(channel, 24)]
  | .pageClose _ channel bank => [(channel, 24), (bank, 128)]
  | .arbitration _ channel _ _ _ beat => [(channel, 24), (beat.addr, 2 ^ 40), (beat.refill.elim 0 (·.1), 2 ^ 35)]
  | .memArbPrio _ who row v => [who.operand, (row, 2 ^ 21), (v, 2 ^ 64)]
  | .memGrSelftest _ who v => [who.operand, (v, 2 ^ 64)]
  | .gristTestStart _ bank => [(bank, 32)]
  | .gristTestDone _ bank _ => [(bank, 32)]
  | .descriptorPost _ channel _ => [(channel, 32)]
  | .reqAssert _ source => [(source, 16)]
  | .burstIssue _ _ => []
  | .burstFail _ channel _ => [(channel, 32)]
  | .burstRetry _ channel => [(channel, 32)]
  | .descriptorDone _ channel => [(channel, 32)]
  | .channelResume _ channel => [(channel, 32)]
  | .channelAbort _ channel => [(channel, 32)]
  | .spgDiagDesc _ who _ => [who.operand]
  | .allocate _ port size _ cycle =>
    requester port ++ [(size, 65537), (cycle.ecc, 3)] ++ cycle.others.flatMap fun o => requester o.1 ++ [(o.2.1, 65537)]
  | .allocateSpill _ port pool ecc => requester port ++ [(pool, 5), (ecc, 3)]
  | .freeKeg _ port handle ecc => [(port, 6), (handle, 2 ^ 24), (ecc, 3)]
  | .take _ port handle ecc => [(port, 6), (handle, 2 ^ 24), (ecc, 3)]
  | .push _ line _ => [(line, 128)]
  | .pop _ line ecc => [(line, 128), (ecc, 3)]
  | .wrtFlushSet _ who line => [who.operand, (line, 128)]
  | .wrtFlushClear _ who line => [who.operand, (line, 128)]
  | .faultMessage _ _ _ => []
  | .collectorSelftest _ _ => []
  | .safeEntry _ => []
  | .cwtSafeEnter _ who v => [who.operand, (v, 2 ^ 64)]
  | .clearRealLatch _ who => [who.operand]
  | .clearInjectedLatch _ who => [who.operand]
  | .ackClass _ who cls => [who.operand, (cls, 7)]
  | .ackCollectorSelf _ who => [who.operand]
  | .injectCollect _ who _ => [who.operand]
  | .injectAct _ who _ => [who.operand]
  | .forceTunFault _ who target => [who.operand, (target, 4096)]
  | .forceLaneLoss _ who target => [who.operand, (target, 4096)]
  | .forceTasterMismatch _ who target => [who.operand, (target, 4096)]
  | .forceTwinDigest _ who => [who.operand]
  | .forceDeadlineMiss _ who => [who.operand]
  | .icuSrc _ who row v => [who.operand, (row, 2 ^ 21), (v, 2 ^ 64)]
  | .icuExtClaim _ who => [who.operand]
  | .icuExtEoi _ who v => [who.operand, (v, 2 ^ 64)]
  | .icuExtMask _ who row v => [who.operand, (row, 2 ^ 21), (v, 2 ^ 64)]
  | .icuExtStorm _ who row v => [who.operand, (row, 2 ^ 21), (v, 2 ^ 64)]
  | .stormClear _ => []
  | .externalPoll _ => []
  | .logWrite _ => []
  | .logMark _ who v => [who.operand, (v, 2 ^ 64)]
  | .logCheckpoint _ _ => []
  | .secImage _ who _ => [who.operand]
  | .imageCheckDone _ _ => []
  | .firmwarePatch _ => []
  | .keyRevoke _ => []
  | .keyReset _ => []
  | .vendorGrant _ => []
  | .vendorGrantExpiry _ slot => [(slot, 4)]
  | .identity _ => []
  | .secLifecycleAdvance _ who v => [who.operand, (v, 2 ^ 64)]
  | .secRetire _ who v => [who.operand, (v, 2 ^ 64)]
  | .secRollbackCommit _ who v => [who.operand, (v, 2 ^ 64)]
  | .secKeyInstall _ who seq _ => [who.operand, (seq, 2 ^ 32)]
  | .secKeyErase _ who v => [who.operand, (v, 2 ^ 64)]
  | .secFwPatchRemove _ who v => [who.operand, (v, 2 ^ 64)]
  | .secAttNonce _ who _ => [who.operand]
  | .secAttReport _ who offset => [who.operand, (offset, 2 ^ 24)]
  | .bottomTreeDone _ => []
  | .caskScrub _ offset result => [(offset, 2 ^ 24), (result, 4)]
  | .porstNAssert _ => []
  | .porstNRelease _ nodeId twinRole bootSel => [(nodeId, 128), (twinRole, 2), (bootSel, 4)]
  | .brownout _ rail mv => [(rail, 9), (mv, 4096)]
  | .pwrReset _ who v => [who.operand, (v, 2 ^ 64)]
  | .pwrResetDelay _ => []
  | .maltsterWatchdog _ core => [(core, 2)]
  | .sensorRead _ _ => []
  | .lifeSave _ => []
  | .avsRampStep _ _ => []
  | .avsTick _ _ _ readMv readDa => [(readMv, 4096), (readDa, 65536)]
  | .romBootDone _ _ _ => []
  | .bistPhaseDone _ _ _ _ _ => []
  | .caskLoadDone _ => []
  | .qdrTrainingDone _ _ => []
  | .ddrTrainingDone _ _ _ => []
  | .lanesDone _ => []
  | .patchAgreeTimeout _ => []
  | .lineBoundary _ => []
  | .retrainDue _ channel => [(channel, 24)]
  | .calNoneFire _ row => [(row, 2 ^ 21)]
  | .managementLinkChange _ speed => [(speed, 4)]
  | .dadTimerExpiry _ port => [(port, 97)]
  | .unsolicitedReportInterval _ => []
  | .classShaperRefill _ port => [(port, 97)]
  | .rollbackFuseBlown _ => []
  | .blankToManufacture _ => []
  | .brownoutRecovery _ rail mv => [(rail, 9), (mv, 4096)]
  | .refclkSysLoss _ => []
  | .refclkSysReturn _ => []

/-- A well-formed command. -/
def Instr.wf (i : Instr) : Bool := i.operands.all fun o => decide (o.1 < o.2)

end Sys2Proof
end

