-- ==== Sys2Proof/Tests/Slice0.lean ====
section
/-! SUPPORT. Tests: worked examples of the manual, the queue, and ill-formed commands that well-formedness refuses. -/
set_option Elab.async false
namespace Sys2Proof.Machine

set_option maxRecDepth 4000

/-! ### Worked examples -/

/-- The bowl canvas's raster (chapter 3, worked example). -/
def bowlRaster : Raster := { num := 120, den := 1, lt := 7800, nk := 0, fk := 0 }

/-- Steps 1 to 3 of that example: frame 3,841,569,792, line 4,044. -/
theorem test_canvas_time : bowlRaster.ctime 1750000000004321000 = { frame := 3841569792, line := 4044 } := by decide +kernel

/-- The line began 4,320,513 ns into the second. -/
theorem test_line_start : bowlRaster.lineStart 210000000000 4044 = 1750000000004320513 := by decide +kernel

/-- The line after it of the pulse: 16,538,462 ns into the second. -/
theorem test_pulse_line : bowlRaster.lineStart 210000000001 7680 = 1750000000016538462 := by decide +kernel

/-- The header of the READ of chapter 2's worked example. -/
theorem test_strel_header :
    strelHeader 0x10 0 0 14 7 42 = [0x53, 0x54, 1, 0x10, 0, 0, 0, 0x0E, 0, 0, 0, 7, 0, 0, 0, 0x2A] := by decide +kernel

/-- The destination of chapter 15's funnel copy: accesses of 13, 192, 3 × 256 and 27 bytes. -/
theorem test_funnel_copy :
    let d := spargeDest [1, 0, 0, 0, 0x14800033, 999, 0, 0]
    [0, 13, 205, 461, 717, 973].map d.accessLength = [13, 192, 256, 256, 256, 27] := by decide +kernel

/-- The handle of the last Kilderkin and of the Barrel (chapter 15, worked example). -/
theorem test_keg_handles : kegHandle 2 20481 = 0x405001 ∧ kegHandle 3 1337 = 0x600539 := by decide +kernel

/-- W(34), W(36) and W(45) of the bowl canvas (chapter 8, worked example). -/
theorem test_allowances :
    CanvasSet.default.allowance 34 = 1024 ∧ CanvasSet.default.allowance 36 = 1024 ∧ CanvasSet.default.allowance 45 = 2048 := by
  decide +kernel

/-- Tap 469 of the bowl canvas (chapter 13, worked example). -/
def bowlTap : CanvasSet :=
  let put := fun (st : Store) (o : Obj) (row v : Nat) => Store.write st o row (.num v)
  { CanvasSet.default with
    objs := put (put (put (put (put (put (put [] Obj.flrRateNum 0 120) Obj.flrRateDen 0 1) Obj.flrTotalLines 0 7800)
      Obj.tapLaunchLines 0 39) Obj.tapW0 469 0x01022000000C1025) Obj.tapW1 469 0x0040164000009C40) Obj.tapW3 469 1504 }

/-- Its TAP_LAT_BYTES. -/
theorem test_tap_lat_bytes : bowlTap.latBytes 469 = 34426 := by decide +kernel

/-- SHA-384 of the three bytes of abc (FIPS 180-4). -/
theorem test_sha384 :
    ofBytesBE (sha384 [0x61, 0x62, 0x63]) =
      0xcb00753f45a35e8bb5a03d699ac65007272c32ab0eded1631a8b605a43ff5bed8086072ba1e7cc2358baeca134c825a7 := by decide +kernel

/-! ### The queue -/

/-- Reset idles. -/
theorem test_reset_idles : step State.reset = .next State.reset := rfl

/-- No word spells a command. -/
theorem test_no_word : State.reset.withFetchWord 64 1 = State.reset := rfl

/-- A step runs the front command: an operator's SAFE entry is refused over a closed CAN path, and the queue's rest remains. -/
theorem test_front_command :
    (match step { r0 with pending := [.cwtSafeEnter 5 .can 1, .stormClear 6] } with
     | .next u => decide (u.pending = [.stormClear 6] ∧ u.now = 5 ∧ u.out = [.answer .can .noSession []])
     | _ => false) = true := by decide +kernel

/-- R371: the lowest free buffer of the smallest pool that holds the request. -/
theorem test_allocate :
    (match exec (.allocate 5 2 100 true ⟨0, []⟩) r0 with
     | .next u => decide (u.out = [.handle 2 (kegHandle 0 0)])
     | _ => false) = true := by decide +kernel


/-- Commands with one operand at its bound, part 1: each is refused. -/
theorem test_wf_refuses_1 :
    ([.objectWrite 0 (.strel (2 ^ 32)) 0 0 0 [],
      .objectWrite 0 .can (65536) 0 0 [],
      .objectWrite 0 .can 0 (256) 0 [],
      .objectWrite 0 .can 0 0 (2 ^ 21) [],
      .flrFill 0 (.strel (2 ^ 32)) 0,
      .flrFill 0 .can (2 ^ 64),
      .flrRegions 0 (.strel (2 ^ 32)) [],
      .flrCheck 0 (.strel (2 ^ 32)) 0,
      .flrCheck 0 .can (2 ^ 64),
      .setRack 0 (.strel (2 ^ 32)) 0,
      .setRack 0 .can (2 ^ 64),
      .setRackCancel 0 (.strel (2 ^ 32)) 0,
      .setRackCancel 0 .can (2 ^ 64),
      .setDiscard 0 (.strel (2 ^ 32)) 0,
      .setDiscard 0 .can (2 ^ 64),
      .setValidate 0 (.strel (2 ^ 32)) 0,
      .setValidate 0 .can (2 ^ 64),
      .setSave 0 (.strel (2 ^ 32)) 0,
      .setSave 0 .can (2 ^ 64),
      .setLoad 0 (.strel (2 ^ 32)) 0,
      .setLoad 0 .can (2 ^ 64),
      .hello 0 ({ peer := { addr := 2 ^ 128, port := 0, via := 0, own := 0 }, magic := 0, version := 0, flags := 0, status := 0, length := 0, session := 0, seq := 0, payload := [], mac := [] }),
      .hello 0 ({ peer := { addr := 0, port := 65536, via := 0, own := 0 }, magic := 0, version := 0, flags := 0, status := 0, length := 0, session := 0, seq := 0, payload := [], mac := [] }),
      .hello 0 ({ peer := { addr := 0, port := 0, via := 97, own := 0 }, magic := 0, version := 0, flags := 0, status := 0, length := 0, session := 0, seq := 0, payload := [], mac := [] }),
      .hello 0 ({ peer := { addr := 0, port := 0, via := 0, own := 2 ^ 128 }, magic := 0, version := 0, flags := 0, status := 0, length := 0, session := 0, seq := 0, payload := [], mac := [] }),
      .hello 0 ({ peer := { addr := 0, port := 0, via := 0, own := 0 }, magic := 65536, version := 0, flags := 0, status := 0, length := 0, session := 0, seq := 0, payload := [], mac := [] }),
      .hello 0 ({ peer := { addr := 0, port := 0, via := 0, own := 0 }, magic := 0, version := 256, flags := 0, status := 0, length := 0, session := 0, seq := 0, payload := [], mac := [] }),
      .hello 0 ({ peer := { addr := 0, port := 0, via := 0, own := 0 }, magic := 0, version := 0, flags := 256, status := 0, length := 0, session := 0, seq := 0, payload := [], mac := [] }),
      .hello 0 ({ peer := { addr := 0, port := 0, via := 0, own := 0 }, magic := 0, version := 0, flags := 0, status := 256, length := 0, session := 0, seq := 0, payload := [], mac := [] }),
      .hello 0 ({ peer := { addr := 0, port := 0, via := 0, own := 0 }, magic := 0, version := 0, flags := 0, status := 0, length := 65536, session := 0, seq := 0, payload := [], mac := [] }),
      .hello 0 ({ peer := { addr := 0, port := 0, via := 0, own := 0 }, magic := 0, version := 0, flags := 0, status := 0, length := 0, session := 2 ^ 32, seq := 0, payload := [], mac := [] }),
      .hello 0 ({ peer := { addr := 0, port := 0, via := 0, own := 0 }, magic := 0, version := 0, flags := 0, status := 0, length := 0, session := 0, seq := 2 ^ 32, payload := [], mac := [] }),
      .proof 0 ({ peer := { addr := 2 ^ 128, port := 0, via := 0, own := 0 }, magic := 0, version := 0, flags := 0, status := 0, length := 0, session := 0, seq := 0, payload := [], mac := [] }),
      .proofTimeout 0 (2 ^ 32),
      .authLockExpiry 0 (4) 0,
      .authLockExpiry 0 0 (4),
      .close 0 ({ peer := { addr := 2 ^ 128, port := 0, via := 0, own := 0 }, magic := 0, version := 0, flags := 0, status := 0, length := 0, session := 0, seq := 0, payload := [], mac := [] }),
      .ping 0 ({ peer := { addr := 2 ^ 128, port := 0, via := 0, own := 0 }, magic := 0, version := 0, flags := 0, status := 0, length := 0, session := 0, seq := 0, payload := [], mac := [] }),
      .read 0 ({ peer := { addr := 2 ^ 128, port := 0, via := 0, own := 0 }, magic := 0, version := 0, flags := 0, status := 0, length := 0, session := 0, seq := 0, payload := [], mac := [] }),
      .write 0 ({ peer := { addr := 2 ^ 128, port := 0, via := 0, own := 0 }, magic := 0, version := 0, flags := 0, status := 0, length := 0, session := 0, seq := 0, payload := [], mac := [] }),
      .readRows 0 ({ peer := { addr := 2 ^ 128, port := 0, via := 0, own := 0 }, magic := 0, version := 0, flags := 0, status := 0, length := 0, session := 0, seq := 0, payload := [], mac := [] }),
      .writeRows 0 ({ peer := { addr := 2 ^ 128, port := 0, via := 0, own := 0 }, magic := 0, version := 0, flags := 0, status := 0, length := 0, session := 0, seq := 0, payload := [], mac := [] }),
      .describe 0 ({ peer := { addr := 2 ^ 128, port := 0, via := 0, own := 0 }, magic := 0, version := 0, flags := 0, status := 0, length := 0, session := 0, seq := 0, payload := [], mac := [] }),
      .subscribe 0 ({ peer := { addr := 2 ^ 128, port := 0, via := 0, own := 0 }, magic := 0, version := 0, flags := 0, status := 0, length := 0, session := 0, seq := 0, payload := [], mac := [] }),
      .sessionIdleTimeout 0 (2 ^ 32),
      .setSessionKill 0 (.strel (2 ^ 32)) 0,
      .setSessionKill 0 .can (2 ^ 64),
      .setStrelPort 0 (.strel (2 ^ 32)) 0,
      .setStrelPort 0 .can (2 ^ 64),
      .canUsdoTransfer 0 false (65536) 0 none,
      .canUsdoTransfer 0 false 0 (256) none,
      .setCanNonce 0 (.strel (2 ^ 32)),
      .setCanProof 0 (.strel (2 ^ 32)) [],
      .setCanLock 0 (.strel (2 ^ 32)) 0,
      .setCanLock 0 .can (2 ^ 64),
      .tbsSource 0 (.strel (2 ^ 32)) 0,
      .tbsSource 0 .can (2 ^ 64),
      .tbsTodSet 0 (.strel (2 ^ 32)) [],
      .ptpAnnounceRx 0 (97) 0 0 0 0 0 0,
      .ptpAnnounceRx 0 0 (128) 0 0 0 0 0] : List Instr).all (fun i => !i.wf) = true := by decide +kernel

/-- Commands with one operand at its bound, part 2: each is refused. -/
theorem test_wf_refuses_2 :
    ([.ptpAnnounceRx 0 0 0 (2 ^ 80) 0 0 0 0,
      .ptpAnnounceRx 0 0 0 0 (2 ^ 200) 0 0 0,
      .ptpAnnounceRx 0 0 0 0 0 0 0 (65536),
      .ptpSyncRx 0 (97) 0 0 0 0 0 false [],
      .ptpSyncRx 0 0 (128) 0 0 0 0 false [],
      .ptpSyncRx 0 0 0 (2 ^ 80) 0 0 0 false [],
      .ptpSyncRx 0 0 0 0 (65536) 0 0 false [],
      .ptpFollowUpRx 0 (97) 0 0 0 0,
      .ptpFollowUpRx 0 0 (128) 0 0 0,
      .ptpFollowUpRx 0 0 0 (2 ^ 80) 0 0,
      .ptpFollowUpRx 0 0 0 0 (65536) 0,
      .ptpDelayRespRx 0 (97) 0 0 0 0,
      .ptpDelayRespRx 0 0 (128) 0 0 0,
      .ptpDelayRespRx 0 0 0 (2 ^ 80) 0 0,
      .ptpDelayRespRx 0 0 0 0 (65536) 0,
      .tbsCalW0 0 (.strel (2 ^ 32)) 0 0,
      .tbsCalW0 0 .can (2 ^ 21) 0,
      .tbsCalW0 0 .can 0 (2 ^ 64),
      .tbsCalW1 0 (.strel (2 ^ 32)) 0 0,
      .tbsCalW1 0 .can (2 ^ 21) 0,
      .tbsCalW1 0 .can 0 (2 ^ 64),
      .calHeldW0Expiry 0 (.strel (2 ^ 32)) 0,
      .calHeldW0Expiry 0 .can (2 ^ 21),
      .gpioSet 0 (2 ^ 21),
      .gpioPulse 0 (2 ^ 21),
      .gpioPulseEnd 0 (16),
      .tallySet 0 (2 ^ 21),
      .calMark 0 (2 ^ 21),
      .flowPacketRx 0 (64) false 0 0 [],
      .flowPacketRx 0 0 false (65536) 0 [],
      .flowPacketRx 0 0 false 0 (2 ^ 32) [],
      .frameBufferCopy 0 (64) 0,
      .frameBufferCopy 0 0 (65536),
      .rowSamplePoint 0 (1024) [],
      .rowCompositionDone 0 (1024) [],
      .compositionLimit 0 (1024) (⟨0, []⟩),
      .compositionLimit 0 0 ⟨2048, []⟩,
      .cmpStillDesc 0 (.strel (2 ^ 32)) 0 0,
      .cmpStillDesc 0 .can (2 ^ 21) 0,
      .cmpStillDesc 0 .can 0 (2 ^ 64),
      .cmpStillData 0 (.strel (2 ^ 32)) 0 [],
      .cmpStillData 0 .can (2 ^ 21) [],
      .segmentComposed 0 (4096) (⟨0, []⟩),
      .segmentComposed 0 0 ⟨1024, []⟩,
      .nextStep 0 (64),
      .branchStep 0 (64),
      .jumpStep 0 (64),
      .callStep 0 (64),
      .returnStep 0 (64),
      .yieldStep 0 (64),
      .loopStep 0 (64),
      .endStep 0 (64),
      .commit 0 (64) [] false 0 0,
      .commit 0 0 [] false (2049) 0,
      .commit 0 0 [] false 0 (2049),
      .yieldWatchdog 0 (64),
      .tunKegRetry 0 (64),
      .tunPoison 0 (64) 0 0,
      .tunPoison 0 0 (8) 0,
      .tunPoison 0 0 0 (65536)] : List Instr).all (fun i => !i.wf) = true := by decide +kernel

/-- Commands with one operand at its bound, part 3: each is refused. -/
theorem test_wf_refuses_3 :
    ([.tunBistDone 0 (64) 0,
      .tunBistDone 0 0 (64),
      .tunSelftest 0 (.strel (2 ^ 32)) 0,
      .tunSelftest 0 .can (2 ^ 64),
      .tunReinstate 0 (.strel (2 ^ 32)) 0,
      .tunReinstate 0 .can (2 ^ 64),
      .tunPatchImage 0 (.strel (2 ^ 32)) [],
      .tunPatchApply 0 (.strel (2 ^ 32)) 0,
      .tunPatchApply 0 .can (2 ^ 64),
      .tunPatchRemove 0 (.strel (2 ^ 32)) 0,
      .tunPatchRemove 0 .can (2 ^ 64),
      .poisonReport 0 (64),
      .segmentDeadline 0 (4096) 0,
      .segmentDeadline 0 0 (1024),
      .segmentHardLimit 0 (4096) 0,
      .segmentHardLimit 0 0 (1024),
      .fallbackTimeout 0 (4096) 0,
      .fallbackTimeout 0 0 (1024),
      .dspEffortCap 0 (.strel (2 ^ 32)) 0,
      .dspEffortCap 0 .can (2 ^ 64),
      .clockGroupEnable 0 (8),
      .rakNudge 0 (.strel (2 ^ 32)) 0,
      .rakNudge 0 .can (2 ^ 64),
      .refreshNudge 0 (4096),
      .nudgeAgreeTimeout 0 (4096),
      .tasteVerdict 0 (64) 0,
      .tasteVerdict 0 0 (7),
      .tasteWindowEnd 0 (64) 0,
      .tasteWindowEnd 0 0 (2 ^ 32),
      .tasteMismatch 0 (64) 0,
      .tasteMismatch 0 0 (7),
      .laneKatDone 0 (48) false,
      .segmentAssemble 0 (3),
      .twinHoldExpiry 0 (2 ^ 32) 0 0,
      .twinHoldExpiry 0 0 (4096) 0,
      .twinHoldExpiry 0 0 0 (1024),
      .heartbeat 0 ({ peer := 2 ^ 48, magic := 0, version := 0, role := 0, state := 0, epoch := 0, seq := 0, frame := 0, line := 0, reserved := 0, body := [], mac := [] }),
      .heartbeat 0 ({ peer := 0, magic := 65536, version := 0, role := 0, state := 0, epoch := 0, seq := 0, frame := 0, line := 0, reserved := 0, body := [], mac := [] }),
      .heartbeat 0 ({ peer := 0, magic := 0, version := 256, role := 0, state := 0, epoch := 0, seq := 0, frame := 0, line := 0, reserved := 0, body := [], mac := [] }),
      .heartbeat 0 ({ peer := 0, magic := 0, version := 0, role := 256, state := 0, epoch := 0, seq := 0, frame := 0, line := 0, reserved := 0, body := [], mac := [] }),
      .heartbeat 0 ({ peer := 0, magic := 0, version := 0, role := 0, state := 256, epoch := 0, seq := 0, frame := 0, line := 0, reserved := 0, body := [], mac := [] }),
      .heartbeat 0 ({ peer := 0, magic := 0, version := 0, role := 0, state := 0, epoch := 2 ^ 32, seq := 0, frame := 0, line := 0, reserved := 0, body := [], mac := [] }),
      .heartbeat 0 ({ peer := 0, magic := 0, version := 0, role := 0, state := 0, epoch := 0, seq := 2 ^ 32, frame := 0, line := 0, reserved := 0, body := [], mac := [] }),
      .heartbeat 0 ({ peer := 0, magic := 0, version := 0, role := 0, state := 0, epoch := 0, seq := 0, frame := 2 ^ 32, line := 0, reserved := 0, body := [], mac := [] }),
      .heartbeat 0 ({ peer := 0, magic := 0, version := 0, role := 0, state := 0, epoch := 0, seq := 0, frame := 0, line := 65536, reserved := 0, body := [], mac := [] }),
      .heartbeat 0 ({ peer := 0, magic := 0, version := 0, role := 0, state := 0, epoch := 0, seq := 0, frame := 0, line := 0, reserved := 65536, body := [], mac := [] }),
      .digests 0 ({ peer := 2 ^ 48, magic := 0, version := 0, role := 0, state := 0, epoch := 0, seq := 0, frame := 0, line := 0, reserved := 0, body := [], mac := [] }),
      .digestMissing 0 (2 ^ 32),
      .propose 0 ({ peer := 2 ^ 48, magic := 0, version := 0, role := 0, state := 0, epoch := 0, seq := 0, frame := 0, line := 0, reserved := 0, body := [], mac := [] }),
      .answer 0 ({ peer := 2 ^ 48, magic := 0, version := 0, role := 0, state := 0, epoch := 0, seq := 0, frame := 0, line := 0, reserved := 0, body := [], mac := [] }),
      .silence 0 ({ peer := 2 ^ 48, magic := 0, version := 0, role := 0, state := 0, epoch := 0, seq := 0, frame := 0, line := 0, reserved := 0, body := [], mac := [] }),
      .rejoin 0 ({ peer := 2 ^ 48, magic := 0, version := 0, role := 0, state := 0, epoch := 0, seq := 0, frame := 0, line := 0, reserved := 0, body := [], mac := [] }),
      .syncReq 0 ({ peer := 2 ^ 48, magic := 0, version := 0, role := 0, state := 0, epoch := 0, seq := 0, frame := 0, line := 0, reserved := 0, body := [], mac := [] }),
      .sync 0 ({ peer := 2 ^ 48, magic := 0, version := 0, role := 0, state := 0, epoch := 0, seq := 0, frame := 0, line := 0, reserved := 0, body := [], mac := [] }),
      .twnSilenceSet 0 (.strel (2 ^ 32)),
      .twnSilenceClear 0 (.strel (2 ^ 32)),
      .twnKey 0 (.strel (2 ^ 32)) 0 [],
      .twnKey 0 .can (2 ^ 32) [],
      .decodePacketRx 0 (32) false 0 0 0 false [],
      .decodePacketRx 0 0 false (65536) 0 0 false []] : List Instr).all (fun i => !i.wf) = true := by decide +kernel

/-- Commands with one operand at its bound, part 4: each is refused. -/
theorem test_wf_refuses_4 :
    ([.decodePacketRx 0 0 false 0 (128) 0 false [],
      .decodePacketRx 0 0 false 0 0 (2 ^ 32) false [],
      .reorderTimeout 0 (32),
      .completionItem 0 (32),
      .lnkPortWrite 0 (.strel (2 ^ 32)) 0 0 0,
      .lnkPortWrite 0 .can (2 ^ 21) 0 0,
      .lnkPortWrite 0 .can 0 (6) 0,
      .lnkPortWrite 0 .can 0 0 (2 ^ 64),
      .anComplete 0 (97) none,
      .trainingDone 0 (97) none,
      .alignLock 0 (97),
      .alignTimeout 0 (97) (⟨false, 0, false⟩),
      .alignTimeout 0 0 ⟨false, 96, false⟩,
      .holdExpiry 0 (97),
      .portFault 0 (97) 0 0,
      .portFault 0 0 (16) 0,
      .portFault 0 0 0 (96),
      .portRetry 0 (97),
      .fecWindow 0 (97) 0 0 0,
      .fecWindow 0 0 (2 ^ 64) 0 0,
      .fecWindow 0 0 0 (2 ^ 64) 0,
      .fecWindow 0 0 0 0 (2 ^ 64),
      .prbsStop 0 (.strel (2 ^ 32)) 0 0,
      .prbsStop 0 .can (96) 0,
      .prbsStop 0 .can 0 (2 ^ 64),
      .prbsStart 0 (.strel (2 ^ 32)) 0,
      .prbsStart 0 .can (96),
      .prbsLoopback 0 (.strel (2 ^ 32)) 0,
      .prbsLoopback 0 .can (96),
      .rxFrame 0 (97) false [],
      .tapOffer 0 (16384),
      .packetDepart 0 (97),
      .monitorDiscard 0 (97),
      .windowAge 0 (16384),
      .senderReport 0 (16384),
      .tapFlush 0 (.strel (2 ^ 32)) 0 0,
      .tapFlush 0 .can (2 ^ 21) 0,
      .tapFlush 0 .can 0 (2 ^ 64),
      .qdrScrub 0 (24) 0,
      .qdrScrub 0 0 (4),
      .ddrScrub 0 (24) 0 0 0,
      .ddrScrub 0 0 (4) 0 0,
      .ddrScrub 0 0 0 (64) 0,
      .ddrScrub 0 0 0 0 (4),
      .qdrMarginLow 0 (24),
      .qdrImmediateRetrain 0 (24),
      .qdrRetrainDone 0 (24) false,
      .memRetrain 0 (.strel (2 ^ 32)) 0,
      .memRetrain 0 .can (2 ^ 64),
      .selfRefreshEntry 0 (8),
      .selfRefreshExit 0 (24),
      .ddrRefresh 0 (24) 0 0,
      .ddrRefresh 0 0 (128) 0,
      .ddrRefresh 0 0 0 (3),
      .dramTempRead 0 (24) false,
      .pageClose 0 (24) 0,
      .pageClose 0 0 (128),
      .arbitration 0 (24) [] false false (⟨0, false, [], none, 0⟩),
      .arbitration 0 0 [] false false ⟨2 ^ 40, false, [], none, 0⟩,
      .memArbPrio 0 (.strel (2 ^ 32)) 0 0] : List Instr).all (fun i => !i.wf) = true := by decide +kernel

/-- Commands with one operand at its bound, part 5: each is refused. -/
theorem test_wf_refuses_5 :
    ([.memArbPrio 0 .can (2 ^ 21) 0,
      .memArbPrio 0 .can 0 (2 ^ 64),
      .memGrSelftest 0 (.strel (2 ^ 32)) 0,
      .memGrSelftest 0 .can (2 ^ 64),
      .gristTestStart 0 (32),
      .gristTestDone 0 (32) false,
      .descriptorPost 0 (32) [],
      .reqAssert 0 (16),
      .burstFail 0 (32) false,
      .burstRetry 0 (32),
      .descriptorDone 0 (32),
      .channelResume 0 (32),
      .channelAbort 0 (32),
      .spgDiagDesc 0 (.strel (2 ^ 32)) [],
      .allocateSpill 0 0 (5) 0,
      .allocateSpill 0 0 0 (3),
      .freeKeg 0 (6) 0 0,
      .freeKeg 0 0 (2 ^ 24) 0,
      .freeKeg 0 0 0 (3),
      .take 0 (6) 0 0,
      .take 0 0 (2 ^ 24) 0,
      .take 0 0 0 (3),
      .push 0 (128) [],
      .pop 0 (128) 0,
      .pop 0 0 (3),
      .wrtFlushSet 0 (.strel (2 ^ 32)) 0,
      .wrtFlushSet 0 .can (128),
      .wrtFlushClear 0 (.strel (2 ^ 32)) 0,
      .wrtFlushClear 0 .can (128),
      .cwtSafeEnter 0 (.strel (2 ^ 32)) 0,
      .cwtSafeEnter 0 .can (2 ^ 64),
      .clearRealLatch 0 (.strel (2 ^ 32)),
      .clearInjectedLatch 0 (.strel (2 ^ 32)),
      .ackClass 0 (.strel (2 ^ 32)) 0,
      .ackClass 0 .can (7),
      .ackCollectorSelf 0 (.strel (2 ^ 32)),
      .injectCollect 0 (.strel (2 ^ 32)) [],
      .injectAct 0 (.strel (2 ^ 32)) [],
      .forceTunFault 0 (.strel (2 ^ 32)) 0,
      .forceTunFault 0 .can (4096),
      .forceLaneLoss 0 (.strel (2 ^ 32)) 0,
      .forceLaneLoss 0 .can (4096),
      .forceTasterMismatch 0 (.strel (2 ^ 32)) 0,
      .forceTasterMismatch 0 .can (4096),
      .forceTwinDigest 0 (.strel (2 ^ 32)),
      .forceDeadlineMiss 0 (.strel (2 ^ 32)),
      .icuSrc 0 (.strel (2 ^ 32)) 0 0,
      .icuSrc 0 .can (2 ^ 21) 0,
      .icuSrc 0 .can 0 (2 ^ 64),
      .icuExtClaim 0 (.strel (2 ^ 32)),
      .icuExtEoi 0 (.strel (2 ^ 32)) 0,
      .icuExtEoi 0 .can (2 ^ 64),
      .icuExtMask 0 (.strel (2 ^ 32)) 0 0,
      .icuExtMask 0 .can (2 ^ 21) 0,
      .icuExtMask 0 .can 0 (2 ^ 64),
      .icuExtStorm 0 (.strel (2 ^ 32)) 0 0,
      .icuExtStorm 0 .can (2 ^ 21) 0,
      .icuExtStorm 0 .can 0 (2 ^ 64),
      .logMark 0 (.strel (2 ^ 32)) 0,
      .logMark 0 .can (2 ^ 64)] : List Instr).all (fun i => !i.wf) = true := by decide +kernel

/-- Commands with one operand at its bound, part 6: each is refused. -/
theorem test_wf_refuses_6 :
    ([.secImage 0 (.strel (2 ^ 32)) [],
      .vendorGrantExpiry 0 (4),
      .secLifecycleAdvance 0 (.strel (2 ^ 32)) 0,
      .secLifecycleAdvance 0 .can (2 ^ 64),
      .secRetire 0 (.strel (2 ^ 32)) 0,
      .secRetire 0 .can (2 ^ 64),
      .secRollbackCommit 0 (.strel (2 ^ 32)) 0,
      .secRollbackCommit 0 .can (2 ^ 64),
      .secKeyInstall 0 (.strel (2 ^ 32)) 0 [],
      .secKeyInstall 0 .can (2 ^ 32) [],
      .secKeyErase 0 (.strel (2 ^ 32)) 0,
      .secKeyErase 0 .can (2 ^ 64),
      .secFwPatchRemove 0 (.strel (2 ^ 32)) 0,
      .secFwPatchRemove 0 .can (2 ^ 64),
      .secAttNonce 0 (.strel (2 ^ 32)) [],
      .secAttReport 0 (.strel (2 ^ 32)) 0,
      .secAttReport 0 .can (2 ^ 24),
      .caskScrub 0 (2 ^ 24) 0,
      .caskScrub 0 0 (4),
      .porstNRelease 0 (128) 0 0,
      .porstNRelease 0 0 (2) 0,
      .porstNRelease 0 0 0 (4),
      .brownout 0 (9) 0,
      .brownout 0 0 (4096),
      .pwrReset 0 (.strel (2 ^ 32)) 0,
      .pwrReset 0 .can (2 ^ 64),
      .maltsterWatchdog 0 (2),
      .avsTick 0 0 false (4096) 0,
      .avsTick 0 0 false 0 (65536),
      .retrainDue 0 (24),
      .calNoneFire 0 (2 ^ 21),
      .managementLinkChange 0 (4),
      .dadTimerExpiry 0 (97),
      .classShaperRefill 0 (97),
      .brownoutRecovery 0 (9) 0,
      .brownoutRecovery 0 0 (4096),
      .anComplete 0 0 (some 128),
      .trainingDone 0 0 (some 96),
      .arbitration 0 0 [] false false ⟨0, false, [], some (2 ^ 35, false), 0⟩,
      .allocate 0 6 0 false ⟨0, []⟩,
      .allocate 0 512 0 false ⟨0, []⟩,
      .allocate 0 9 0 false ⟨0, []⟩,
      .allocate 0 0 0 false ⟨0, [(6, 0, false)]⟩,
      .allocate 0 0 0 false ⟨0, [(0, 65537, false)]⟩,
      .allocateSpill 0 6 0 0,
      .allocateSpill 0 512 0 0] : List Instr).all (fun i => !i.wf) = true := by decide +kernel

end Sys2Proof.Machine
end

