-- ==== Sys2Proof/Tests/Witnesses1.lean ====
section
/-! SUPPORT. For every statement with hypotheses, states and operands that meet the hypotheses of each of its clauses together
(part 1 of 4). -/
set_option Elab.async false
namespace Sys2Proof.Machine

set_option maxRecDepth 4000
set_option linter.unusedVariables false
set_option linter.unreachableTactic false
set_option linter.unusedTactic false

/-- The hypotheses of FloorMapCommandsTakeEffect are met. -/
theorem witness_floorMapCommandsTakeEffect :
  (∃ (t : Nat) (who : Path) (v : Nat) (r : State) (s : State), (s = (r.land t).accessed who) ∧ (s.writeRefusal who Obj.flrFill 0 (.num v) = none) ∧ (s.greenLocked = false)) ∧
  (∃ (t : Nat) (who : Path) (form : Bytes) (regions : List Region) (r : State) (s : State), (s = (r.land t).accessed who) ∧ (s.writeRefusal who Obj.flrRegions 0 (.bytes form) = none) ∧ (s.greenLocked = false) ∧ (regionStatus s.sets.green.width s.sets.green.height form = (0, regions))) ∧
  (∃ (t : Nat) (who : Path) (v : Nat) (r : State) (s : State), (s = (r.land t).accessed who) ∧ (s.writeRefusal who Obj.flrCheck 0 (.num v) = none)) ∧
  (∃ (t : Nat) (run : CheckRun) (r : State) (s : State), (s = r.land t) ∧ (s.sets.check = some run) ∧ (run.stale = true)) ∧
  (∃ (t : Nat) (run : CheckRun) (r : State) (s : State), (s = r.land t) ∧ (s.sets.check = some run) ∧ (run.stale = false)) ∧
  (∃ (t : Nat) (who : Path) (v : Nat) (r : State) (s : State), (s = (r.land t).accessed who) ∧ (s.writeRefusal who Obj.setDiscard 0 (.num v) = none) ∧ (s.greenLocked = false)) := by
  refine ⟨?_, ?_, ?_, ?_, ?_, ?_⟩
  · refine ⟨5, .firmware, 7, State.reset, _, rfl, ?_⟩
    refine ⟨?_, ?_⟩ <;> first | decide +kernel | rfl
  · refine ⟨5, .firmware, emptyForm, [], State.reset, _, rfl, ?_⟩
    refine ⟨?_, ?_, ?_⟩ <;> first | decide +kernel | rfl
  · refine ⟨5, .firmware, 1, State.reset, _, rfl, ?_⟩
    decide +kernel
  · refine ⟨5, ⟨State.reset.sets.bright, false, true⟩, r0.setsIs fun x => { x with check := some ⟨State.reset.sets.bright, false, true⟩ }, _, rfl, ?_⟩
    refine ⟨?_, ?_⟩ <;> first | decide +kernel | rfl
  · refine ⟨5, ⟨State.reset.sets.bright, false, false⟩, r0.setsIs fun x => { x with check := some ⟨State.reset.sets.bright, false, false⟩ }, _, rfl, ?_⟩
    refine ⟨?_, ?_⟩ <;> first | decide +kernel | rfl
  · refine ⟨5, .firmware, 1, State.reset, _, rfl, ?_⟩
    refine ⟨?_, ?_⟩ <;> first | decide +kernel | rfl

/-- The hypotheses of RackCommandsTakeEffect are met. -/
theorem witness_rackCommandsTakeEffect :
  (∃ (t : Nat) (who : Path) (v : Nat) (r : State) (s : State), (s = (r.land t).accessed who) ∧ (s.writeRefusal who Obj.setRack 0 (.num v) = none) ∧ (s.trust.lifecycle ≠ 3) ∧ (s.sets.rack.state = .idle) ∧ (s.cellar.safe = false)) ∧
  (∃ (t : Nat) (who : Path) (v : Nat) (r : State) (s : State), (s = (r.land t).accessed who) ∧ (s.writeRefusal who Obj.setRackCancel 0 (.num v) = none) ∧ (s.rackTwin = false) ∧ (s.sets.rack.state = .validating ∨ s.sets.rack.state = .scheduled)) ∧
  (∃ (t : Nat) (who : Path) (v : Nat) (r : State) (s : State), (s = (r.land t).accessed who) ∧ (s.writeRefusal who Obj.setValidate 0 (.num v) = none)) ∧
  (∃ (t : Nat) (run : CheckRun) (r : State) (s : State), (s = r.land t) ∧ (s.sets.validation = some run) ∧ (s.sets.rack.state ≠ .validating) ∧ (run.stale = true)) ∧
  (∃ (t : Nat) (run : CheckRun) (x : Nat × Nat × Option Nat) (r : State) (s : State), (s = r.land t) ∧ (s.sets.validation = some run) ∧ (s.sets.rack.state ≠ .validating) ∧ (run.stale = false) ∧ (State.validate { s with sets := { s.sets with validation := none } } run = (0, 0, 0, some x))) ∧
  (∃ (t : Nat) (r : State) (s : State), (s = r.land t) ∧ (s.sets.rack.state = .agreeing) ∧ (s.agreeClosed s.sets.rack.frame = true)) ∧
  (∃ (t : Nat) (r : State) (s : State), (s = r.land t) ∧ (s.sets.rack.state = .scheduled) ∧ (s.calTurn s.rackEntry = true)) ∧
  (∃ (t : Nat) (r : State) (s : State), (s = r.land t) ∧ (s.sets.rack.state = .reseeding) ∧ (s.sets.rack.copying = true)) ∧
  (∃ (t : Nat) (r : State) (s : State), (s = r.land t) ∧ (s.sets.bootRackDue = true) ∧ (s.tbs.canvasLock = true) ∧ (s.twn.listenUntil = none) ∧ (s.twn.state ≠ .joining) ∧ (s.sets.rack.state = .idle) ∧ (s.cellar.safe = false)) := by
  refine ⟨?_, ?_, ?_, ?_, ?_, ?_, ?_, ?_, ?_⟩
  · refine ⟨5, .firmware, 9, State.reset, _, rfl, ?_⟩
    refine ⟨?_, ?_, ?_, ?_⟩ <;> first | decide +kernel | rfl
  · refine ⟨5, .firmware, 1, r0.setsIs fun x => { x with rack := { x.rack with state := .scheduled } }, _, rfl, ?_⟩
    refine ⟨?_, ?_, ?_⟩ <;> first | decide +kernel | rfl
  · refine ⟨5, .firmware, 1, State.reset, _, rfl, ?_⟩
    decide +kernel
  · refine ⟨5, ⟨State.reset.sets.bright, false, true⟩, r0.setsIs fun x => { x with validation := some ⟨State.reset.sets.bright, false, true⟩ }, _, rfl, ?_⟩
    refine ⟨?_, ?_, ?_⟩ <;> first | decide +kernel | rfl
  · refine ⟨5, ⟨State.reset.sets.bright, false, false⟩, (0, 0, some 0), r0.setsIs fun x => { x with validation := some ⟨State.reset.sets.bright, false, false⟩ }, _, rfl, ?_⟩
    refine ⟨?_, ?_, ?_, ?_⟩ <;> first | decide +kernel | rfl
  · refine ⟨5, r0.setsIs fun x => { x with rack := { x.rack with state := .agreeing } }, _, rfl, ?_⟩
    refine ⟨?_, ?_⟩ <;> first | decide +kernel | rfl
  · refine ⟨5, r0.setsIs fun x => { x with rack := { x.rack with state := .scheduled } }, _, rfl, ?_⟩
    refine ⟨?_, ?_⟩ <;> first | decide +kernel | rfl
  · refine ⟨5, r0.setsIs fun x => { x with rack := { x.rack with state := .reseeding, copying := true } }, _, rfl, ?_⟩
    refine ⟨?_, ?_⟩ <;> first | decide +kernel | rfl
  · refine ⟨5, (r0.setsIs fun x => { x with bootRackDue := true }).tbsIs fun x => { x with canvasLock := true }, _, rfl, ?_⟩
    refine ⟨?_, ?_, ?_, ?_, ?_, ?_⟩ <;> first | decide +kernel | rfl

/-- The hypotheses of SlotAndBoundaryCommandsTakeEffect are met. -/
theorem witness_slotAndBoundaryCommandsTakeEffect :
  (∃ (t : Nat) (who : Path) (v : Nat) (r : State) (s : State), (s = (r.land t).accessed who) ∧ (s.writeRefusal who Obj.setSave 0 (.num v) = none) ∧ (s.slotBusy = false)) ∧
  (∃ (t : Nat) (written : Bool) (k : Nat) (c : CanvasSet) (r : State) (s : State), (s = r.land t) ∧ (written = true) ∧ (s.sets.saving = some (k, c)) ∧ (c.regionBytes ≤ State.persistLimit ({ s with sets := { s.sets with saving := none } }.put Obj.setSaveStatus 0 2))) ∧
  (∃ (t : Nat) (who : Path) (v : Nat) (r : State) (s : State), (s = (r.land t).accessed who) ∧ (s.writeRefusal who Obj.setLoad 0 (.num v) = none) ∧ (s.greenLocked = false) ∧ (s.slotBusy = false) ∧ ((s.setSlot v).state ≠ 0) ∧ ((s.setSlot v).state ≠ 3)) ∧
  (∃ (t : Nat) (k : Nat) (r : State) (s : State), (s = r.land t) ∧ (s.sets.loading = some k) ∧ (s.greenLocked = false) ∧ ((s.setSlot k).state ≠ 0) ∧ ((s.setSlot k).state ≠ 3)) ∧
  (∃ (t : Nat) (r : State) (s : State), (s = r.land t) ∧ (s.inGap = false)) := by
  refine ⟨?_, ?_, ?_, ?_, ?_⟩
  · refine ⟨5, .firmware, 1, r0, _, rfl, ?_⟩
    refine ⟨?_, ?_⟩ <;> first | decide +kernel | rfl
  · refine ⟨5, true, 0, State.reset.sets.bright, r0.setsIs fun x => { x with saving := some (0, x.bright) }, _, rfl, ?_⟩
    refine ⟨?_, ?_, ?_⟩ <;> first | decide +kernel | rfl
  · refine ⟨5, .firmware, 1, r0.setsIs fun x => { x with slotB := { x.slotB with state := 1 } }, _, rfl, ?_⟩
    refine ⟨?_, ?_, ?_, ?_, ?_⟩ <;> first | decide +kernel | rfl
  · refine ⟨5, 1, r0.setsIs fun x => { x with loading := some 1, slotB := { x.slotB with state := 1 } }, _, rfl, ?_⟩
    refine ⟨?_, ?_, ?_, ?_⟩ <;> first | decide +kernel | rfl
  · refine ⟨5, r0, _, rfl, ?_⟩
    decide +kernel

/-- The hypotheses of SessionCommandsTakeEffect are met. -/
theorem witness_sessionCommandsTakeEffect :
  (∃ (t : Nat) (m : StrelMsg) (r : State) (s : State), (s = r.land t) ∧ (s.hears m.peer = true) ∧ (m.formed false = true) ∧ (s.helloRefusal m = none)) ∧
  (∃ (t : Nat) (m : StrelMsg) (st : Status) (r : State) (s : State), (s = r.land t) ∧ (s.hears m.peer = true) ∧ (m.formed false = true) ∧ (s.helloRefusal m = some st)) ∧
  (∃ (t : Nat) (m : StrelMsg) (p : Provisional) (k : Bytes) (r : State) (s : State), (s = r.land t) ∧ (s.hears m.peer = true) ∧ (m.formed false = true) ∧ (s.tooLong m = false) ∧ (s.strel.provisional.find? (fun p => p.id == m.session && decide (s.now ≤ p.deadline)) = some p) ∧ (p.peer.same m.peer = true) ∧ ((s.forget p.id).accessKey p.role.code p.slot = some k) ∧ (m.payload = p.proof k) ∧ (s.strel.sessions.length < 16)) ∧
  (∃ (t : Nat) (m : StrelMsg) (p : Provisional) (k : Bytes) (r : State) (s : State), (s = r.land t) ∧ (s.hears m.peer = true) ∧ (m.formed false = true) ∧ (s.tooLong m = false) ∧ (s.strel.provisional.find? (fun p => p.id == m.session && decide (s.now ≤ p.deadline)) = some p) ∧ (p.peer.same m.peer = true) ∧ ((s.forget p.id).accessKey p.role.code p.slot = some k) ∧ (m.payload ≠ p.proof k)) ∧
  (∃ (t : Nat) (id : Nat) (r : State) (s : State), (s = r.land t) ∧ (s.strel.provisional.any (fun p => p.id == id && decide (p.deadline ≤ s.now)) = true)) ∧
  (∃ (t : Nat) (role : Nat) (slot : Nat) (u : Nat) (r : State) (s : State), (s = r.land t) ∧ ((s.authSlot role slot).lockedUntil = some u) ∧ (u ≤ s.now)) ∧
  (∃ (t : Nat) (id : Nat) (z : Session) (r : State) (s : State), (s = r.land t) ∧ (s.session id = some z) ∧ (z.idleDeadline ≤ s.now)) ∧
  (∃ (t : Nat) (who : Path) (v : Nat) (r : State) (s : State), (s = (r.land t).accessed who) ∧ (s.writeRefusal who Obj.setSessionKill 0 (.num v) = none) ∧ ((s.session v).isNone = false)) ∧
  (∃ (t : Nat) (who : Path) (v : Nat) (r : State) (s : State), (s = (r.land t).accessed who) ∧ (s.writeRefusal who Obj.setStrelPort 0 (.num v) = none)) := by
  refine ⟨?_, ?_, ?_, ?_, ?_, ?_, ?_, ?_, ?_⟩
  · refine ⟨5, aHello 0, rListens, _, rfl, ?_⟩
    refine ⟨?_, ?_, ?_⟩ <;> first | decide +kernel | rfl
  · refine ⟨5, aHello 1, .badFormat, rListens, _, rfl, ?_⟩
    refine ⟨?_, ?_, ?_⟩ <;> first | decide +kernel | rfl
  · refine ⟨5, aProof (aProvisional.proof (zeros 48)), aProvisional, zeros 48, rProvisional, _, rfl, ?_⟩
    refine ⟨?_, proof_formed _, ?_, ?_, ?_, ?_, ?_, ?_⟩ <;> first | decide +kernel | rfl
  · refine ⟨5, aProof [], aProvisional, zeros 48, rProvisional, _, rfl, ?_⟩
    refine ⟨?_, proof_formed _, ?_, ?_, ?_, ?_, ?_⟩ <;> first | decide +kernel | rfl
  · refine ⟨6 * giga, 9, rProvisional, _, rfl, ?_⟩
    decide +kernel
  · refine ⟨5, 0, 0, 3, r0.strelIs fun x => { x with auth := [(0, { fails := [], lockedUntil := some 3 })] }, _, rfl, ?_⟩
    refine ⟨?_, ?_⟩ <;> first | decide +kernel | rfl
  · refine ⟨61 * giga, 7, aSession, rSession, _, rfl, ?_⟩
    refine ⟨?_, ?_⟩ <;> first | decide +kernel | rfl
  · refine ⟨5, .firmware, 7, rSession, _, rfl, ?_⟩
    refine ⟨?_, ?_⟩ <;> first | decide +kernel | rfl
  · refine ⟨5, .firmware, 5000, r0, _, rfl, ?_⟩
    decide +kernel

/-- The hypotheses of StrelRequestsTakeEffect are met. -/
theorem witness_strelRequestsTakeEffect :
  (∃ (t : Nat) (m : StrelMsg) (z : Session) (r : State) (s : State), (s = r.land t) ∧ (s.takes 0x06 m z) ∧ (m.payload = [])) ∧
  (∃ (t : Nat) (m : StrelMsg) (z : Session) (r : State) (s : State), (s = r.land t) ∧ (s.takes 0x05 m z) ∧ (m.payload = [])) ∧
  (∃ (t : Nat) (m : StrelMsg) (z : Session) (r : State) (s : State), (s = r.land t) ∧ (s.takes 0x10 m z)) ∧
  (∃ (t : Nat) (m : StrelMsg) (z : Session) (r : State) (s : State), (s = r.land t) ∧ (s.takes 0x11 m z)) ∧
  (∃ (t : Nat) (m : StrelMsg) (z : Session) (r : State) (s : State), (s = r.land t) ∧ (s.takes 0x12 m z)) ∧
  (∃ (t : Nat) (m : StrelMsg) (z : Session) (r : State) (s : State), (s = r.land t) ∧ (s.takes 0x13 m z)) ∧
  (∃ (t : Nat) (m : StrelMsg) (z : Session) (r : State) (s : State), (s = r.land t) ∧ (s.takes 0x14 m z)) ∧
  (∃ (t : Nat) (m : StrelMsg) (z : Session) (r : State) (s : State), (s = r.land t) ∧ (s.takes 0x20 m z) ∧ (m.payload.length = 4) ∧ (bits (fieldBE m.payload 0 4) 31 3 = 0)) := by
  refine ⟨?_, ?_, ?_, ?_, ?_, ?_, ?_, ?_⟩
  · refine ⟨5, aRequest 0x06 [], aSession, rSession, _, rfl, ?_⟩
    have k : State.takes (State.land 5 rSession) 0x06 (aRequest 0x06 []) aSession := by refine ⟨?_, ?_, ?_, ?_, ?_, ?_, ?_, ?_, ?_⟩ <;> first | decide +kernel | rfl
    exact ⟨k, rfl⟩
  · refine ⟨5, aRequest 0x05 [], aSession, rSession, _, rfl, ?_⟩
    have k : State.takes (State.land 5 rSession) 0x05 (aRequest 0x05 []) aSession := by refine ⟨?_, ?_, ?_, ?_, ?_, ?_, ?_, ?_, ?_⟩ <;> first | decide +kernel | rfl
    exact ⟨k, rfl⟩
  · refine ⟨5, aRequest 0x10 [], aSession, rSession, _, rfl, ?_⟩
    have k : State.takes (State.land 5 rSession) 0x10 (aRequest 0x10 []) aSession := by refine ⟨?_, ?_, ?_, ?_, ?_, ?_, ?_, ?_, ?_⟩ <;> first | decide +kernel | rfl
    exact k
  · refine ⟨5, aRequest 0x11 [], aSession, rSession, _, rfl, ?_⟩
    have k : State.takes (State.land 5 rSession) 0x11 (aRequest 0x11 []) aSession := by refine ⟨?_, ?_, ?_, ?_, ?_, ?_, ?_, ?_, ?_⟩ <;> first | decide +kernel | rfl
    exact k
  · refine ⟨5, aRequest 0x12 [], aSession, rSession, _, rfl, ?_⟩
    have k : State.takes (State.land 5 rSession) 0x12 (aRequest 0x12 []) aSession := by refine ⟨?_, ?_, ?_, ?_, ?_, ?_, ?_, ?_, ?_⟩ <;> first | decide +kernel | rfl
    exact k
  · refine ⟨5, aRequest 0x13 [], aSession, rSession, _, rfl, ?_⟩
    have k : State.takes (State.land 5 rSession) 0x13 (aRequest 0x13 []) aSession := by refine ⟨?_, ?_, ?_, ?_, ?_, ?_, ?_, ?_, ?_⟩ <;> first | decide +kernel | rfl
    exact k
  · refine ⟨5, aRequest 0x14 [], aSession, rSession, _, rfl, ?_⟩
    have k : State.takes (State.land 5 rSession) 0x14 (aRequest 0x14 []) aSession := by refine ⟨?_, ?_, ?_, ?_, ?_, ?_, ?_, ?_, ?_⟩ <;> first | decide +kernel | rfl
    exact k
  · refine ⟨5, aRequest 0x20 (zeros 4), aSession, rSession, _, rfl, ?_⟩
    have k : State.takes (State.land 5 rSession) 0x20 (aRequest 0x20 (zeros 4)) aSession := by refine ⟨?_, ?_, ?_, ?_, ?_, ?_, ?_, ?_, ?_⟩ <;> first | decide +kernel | rfl
    exact ⟨k, by decide +kernel⟩

/-- The hypotheses of ObjectWriteStagesLiveValue are met. -/
theorem witness_objectWriteStagesLiveValue :
  (∃ (t : Nat) (who : Path) (index : Nat) (sub : Nat) (row : Nat) (data : Bytes) (o : Obj) (r : State) (s : State), (s = (r.land t).accessed who) ∧ (lookupObj index sub = .ok o) ∧ (s.writeRefusal who o row (o.valueOf data) = none) ∧ (o.access = .rw) ∧ (o.isRowSelect = false) ∧ (s.ruleRange o row (o.valueOf data).toNat = true) ∧ (writers.find? (fun p => p.1 == o.code) = none) ∧ (o.atReset = false)) ∧
  (∃ (t : Nat) (who : Path) (index : Nat) (sub : Nat) (row : Nat) (data : Bytes) (st : Status) (r : State) (s : State), (s = (r.land t).accessed who) ∧ (lookupObj index sub = .error st)) ∧
  (∃ (t : Nat) (index : Nat) (sub : Nat) (d : Bytes) (o : Obj) (r : State) (s : State), (s = (r.land t).accessed .can) ∧ (r.can.serves = true) ∧ (r.pwr.held = false) ∧ (lookupObj index sub = .ok o)) ∧
  (∃ (t : Nat) (index : Nat) (sub : Nat) (o : Obj) (r : State) (s : State), (s = (r.land t).accessed .can) ∧ (r.can.serves = true) ∧ (r.pwr.held = false) ∧ (lookupObj index sub = .ok o)) := by
  refine ⟨?_, ?_, ?_, ?_⟩
  · refine ⟨5, .firmware, 8192, 7, 0, [5], Obj.setRackLead, r0, _, rfl, ?_⟩
    refine ⟨?_, ?_, ?_, ?_, ?_, ?_, ?_⟩ <;> first | decide +kernel | rfl
  · refine ⟨5, .firmware, 0xFFFF, 0, 0, [], .noObject, r0, _, rfl, ?_⟩
    decide +kernel
  · refine ⟨5, 0x3560, 6, zeros 8, Obj.logMark, r0.canIs fun x => { x with nmt := .operational }, _, rfl, ?_⟩
    refine ⟨?_, ?_, ?_⟩ <;> first | decide +kernel | rfl
  · refine ⟨5, 8192, 7, Obj.setRackLead, r0.canIs fun x => { x with nmt := .operational }, _, rfl, ?_⟩
    refine ⟨?_, ?_, ?_⟩ <;> first | decide +kernel | rfl

/-- The hypotheses of CanCommandsTakeEffect are met, part 1. -/
theorem witness_canCommandsTakeEffect_1 :
  (∃ (t : Nat) (r : State) (s : State), (s = r.land t) ∧ (s.can.nmt = .preOperational ∨ s.can.nmt = .stopped)) ∧
  (∃ (t : Nat) (r : State) (s : State), (s = r.land t) ∧ (s.can.nmt = .preOperational ∨ s.can.nmt = .operational)) ∧
  (∃ (t : Nat) (r : State) (s : State), (s = r.land t) ∧ (s.can.nmt = .operational ∨ s.can.nmt = .stopped)) ∧
  (∃ (t : Nat) (r : State) (s : State), (s = r.land t) ∧ (s.can.nmt ≠ .disabled)) ∧
  (∃ (t : Nat) (r : State) (s : State), (s = r.land t) ∧ (s.can.nmt ≠ .disabled)) ∧
  (∃ (t : Nat) (r : State) (s : State), (s = r.land t) ∧ (s.can.nmt ≠ .disabled) ∧ (s.val Obj.heartbeatTime ≠ 0) ∧ (s.can.lastHeartbeat + 1000000 * s.val Obj.heartbeatTime ≤ s.now)) ∧
  (∃ (t : Nat) (who : Path) (r : State) (s : State), (s = (r.land t).accessed who) ∧ (s.accessRefusal who Obj.setCanNonce 0 false = none)) ∧
  (∃ (t : Nat) (n : Bytes) (u : Nat) (r : State) (s : State), (s = r.land t) ∧ (s.can.nonce = some (n, u)) ∧ (u ≤ s.now)) ∧
  (∃ (t : Nat) (who : Path) (data : Bytes) (role : Role) (r : State) (s : State), (s = (r.land t).accessed who) ∧ (s.writeRefusal who Obj.setCanProof 0 (.bytes data) = none) ∧ (fieldBE data 2 2 = 0) ∧ (Role.ofCode (fieldBE data 0 1) = some role) ∧ (fieldBE data 0 1 ≤ 3) ∧ (fieldBE data 1 1 ≤ 3) ∧ (s.authLocked (fieldBE data 0 1) (fieldBE data 1 1) = false) ∧ (s.canUnlocks (fieldBE data 0 1) (fieldBE data 1 1) (slice data 4 32) (slice data 36 48) = true)) ∧
  (∃ (t : Nat) (who : Path) (v : Nat) (r : State) (s : State), (s = (r.land t).accessed who) ∧ (s.writeRefusal who Obj.setCanLock 0 (.num v) = none)) := by
  refine ⟨?_, ?_, ?_, ?_, ?_, ?_, ?_, ?_, ?_, ?_⟩
  · refine ⟨5, r0.canIs fun x => { x with nmt := .preOperational }, _, rfl, ?_⟩
    decide +kernel
  · refine ⟨5, r0.canIs fun x => { x with nmt := .preOperational }, _, rfl, ?_⟩
    decide +kernel
  · refine ⟨5, r0.canIs fun x => { x with nmt := .stopped }, _, rfl, ?_⟩
    decide +kernel
  · refine ⟨5, r0.canIs fun x => { x with nmt := .stopped }, _, rfl, ?_⟩
    decide +kernel
  · refine ⟨5, r0.canIs fun x => { x with nmt := .stopped }, _, rfl, ?_⟩
    decide +kernel
  · refine ⟨2 * giga, r0.canIs fun x => { x with nmt := .stopped }, _, rfl, ?_⟩
    refine ⟨?_, ?_, ?_⟩ <;> first | decide +kernel | rfl
  · refine ⟨5, .firmware, r0, _, rfl, ?_⟩
    decide +kernel
  · refine ⟨5, [], 3, r0.canIs fun x => { x with nonce := some ([], 3) }, _, rfl, ?_⟩
    refine ⟨?_, ?_⟩ <;> first | decide +kernel | rfl
  · refine ⟨5, .firmware, [1, 0, 0, 0] ++ zeros 32 ++ canProof (zeros 48) 0 1 0 (zeros 32) (zeros 32), .operator, rUnlocks, _, rfl, ?_⟩
    refine ⟨?_, ?_, ?_, ?_, ?_, ?_, ?_⟩ <;> first | decide +kernel | rfl
  · refine ⟨5, .firmware, 1, r0, _, rfl, ?_⟩
    decide +kernel

/-- The hypotheses of CanCommandsTakeEffect are met, part 2. -/
theorem witness_canCommandsTakeEffect_2 :
  (∃ (t : Nat) (r : State) (s : State), (s = r.land t) ∧ (s.can.lastRequest + 60 * giga ≤ s.now)) := by
  · refine ⟨61 * giga, r0, _, rfl, ?_⟩
    decide +kernel

/-- The hypotheses of TimebaseReferenceCommandsTakeEffect are met. -/
theorem witness_timebaseReferenceCommandsTakeEffect :
  (∃ (t : Nat) (who : Path) (v : Nat) (r : State) (s : State), (s = (r.land t).accessed who) ∧ (s.writeRefusal who Obj.tbsSource 0 (.num v) = none)) ∧
  (∃ (t : Nat) (who : Path) (time80 : Bytes) (r : State) (s : State), (s = (r.land t).accessed who) ∧ (s.writeRefusal who Obj.tbsTodSet 0 (.bytes time80) = none) ∧ (s.tbsSource ≠ 0) ∧ (s.tbs.canvasLock = false)) ∧
  (∃ (t : Nat) (who : Path) (time80 : Bytes) (r : State) (s : State), (s = (r.land t).accessed who) ∧ (s.writeRefusal who Obj.tbsTodSet 0 (.bytes time80) = none) ∧ (s.tbsSource ≠ 0) ∧ (s.tbs.canvasLock = true) ∧ (((ofTime80 time80 : Int) - s.deviceTime).natAbs < s.val Obj.tbsStepNs) ∧ ((ofTime80 time80 : Int) - s.deviceTime ≠ 0)) ∧
  (∃ (t : Nat) (r : State) (s : State), (s = r.land t) ∧ (s.acquires = true) ∧ (s.tbsSource = 1)) ∧
  (∃ (t : Nat) (r : State) (s : State), (s = r.land t) ∧ (s.acquires = true) ∧ (s.tbsSource = 2)) ∧
  (∃ (t : Nat) (r : State) (s : State), (s = r.land t) ∧ (s.referenceGone = true) ∧ (s.tbs.state = .locked)) ∧
  (∃ (t : Nat) (r : State) (s : State), (s = r.land t) ∧ (s.referenceGone = true) ∧ (s.tbs.state = .acquiring)) ∧
  (∃ (t : Nat) (r : State) (s : State), (s = r.land t) ∧ (s.tbs.state = .holdover) ∧ (s.val Obj.tbsHoldoverLimit ≠ 0) ∧ (s.val Obj.tbsHoldoverLimit ≤ s.holdoverSeconds)) ∧
  (∃ (t : Nat) (f : Nat) (r : State) (s : State), (s = r.land t) ∧ (s.tbs.todWaitFrom = some f) ∧ (s.val Obj.tbsTodWaitS ≠ 0) ∧ (f + giga * s.val Obj.tbsTodWaitS ≤ s.now)) := by
  refine ⟨?_, ?_, ?_, ?_, ?_, ?_, ?_, ?_, ?_⟩
  · refine ⟨5, .firmware, 1, r0, _, rfl, ?_⟩
    decide +kernel
  · refine ⟨5, .firmware, zeros 10, { r0 with live := Store.write r0.live Obj.tbsSource 0 (.num 1) }, _, rfl, ?_⟩
    refine ⟨?_, ?_, ?_⟩ <;> first | decide +kernel | rfl
  · refine ⟨5, .firmware, zeros 10, ({ r0 with live := Store.write r0.live Obj.tbsSource 0 (.num 1) } : State).tbsIs fun x => { x with canvasLock := true, base := 3 }, _, rfl, ?_⟩
    refine ⟨?_, ?_, ?_, ?_, ?_⟩ <;> first | decide +kernel | rfl
  · refine ⟨5, (({ r0 with live := Store.write r0.live Obj.tbsSource 0 (.num 1) } : State).pwrIs fun x => { x with phase := 7 }), _, rfl, ?_⟩
    refine ⟨?_, ?_⟩ <;> first | decide +kernel | rfl
  · refine ⟨5, (({ r0 with live := Store.write r0.live Obj.tbsSource 0 (.num 2) } : State).pwrIs fun x => { x with phase := 7 }), _, rfl, ?_⟩
    refine ⟨?_, ?_⟩ <;> first | decide +kernel | rfl
  · refine ⟨100 * giga, r0.tbsIs fun x => { x with state := .locked }, _, rfl, ?_⟩
    refine ⟨?_, ?_⟩ <;> first | decide +kernel | rfl
  · refine ⟨100 * giga, r0.tbsIs fun x => { x with state := .acquiring }, _, rfl, ?_⟩
    refine ⟨?_, ?_⟩ <;> first | decide +kernel | rfl
  · refine ⟨5 * giga, ({ r0 with live := Store.write r0.live Obj.tbsHoldoverLimit 0 (.num 1) } : State).tbsIs fun x => { x with state := .holdover }, _, rfl, ?_⟩
    refine ⟨?_, ?_, ?_⟩ <;> first | decide +kernel | rfl
  · refine ⟨100000 * giga, 3, ({ r0 with live := Store.write r0.live Obj.tbsTodWaitS 0 (.num 1) } : State).tbsIs fun x => { x with todWaitFrom := some 3 }, _, rfl, ?_⟩
    refine ⟨?_, ?_, ?_⟩ <;> first | decide +kernel | rfl

/-- The hypotheses of PtpCommandsTakeEffect are met. -/
theorem witness_ptpCommandsTakeEffect :
  (∃ (t : Nat) (port : Nat) (domain : Nat) (identity : Nat) (rank : Nat) (announceNs : Nat) (syncNs : Nat) (utcOffset : Nat) (r : State) (s : State), (s = r.land t) ∧ (s.ptpTakes port domain = true) ∧ (s.announceWins port identity rank = true)) ∧
  (∃ (t : Nat) (port : Nat) (domain : Nat) (identity : Nat) (seq : Nat) (stampErr : Int) (originNs : Nat) (twoStep : Bool) (tlv : Bytes) (r : State) (s : State), (s = r.land t) ∧ (twoStep = true) ∧ (tlv = []) ∧ (s.fromMaster port domain identity = true)) ∧
  (∃ (t : Nat) (port : Nat) (domain : Nat) (identity : Nat) (seq : Nat) (stampErr : Int) (originNs : Nat) (twoStep : Bool) (tlv : Bytes) (r : State) (s : State), (s = r.land t) ∧ (twoStep = false) ∧ (tlv = []) ∧ (s.fromMaster port domain identity = true)) ∧
  (∃ (t : Nat) (port : Nat) (domain : Nat) (identity : Nat) (seq : Nat) (originNs : Nat) (rx : Nat) (o : Nat) (r : State) (s : State), (s = r.land t) ∧ (s.tbs.syncWait = some (seq, rx, o)) ∧ (s.fromMaster port domain identity = true)) ∧
  (∃ (t : Nat) (port : Nat) (domain : Nat) (identity : Nat) (seq : Nat) (receivedNs : Nat) (sent : Nat) (r : State) (s : State), (s = r.land t) ∧ (s.tbs.delayWait = some (seq, sent)) ∧ (s.fromMaster port domain identity = true)) ∧
  (∃ (t : Nat) (m : Master) (r : State) (s : State), (s = r.land t) ∧ (s.tbs.master = some m) ∧ (s.cellar.safe = false) ∧ (s.acquires = true) ∧ (s.tbsSource = 0) ∧ (s.tbs.lastDelayReq + m.syncNs ≤ s.now)) := by
  refine ⟨?_, ?_, ?_, ?_, ?_, ?_⟩
  · refine ⟨5, 0, 127, 1, 1, 1, 1, 37, rPtp, _, rfl, ?_⟩
    refine ⟨?_, ?_⟩ <;> first | decide +kernel | rfl
  · refine ⟨5, 0, 127, 1, 4, 5, 6, true, [], rMaster, _, rfl, ?_⟩
    refine ⟨?_, ?_, ?_⟩ <;> first | decide +kernel | rfl
  · refine ⟨5, 0, 127, 1, 4, 5, 6, false, [], rMaster, _, rfl, ?_⟩
    refine ⟨?_, ?_, ?_⟩ <;> first | decide +kernel | rfl
  · refine ⟨5, 0, 127, 1, 4, 6, 3, 2, rMaster.tbsIs fun x => { x with syncWait := some (4, 3, 2) }, _, rfl, ?_⟩
    refine ⟨?_, ?_⟩ <;> first | decide +kernel | rfl
  · refine ⟨5, 0, 127, 1, 4, 6, 3, rMaster.tbsIs fun x => { x with delayWait := some (4, 3) }, _, rfl, ?_⟩
    refine ⟨?_, ?_⟩ <;> first | decide +kernel | rfl
  · refine ⟨2 * giga, aMaster, rMaster, _, rfl, ?_⟩
    refine ⟨?_, ?_, ?_, ?_, ?_⟩ <;> first | decide +kernel | rfl

/-- The hypotheses of TimeStepAndGapEndTakeEffect are met. -/
theorem witness_timeStepAndGapEndTakeEffect :
  (∃ (t : Nat) (d : Int) (n : Nat) (r : State) (s : State), (s = r.land t) ∧ (s.tbs.stepPending = some (d, n)) ∧ (s.tbs.gap = none) ∧ (n < s.tbs.raster.index s.deviceTime)) ∧
  (∃ (t : Nat) (g : Gap) (u : State) (r : State) (s : State), (s = r.land t) ∧ (s.tbs.gap = some g) ∧ (g.untilNs ≤ s.deviceTime) ∧ (g.next = s.tbs.raster) ∧ (u = State.calSweep { s with tbs := { s.tbs with gap := none } } g.place (State.ctime { s with tbs := { s.tbs with gap := none } })) ∧ (u.sets.rack.swapAtGap = false)) ∧
  (∃ (t : Nat) (g : Gap) (u : State) (r : State) (s : State), (s = r.land t) ∧ (s.tbs.gap = some g) ∧ (g.untilNs ≤ s.deviceTime) ∧ (g.next = s.tbs.raster) ∧ (u = State.calSweep { s with tbs := { s.tbs with gap := none } } g.place (State.ctime { s with tbs := { s.tbs with gap := none } })) ∧ (u.sets.rack.state = .scheduled) ∧ (u.sets.rack.swapAtGap = true)) := by
  refine ⟨?_, ?_, ?_⟩
  · refine ⟨giga, 5, 0, r0.tbsIs fun x => { x with stepPending := some (5, 0) }, _, rfl, ?_⟩
    refine ⟨?_, ?_, ?_⟩ <;> first | decide +kernel | rfl
  · refine ⟨giga, aGap, pastGap (State.land giga rGap), rGap, _, rfl, ?_⟩
    refine ⟨?_, ?_, ?_, rfl, ?_⟩ <;> first | decide +kernel | rfl
  · refine ⟨giga, aGap, pastGap (State.land giga rGapRack), rGapRack, _, rfl, ?_⟩
    refine ⟨?_, ?_, ?_, rfl, ?_, ?_⟩ <;> first | decide +kernel | rfl

/-- The hypotheses of CalendarCommandsTakeEffect are met. -/
theorem witness_calendarCommandsTakeEffect :
  (∃ (t : Nat) (who : Path) (row : Nat) (v : Nat) (r : State) (s : State), (s = (r.land t).accessed who) ∧ (s.writeRefusal who Obj.tbsCalW0 row (.num v) = none) ∧ (bits v 47 32 < s.tbs.raster.lt)) ∧
  (∃ (t : Nat) (who : Path) (row : Nat) (v : Nat) (r : State) (s : State), (s = (r.land t).accessed who) ∧ (s.writeRefusal who Obj.tbsCalW1 row (.num v) = none) ∧ (bits v 39 28 = 0x010) ∧ (State.calPast ((s.dropHeld who row).setCal row ((s.heldWord who row).getD (s.calW0 row)) (setBit (setBit v 54 (bit (s.calW1 row) 54)) 55 false)) row (State.calNow ((s.dropHeld who row).setCal row ((s.heldWord who row).getD (s.calW0 row)) (setBit (setBit v 54 (bit (s.calW1 row) 54)) 55 false))) = false)) ∧
  (∃ (t : Nat) (who : Path) (row : Nat) (r : State) (s : State), (s = r.land t) ∧ ((s.heldWords who).2.any (fun p => p.1 == row && decide (p.2 ≤ s.now)) = true)) ∧
  (∃ (t : Nat) (row : Nat) (r : State) (s : State), (s = r.land t) ∧ (s.calDue row 1 = true)) ∧
  (∃ (t : Nat) (row : Nat) (r : State) (s : State), (s = r.land t) ∧ (s.calDue row 2 = true)) ∧
  (∃ (t : Nat) (pin : Nat) (r : State) (s : State), (s = r.land t) ∧ (s.pwr.pulses.any (fun p => p.1 == pin && decide (p.2 ≤ s.deviceTime)) = true)) ∧
  (∃ (t : Nat) (row : Nat) (r : State) (s : State), (s = r.land t) ∧ (s.calDue row 3 = true)) ∧
  (∃ (t : Nat) (row : Nat) (r : State) (s : State), (s = r.land t) ∧ (s.calDue row 4 = true)) ∧
  (∃ (t : Nat) (row : Nat) (r : State) (s : State), (s = r.land t) ∧ (s.calDue row 0 = true)) := by
  refine ⟨?_, ?_, ?_, ?_, ?_, ?_, ?_, ?_, ?_⟩
  · refine ⟨5, .firmware, 3, 0, r0, _, rfl, ?_⟩
    refine ⟨?_, ?_⟩ <;> first | decide +kernel | rfl
  · refine ⟨5, .firmware, 3, 0x010 * 2 ^ 28, r0, _, rfl, ?_⟩
    refine ⟨?_, ?_, ?_⟩ <;> first | decide +kernel | rfl
  · refine ⟨5, .can, 3, r0.canIs fun x => { x with heldW0 := [(3, 0)], heldUntil := [(3, 4)] }, _, rfl, ?_⟩
    decide +kernel
  · refine ⟨5, 2, rCal 1, _, rfl, ?_⟩
    decide +kernel
  · refine ⟨5, 2, rCal 2, _, rfl, ?_⟩
    decide +kernel
  · refine ⟨5, 2, r0.pwrIs fun x => { x with pulses := [(2, 0)] }, _, rfl, ?_⟩
    decide +kernel
  · refine ⟨5, 2, rCal 3, _, rfl, ?_⟩
    decide +kernel
  · refine ⟨5, 2, rCal 4, _, rfl, ?_⟩
    decide +kernel
  · refine ⟨5, 2, rCal 0, _, rfl, ?_⟩
    decide +kernel

/-- The hypotheses of CompositorCommandsTakeEffect are met. -/
theorem witness_compositorCommandsTakeEffect :
  (∃ (t : Nat) (flow : Nat) (seq : Nat) (ts : Nat) (payload : Bytes) (heads : List (Nat × Nat × Nat)) (data : Bytes) (r : State) (s : State), (s = r.land t) ∧ ((s.flowSet flow).flowEn flow = true) ∧ (bit ((s.flowSet flow).flow0 flow) 5 = false) ∧ ((s.flowSet flow).flowFrames flow = false) ∧ (srdHeaders 3 (payload.drop 2) = some (heads, data)) ∧ (s.cellar.safe = false) ∧ ((heads.any fun h => decide ((s.flowSet flow).flowH flow ≤ h.2.1) ||
decide ((s.flowSet flow).flowW flow < h.2.2 + ceilDiv h.1 (pgroupBytes (bits ((s.flowSet flow).flow0 flow) 3 1)) *
pgroupPixels (bits ((s.flowSet flow).flow0 flow) 3 1))) = false) ∧ ((heads.map (·.1)).sum ≤ data.length)) ∧
  (∃ (t : Nat) (flow : Nat) (line : Nat) (e : LineEntry) (m : Int) (r : State) (s : State), (s = r.land t) ∧ (lineEntry (s.flow flow).ring (line % (s.flowSet flow).flowRing flow) = some e) ∧ ((s.flowSet flow).flowEn flow = true) ∧ ((s.flowSet flow).flowFrames flow = true) ∧ (e.line = line) ∧ ((s.flowSet flow).flowLb flow ≤ e.received) ∧ ((s.flowSet flow).selected flow e.ts (s.tbs.raster.index s.deviceTime) = some m) ∧ (lineEntry (s.flow flow).buffers ((m % 3).toNat * 65536 + line) = none)) ∧
  (∃ (t : Nat) (row : Nat) (unreadable : List (Nat × Nat × Nat)) (r : State) (s : State), (s = r.land t) ∧ (s.inGap = false) ∧ (s.cellar.safe = false) ∧ ((s.setFor s.ctime.frame).hasCanvas = true) ∧ (row = (if s.cmp.frame = some s.ctime.frame then s.cmp.nextRow else 0)) ∧ (row < (s.setFor s.ctime.frame).height) ∧ (32 * row + 32 ≤ s.ctime.line)) ∧
  (∃ (t : Nat) (row : Nat) (parity : List Nat) (w : RowWork) (r : State) (s : State), (s = r.land t) ∧ (s.rowWork row = some w) ∧ (s.inGap = false)) ∧
  (∃ (t : Nat) (row : Nat) (late : LateRow) (w : RowWork) (r : State) (s : State), (s = r.land t) ∧ (s.rowWork row = some w) ∧ (s.inGap = false) ∧ (32 ≤ w.lines)) ∧
  (∃ (t : Nat) (who : Path) (row : Nat) (v : Nat) (r : State) (s : State), (s = (r.land t).accessed who) ∧ (s.writeRefusal who Obj.cmpStillDesc row (.num v) = none) ∧ (bit v 1 = false) ∧ ((s.sets.bright.namesStill row) = false) ∧ ((s.sets.green.namesStill row) = false) ∧ (s.areaUsed (some row) + stillBytes v ≤ 1048576 * s.cmp.areaMib)) ∧
  (∃ (t : Nat) (who : Path) (row : Nat) (data : Bytes) (r : State) (s : State), (s = (r.land t).accessed who) ∧ (s.writeRefusal who Obj.cmpStillData row (.bytes data) = none) ∧ ((s.still row).allocated ≠ 0) ∧ (data.length = (s.still row).allocated) ∧ ((s.sets.bright.namesStill row) = false) ∧ ((s.sets.green.namesStill row) = false)) := by
  refine ⟨?_, ?_, ?_, ?_, ?_, ?_, ?_⟩
  · refine ⟨5, 3, 0, 0, zeros 8, [(0, 0, 0)], [], r0.brightHas Obj.cmpFlowW0 3 1, _, rfl, ?_⟩
    refine ⟨?_, ?_, ?_, ?_, ?_, ?_, ?_⟩ <;> first | decide +kernel | rfl
  · refine ⟨5, 3, 0, { ts := 0, line := 0, received := 64, data := [] }, 0, rFlow, _, rfl, ?_⟩
    refine ⟨?_, ?_, ?_, ?_, ?_, ?_, ?_⟩ <;> first | decide +kernel | rfl
  · refine ⟨2000000, 0, [], (r0.brightHas Obj.flrCanvasW 0 1).brightHas Obj.flrCanvasH 0 1, _, rfl, ?_⟩
    refine ⟨?_, ?_, ?_, ?_, ?_, ?_⟩ <;> first | decide +kernel | rfl
  · refine ⟨5, 0, [], aRow 0, r0.cmpIs fun x => { x with rows := [aRow 0] }, _, rfl, ?_⟩
    refine ⟨?_, ?_⟩ <;> first | decide +kernel | rfl
  · refine ⟨5, 0, ⟨0, []⟩, aRow 32, r0.cmpIs fun x => { x with rows := [aRow 32] }, _, rfl, ?_⟩
    refine ⟨?_, ?_, ?_⟩ <;> first | decide +kernel | rfl
  · refine ⟨5, .firmware, 0, 0, r0.cmpIs fun x => { x with areaMib := 1024 }, _, rfl, ?_⟩
    refine ⟨?_, ?_, ?_, ?_, ?_⟩ <;> first | decide +kernel | rfl
  · refine ⟨5, .firmware, 0, [1], r0.cmpIs fun x => { x with stills := [(0, { allocated := 1, valid := false, data := [] })] }, _, rfl, ?_⟩
    refine ⟨?_, ?_, ?_, ?_, ?_⟩ <;> first | decide +kernel | rfl

/-- The hypotheses of SegmentCommandsTakeEffect are met. -/
theorem witness_segmentCommandsTakeEffect :
  (∃ (t : Nat) (seg : Nat) (done : ComposedRow) (g : SegRec) (r : State) (s : State), (s = r.land t) ∧ (s.findSeg seg done.y (fun g => !g.composed) = some g) ∧ (s.inGap = false)) ∧
  (∃ (t : Nat) (unreadable : List Nat) (g : SegRec) (u : Nat) (p : Picture) (r : State) (s : State), (s = r.land t) ∧ (s.firstReady = some g) ∧ (s.readyTun = some u) ∧ (s.encodeTickets < s.encodeLimit) ∧ (s.picture g.pic = some p)) ∧
  (∃ (t : Nat) (tun : Nat) (k : Task) (r : State) (s : State), (s = r.land t) ∧ ((s.tun tun).task = some k) ∧ (k.poisoned = true)) ∧
  (∃ (t : Nat) (seg : Nat) (y : Nat) (g : SegRec) (r : State) (s : State), (s = r.land t) ∧ (s.findSeg seg y (fun g => decide (g.count ≤ 0) && !g.late) = some g) ∧ (s.cellar.force = none)) ∧
  (∃ (t : Nat) (seg : Nat) (y : Nat) (g : SegRec) (r : State) (s : State), (s = r.land t) ∧ (s.findSeg seg y (fun g => g.late && !g.fallback && decide (g.count ≤ -((s.setFor g.frame).nat Obj.dspLateLines : Int))) = some g)) ∧
  (∃ (t : Nat) (seg : Nat) (y : Nat) (g : SegRec) (r : State) (s : State), (s = r.land t) ∧ (s.findSeg seg y (fun g => g.fallback && !g.failed && decide (32 ≤ g.sinceFallback)) = some g)) := by
  refine ⟨?_, ?_, ?_, ?_, ?_, ?_⟩
  · refine ⟨5, 1, ⟨2, []⟩, aSeg, r0.dspIs fun x => { x with segs := [aSeg] }, _, rfl, ?_⟩
    refine ⟨?_, ?_⟩ <;> first | decide +kernel | rfl
  · refine ⟨5, [], { aSeg with fallback := true }, 2, aPicture, rReady, _, rfl, ?_⟩
    refine ⟨?_, ?_, ?_, ?_⟩ <;> first | decide +kernel | rfl
  · refine ⟨5, 2, aTask 9 true, (r0.dspIs fun x => { x with segs := [{ aSeg with ticket := some 9 }] }).tunsIs fun x => { x with tuns := [(2, { Tun.idle with state := .draining, task := some (aTask 9 true) })] }, _, rfl, ?_⟩
    refine ⟨?_, ?_⟩ <;> first | decide +kernel | rfl
  · refine ⟨5, 1, 2, aSeg, r0.dspIs fun x => { x with segs := [aSeg] }, _, rfl, ?_⟩
    refine ⟨?_, ?_⟩ <;> first | decide +kernel | rfl
  · refine ⟨5, 1, 2, { aSeg with late := true, count := -9999 }, r0.dspIs fun x => { x with segs := [{ aSeg with late := true, count := -9999 }] }, _, rfl, ?_⟩
    decide +kernel
  · refine ⟨5, 1, 2, { aSeg with fallback := true, sinceFallback := 32 }, r0.dspIs fun x => { x with segs := [{ aSeg with fallback := true, sinceFallback := 32 }] }, _, rfl, ?_⟩
    decide +kernel

/-- The hypotheses of RecipeStepsTakeEffect are met. -/
theorem witness_recipeStepsTakeEffect :
  (∃ (t : Nat) (tun : Nat) (r : State) (s : State), (s = (r.land t).tunPhase tun) ∧ (s.stepIs tun 0 = true)) ∧
  (∃ (t : Nat) (tun : Nat) (r : State) (s : State), (s = (r.land t).tunPhase tun) ∧ (s.stepIs tun 1 = true)) ∧
  (∃ (t : Nat) (tun : Nat) (r : State) (s : State), (s = (r.land t).tunPhase tun) ∧ (s.stepIs tun 2 = true)) ∧
  (∃ (t : Nat) (tun : Nat) (r : State) (s : State), (s = (r.land t).tunPhase tun) ∧ (s.stepIs tun 3 = true) ∧ ((s.tun tun).stack.length < 8)) ∧
  (∃ (t : Nat) (tun : Nat) (r : State) (s : State), (s = (r.land t).tunPhase tun) ∧ (s.stepIs tun 3 = true) ∧ (8 ≤ (s.tun tun).stack.length)) ∧
  (∃ (t : Nat) (tun : Nat) (r : State) (s : State), (s = (r.land t).tunPhase tun) ∧ (s.stepIs tun 4 = true)) ∧
  (∃ (t : Nat) (tun : Nat) (r : State) (s : State), (s = (r.land t).tunPhase tun) ∧ (s.stepIs tun 5 = true)) ∧
  (∃ (t : Nat) (tun : Nat) (r : State) (s : State), (s = (r.land t).tunPhase tun) ∧ (s.stepIs tun 6 = true)) ∧
  (∃ (t : Nat) (tun : Nat) (r : State) (s : State), (s = (r.land t).tunPhase tun) ∧ (s.stepIs tun 7 = true)) := by
  refine ⟨?_, ?_, ?_, ?_, ?_, ?_, ?_, ?_, ?_⟩
  · refine ⟨5, 2, rTun 0, _, rfl, ?_⟩
    decide +kernel
  · refine ⟨5, 2, rTun 1, _, rfl, ?_⟩
    decide +kernel
  · refine ⟨5, 2, rTun 2, _, rfl, ?_⟩
    decide +kernel
  · refine ⟨5, 2, rTun 3, _, rfl, ?_⟩
    refine ⟨?_, ?_⟩ <;> first | decide +kernel | rfl
  · refine ⟨5, 2, rTunBy 3 fun x => { x with stack := [1, 2, 3, 4, 5, 6, 7, 8] }, _, rfl, ?_⟩
    refine ⟨?_, ?_⟩ <;> first | decide +kernel | rfl
  · refine ⟨5, 2, rTunBy 4 fun x => { x with stack := [7] }, _, rfl, ?_⟩
    decide +kernel
  · refine ⟨5, 2, rTun 5, _, rfl, ?_⟩
    decide +kernel
  · refine ⟨5, 2, rTun 6, _, rfl, ?_⟩
    decide +kernel
  · refine ⟨5, 2, rTun 7, _, rfl, ?_⟩
    decide +kernel

/-- The hypotheses of TunCommandsTakeEffect are met, part 1. -/
theorem witness_tunCommandsTakeEffect_1 :
  (∃ (t : Nat) (tun : Nat) (slice : Bytes) (spent : Bool) (trims : Nat) (floors : Nat) (k : Task) (r : State) (s : State), (s = r.land t) ∧ ((s.tun tun).task = some k) ∧ (k.isDecode = false) ∧ ((s.tun tun).stopped = false) ∧ ((s.tun tun).outq = none) ∧ ((s.tun tun).kegWait = none) ∧ (s.dsp.commits.any (fun c => c.tun == tun) = false) ∧ (k.sends tun spent trims floors = true)) ∧
  (∃ (t : Nat) (tun : Nat) (slice : Bytes) (spent : Bool) (trims : Nat) (floors : Nat) (k : Task) (r : State) (s : State), (s = r.land t) ∧ ((s.tun tun).task = some k) ∧ (k.isDecode = true) ∧ ((s.tun tun).stopped = false) ∧ ((s.tun tun).outq = none) ∧ ((s.tun tun).kegWait = none) ∧ (s.dsp.commits.any (fun c => c.tun == tun) = false) ∧ (s.itemWhole k = true)) ∧
  (∃ (t : Nat) (tun : Nat) (r : State) (s : State), (s = r.land t) ∧ ((s.tun tun).task.isNone = false) ∧ ((s.tun tun).kegWait.isSome = false) ∧ ((s.tun tun).yieldAt + 1280 ≤ s.now)) ∧
  (∃ (t : Nat) (tun : Nat) (a : Nat) (r : State) (s : State), (s = r.land t) ∧ ((s.tun tun).kegWait = some a) ∧ (a + 40 ≤ s.now)) ∧
  (∃ (t : Nat) (tun : Nat) (kind : Nat) (detail : Nat) (k : Kind) (r : State) (s : State), (s = r.land t) ∧ (tun < 64) ∧ ((s.tun tun).state = .ready ∨ (s.tun tun).state = .encode ∨ (s.tun tun).state = .decode ∨ (s.tun tun).state = .draining) ∧ (kind = 2 ∧ k = .eccUncorr ∨ kind = 3 ∧ k = .parity)) ∧
  (∃ (t : Nat) (tun : Nat) (kind : Nat) (detail : Nat) (r : State) (s : State), (s = r.land t) ∧ (tun < 64) ∧ ((s.tun tun).state = .ready ∨ (s.tun tun).state = .encode ∨ (s.tun tun).state = .decode ∨ (s.tun tun).state = .draining) ∧ (kind = 1)) ∧
  (∃ (t : Nat) (tun : Nat) (phase : Nat) (a : Nat) (r : State) (s : State), (s = r.land t) ∧ ((s.tun tun).bistFrom = some a) ∧ (a + 40000000 ≤ s.now) ∧ (phase ≠ 0) ∧ ((s.tun tun).bistHeld = false)) ∧
  (∃ (t : Nat) (tun : Nat) (phase : Nat) (a : Nat) (r : State) (s : State), (s = r.land t) ∧ ((s.tun tun).bistFrom = some a) ∧ (a + 40000000 ≤ s.now) ∧ (phase = 0) ∧ ((s.tun tun).bistHeld = false)) ∧
  (∃ (t : Nat) (who : Path) (v : Nat) (r : State) (s : State), (s = (r.land t).accessed who) ∧ (s.writeRefusal who Obj.tunSelftest 0 (.num v) = none) ∧ ((s.tun v).state = .failed ∨ (s.tun v).state = .retired) ∧ ((s.tun v).bistFrom = none)) ∧
  (∃ (t : Nat) (who : Path) (v : Nat) (r : State) (s : State), (s = (r.land t).accessed who) ∧ (s.writeRefusal who Obj.tunSelftest 0 (.num v) = none) ∧ ((s.tun v).state = .encode ∨ (s.tun v).state = .decode ∨ (s.tun v).state = .draining) ∧ ((s.tun v).bistFrom = none)) := by
  refine ⟨?_, ?_, ?_, ?_, ?_, ?_, ?_, ?_, ?_, ?_⟩
  · refine ⟨5, 2, ((aTask 9 false).record 2).slice, ((aTask 9 false).record 2).spent, ((aTask 9 false).record 2).trims, ((aTask 9 false).record 2).floors, aTask 9 false, rTask, _, rfl, ?_⟩
    exact ⟨by decide +kernel, rfl, by decide +kernel, rfl, rfl, by decide +kernel, record_sends _ _⟩
  · refine ⟨5, 2, [], false, 0, 0, { aTask 9 false with isDecode := true }, r0.tunsIs fun x => { x with tuns := [(2, { Tun.idle with state := .decode, task := some { aTask 9 false with isDecode := true } })] }, _, rfl, ?_⟩
    refine ⟨?_, ?_, ?_, ?_, ?_, ?_, ?_⟩ <;> first | decide +kernel | rfl
  · refine ⟨2000, 2, rTask, _, rfl, ?_⟩
    refine ⟨?_, ?_, ?_⟩ <;> first | decide +kernel | rfl
  · refine ⟨50, 2, 3, r0.tunsIs fun x => { x with tuns := [(2, { Tun.idle with state := .encode, outq := some aCommit, kegWait := some 3 })] }, _, rfl, ?_⟩
    refine ⟨?_, ?_⟩ <;> first | decide +kernel | rfl
  · refine ⟨5, 2, 2, 0, .eccUncorr, rTask, _, rfl, ?_⟩
    refine ⟨?_, ?_, ?_⟩ <;> first | decide +kernel | rfl
  · refine ⟨5, 2, 1, 0, rTask, _, rfl, ?_⟩
    refine ⟨?_, ?_, ?_⟩ <;> first | decide +kernel | rfl
  · refine ⟨50000000, 2, 3, 4, r0.tunsIs fun x => { x with tuns := [(2, { Tun.idle with state := .selftest, bistFrom := some 4 })] }, _, rfl, ?_⟩
    refine ⟨?_, ?_, ?_, ?_⟩ <;> first | decide +kernel | rfl
  · refine ⟨50000000, 2, 0, 4, r0.tunsIs fun x => { x with tuns := [(2, { Tun.idle with state := .selftest, bistFrom := some 4 })] }, _, rfl, ?_⟩
    refine ⟨?_, ?_, ?_, ?_⟩ <;> first | decide +kernel | rfl
  · refine ⟨5, .firmware, 2, r0.tunsIs fun x => { x with tuns := [(2, { Tun.idle with state := .failed })] }, _, rfl, ?_⟩
    refine ⟨?_, ?_, ?_⟩ <;> first | decide +kernel | rfl
  · refine ⟨5, .firmware, 2, rTask, _, rfl, ?_⟩
    refine ⟨?_, ?_, ?_⟩ <;> first | decide +kernel | rfl

/-- The hypotheses of TunCommandsTakeEffect are met, part 2. -/
theorem witness_tunCommandsTakeEffect_2 :
  (∃ (t : Nat) (who : Path) (v : Nat) (a : Nat) (r : State) (s : State), (s = (r.land t).accessed who) ∧ (s.writeRefusal who Obj.tunReinstate 0 (.num v) = none) ∧ ((s.tun v).state = .failed ∨ (s.tun v).state = .retired) ∧ ((s.tun v).lastPass = some a) ∧ (s.now ≤ a + 60 * giga)) ∧
  (∃ (t : Nat) (f : Nat) (v : State) (u : State) (r : State) (s : State), (s = r.land t) ∧ (s.dsp.rotateAt = some f) ∧ (s.calTurn (rotateEntry f) = true) ∧ (s.val Obj.dspRotateS ≠ 0) ∧ (v = s.calTicked) ∧ (u = State.armRotation { v with dsp := { v.dsp with rotatedAt := f } }) ∧ (u.tunsActive < u.na + 1)) ∧
  (∃ (t : Nat) (f : Nat) (v : State) (u : State) (r : State) (s : State), (s = r.land t) ∧ (s.dsp.rotateAt = some f) ∧ (s.calTurn (rotateEntry f) = true) ∧ (s.val Obj.dspRotateS ≠ 0) ∧ (v = s.calTicked) ∧ (u = State.armRotation { v with dsp := { v.dsp with rotatedAt := f } }) ∧ (u.na + 1 ≤ u.tunsActive) ∧ ((u.tun v.rotateChoice).state = .ready)) ∧
  (∃ (t : Nat) (group : Nat) (r : State) (s : State), (s = r.land t) ∧ (s.pwr.phase = 2) ∧ (group < 8) ∧ (s.pwr.phaseAt + 5000 * group ≤ s.now) ∧ ((List.range (8 * group)).any (fun u => (s.tun u).state == .gated) = false)) := by
  refine ⟨?_, ?_, ?_, ?_⟩
  · refine ⟨5, .firmware, 2, 3, r0.tunsIs fun x => { x with tuns := [(2, { Tun.idle with state := .failed, lastPass := some 3 })] }, _, rfl, ?_⟩
    refine ⟨?_, ?_, ?_, ?_⟩ <;> first | decide +kernel | rfl
  · refine ⟨5, 0, State.calTicked (State.land 5 rRotate), rotated (State.land 5 rRotate), rRotate, _, rfl, ?_⟩
    refine ⟨?_, ?_, ?_, rfl, rfl, ?_⟩ <;> decide +kernel
  · refine ⟨5, 0, State.calTicked (State.land 5 rRotates), rotated (State.land 5 rRotates), rRotates, _, rfl, ?_⟩
    refine ⟨?_, ?_, ?_, rfl, rfl, ?_, ?_⟩ <;> decide +kernel
  · refine ⟨5, 0, r0.pwrIs fun x => { x with phase := 2 }, _, rfl, ?_⟩
    refine ⟨?_, ?_, ?_, ?_⟩ <;> first | decide +kernel | rfl

end Sys2Proof.Machine
end

