-- ==== Sys2Proof/Tests/Witnesses2.lean ====
section
/-! SUPPORT. For every statement with hypotheses, states and operands that meet the hypotheses of each of its clauses together
(part 2 of 4). -/
set_option Elab.async false
namespace Sys2Proof.Machine

set_option maxRecDepth 4000
set_option linter.unusedVariables false
set_option linter.unreachableTactic false
set_option linter.unusedTactic false

/-- The hypotheses of PatchCommandsTakeEffect are met. -/
theorem witness_patchCommandsTakeEffect :
  (∃ (t : Nat) (who : Path) (image : Bytes) (role : Role) (r : State) (s : State), (s = (r.land t).accessed who) ∧ (s.writeRefusal who Obj.tunPatchImage 0 (.bytes image) = none) ∧ (s.trust.lifecycle ≠ 3) ∧ (s.verifierBusy = false) ∧ (s.switchBusy = false) ∧ (s.roleOf who = some role)) ∧
  (∃ (t : Nat) (who : Path) (v : Nat) (bank : PatchBank) (f : Nat) (r : State) (s : State), (s = (r.land t).accessed who) ∧ (s.writeRefusal who Obj.tunPatchApply 0 (.num v) = none) ∧ (s.switchBusy = false) ∧ (s.tuns.staged = some bank) ∧ (s.twinMode = false) ∧ (rackFrame s.ctime.frame (s.rackLead false) v = .ok f)) ∧
  (∃ (t : Nat) (who : Path) (v : Nat) (f : Nat) (r : State) (s : State), (s = (r.land t).accessed who) ∧ (s.writeRefusal who Obj.tunPatchRemove 0 (.num v) = none) ∧ (s.switchBusy = false) ∧ (s.twinMode = false) ∧ (rackFrame s.ctime.frame (s.rackLead false) 0 = .ok f)) ∧
  (∃ (t : Nat) (w : PatchSwitch) (r : State) (s : State), (s = r.land t) ∧ (s.tuns.switch = some w) ∧ (w.agreed = true) ∧ (s.calTurn (s.switchEntry w) = true)) ∧
  (∃ (t : Nat) (w : PatchSwitch) (r : State) (s : State), (s = r.land t) ∧ (s.tuns.switch = some w) ∧ (w.agreed = false) ∧ (s.agreeClosed w.frame = true)) := by
  refine ⟨?_, ?_, ?_, ?_, ?_⟩
  · refine ⟨5, .firmware, zeros 1, .vendor, r0, _, rfl, ?_⟩
    refine ⟨?_, ?_, ?_, ?_, ?_⟩ <;> first | decide +kernel | rfl
  · refine ⟨5, .firmware, 0, PatchBank.empty, 2, r0.tunsIs fun x => { x with staged := some PatchBank.empty }, _, rfl, ?_⟩
    refine ⟨?_, ?_, ?_, ?_, ?_⟩ <;> first | decide +kernel | rfl
  · refine ⟨5, .firmware, 1, 2, r0, _, rfl, ?_⟩
    refine ⟨?_, ?_, ?_, ?_⟩ <;> first | decide +kernel | rfl
  · refine ⟨5, { frame := 0, bank := PatchBank.empty, agreed := true }, r0.tunsIs fun x => { x with switch := some { frame := 0, bank := PatchBank.empty, agreed := true } }, _, rfl, ?_⟩
    refine ⟨rfl, rfl, ?_⟩
    simp only [State.calTurn, show ∀ e : CalEntry, ([e].takeWhile fun x => x != e) = [] from fun e => by simp,
      show (State.calInternal (State.land 5 (r0.tunsIs fun x => { x with switch := some { frame := 0, bank := PatchBank.empty, agreed := true } }))) = [State.switchEntry _ { frame := 0, bank := PatchBank.empty, agreed := true }] from rfl]
    decide +kernel
  · refine ⟨5, { frame := 0, bank := PatchBank.empty, agreed := false }, r0.tunsIs fun x => { x with switch := some { frame := 0, bank := PatchBank.empty, agreed := false } }, _, rfl, ?_⟩
    refine ⟨?_, ?_, ?_⟩ <;> first | decide +kernel | rfl

/-- The hypotheses of EffortAndNudgeCommandsTakeEffect are met. -/
theorem witness_effortAndNudgeCommandsTakeEffect :
  (∃ (t : Nat) (r : State) (s : State), (s = r.land t) ∧ (governorMove s.dsp.govState (s.valInt Obj.dspThermLeanC) (s.valInt Obj.dspThermMinC) (s.val Obj.dspThermHystC) s.pwr.tj = none)) ∧
  (∃ (t : Nat) (new : Nat) (r : State) (s : State), (s = r.land t) ∧ (governorMove s.dsp.govState (s.valInt Obj.dspThermLeanC) (s.valInt Obj.dspThermMinC) (s.val Obj.dspThermHystC) s.pwr.tj = some new) ∧ (s.dsp.govState < new)) ∧
  (∃ (t : Nat) (who : Path) (v : Nat) (r : State) (s : State), (s = (r.land t).accessed who) ∧ (s.writeRefusal who Obj.dspEffortCap 0 (.num v) = none) ∧ (v ≤ 2)) ∧
  (∃ (t : Nat) (x : EffortChange) (rest : List EffortChange) (r : State) (s : State), (s = r.land t) ∧ (s.dsp.effortPending = x :: rest) ∧ (x.agreed = true) ∧ (s.calTurn (s.effortEntry x) = true)) ∧
  (∃ (t : Nat) (x : EffortChange) (r : State) (s : State), (s = r.land t) ∧ (s.dsp.effortPending.find? (fun x => !x.agreed && s.reached { frame := sub32 x.frame 2, line := 0 }) = some x)) ∧
  (∃ (t : Nat) (who : Path) (v : Nat) (r : State) (s : State), (s = (r.land t).accessed who) ∧ (s.writeRefusal who Obj.rakNudge 0 (.num v) = none) ∧ (v ≤ 4094) ∧ (s.silenced = false) ∧ (s.sets.bright.isReceiver v = true)) ∧
  (∃ (t : Nat) (seg : Nat) (r : State) (s : State), (s = r.land t) ∧ ((s.nudge seg).state = .scheduled ∨ (s.nudge seg).state = .queued) ∧ ((s.nudge seg).agreed = true) ∧ (s.calTurn (s.nudgeEntry seg (s.nudge seg)) = true)) ∧
  (∃ (t : Nat) (seg : Nat) (r : State) (s : State), (s = r.land t) ∧ ((s.nudge seg).state = .scheduled) ∧ ((s.nudge seg).agreed = false) ∧ (s.reached { frame := sub32 (s.nudge seg).fn 2, line := 0 } = true)) := by
  refine ⟨?_, ?_, ?_, ?_, ?_, ?_, ?_, ?_⟩
  · refine ⟨5, r0, _, rfl, ?_⟩
    decide +kernel
  · refine ⟨5, 2, r0.pwrIs fun x => { x with tj := 1240 }, _, rfl, ?_⟩
    refine ⟨?_, ?_⟩ <;> first | decide +kernel | rfl
  · refine ⟨5, .firmware, 2, r0, _, rfl, ?_⟩
    refine ⟨?_, ?_⟩ <;> first | decide +kernel | rfl
  · refine ⟨5, { level := 1, frame := 0, agreed := true }, [], r0.dspIs fun x => { x with effortPending := [{ level := 1, frame := 0, agreed := true }] }, _, rfl, ?_⟩
    refine ⟨?_, ?_, ?_⟩ <;> first | decide +kernel | rfl
  · refine ⟨5, { level := 1, frame := 0, agreed := false }, r0.dspIs fun x => { x with effortPending := [{ level := 1, frame := 0, agreed := false }] }, _, rfl, ?_⟩
    decide +kernel
  · refine ⟨5, .firmware, 1, ((r0.brightHas Obj.flrCanvasW 0 1).brightHas Obj.flrCanvasH 0 1).brightHas Obj.flrSubW0 1 (2 ^ 50 : Nat), _, rfl, ?_⟩
    refine ⟨?_, ?_, ?_, ?_⟩ <;> first | decide +kernel | rfl
  · refine ⟨5, 1, r0.rakeIs fun x => { x with nudges := [(1, { Nudge.idle with state := .scheduled, agreed := true })] }, _, rfl, ?_⟩
    refine ⟨?_, ?_, ?_⟩ <;> first | decide +kernel | rfl
  · refine ⟨5, 1, r0.rakeIs fun x => { x with nudges := [(1, { Nudge.idle with state := .scheduled })] }, _, rfl, ?_⟩
    refine ⟨?_, ?_, ?_⟩ <;> first | decide +kernel | rfl

/-- The hypotheses of TasterCommandsTakeEffect are met. -/
theorem witness_tasterCommandsTakeEffect :
  (∃ (t : Nat) (tun : Nat) (verdict : Nat) (c : CommitRec) (r : State) (s : State), (s = r.land t) ∧ (s.commitOf tun = some c) ∧ (verdict = 0 ∨ verdict ≥ 6) ∧ (c.lane.any (fun l => s.forced 3 l) = false)) ∧
  (∃ (t : Nat) (tun : Nat) (verdict : Nat) (c : CommitRec) (r : State) (s : State), (s = r.land t) ∧ (s.commitOf tun = some c) ∧ (1 ≤ verdict) ∧ (verdict ≤ 5) ∧ (c.lane.any (fun l => s.forced 3 l) = false)) ∧
  (∃ (t : Nat) (tun : Nat) (decoded : Nat) (c : CommitRec) (r : State) (s : State), (s = r.land t) ∧ (s.commitOf tun = some c) ∧ (c.windowEnd ≤ s.now)) ∧
  (∃ (t : Nat) (tun : Nat) (check : Nat) (r : State) (s : State), (s = r.land t) ∧ (1 ≤ check) ∧ (check ≤ 5)) ∧
  (∃ (t : Nat) (lane : Nat) (passed : Bool) (r : State) (s : State), (s = r.land t) ∧ (lane < 48) ∧ ((s.lane lane).state = 1) ∧ ((s.lane lane).testFrom + 250000 ≤ s.now)) ∧
  (∃ (t : Nat) (r : State) (s : State), (s = r.land t) ∧ (s.asm.secondFrom + giga ≤ s.now)) := by
  refine ⟨?_, ?_, ?_, ?_, ?_, ?_⟩
  · refine ⟨5, 2, 0, aCommit, r0.dspIs fun x => { x with commits := [aCommit] }, _, rfl, ?_⟩
    refine ⟨?_, ?_, ?_⟩ <;> first | decide +kernel | rfl
  · refine ⟨5, 2, 4, aCommit, r0.dspIs fun x => { x with commits := [aCommit] }, _, rfl, ?_⟩
    refine ⟨?_, ?_, ?_, ?_⟩ <;> first | decide +kernel | rfl
  · refine ⟨5, 2, 4, aCommit, r0.dspIs fun x => { x with commits := [aCommit] }, _, rfl, ?_⟩
    refine ⟨?_, ?_⟩ <;> first | decide +kernel | rfl
  · refine ⟨5, 2, 3, rTask, _, rfl, ?_⟩
    refine ⟨?_, ?_⟩ <;> first | decide +kernel | rfl
  · refine ⟨300000, 3, true, r0.asmIs fun x => { x with lanes := [(3, { Lane.idle with state := 1 })] }, _, rfl, ?_⟩
    refine ⟨?_, ?_, ?_⟩ <;> first | decide +kernel | rfl
  · refine ⟨2 * giga, r0, _, rfl, ?_⟩
    decide +kernel

/-- The hypotheses of AssemblerCommandsTakeEffect are met. -/
theorem witness_assemblerCommandsTakeEffect :
  (∃ (t : Nat) (ecc : Nat) (a : AccSeg) (r : State) (s : State), (s = r.land t) ∧ (s.asm.accepted.find? (fun a => a.digest.isEmpty) = some a)) ∧
  (∃ (t : Nat) (r : State) (s : State), (s = r.land t) ∧ (s.asm.dry.isSome = true) ∧ (s.asm.dryAt + 100 ≤ s.now)) ∧
  (∃ (t : Nat) (d : Nat) (r : State) (s : State), (s = r.land t) ∧ (s.asm.dry = some d) ∧ (d + s.val Obj.asmDryLimitNs ≤ s.now)) ∧
  (∃ (t : Nat) (frame : Nat) (seg : Nat) (y : Nat) (a : AccSeg) (h : Nat) (r : State) (s : State), (s = r.land t) ∧ (s.asm.accepted.find? (fun a => a.frame == frame && a.s == seg && a.y == y) = some a) ∧ (a.holdUntil = some h) ∧ (h ≤ s.deviceTime)) := by
  refine ⟨?_, ?_, ?_, ?_⟩
  · refine ⟨5, 0, anAccepted, r0.asmIs fun x => { x with accepted := [anAccepted] }, _, rfl, ?_⟩
    decide +kernel
  · refine ⟨200, r0.asmIs fun x => { x with dry := some 3 }, _, rfl, ?_⟩
    refine ⟨?_, ?_⟩ <;> first | decide +kernel | rfl
  · refine ⟨giga, 3, r0.asmIs fun x => { x with dry := some 3 }, _, rfl, ?_⟩
    refine ⟨?_, ?_⟩ <;> first | decide +kernel | rfl
  · refine ⟨5, 0, 1, 2, { anAccepted with holdUntil := some 0 }, 0, r0.asmIs fun x => { x with accepted := [{ anAccepted with holdUntil := some 0 }] }, _, rfl, ?_⟩
    refine ⟨?_, ?_, ?_⟩ <;> first | decide +kernel | rfl

/-- The hypotheses of TwinLinkCommandsTakeEffect are met. -/
theorem witness_twinLinkCommandsTakeEffect :
  (∃ (t : Nat) (r : State) (s : State), (s = r.land t) ∧ (s.twn.state ≠ .off) ∧ (s.twn.lastHeartbeat + 10000 ≤ s.now)) ∧
  (∃ (t : Nat) (m : TwinMsg) (u : State) (r : State) (s : State), (s = r.land t) ∧ (s.twinAccept 1 m = some u) ∧ (m.body.length = 40)) ∧
  (∃ (t : Nat) (r : State) (s : State), (s = r.land t) ∧ (s.twn.linkUp = true) ∧ (s.twn.lastValid + 50000 ≤ s.now)) ∧
  (∃ (t : Nat) (high : Bool) (r : State) (s : State), (s = r.land t)) ∧
  (∃ (t : Nat) (a : Nat) (h : Heart) (r : State) (s : State), (s = r.land t) ∧ (s.twn.state = .pairing) ∧ (s.twn.listenUntil = some a) ∧ (a ≤ s.now) ∧ (s.twn.heart = some h) ∧ (s.twn.linkUp = true) ∧ (h.state = 3 ∨ h.state = 5)) ∧
  (∃ (t : Nat) (a : Nat) (r : State) (s : State), (s = r.land t) ∧ (s.twn.state = .pairing) ∧ (s.twn.listenUntil = some a) ∧ (a ≤ s.now) ∧ (s.twn.heart = none)) ∧
  (∃ (t : Nat) (m : TwinMsg) (u : State) (r : State) (s : State), (s = r.land t) ∧ (s.twinAccept 2 m = some u) ∧ (1 ≤ fieldBE m.body 0 2) ∧ (fieldBE m.body 0 2 ≤ 48) ∧ (m.body.length = 4 + 28 * fieldBE m.body 0 2) ∧ (u.exchanges = true)) ∧
  (∃ (t : Nat) (frame : Nat) (r : State) (s : State), (s = r.land t) ∧ (s.reached { frame := add32 frame 2, line := 0 } = true)) := by
  refine ⟨?_, ?_, ?_, ?_, ?_, ?_, ?_, ?_⟩
  · refine ⟨10000, r0.twnIs fun x => { x with state := .solo }, _, rfl, ?_⟩
    refine ⟨?_, ?_⟩ <;> first | decide +kernel | rfl
  · refine ⟨5, aTwin 1 (zeros 40), accepted (State.land 5 rTwin) 1 (zeros 40), rTwin, _, rfl, ?_⟩
    refine ⟨some_getD (by decide +kernel), ?_⟩ <;> first | decide +kernel | rfl
  · refine ⟨50000, r0.twnIs fun x => { x with linkUp := true }, _, rfl, ?_⟩
    refine ⟨?_, ?_⟩ <;> first | decide +kernel | rfl
  · refine ⟨5, true, r0, _, rfl⟩
  · refine ⟨5, 3, aHeart, r0.twnIs fun x => { x with state := .pairing, listenUntil := some 3, heart := some aHeart, linkUp := true }, _, rfl, ?_⟩
    refine ⟨?_, ?_, ?_, ?_, ?_, ?_⟩ <;> first | decide +kernel | rfl
  · refine ⟨5, 3, r0.twnIs fun x => { x with state := .pairing, listenUntil := some 3 }, _, rfl, ?_⟩
    refine ⟨?_, ?_, ?_, ?_⟩ <;> first | decide +kernel | rfl
  · refine ⟨5, aTwin 2 (bytesBE 2 1 ++ zeros 30), accepted (State.land 5 rTwin) 2 (bytesBE 2 1 ++ zeros 30), rTwin, _, rfl, ?_⟩
    refine ⟨some_getD (by decide +kernel), ?_, ?_, ?_, ?_⟩ <;> first | decide +kernel | rfl
  · refine ⟨giga, 0, r0, _, rfl, ?_⟩
    decide +kernel

/-- The hypotheses of TwinAgreementCommandsTakeEffect are met. -/
theorem witness_twinAgreementCommandsTakeEffect :
  (∃ (t : Nat) (m : TwinMsg) (u : State) (r : State) (s : State), (s = r.land t) ∧ (s.twinAccept 3 m = some u) ∧ (m.body.length = 72)) ∧
  (∃ (t : Nat) (r : State) (s : State), (s = r.land t)) ∧
  (∃ (t : Nat) (m : TwinMsg) (u : State) (r : State) (s : State), (s = r.land t) ∧ (s.twinAccept 4 m = some u) ∧ (m.body.length = 16)) ∧
  (∃ (t : Nat) (m : TwinMsg) (u : State) (r : State) (s : State), (s = r.land t) ∧ (s.twinAccept 5 m = some u) ∧ (m.body.length = 12)) ∧
  (∃ (t : Nat) (r : State) (s : State), (s = r.land t) ∧ (s.mayRejoin = true)) ∧
  (∃ (t : Nat) (m : TwinMsg) (u : State) (r : State) (s : State), (s = r.land t) ∧ (s.twinAccept 6 m = some u) ∧ (m.body.length = 8)) ∧
  (∃ (t : Nat) (f : Nat) (r : State) (s : State), (s = r.land t) ∧ (s.twn.rejoin = some f) ∧ (s.reached { frame := f, line := 0 } = true) ∧ (s.twn.state = .silenced) ∧ (s.twn.partnerRejoin = none)) ∧
  (∃ (t : Nat) (f : Nat) (r : State) (s : State), (s = r.land t) ∧ (s.twn.partnerRejoin = some f) ∧ (s.reached { frame := f, line := 0 } = true) ∧ (s.twn.state = .solo) ∧ (s.twn.rejoin = none)) ∧
  (∃ (t : Nat) (who : Path) (r : State) (s : State), (s = (r.land t).accessed who) ∧ (s.writeRefusal who Obj.twnSilence 0 (.num 1) = none) ∧ (s.twn.state = .paired)) ∧
  (∃ (t : Nat) (who : Path) (r : State) (s : State), (s = (r.land t).accessed who) ∧ (s.writeRefusal who Obj.twnSilence 0 (.num 0) = none)) := by
  refine ⟨?_, ?_, ?_, ?_, ?_, ?_, ?_, ?_, ?_, ?_⟩
  · refine ⟨5, aTwin 3 (zeros 72), accepted (State.land 5 rTwin) 3 (zeros 72), rTwin, _, rfl, ?_⟩
    refine ⟨some_getD (by decide +kernel), ?_⟩ <;> first | decide +kernel | rfl
  · refine ⟨5, r0, _, rfl⟩
  · refine ⟨5, aTwin 4 (zeros 16), accepted (State.land 5 rTwin) 4 (zeros 16), rTwin, _, rfl, ?_⟩
    refine ⟨some_getD (by decide +kernel), ?_⟩ <;> first | decide +kernel | rfl
  · refine ⟨5, aTwin 5 (zeros 12), accepted (State.land 5 rTwin) 5 (zeros 12), rTwin, _, rfl, ?_⟩
    refine ⟨some_getD (by decide +kernel), ?_⟩ <;> first | decide +kernel | rfl
  · refine ⟨2000000, r0.twnIs fun x => { x with state := .silenced, cause := 1, linkUp := true, heart := some aHeart, pairGoodFrom := some 0 }, _, rfl, ?_⟩
    decide +kernel
  · refine ⟨5, aTwin 6 (zeros 8), accepted (State.land 5 rTwin) 6 (zeros 8), rTwin, _, rfl, ?_⟩
    refine ⟨some_getD (by decide +kernel), ?_⟩ <;> first | decide +kernel | rfl
  · refine ⟨5, 0, r0.twnIs fun x => { x with state := .silenced, rejoin := some 0 }, _, rfl, ?_⟩
    refine ⟨?_, ?_, ?_, ?_⟩ <;> first | decide +kernel | rfl
  · refine ⟨5, 0, r0.twnIs fun x => { x with state := .solo, partnerRejoin := some 0 }, _, rfl, ?_⟩
    refine ⟨?_, ?_, ?_, ?_⟩ <;> first | decide +kernel | rfl
  · refine ⟨5, .firmware, r0.twnIs fun x => { x with state := .paired }, _, rfl, ?_⟩
    refine ⟨?_, ?_⟩ <;> first | decide +kernel | rfl
  · refine ⟨5, .firmware, r0, _, rfl, ?_⟩
    decide +kernel

/-- The hypotheses of TwinSyncCommandsTakeEffect are met. -/
theorem witness_twinSyncCommandsTakeEffect :
  (∃ (t : Nat) (m : TwinMsg) (u : State) (r : State) (s : State), (s = r.land t) ∧ (s.twinAccept 7 m = some u) ∧ (u.twn.state = .paired ∨ u.twn.state = .solo)) ∧
  (∃ (t : Nat) (m : TwinMsg) (u : State) (r : State) (s : State), (s = r.land t) ∧ (s.twinAccept 8 m = some u) ∧ (fieldBE m.body 4 2 = 0) ∧ (52 ≤ m.body.length) ∧ ((m.body.length - 52) % 16 = 0) ∧ (u.wantsSync = true) ∧ (u.twn.syncComplete = false) ∧ (u.twn.syncNext = 0)) ∧
  (∃ (t : Nat) (a : Nat) (r : State) (s : State), (s = r.land t) ∧ (s.wantsSync = true) ∧ (s.twn.syncComplete = false) ∧ (s.twn.syncReqAt = some a) ∧ (a + giga ≤ s.now)) ∧
  (∃ (t : Nat) (y : SyncState) (r : State) (s : State), (s = r.land t) ∧ (s.twn.sync = some y) ∧ (s.twn.syncComplete = true) ∧ (s.wantsSync = true) ∧ (s.syncStart y ≤ s.deviceTime) ∧ (s.sets.rack.state = .idle)) := by
  refine ⟨?_, ?_, ?_, ?_⟩
  · refine ⟨5, aTwin 7 (zeros 8), accepted (State.land 5 rTwin) 7 (zeros 8), rTwin, _, rfl, ?_⟩
    refine ⟨some_getD (by decide +kernel), ?_⟩ <;> first | decide +kernel | rfl
  · refine ⟨5, aTwin 8 (zeros 52), accepted (State.land 5 rJoining) 8 (zeros 52), rJoining, _, rfl, ?_⟩
    refine ⟨some_getD (by decide +kernel), ?_, ?_, ?_, ?_, ?_, ?_⟩ <;> first | decide +kernel | rfl
  · refine ⟨2 * giga, 3, r0.twnIs fun x => { x with state := .joining, syncReqAt := some 3 }, _, rfl, ?_⟩
    refine ⟨?_, ?_, ?_, ?_⟩ <;> first | decide +kernel | rfl
  · refine ⟨giga, aSync, rJoining.twnIs fun x => { x with sync := some aSync, syncComplete := true }, _, rfl, ?_⟩
    refine ⟨?_, ?_, ?_, ?_, ?_⟩ <;> first | decide +kernel | rfl

/-- The hypotheses of DecodeStreamCommandsTakeEffect are met. -/
theorem witness_decodeStreamCommandsTakeEffect :
  (∃ (t : Nat) (stream : Nat) (seq : Nat) (pt : Nat) (ts : Nat) (marker : Bool) (payload : Bytes) (r : State) (s : State), (s = r.land t) ∧ ((s.decStream stream).state ≠ 0) ∧ (bits (s.sets.bright.dec0 stream) 52 46 = 0) ∧ (s.cellar.safe = false) ∧ ((s.decStream stream).top = none) ∧ ((s.decStream stream).next = none)) ∧
  (∃ (t : Nat) (stream : Nat) (first : DecWait) (rest : List DecWait) (r : State) (s : State), (s = r.land t) ∧ ((s.decStream stream).waiting = first :: rest) ∧ (first.at_ + 1000 * s.val Obj.finReorderUs ≤ s.deviceTime)) ∧
  (∃ (t : Nat) (k : Nat) (d : Nat) (pic : Nat) (item : Nat) (u : Nat) (r : State) (s : State), (s = r.land t) ∧ (firstItem s.readyItems = some (k, d, pic, item)) ∧ (s.readyTun = some u) ∧ (s.decodeTickets < s.nd) ∧ (s.cellar.safe = false)) ∧
  (∃ (t : Nat) (stream : Nat) (a : DecAu) (r : State) (s : State), (s = r.land t) ∧ ((s.decStream stream).aus.find? (s.decStream stream).whole = some a) ∧ (((s.decStream stream).inputOf a).lost = []) ∧ (a.syntaxLost = []) ∧ (a.badUnits = 0) ∧ (a.missing = [])) := by
  refine ⟨?_, ?_, ?_, ?_⟩
  · refine ⟨5, 3, 0, 96, 0, true, [], { r0 with dec := [(3, { DecStream.idle with state := 1 })] }, _, rfl, ?_⟩
    refine ⟨?_, ?_, ?_, ?_, ?_⟩ <;> first | decide +kernel | rfl
  · refine ⟨giga, 3, aWait, [], { r0 with dec := [(3, { DecStream.idle with state := 1, waiting := [aWait] })] }, _, rfl, ?_⟩
    refine ⟨?_, ?_⟩ <;> first | decide +kernel | rfl
  · refine ⟨5, 2048, 3, 0, 0, 2, rItem false, _, rfl, ?_⟩
    refine ⟨?_, ?_, ?_, ?_⟩ <;> first | decide +kernel | rfl
  · refine ⟨5, 3, anAu true, rItem true, _, rfl, ?_⟩
    refine ⟨?_, ?_, ?_, ?_, ?_⟩ <;> first | decide +kernel | rfl

/-- The hypotheses of PortCommandsTakeEffect are met. -/
theorem witness_portCommandsTakeEffect :
  (∃ (t : Nat) (who : Path) (row : Nat) (word : Nat) (v : Nat) (r : State) (s : State), (s = (r.land t).accessed who) ∧ (s.writeRefusal who (lnkPortWord word) row (.num v) = none) ∧ (State.portRange (s.put (lnkPortWord word) row v) row = true) ∧ (State.portForbidden (s.put (lnkPortWord word) row v) row = false)) ∧
  (∃ (t : Nat) (port : Nat) (partner : Option Nat) (r : State) (s : State), (s = r.land t) ∧ (port < 96) ∧ ((s.port port).state = .an)) ∧
  (∃ (t : Nat) (port : Nat) (failed : Option Nat) (r : State) (s : State), (s = r.land t) ∧ (port < 96) ∧ ((s.port port).state = .training)) ∧
  (∃ (t : Nat) (port : Nat) (r : State) (s : State), (s = r.land t) ∧ (port < 96) ∧ ((s.port port).state = .align)) ∧
  (∃ (t : Nat) (port : Nat) (why : AlignFailure) (r : State) (s : State), (s = r.land t) ∧ (port < 96) ∧ ((s.port port).state = .align) ∧ ((s.port port).since + 500000000 ≤ s.now)) ∧
  (∃ (t : Nat) (port : Nat) (r : State) (s : State), (s = r.land t) ∧ (port < 96) ∧ ((s.port port).state = .hold) ∧ ((s.port port).since + 1000000 * s.val Obj.lnkUpHoldMs ≤ s.now)) ∧
  (∃ (t : Nat) (port : Nat) (cause : Nat) (lane : Nat) (r : State) (s : State), (s = r.land t) ∧ (port < 96) ∧ ((s.port port).state = .up ∨ (s.port port).state = .hold)) ∧
  (∃ (t : Nat) (port : Nat) (r : State) (s : State), (s = r.land t) ∧ (port < 96) ∧ ((s.port port).state = .down) ∧ ((s.port port).heldDown = false) ∧ ((s.port port).since + 1000000 * s.val Obj.lnkRetryMs ≤ s.now)) := by
  refine ⟨?_, ?_, ?_, ?_, ?_, ?_, ?_, ?_⟩
  · refine ⟨5, .firmware, 3, 4, 0, r0, _, rfl, ?_⟩
    refine ⟨?_, ?_, ?_⟩ <;> first | decide +kernel | rfl
  · refine ⟨5, 3, some 1, r0.setPort 3 { Port.idle with state := .an }, _, rfl, ?_⟩
    refine ⟨?_, ?_⟩ <;> first | decide +kernel | rfl
  · refine ⟨5, 3, none, r0.setPort 3 { Port.idle with state := .training }, _, rfl, ?_⟩
    refine ⟨?_, ?_⟩ <;> first | decide +kernel | rfl
  · refine ⟨5, 3, r0.setPort 3 { Port.idle with state := .align }, _, rfl, ?_⟩
    refine ⟨?_, ?_⟩ <;> first | decide +kernel | rfl
  · refine ⟨500000000, 3, { deskewOnly := true, lane := 3, noClock := false }, r0.setPort 3 { Port.idle with state := .align }, _, rfl, ?_⟩
    refine ⟨?_, ?_, ?_⟩ <;> first | decide +kernel | rfl
  · refine ⟨5000000000, 3, r0.setPort 3 { Port.idle with state := .hold }, _, rfl, ?_⟩
    refine ⟨?_, ?_, ?_⟩ <;> first | decide +kernel | rfl
  · refine ⟨5, 3, 1, 3, r0.setPort 3 { Port.idle with state := .up }, _, rfl, ?_⟩
    refine ⟨?_, ?_⟩ <;> first | decide +kernel | rfl
  · refine ⟨100 * giga, 3, r0.setPort 3 { Port.idle with state := .down }, _, rfl, ?_⟩
    refine ⟨?_, ?_, ?_, ?_⟩ <;> first | decide +kernel | rfl

/-- The hypotheses of LaneCommandsTakeEffect are met. -/
theorem witness_laneCommandsTakeEffect :
  (∃ (t : Nat) (port : Nat) (corrected : Nat) (received : Nat) (uncorrectable : Nat) (r : State) (s : State), (s = r.land t) ∧ (port < 96) ∧ ((s.port port).state = .up) ∧ (bits (s.portWord port 0) 5 4 ≠ 0) ∧ ((s.port port).fecAt + giga ≤ s.now)) ∧
  (∃ (t : Nat) (who : Path) (lane : Nat) (errors : Nat) (r : State) (s : State), (s = (r.land t).accessed who) ∧ (s.writeRefusal who Obj.lnkLanePrbs lane (.num 0) = none) ∧ (s.portOfLane lane = none) ∧ (Table.get 0 s.links.prbs lane ≠ 0)) ∧
  (∃ (t : Nat) (who : Path) (lane : Nat) (r : State) (s : State), (s = (r.land t).accessed who) ∧ (s.writeRefusal who Obj.lnkLanePrbs lane (.num 1) = none) ∧ (s.portOfLane lane = none) ∧ (s.cellar.safe = false)) ∧
  (∃ (t : Nat) (who : Path) (lane : Nat) (r : State) (s : State), (s = (r.land t).accessed who) ∧ (s.writeRefusal who Obj.lnkLanePrbs lane (.num 2) = none) ∧ (s.portOfLane lane = none) ∧ (s.cellar.safe = false)) := by
  refine ⟨?_, ?_, ?_, ?_⟩
  · refine ⟨giga, 3, 0, 0, 0, (r0.setPort 3 { Port.idle with state := .up }).holds Obj.lnkPortW0 3 16, _, rfl, ?_⟩
    refine ⟨?_, ?_, ?_, ?_⟩ <;> first | decide +kernel | rfl
  · refine ⟨5, .firmware, 3, 2, r0.linksIs fun x => { x with prbs := [(3, 1)] }, _, rfl, ?_⟩
    refine ⟨?_, ?_, ?_⟩ <;> first | decide +kernel | rfl
  · refine ⟨5, .firmware, 3, r0, _, rfl, ?_⟩
    refine ⟨?_, ?_, ?_⟩ <;> first | decide +kernel | rfl
  · refine ⟨5, .firmware, 3, r0, _, rfl, ?_⟩
    refine ⟨?_, ?_, ?_⟩ <;> first | decide +kernel | rfl

/-- The hypotheses of IngressCommandsTakeEffect are met. -/
theorem witness_ingressCommandsTakeEffect :
  (∃ (t : Nat) (port : Nat) (fcsGood : Bool) (frame : Bytes) (r : State) (s : State), (s = r.land t) ∧ (port < 96) ∧ (s.portUp port = true) ∧ ((s.count Obj.lnkPortRxFrames port).ingress port fcsGood (ethFrame frame) = .fcs)) ∧
  (∃ (t : Nat) (port : Nat) (fcsGood : Bool) (frame : Bytes) (r : State) (s : State), (s = r.land t) ∧ (port < 96) ∧ (s.portUp port = true) ∧ ((s.count Obj.lnkPortRxFrames port).ingress port fcsGood (ethFrame frame) = .discard)) ∧
  (∃ (t : Nat) (port : Nat) (fcsGood : Bool) (frame : Bytes) (k : Nat) (r : State) (s : State), (s = r.land t) ∧ (port < 96) ∧ (s.portUp port = true) ∧ ((s.count Obj.lnkPortRxFrames port).ingress port fcsGood (ethFrame frame) = .flow k) ∧ (s.cellar.safe = false)) ∧
  (∃ (t : Nat) (port : Nat) (fcsGood : Bool) (frame : Bytes) (r : State) (s : State), (s = r.land t) ∧ (port < 96) ∧ (s.portUp port = true) ∧ ((s.count Obj.lnkPortRxFrames port).ingress port fcsGood (ethFrame frame) = .maltster) ∧ (s.cellar.safe = false) ∧ (((s.count Obj.lnkPortRxFrames port).puntAllowed port).2 = true)) ∧
  (∃ (t : Nat) (port : Nat) (b : Bytes) (rest : List (Nat × Bytes)) (r : State) (s : State), (s = r.land t) ∧ (s.links.punted = (port, b) :: rest) ∧ ((ethFrame b).ty = 0x0806)) ∧
  (∃ (t : Nat) (replies : List (Nat × Nat × Nat)) (r : State) (s : State), (s = r.land t) ∧ (s.links.resolveDue = true ∨ s.links.resolvedAt + giga * s.val Obj.lnkResolveS ≤ s.now)) ∧
  (∃ (t : Nat) (speed : Nat) (r : State) (s : State), (s = r.land t)) ∧
  (∃ (t : Nat) (port : Nat) (f : Nat) (r : State) (s : State), (s = r.land t) ∧ ((s.port port).dadFrom = some f) ∧ (f + giga ≤ s.now)) ∧
  (∃ (t : Nat) (r : State) (s : State), (s = r.land t)) := by
  refine ⟨?_, ?_, ?_, ?_, ?_, ?_, ?_, ?_, ?_⟩
  · refine ⟨5, 3, false, zeros 64, r0.setPort 3 { Port.idle with state := .up }, _, rfl, ?_⟩
    refine ⟨?_, ?_, ?_⟩ <;> first | decide +kernel | rfl
  · refine ⟨5, 3, true, zeros 64, r0.setPort 3 { Port.idle with state := .up }, _, rfl, ?_⟩
    refine ⟨?_, ?_, ?_⟩ <;> first | decide +kernel | rfl
  · refine ⟨5, 3, true, aUdp, 0, rFlowRow, _, rfl, ?_⟩
    refine ⟨?_, ?_, ?_, ?_⟩ <;> first | decide +kernel | rfl
  · refine ⟨5, 3, true, anArp, rArp, _, rfl, ?_⟩
    refine ⟨?_, ?_, ?_, ?_, ?_⟩ <;> first | decide +kernel | rfl
  · refine ⟨5, 3, anArp, [], r0.linksIs fun x => { x with punted := [(3, anArp)] }, _, rfl, ?_⟩
    refine ⟨?_, ?_⟩ <;> first | decide +kernel | rfl
  · refine ⟨5, [], r0.linksIs fun x => { x with resolveDue := true }, _, rfl, ?_⟩
    decide +kernel
  · refine ⟨5, 2, r0, _, rfl⟩
  · refine ⟨giga, 3, 0, r0.setPort 3 { Port.idle with dadFrom := some 0 }, _, rfl, ?_⟩
    refine ⟨?_, ?_⟩ <;> first | decide +kernel | rfl
  · refine ⟨5, r0, _, rfl⟩

/-- The hypotheses of TapQueueCommandsTakeEffect are met. -/
theorem witness_tapQueueCommandsTakeEffect :
  (∃ (t : Nat) (tap : Nat) (x : Pkt) (r : State) (s : State), (s = r.land t) ∧ (s.tap.offers.find? (fun q => q.1 == tap) = some (tap, x)) ∧ ((s.tapAt tap).videoCount < (s.setFor x.frame).tapQmax tap ∨ bit ((s.setFor x.frame).tap tap 0) 4 = true ∨ s.val Obj.tapFlush tap ≠ 0)) ∧
  (∃ (t : Nat) (tap : Nat) (x : Pkt) (r : State) (s : State), (s = r.land t) ∧ (s.tap.offers.find? (fun q => q.1 == tap) = some (tap, x)) ∧ ((s.setFor x.frame).tapQmax tap ≤ (s.tapAt tap).videoCount) ∧ (bit ((s.setFor x.frame).tap tap 0) 4 = false) ∧ (s.val Obj.tapFlush tap = 0)) ∧
  (∃ (t : Nat) (r : State) (s : State), (s = r.land t)) ∧
  (∃ (t : Nat) (r : State) (s : State), (s = r.land t) ∧ (s.tap.scannedAt + 65536 ≤ s.now)) ∧
  (∃ (t : Nat) (tap : Nat) (x : TapPkt) (rest : List TapPkt) (r : State) (s : State), (s = r.land t) ∧ ((s.tapAt tap).window = x :: rest) ∧ (s.cellar.safe = false) ∧ (x.departed + 1000 * s.val Obj.tapWinAgeUs < s.now)) ∧
  (∃ (t : Nat) (tap : Nat) (x : TapPkt) (rest : List TapPkt) (r : State) (s : State), (s = r.land t) ∧ ((s.tapAt tap).window = x :: rest) ∧ (s.now ≤ x.departed + 1000 * s.val Obj.tapWinAgeUs)) ∧
  (∃ (t : Nat) (who : Path) (row : Nat) (r : State) (s : State), (s = (r.land t).accessed who) ∧ (s.writeRefusal who Obj.tapFlush row (.num 1) = none)) ∧
  (∃ (t : Nat) (who : Path) (row : Nat) (r : State) (s : State), (s = (r.land t).accessed who) ∧ (s.writeRefusal who Obj.tapFlush row (.num 0) = none)) := by
  refine ⟨?_, ?_, ?_, ?_, ?_, ?_, ?_, ?_⟩
  · refine ⟨5, 3, aPkt, ((r0.brightHas Obj.tapW0 3 1).brightHas Obj.tapW2 3 (100 * 2 ^ 32 : Nat)).tapIs fun x => { x with offers := [(3, aPkt)] }, _, rfl, ?_⟩
    refine ⟨?_, ?_⟩ <;> first | decide +kernel | rfl
  · refine ⟨5, 3, aPkt, r0.tapIs fun x => { x with offers := [(3, aPkt)] }, _, rfl, ?_⟩
    refine ⟨?_, ?_, ?_, ?_⟩ <;> first | decide +kernel | rfl
  · refine ⟨5, r0, _, rfl⟩
  · refine ⟨65536, r0, _, rfl, ?_⟩
    decide +kernel
  · refine ⟨10 * giga, 3, aTapPkt, [], r0.setTap 3 { Tap.idle with window := [aTapPkt] }, _, rfl, ?_⟩
    refine ⟨?_, ?_, ?_⟩ <;> first | decide +kernel | rfl
  · refine ⟨5, 3, aTapPkt, [], r0.setTap 3 { Tap.idle with window := [aTapPkt] }, _, rfl, ?_⟩
    refine ⟨?_, ?_⟩ <;> first | decide +kernel | rfl
  · refine ⟨5, .firmware, 3, r0, _, rfl, ?_⟩
    decide +kernel
  · refine ⟨5, .firmware, 3, r0, _, rfl, ?_⟩
    decide +kernel

/-- The hypotheses of DepartureCommandsTakeEffect are met. -/
theorem witness_departureCommandsTakeEffect :
  (∃ (t : Nat) (port : Nat) (ref : Nat) (cls : Nat) (h : TapPkt) (v : State) (r : State) (s : State), (s = r.land t) ∧ (s.cellar.safe = false) ∧ ((v = if (s.sched port).chosen.isNone ∧ (s.sched port).busyUntil ≤ s.now + ceilDiv 512 (modeGbps (s.portMode port)) then s.portDecide port else s)) ∧ ((v.sched port).busyUntil ≤ v.now) ∧ ((v.sched port).chosen = some (ref, cls)) ∧ ((v.setSched port { v.sched port with chosen := none }).headOn port ref cls = some h) ∧ ((v.setSched port { v.sched port with chosen := none }).descriptorBad (ref / 4) (ref % 4) cls = false)) ∧
  (∃ (t : Nat) (port : Nat) (ref : Nat) (cls : Nat) (h : TapPkt) (r : State) (s : State), (s = r.land t) ∧ (s.cellar.safe = false) ∧ ((s.sched port).chosen = none) ∧ ((s.sched port).busyUntil ≤ s.now + ceilDiv 512 (modeGbps (s.portMode port))) ∧ ((s.portChoose port).2 = some (ref, cls, h)) ∧ (cls ≠ 3) ∧ (((s.portChoose port).1.choose port ref cls h).now < (((s.portChoose port).1.choose port ref cls h).sched port).busyUntil)) ∧
  (∃ (t : Nat) (port : Nat) (ref : Nat) (h : TapPkt) (r : State) (s : State), (s = r.land t) ∧ (s.cellar.safe = false) ∧ ((s.sched port).chosen = none) ∧ ((s.sched port).busyUntil ≤ s.now + ceilDiv 512 (modeGbps (s.portMode port))) ∧ ((s.portChoose port).2 = some (ref, 3, h)) ∧ ((s.portChoose port).1.portHier port = false) ∧ (((s.portChoose port).1.monitorShort port h).2 = true) ∧ (((((s.portChoose port).1.monitorShort port h).1.discardHead port ref 3 h).sched port).chosen = none)) ∧
  (∃ (t : Nat) (port : Nat) (r : State) (s : State), (s = r.land t) ∧ (s.cellar.safe = false) ∧ ((s.sched port).chosen = none) ∧ ((s.sched port).busyUntil ≤ s.now + ceilDiv 512 (modeGbps (s.portMode port))) ∧ ((s.portChoose port).2 = none) ∧ ((((s.portChoose port).1.setSched port { (s.portChoose port).1.sched port with idle := true }).sched port).chosen = none)) ∧
  (∃ (t : Nat) (port : Nat) (r : State) (s : State), (s = r.land t) ∧ (s.portHier port = true)) ∧
  (∃ (t : Nat) (port : Nat) (r : State) (s : State), (s = r.land t) ∧ (s.portHier port = true) ∧ ((s.sched port).idle = true)) ∧
  (∃ (t : Nat) (data : Bytes) (r : State) (s : State), (s = r.land t) ∧ (s.cellar.safe = false)) ∧
  (∃ (t : Nat) (tap : Nat) (k : Nat) (ssrc : Nat) (es : Nat) (r : State) (s : State), (s = r.land t) ∧ (s.inGap = false) ∧ (s.sets.bright.tapEn tap = true) ∧ (bit (s.sets.bright.tap tap 0) 6 = true) ∧ (s.ctime.frame % s.sets.bright.nat Obj.tapSrFrames = 0) ∧ ((s.tapAt tap).srFrame ≠ some s.ctime.frame) ∧ (s.tapSource tap s.ctime.frame = some (k, ssrc, es))) := by
  refine ⟨?_, ?_, ?_, ?_, ?_, ?_, ?_, ?_⟩
  · refine ⟨5, 0, 12, 0, aTapPkt, (State.land 5 rTapOut).portDecide 0, rTapOut, _, rfl, ?_⟩
    refine ⟨?_, ?_, ?_, ?_, ?_, ?_⟩ <;> first | decide +kernel | rfl
  · refine ⟨5, 0, 12, 0, aTapPkt, rTapOut.setSched 0 { rTapOut.sched 0 with busyUntil := 6 }, _, rfl, ?_⟩
    refine ⟨?_, ?_, ?_, ?_, ?_, ?_⟩ <;> first | decide +kernel | rfl
  · refine ⟨5, 0, 14, { aTapPkt with charge := 1 }, rMonOut, _, rfl, ?_⟩
    refine ⟨?_, ?_, ?_, ?_, ?_, ?_, ?_⟩ <;> first | decide +kernel | rfl
  · refine ⟨5, 3, r0, _, rfl, ?_⟩
    refine ⟨?_, ?_, ?_, ?_, ?_⟩ <;> first | decide +kernel | rfl
  · refine ⟨5, 3, r0.brightHas Obj.tapPortW0 3 1, _, rfl, ?_⟩
    decide +kernel
  · refine ⟨5, 3, (r0.brightHas Obj.tapPortW0 3 1).setSched 3 { PortSched.empty with idle := true }, _, rfl, ?_⟩
    refine ⟨?_, ?_⟩ <;> first | decide +kernel | rfl
  · refine ⟨5, [0x81, 201, 0, 1, 0, 0, 0, 0], r0, _, rfl, ?_⟩
    decide +kernel
  · refine ⟨5, 3, 4099, 0, 0, rReport, _, rfl, ?_⟩
    refine ⟨?_, ?_, ?_, ?_, ?_, ?_⟩ <;> first | decide +kernel | rfl

/-- The hypotheses of ScrubAndQdrCommandsTakeEffect are met. -/
theorem witness_scrubAndQdrCommandsTakeEffect :
  (∃ (t : Nat) (channel : Nat) (result : Nat) (r : State) (s : State), (s = r.land t) ∧ (channel < 12) ∧ ((s.qdr channel).state = 1)) ∧
  (∃ (t : Nat) (channel : Nat) (result : Nat) (lane : Nat) (part : Nat) (r : State) (s : State), (s = r.land t) ∧ (channel < 8) ∧ ((s.ddr channel).state = .service)) ∧
  (∃ (t : Nat) (offset : Nat) (r : State) (s : State), (s = r.land t)) ∧
  (∃ (t : Nat) (offset : Nat) (result : Nat) (r : State) (s : State), (s = r.land t) ∧ (result = 2 ∨ result = 3)) ∧
  (∃ (t : Nat) (channel : Nat) (r : State) (s : State), (s = r.land t) ∧ (channel < 12) ∧ ((s.qdr channel).state = 1)) ∧
  (∃ (t : Nat) (channel : Nat) (r : State) (s : State), (s = r.land t) ∧ (channel < 12) ∧ ((s.qdr channel).state = 1) ∧ (16 ≤ ((s.qdr channel).uncorr.filter fun a => decide (s.now < a + 1000000)).length)) ∧
  (∃ (t : Nat) (channel : Nat) (r : State) (s : State), (s = r.land t) ∧ (channel < 12) ∧ ((s.qdr channel).state = 2)) ∧
  (∃ (t : Nat) (channel : Nat) (r : State) (s : State), (s = r.land t) ∧ (channel < 12) ∧ ((s.qdr channel).state = 2)) := by
  refine ⟨?_, ?_, ?_, ?_, ?_, ?_, ?_, ?_⟩
  · refine ⟨5, 3, 1, r0.memIs fun x => { x with qdr := [(3, { QdrCh.idle with state := 1 })] }, _, rfl, ?_⟩
    refine ⟨?_, ?_⟩ <;> first | decide +kernel | rfl
  · refine ⟨5, 3, 1, 0, 0, r0.memIs fun x => { x with ddr := [(3, { DdrCh.idle with state := .service })] }, _, rfl, ?_⟩
    refine ⟨?_, ?_⟩ <;> first | decide +kernel | rfl
  · refine ⟨5, 64, r0, _, rfl⟩
  · refine ⟨5, 64, 2, r0, _, rfl, ?_⟩
    decide +kernel
  · refine ⟨5, 3, r0.memIs fun x => { x with qdr := [(3, { QdrCh.idle with state := 1 })] }, _, rfl, ?_⟩
    refine ⟨?_, ?_⟩ <;> first | decide +kernel | rfl
  · refine ⟨5, 3, r0.memIs fun x => { x with qdr := [(3, { QdrCh.idle with state := 1, uncorr := List.replicate 16 5 })] }, _, rfl, ?_⟩
    refine ⟨?_, ?_, ?_⟩ <;> first | decide +kernel | rfl
  · refine ⟨5, 3, r0.memIs fun x => { x with qdr := [(3, { QdrCh.idle with state := 2 })] }, _, rfl, ?_⟩
    refine ⟨?_, ?_⟩ <;> first | decide +kernel | rfl
  · refine ⟨5, 3, r0.memIs fun x => { x with qdr := [(3, { QdrCh.idle with state := 2 })] }, _, rfl, ?_⟩
    refine ⟨?_, ?_⟩ <;> first | decide +kernel | rfl

/-- The hypotheses of RetrainingCommandsTakeEffect are met. -/
theorem witness_retrainingCommandsTakeEffect :
  (∃ (t : Nat) (channel : Nat) (r : State) (s : State), (s = r.land t) ∧ (channel < 8) ∧ (s.val Obj.memDdRetrainS ≠ 0) ∧ ((s.ddr channel).state ≠ .retired) ∧ ((s.ddr channel).state ≠ .training) ∧ ((s.ddr channel).due = false) ∧ (retrainPeriods (giga * s.val Obj.memDdRetrainS) channel (s.ddr channel).lastRetrain < retrainPeriods (giga * s.val Obj.memDdRetrainS) channel s.now)) ∧
  (∃ (t : Nat) (c : CTime) (r : State) (s : State), (s = r.land t) ∧ (s.mem.armed = some c) ∧ (s.calTurn (pauseEntry c) = true)) ∧
  (∃ (t : Nat) (c : Nat) (since : Nat) (r : State) (s : State), (s = r.land t) ∧ (s.mem.pause = some (16 + c, since)) ∧ ((s.ddr c).retiring = false)) ∧
  (∃ (t : Nat) (c : Nat) (since : Nat) (r : State) (s : State), (s = r.land t) ∧ (s.mem.pause = some (16 + c, since))) ∧
  (∃ (t : Nat) (who : Path) (v : Nat) (r : State) (s : State), (s = (r.land t).accessed who) ∧ (s.writeRefusal who Obj.memRetrain 0 (.num v) = none) ∧ (v < 12)) ∧
  (∃ (t : Nat) (who : Path) (v : Nat) (r : State) (s : State), (s = (r.land t).accessed who) ∧ (s.writeRefusal who Obj.memRetrain 0 (.num v) = none) ∧ (16 ≤ v) ∧ (v < 24)) ∧
  (∃ (t : Nat) (channel : Nat) (r : State) (s : State), (s = r.land t) ∧ (channel < 8) ∧ ((s.ddr channel).state = .service) ∧ (s.ddrMayIdle = true) ∧ ((s.ddr channel).lastRequest + 1000 * s.val Obj.memDdSrIdleUs ≤ s.now)) ∧
  (∃ (t : Nat) (channel : Nat) (r : State) (s : State), (s = r.land t) ∧ (channel < 8) ∧ ((s.ddr channel).state = .selfRefresh)) := by
  refine ⟨?_, ?_, ?_, ?_, ?_, ?_, ?_, ?_⟩
  · refine ⟨1000 * giga, 3, r0.memIs fun x => { x with ddr := [(3, { DdrCh.idle with state := .service })] }, _, rfl, ?_⟩
    refine ⟨?_, ?_, ?_, ?_, ?_, ?_⟩ <;> first | decide +kernel | rfl
  · refine ⟨giga, { frame := 0, line := 0 }, r0.memIs fun x => { x with armed := some { frame := 0, line := 0 } }, _, rfl, ?_⟩
    refine ⟨?_, ?_⟩ <;> first | decide +kernel | rfl
  · refine ⟨5, 3, 0, r0.memIs fun x => { x with pause := some (19, 0) }, _, rfl, ?_⟩
    refine ⟨?_, ?_⟩ <;> first | decide +kernel | rfl
  · refine ⟨5, 3, 0, r0.memIs fun x => { x with pause := some (19, 0) }, _, rfl, ?_⟩
    decide +kernel
  · refine ⟨5, .firmware, 3, r0, _, rfl, ?_⟩
    refine ⟨?_, ?_⟩ <;> first | decide +kernel | rfl
  · refine ⟨5, .firmware, 19, r0, _, rfl, ?_⟩
    refine ⟨?_, ?_, ?_⟩ <;> first | decide +kernel | rfl
  · refine ⟨giga, 3, r0.memIs fun x => { x with ddr := [(3, { DdrCh.idle with state := .service })] }, _, rfl, ?_⟩
    refine ⟨?_, ?_, ?_, ?_⟩ <;> first | decide +kernel | rfl
  · refine ⟨5, 3, r0.memIs fun x => { x with ddr := [(3, { DdrCh.idle with state := .selfRefresh })] }, _, rfl, ?_⟩
    refine ⟨?_, ?_⟩ <;> first | decide +kernel | rfl

/-- The hypotheses of RefreshArbitrationAndTestCommandsTakeEffect are met. -/
theorem witness_refreshArbitrationAndTestCommandsTakeEffect :
  (∃ (t : Nat) (channel : Nat) (bank : Nat) (r : State) (s : State), (s = r.land t) ∧ (channel < 8) ∧ ((s.ddr channel).state = .service ∨ (s.ddr channel).state = .paused)) ∧
  (∃ (t : Nat) (channel : Nat) (bank : Nat) (r : State) (s : State), (s = r.land t) ∧ (channel < 8) ∧ ((s.ddr channel).state = .service ∨ (s.ddr channel).state = .paused) ∧ (0 < Table.get 4 (s.ddr channel).owed bank)) ∧
  (∃ (t : Nat) (channel : Nat) (bank : Nat) (r : State) (s : State), (s = r.land t) ∧ (channel < 8) ∧ ((s.ddr channel).state = .service ∨ (s.ddr channel).state = .paused) ∧ (Table.get 4 (s.ddr channel).owed bank < 8)) ∧
  (∃ (t : Nat) (channel : Nat) (hot : Bool) (r : State) (s : State), (s = r.land t) ∧ (channel < 8)) ∧
  (∃ (t : Nat) (channel : Nat) (bank : Nat) (r : State) (s : State), (s = r.land t) ∧ (channel < 8) ∧ (((s.ddr channel).openRows.any fun p => p.1 == bank) = true) ∧ (Table.get 0 (s.ddr channel).accessed bank + s.val Obj.memDdPageIdleNs ≤ s.now)) ∧
  (∃ (t : Nat) (channel : Nat) (requests : List Nat) (panic : Bool) (emergency : Bool) (beat : ChannelBeat) (r : State) (s : State), (s = r.land t) ∧ (channel < 12 ∨ (16 ≤ channel ∧ channel < 24))) ∧
  (∃ (t : Nat) (who : Path) (row : Nat) (v : Nat) (r : State) (s : State), (s = (r.land t).accessed who) ∧ (s.writeRefusal who Obj.memArbPrio row (.num v) = none)) ∧
  (∃ (t : Nat) (who : Path) (v : Nat) (r : State) (s : State), (s = (r.land t).accessed who) ∧ (s.writeRefusal who Obj.memGrSelftest 0 (.num v) = none) ∧ (((List.range 32).any fun b => s.bank b == .draining || s.bank b == .testing) = false) ∧ (s.bank v ≠ .retired)) ∧
  (∃ (t : Nat) (bank : Nat) (r : State) (s : State), (s = r.land t) ∧ (bank < 32) ∧ (s.bank bank = .draining) ∧ ((s.mem.staging.any fun l => l.bank == bank) = false)) ∧
  (∃ (t : Nat) (bank : Nat) (passed : Bool) (r : State) (s : State), (s = r.land t) ∧ (bank < 32) ∧ (s.bank bank = .testing) ∧ (s.mem.testFrom + 2000000 ≤ s.now)) := by
  refine ⟨?_, ?_, ?_, ?_, ?_, ?_, ?_, ?_, ?_, ?_⟩
  · refine ⟨5, 3, 1, r0.memIs fun x => { x with ddr := [(3, { DdrCh.idle with state := .service })] }, _, rfl, ?_⟩
    refine ⟨?_, ?_⟩ <;> first | decide +kernel | rfl
  · refine ⟨5, 3, 1, r0.memIs fun x => { x with ddr := [(3, { DdrCh.idle with state := .service })] }, _, rfl, ?_⟩
    refine ⟨?_, ?_, ?_⟩ <;> first | decide +kernel | rfl
  · refine ⟨5, 3, 1, r0.memIs fun x => { x with ddr := [(3, { DdrCh.idle with state := .service })] }, _, rfl, ?_⟩
    refine ⟨?_, ?_, ?_⟩ <;> first | decide +kernel | rfl
  · refine ⟨5, 3, true, r0, _, rfl, ?_⟩
    decide +kernel
  · refine ⟨giga, 3, 1, r0.memIs fun x => { x with ddr := [(3, { DdrCh.idle with openRows := [(1, 7)] })] }, _, rfl, ?_⟩
    refine ⟨?_, ?_, ?_⟩ <;> first | decide +kernel | rfl
  · refine ⟨5, 3, [8, 9], false, false, ⟨0, false, [], none, 4⟩, r0, _, rfl, ?_⟩
    decide +kernel
  · refine ⟨5, .firmware, 3, 2, r0, _, rfl, ?_⟩
    decide +kernel
  · refine ⟨5, .firmware, 3, r0, _, rfl, ?_⟩
    refine ⟨?_, ?_, ?_⟩ <;> first | decide +kernel | rfl
  · refine ⟨5, 3, r0.memIs fun x => { x with banks := [(3, .draining)] }, _, rfl, ?_⟩
    refine ⟨?_, ?_, ?_⟩ <;> first | decide +kernel | rfl
  · refine ⟨2000000, 3, true, r0.memIs fun x => { x with banks := [(3, .testing)] }, _, rfl, ?_⟩
    refine ⟨?_, ?_, ?_⟩ <;> first | decide +kernel | rfl

/-- The hypotheses of SpargeCommandsTakeEffect are met, part 1. -/
theorem witness_spargeCommandsTakeEffect_1 :
  (∃ (t : Nat) (channel : Nat) (words : List Nat) (r : State) (s : State), (s = r.land t) ∧ (channel < 32) ∧ ((s.spargeCh channel).isFree = true) ∧ (bit (words.getD 0 0) 0 = true) ∧ (s.spargeFormat words = false)) ∧
  (∃ (t : Nat) (channel : Nat) (words : List Nat) (r : State) (s : State), (s = r.land t) ∧ (channel < 32) ∧ ((s.spargeCh channel).isFree = true) ∧ (bit (words.getD 0 0) 0 = true) ∧ (s.spargeFormat words = true)) ∧
  (∃ (t : Nat) (source : Nat) (r : State) (s : State), (s = r.land t)) ∧
  (∃ (t : Nat) (asserted : List Nat) (c : Nat) (r : State) (s : State), (s = r.land t) ∧ (s.spargeChoose s.spargeReady = some c) ∧ ((s.spargeCh c).req = 0 ∨ asserted.contains (s.spargeCh c).req = true)) ∧
  (∃ (t : Nat) (channel : Nat) (timeout : Bool) (r : State) (s : State), (s = r.land t) ∧ ((s.spargeCh channel).state = .run) ∧ ((s.spargeCh channel).flight.isSome = true) ∧ (0 < (((s.count Obj.spgBusErrs).spargeUndo channel).spargeCh channel).retriesLeft)) ∧
  (∃ (t : Nat) (channel : Nat) (timeout : Bool) (r : State) (s : State), (s = r.land t) ∧ ((s.spargeCh channel).state = .run) ∧ ((s.spargeCh channel).flight.isSome = true) ∧ ((((s.count Obj.spgBusErrs).spargeUndo channel).spargeCh channel).retriesLeft = 0)) ∧
  (∃ (t : Nat) (channel : Nat) (r : State) (s : State), (s = r.land t) ∧ ((s.spargeCh channel).state = .retry) ∧ ((s.spargeCh channel).failedAt + 1000 ≤ s.now)) ∧
  (∃ (t : Nat) (channel : Nat) (r : State) (s : State), (s = r.land t) ∧ ((s.spargeCh channel).state = .run) ∧ ((spargeDest (s.spargeCh channel).words).total ≤ (s.spargeCh channel).writePos)) ∧
  (∃ (t : Nat) (channel : Nat) (r : State) (s : State), (s = r.land t) ∧ ((s.spargeCh channel).state = .halted)) ∧
  (∃ (t : Nat) (channel : Nat) (r : State) (s : State), (s = r.land t) ∧ ((s.spargeCh channel).state ≠ .idle)) := by
  refine ⟨?_, ?_, ?_, ?_, ?_, ?_, ?_, ?_, ?_, ?_⟩
  · refine ⟨5, 3, [1, 0, 0, 0, 1048576, 0, 0, 0], r0, _, rfl, ?_⟩
    refine ⟨?_, ?_, ?_, ?_⟩ <;> first | decide +kernel | rfl
  · refine ⟨5, 3, [1 + 65536, 0, 0, 0, 0, 0, 0, 0], r0, _, rfl, ?_⟩
    refine ⟨?_, ?_, ?_, ?_⟩ <;> first | decide +kernel | rfl
  · refine ⟨5, 3, r0, _, rfl⟩
  · refine ⟨5, [], 3, r0.spargeIs fun x => { x with channels := [(3, { SpargeChannel.idle with state := .run, words := [1, 0, 0, 0, 1048576, 0, 0, 0] })] }, _, rfl, ?_⟩
    refine ⟨?_, ?_⟩ <;> first | decide +kernel | rfl
  · refine ⟨5, 3, true, aBurst 2, _, rfl, ?_⟩
    refine ⟨?_, ?_, ?_⟩ <;> first | decide +kernel | rfl
  · refine ⟨5, 3, true, aBurst 0, _, rfl, ?_⟩
    refine ⟨?_, ?_, ?_⟩ <;> first | decide +kernel | rfl
  · refine ⟨1000, 3, r0.spargeIs fun x => { x with channels := [(3, { SpargeChannel.idle with state := .retry })] }, _, rfl, ?_⟩
    refine ⟨?_, ?_⟩ <;> first | decide +kernel | rfl
  · refine ⟨5, 3, r0.spargeIs fun x => { x with channels := [(3, { SpargeChannel.idle with state := .run, writePos := 5 })] }, _, rfl, ?_⟩
    refine ⟨?_, ?_⟩ <;> first | decide +kernel | rfl
  · refine ⟨5, 3, r0.spargeIs fun x => { x with channels := [(3, { SpargeChannel.idle with state := .halted })] }, _, rfl, ?_⟩
    decide +kernel
  · refine ⟨5, 3, r0.spargeIs fun x => { x with channels := [(3, { SpargeChannel.idle with state := .halted })] }, _, rfl, ?_⟩
    decide +kernel

end Sys2Proof.Machine
end

