-- ==== Sys2Proof/Tests/Witnesses3.lean ====
section
/-! SUPPORT. For every statement with hypotheses, states and operands that meet the hypotheses of each of its clauses together
(part 3 of 4). -/
set_option Elab.async false
namespace Sys2Proof.Machine

set_option maxRecDepth 4000
set_option linter.unusedVariables false
set_option linter.unreachableTactic false
set_option linter.unusedTactic false

/-- The hypotheses of SpargeCommandsTakeEffect are met, part 2. -/
theorem witness_spargeCommandsTakeEffect_2 :
  (∃ (t : Nat) (who : Path) (data : Bytes) (r : State) (s : State), (s = (r.land t).accessed who) ∧ (s.writeRefusal who Obj.spgDiagDesc 0 (.bytes data) = none) ∧ (reservedWords (wordsOf data) = false) ∧ ((spargeSource (wordsOf data)).inWindow = true) ∧ ((spargeDest (wordsOf data)).inWindow = true) ∧ ((s.spargeCh 31).isFree = true)) := by
  · refine ⟨5, .firmware, (diagWords.flatMap (bytesBE 8)), r0, _, rfl, ?_⟩
    refine ⟨?_, ?_, ?_, ?_, ?_⟩ <;> decide +kernel

/-- The hypotheses of KegCommandsTakeEffect are met. -/
theorem witness_kegCommandsTakeEffect :
  (∃ (t : Nat) (port : Nat) (size : Nat) (spill : Bool) (cycle : KegCycle) (r : State) (s : State), (s = r.land t)) ∧
  (∃ (t : Nat) (port : Nat) (pool : Nat) (ecc : Nat) (r : State) (s : State), (s = r.land t) ∧ ((s.kegCompeting pool).any (fun q => q.port == port) = true)) ∧
  (∃ (t : Nat) (port : Nat) (handle : Nat) (ecc : Nat) (r : State) (s : State), (s = r.land t) ∧ (s.handleValid handle = true) ∧ (s.kegWithdrawn handle = false) ∧ (s.kegUses handle ≠ 0) ∧ (ecc ≠ 2)) ∧
  (∃ (t : Nat) (port : Nat) (handle : Nat) (ecc : Nat) (r : State) (s : State), (s = r.land t) ∧ (s.handleValid handle = true) ∧ (s.kegWithdrawn handle = false) ∧ (s.kegUses handle = 0) ∧ (ecc ≠ 2)) ∧
  (∃ (t : Nat) (port : Nat) (handle : Nat) (ecc : Nat) (r : State) (s : State), (s = r.land t) ∧ (s.handleValid handle = false)) ∧
  (∃ (t : Nat) (port : Nat) (handle : Nat) (ecc : Nat) (r : State) (s : State), (s = r.land t) ∧ (s.handleValid handle = true) ∧ (s.kegWithdrawn handle = false) ∧ (s.kegUses handle ≠ 0) ∧ (ecc ≠ 2) ∧ (s.kegUses handle < 15)) ∧
  (∃ (t : Nat) (port : Nat) (handle : Nat) (ecc : Nat) (r : State) (s : State), (s = r.land t) ∧ (s.handleValid handle = true) ∧ (s.kegWithdrawn handle = false) ∧ (15 ≤ s.kegUses handle) ∧ (ecc ≠ 2)) := by
  refine ⟨?_, ?_, ?_, ?_, ?_, ?_, ?_⟩
  · refine ⟨5, 2, 100, true, ⟨0, []⟩, r0, _, rfl⟩
  · refine ⟨5, 2, 1, 0, r0.kegIs fun x => { x with waiting := [{ port := 2, pool := 1, spill := true, spilled := true, since := 1, first := 0, born := 0 }] }, _, rfl, ?_⟩
    decide +kernel
  · refine ⟨5, 2, 3, 0, r0.kegIs fun x => { x with uses := [(3, 1)] }, _, rfl, ?_⟩
    refine ⟨?_, ?_, ?_, ?_⟩ <;> first | decide +kernel | rfl
  · refine ⟨5, 2, 3, 0, r0, _, rfl, ?_⟩
    refine ⟨?_, ?_, ?_, ?_⟩ <;> first | decide +kernel | rfl
  · refine ⟨5, 2, 16777215, 0, r0, _, rfl, ?_⟩
    decide +kernel
  · refine ⟨5, 2, 3, 0, r0.kegIs fun x => { x with uses := [(3, 1)] }, _, rfl, ?_⟩
    refine ⟨?_, ?_, ?_, ?_, ?_⟩ <;> first | decide +kernel | rfl
  · refine ⟨5, 2, 3, 0, r0.kegIs fun x => { x with uses := [(3, 15)] }, _, rfl, ?_⟩
    refine ⟨?_, ?_, ?_, ?_⟩ <;> first | decide +kernel | rfl

/-- The hypotheses of WortCommandsTakeEffect are met. -/
theorem witness_wortCommandsTakeEffect :
  (∃ (t : Nat) (line : Nat) (words : List Nat) (r : State) (s : State), (s = r.land t) ∧ (line < 128) ∧ (1 ≤ words.length) ∧ (words.length ≤ 8) ∧ (wortDropMode line = false) ∧ ((s.wortLine line).waiting = []) ∧ ((s.wortLine line).fill + words.length ≤ wortDepth line)) ∧
  (∃ (t : Nat) (line : Nat) (words : List Nat) (r : State) (s : State), (s = r.land t) ∧ (line < 128) ∧ (1 ≤ words.length) ∧ (words.length ≤ 8) ∧ (wortDropMode line = true) ∧ ((s.wortLine line).flushing = false) ∧ (wortDepth line ≤ (s.wortLine line).fill + words.length)) ∧
  (∃ (t : Nat) (line : Nat) (words : List Nat) (r : State) (s : State), (s = r.land t) ∧ (line < 128) ∧ (1 ≤ words.length) ∧ (words.length ≤ 8) ∧ (wortDropMode line = true) ∧ ((s.wortLine line).flushing = true)) ∧
  (∃ (t : Nat) (line : Nat) (ecc : Nat) (m : WortMsg) (rest : List WortMsg) (r : State) (s : State), (s = r.land t) ∧ ((s.wortLine line).msgs = m :: rest) ∧ (ecc ≠ 1) ∧ (ecc ≠ 2)) ∧
  (∃ (t : Nat) (who : Path) (line : Nat) (r : State) (s : State), (s = (r.land t).accessed who) ∧ (s.writeRefusal who Obj.wrtFlush line (.num 1) = none) ∧ (wortDropMode line = true) ∧ ((s.wortLine line).flushing = false)) ∧
  (∃ (t : Nat) (who : Path) (line : Nat) (r : State) (s : State), (s = (r.land t).accessed who) ∧ (s.writeRefusal who Obj.wrtFlush line (.num 0) = none) ∧ (wortDropMode line = true) ∧ ((s.wortLine line).flushing = true)) := by
  refine ⟨?_, ?_, ?_, ?_, ?_, ?_⟩
  · refine ⟨5, 3, [7], r0, _, rfl, ?_⟩
    refine ⟨?_, ?_, ?_, ?_, ?_, ?_⟩ <;> first | decide +kernel | rfl
  · refine ⟨5, 100, [7], r0.setWort 100 { WortLine.empty with msgs := [{ words := List.replicate 512 0, marker := false, bad := false }] }, _, rfl, ?_⟩
    refine ⟨?_, ?_, ?_, ?_, ?_, ?_⟩ <;> first | decide +kernel | rfl
  · refine ⟨5, 100, [7], r0.setWort 100 { WortLine.empty with flushing := true }, _, rfl, ?_⟩
    refine ⟨?_, ?_, ?_, ?_, ?_⟩ <;> first | decide +kernel | rfl
  · refine ⟨5, 3, 0, { words := [7], marker := false, bad := false }, [], r0.setWort 3 { WortLine.empty with msgs := [{ words := [7], marker := false, bad := false }] }, _, rfl, ?_⟩
    refine ⟨?_, ?_, ?_⟩ <;> first | decide +kernel | rfl
  · refine ⟨5, .firmware, 100, r0, _, rfl, ?_⟩
    refine ⟨?_, ?_, ?_⟩ <;> first | decide +kernel | rfl
  · refine ⟨5, .firmware, 100, r0.setWort 100 { WortLine.empty with flushing := true }, _, rfl, ?_⟩
    refine ⟨?_, ?_, ?_⟩ <;> first | decide +kernel | rfl

/-- The hypotheses of FaultCollectionCommandsTakeEffect are met. -/
theorem witness_faultCollectionCommandsTakeEffect :
  (∃ (t : Nat) (parity : Bool) (line : Nat) (m : WortMsg) (rest : List WortMsg) (r : State) (s : State), (s = r.land t) ∧ (s.nextFaultLine = some line) ∧ ((s.wortLine line).msgs = m :: rest) ∧ (m.bad = false)) ∧
  (∃ (t : Nat) (parity : Bool) (line : Nat) (m : WortMsg) (rest : List WortMsg) (r : State) (s : State), (s = r.land t) ∧ (s.nextFaultLine = some line) ∧ (((s.wortEcc line 2).wortLine line).msgs = m :: rest) ∧ (m.bad = true)) ∧
  (∃ (t : Nat) (r : State) (s : State), (s = r.land t) ∧ (s.cellar.lastSelftest + giga * s.val Obj.cwtSelftestS ≤ s.now)) ∧
  (∃ (t : Nat) (r : State) (s : State), (s = r.land t) ∧ (s.cellar.lastSelftest + giga * s.val Obj.cwtSelftestS ≤ s.now)) ∧
  (∃ (t : Nat) (m : FaultMsg) (r : State) (s : State), (s = r.land t) ∧ (s.cellar.safeSignal = some m)) ∧
  (∃ (t : Nat) (who : Path) (v : Nat) (r : State) (s : State), (s = (r.land t).accessed who) ∧ (s.writeRefusal who Obj.cwtSafeEnter 0 (.num v) = none)) := by
  refine ⟨?_, ?_, ?_, ?_, ?_, ?_⟩
  · refine ⟨5, false, 83, { words := [0, 0], marker := false, bad := false }, [], r0.setWort 83 { WortLine.empty with msgs := [{ words := [0, 0], marker := false, bad := false }] }, _, rfl, ?_⟩
    refine ⟨?_, ?_, ?_⟩ <;> first | decide +kernel | rfl
  · refine ⟨5, false, 83, { words := [0, 0], marker := false, bad := true }, [], r0.setWort 83 { WortLine.empty with msgs := [{ words := [0, 0], marker := false, bad := false }] }, _, rfl, ?_⟩
    refine ⟨?_, ?_, ?_⟩ <;> first | decide +kernel | rfl
  · refine ⟨1000000 * giga, r0, _, rfl, ?_⟩
    decide +kernel
  · refine ⟨1000000 * giga, r0, _, rfl, ?_⟩
    decide +kernel
  · refine ⟨5, faultMsg 0x010 .safeCommanded 0 0, r0.cellarIs fun x => { x with safeSignal := some (faultMsg 0x010 .safeCommanded 0 0) }, _, rfl, ?_⟩
    decide +kernel
  · refine ⟨5, .firmware, 1, r0, _, rfl, ?_⟩
    decide +kernel

/-- The hypotheses of LatchAndInjectionCommandsTakeEffect are met, part 1. -/
theorem witness_latchAndInjectionCommandsTakeEffect_1 :
  (∃ (t : Nat) (who : Path) (r : State) (s : State), (s = (r.land t).accessed who) ∧ (s.writeRefusal who Obj.cwtClear 0 (.num 1) = none)) ∧
  (∃ (t : Nat) (who : Path) (r : State) (s : State), (s = (r.land t).accessed who) ∧ (s.writeRefusal who Obj.cwtClear 0 (.num 2) = none)) ∧
  (∃ (t : Nat) (who : Path) (cls : Nat) (r : State) (s : State), (s = (r.land t).accessed who) ∧ (s.writeRefusal who Obj.cwtAck 0 (.num ((2 ^ cls : Nat) : Int)) = none) ∧ (cls < 7)) ∧
  (∃ (t : Nat) (who : Path) (r : State) (s : State), (s = (r.land t).accessed who) ∧ (s.writeRefusal who Obj.cwtAck 0 (.num 128) = none)) ∧
  (∃ (t : Nat) (who : Path) (data : Bytes) (r : State) (s : State), (s = (r.land t).accessed who) ∧ (s.writeRefusal who Obj.cwtInject 0 (.bytes (data ++ [0])) = none) ∧ (data.length = 12) ∧ ((FaultMsg.ofBytes data).reserved = 0) ∧ ((FaultMsg.ofBytes data).valid = true) ∧ (s.trust.lifecycle = 1)) ∧
  (∃ (t : Nat) (who : Path) (data : Bytes) (r : State) (s : State), (s = (r.land t).accessed who) ∧ (s.writeRefusal who Obj.cwtInject 0 (.bytes (data ++ [1])) = none) ∧ (data.length = 12) ∧ ((FaultMsg.ofBytes data).reserved = 0) ∧ ((FaultMsg.ofBytes data).valid = true) ∧ (s.trust.lifecycle = 1)) ∧
  (∃ (t : Nat) (who : Path) (target : Nat) (r : State) (s : State), (s = (r.land t).accessed who) ∧ (s.writeRefusal who Obj.cwtForce 0 (.num ((1 + 256 * target : Nat) : Int)) = none) ∧ (target < 64) ∧ (s.trust.lifecycle = 1 ∨ s.trust.lifecycle = 2) ∧ (s.cellar.force = none) ∧ ((s.tun target).task.isNone = false)) ∧
  (∃ (t : Nat) (who : Path) (target : Nat) (r : State) (s : State), (s = (r.land t).accessed who) ∧ (s.writeRefusal who Obj.cwtForce 0 (.num ((1 + 256 * target : Nat) : Int)) = none) ∧ (target < 64) ∧ (s.trust.lifecycle = 1 ∨ s.trust.lifecycle = 2) ∧ (s.cellar.force = none) ∧ ((s.tun target).task.isNone = true)) ∧
  (∃ (t : Nat) (who : Path) (target : Nat) (r : State) (s : State), (s = (r.land t).accessed who) ∧ (s.writeRefusal who Obj.cwtForce 0 (.num ((2 + 256 * target : Nat) : Int)) = none) ∧ (target < 96) ∧ (s.trust.lifecycle = 1 ∨ s.trust.lifecycle = 2) ∧ (s.cellar.force = none)) ∧
  (∃ (t : Nat) (who : Path) (target : Nat) (r : State) (s : State), (s = (r.land t).accessed who) ∧ (s.writeRefusal who Obj.cwtForce 0 (.num ((3 + 256 * target : Nat) : Int)) = none) ∧ (target < 48) ∧ (s.trust.lifecycle = 1 ∨ s.trust.lifecycle = 2) ∧ (s.cellar.force = none)) := by
  refine ⟨?_, ?_, ?_, ?_, ?_, ?_, ?_, ?_, ?_, ?_⟩
  · refine ⟨5, .firmware, r0, _, rfl, ?_⟩
    decide +kernel
  · refine ⟨5, .firmware, r0, _, rfl, ?_⟩
    decide +kernel
  · refine ⟨5, .firmware, 3, r0, _, rfl, ?_⟩
    refine ⟨?_, ?_⟩ <;> first | decide +kernel | rfl
  · refine ⟨5, .firmware, r0, _, rfl, ?_⟩
    decide +kernel
  · refine ⟨5, .firmware, aFault, rMan, _, rfl, ?_⟩
    refine ⟨?_, ?_, ?_, ?_, ?_⟩ <;> first | decide +kernel | rfl
  · refine ⟨5, .firmware, aFault, rMan, _, rfl, ?_⟩
    refine ⟨?_, ?_, ?_, ?_, ?_⟩ <;> first | decide +kernel | rfl
  · refine ⟨5, .firmware, 2, rTask, _, rfl, ?_⟩
    refine ⟨?_, ?_, ?_, ?_, ?_⟩ <;> first | decide +kernel | rfl
  · refine ⟨5, .firmware, 2, r0, _, rfl, ?_⟩
    refine ⟨?_, ?_, ?_, ?_, ?_⟩ <;> first | decide +kernel | rfl
  · refine ⟨5, .firmware, 2, r0, _, rfl, ?_⟩
    refine ⟨?_, ?_, ?_, ?_⟩ <;> first | decide +kernel | rfl
  · refine ⟨5, .firmware, 2, r0, _, rfl, ?_⟩
    refine ⟨?_, ?_, ?_, ?_⟩ <;> first | decide +kernel | rfl

/-- The hypotheses of LatchAndInjectionCommandsTakeEffect are met, part 2. -/
theorem witness_latchAndInjectionCommandsTakeEffect_2 :
  (∃ (t : Nat) (who : Path) (r : State) (s : State), (s = (r.land t).accessed who) ∧ (s.writeRefusal who Obj.cwtForce 0 (.num ((4 + 256 * 0 : Nat) : Int)) = none) ∧ (s.trust.lifecycle = 1 ∨ s.trust.lifecycle = 2) ∧ (s.cellar.force = none)) ∧
  (∃ (t : Nat) (who : Path) (r : State) (s : State), (s = (r.land t).accessed who) ∧ (s.writeRefusal who Obj.cwtForce 0 (.num ((5 + 256 * 0 : Nat) : Int)) = none) ∧ (s.trust.lifecycle = 1 ∨ s.trust.lifecycle = 2) ∧ (s.cellar.force = none)) := by
  refine ⟨?_, ?_⟩
  · refine ⟨5, .firmware, r0, _, rfl, ?_⟩
    refine ⟨?_, ?_, ?_⟩ <;> first | decide +kernel | rfl
  · refine ⟨5, .firmware, r0, _, rfl, ?_⟩
    refine ⟨?_, ?_, ?_⟩ <;> first | decide +kernel | rfl

/-- The hypotheses of InterruptAndLogCommandsTakeEffect are met, part 1. -/
theorem witness_interruptAndLogCommandsTakeEffect_1 :
  (∃ (t : Nat) (who : Path) (row : Nat) (v : Nat) (r : State) (s : State), (s = (r.land t).accessed who) ∧ (s.writeRefusal who Obj.icuSrc row (.num v) = none)) ∧
  (∃ (t : Nat) (who : Path) (id : Nat) (r : State) (s : State), (s = (r.land t).accessed who) ∧ (s.accessRefusal who Obj.icuExtClaim 0 false = none) ∧ (s.extBest = some id)) ∧
  (∃ (t : Nat) (who : Path) (r : State) (s : State), (s = (r.land t).accessed who) ∧ (s.accessRefusal who Obj.icuExtClaim 0 false = none) ∧ (s.extBest = none)) ∧
  (∃ (t : Nat) (who : Path) (v : Nat) (r : State) (s : State), (s = (r.land t).accessed who) ∧ (s.writeRefusal who Obj.icuExtEoi 0 (.num v) = none) ∧ (s.icu.external.claimed.contains v = true)) ∧
  (∃ (t : Nat) (who : Path) (v : Nat) (r : State) (s : State), (s = (r.land t).accessed who) ∧ (s.writeRefusal who Obj.icuExtEoi 0 (.num v) = none) ∧ (s.icu.external.claimed.contains v = false)) ∧
  (∃ (t : Nat) (who : Path) (row : Nat) (v : Nat) (r : State) (s : State), (s = (r.land t).accessed who) ∧ (s.writeRefusal who Obj.icuExtMask row (.num v) = none)) ∧
  (∃ (t : Nat) (who : Path) (row : Nat) (v : Nat) (r : State) (s : State), (s = (r.land t).accessed who) ∧ (s.writeRefusal who Obj.icuExtStorm row (.num v) = none)) ∧
  (∃ (t : Nat) (r : State) (s : State), (s = r.land t)) ∧
  (∃ (t : Nat) (r : State) (s : State), (s = r.land t)) ∧
  (∃ (t : Nat) (line : Nat) (m : WortMsg) (rest : List WortMsg) (r : State) (s : State), (s = r.land t) ∧ (s.nextLogLine = some line) ∧ ((s.wortLine line).msgs = m :: rest) ∧ (m.marker = false)) := by
  refine ⟨?_, ?_, ?_, ?_, ?_, ?_, ?_, ?_, ?_, ?_⟩
  · refine ⟨5, .firmware, 20, 1, r0, _, rfl, ?_⟩
    decide +kernel
  · refine ⟨5, .firmware, 20, rPolled, _, rfl, ?_⟩
    refine ⟨?_, ?_⟩ <;> first | decide +kernel | rfl
  · refine ⟨5, .firmware, r0, _, rfl, ?_⟩
    refine ⟨?_, ?_⟩ <;> first | decide +kernel | rfl
  · refine ⟨5, .firmware, 20, r0.icuIs fun x => { x with external := { x.external with claimed := [20], stack := [3] } }, _, rfl, ?_⟩
    refine ⟨?_, ?_⟩ <;> first | decide +kernel | rfl
  · refine ⟨5, .firmware, 20, r0, _, rfl, ?_⟩
    refine ⟨?_, ?_⟩ <;> first | decide +kernel | rfl
  · refine ⟨5, .firmware, 2, 7, r0, _, rfl, ?_⟩
    decide +kernel
  · refine ⟨5, .firmware, 2, 0, r0, _, rfl, ?_⟩
    decide +kernel
  · refine ⟨5, r0, _, rfl⟩
  · refine ⟨5, r0, _, rfl⟩
  · refine ⟨5, 99, { words := [0, 0, 0, 0], marker := false, bad := false }, [], r0.setWort 99 { WortLine.empty with msgs := [{ words := [0, 0, 0, 0], marker := false, bad := false }] }, _, rfl, ?_⟩
    refine ⟨?_, ?_, ?_⟩ <;> first | decide +kernel | rfl

/-- The hypotheses of InterruptAndLogCommandsTakeEffect are met, part 2. -/
theorem witness_interruptAndLogCommandsTakeEffect_2 :
  (∃ (t : Nat) (line : Nat) (m : WortMsg) (rest : List WortMsg) (r : State) (s : State), (s = r.land t) ∧ (s.nextLogLine = some line) ∧ ((s.wortLine line).msgs = m :: rest) ∧ (m.marker = true)) ∧
  (∃ (t : Nat) (who : Path) (v : Nat) (r : State) (s : State), (s = (r.land t).accessed who) ∧ (s.writeRefusal who Obj.logMark 0 (.num v) = none)) ∧
  (∃ (t : Nat) (r : State) (s : State), (s = r.land t) ∧ (s.brew.ckptDue = true ∨ s.brew.lastCkpt + giga * s.val Obj.logCkptS ≤ s.now)) ∧
  (∃ (t : Nat) (r : State) (s : State), (s = r.land t) ∧ (s.brew.ckptDue = true ∨ s.brew.lastCkpt + giga * s.val Obj.logCkptS ≤ s.now)) := by
  refine ⟨?_, ?_, ?_, ?_⟩
  · refine ⟨5, 99, { words := [3], marker := true, bad := false }, [], r0.setWort 99 { WortLine.empty with msgs := [{ words := [3], marker := true, bad := false }] }, _, rfl, ?_⟩
    refine ⟨?_, ?_, ?_⟩ <;> first | decide +kernel | rfl
  · refine ⟨5, .firmware, 7, r0, _, rfl, ?_⟩
    decide +kernel
  · refine ⟨5, r0.brewIs fun x => { x with ckptDue := true }, _, rfl, ?_⟩
    decide +kernel
  · refine ⟨5, r0.brewIs fun x => { x with ckptDue := true }, _, rfl, ?_⟩
    decide +kernel

/-- The hypotheses of ImageCommandsTakeEffect are met, part 1. -/
theorem witness_imageCommandsTakeEffect_1 :
  (∃ (t : Nat) (who : Path) (image : Bytes) (r : State) (s : State), (s = (r.land t).accessed who) ∧ (s.writeRefusal who Obj.secImage 0 (.bytes image) = none) ∧ (s.trust.lifecycle ≠ 3) ∧ (s.verifierBusy = false)) ∧
  (∃ (t : Nat) (stored : Bool) (job : ImageJob) (r : State) (s : State), (s = r.land t) ∧ (s.trust.checking = some job) ∧ (job.sec = true)) ∧
  (∃ (t : Nat) (stored : Bool) (job : ImageJob) (r : State) (s : State), (s = r.land t) ∧ (s.trust.checking = some job) ∧ (job.sec = false)) ∧
  (∃ (t : Nat) (b : Bytes) (r : State) (s : State), (s = r.land t) ∧ (s.acceptedOf 2 = some b)) ∧
  (∃ (t : Nat) (b : Bytes) (r : State) (s : State), (s = r.land t) ∧ (s.acceptedOf 3 = some b)) ∧
  (∃ (t : Nat) (b : Bytes) (r : State) (s : State), (s = r.land t) ∧ (s.acceptedOf 4 = some b)) ∧
  (∃ (t : Nat) (b : Bytes) (r : State) (s : State), (s = r.land t) ∧ (s.acceptedOf 5 = some b)) ∧
  (∃ (t : Nat) (slot : Nat) (r : State) (s : State), (s = r.land t)) ∧
  (∃ (t : Nat) (b : Bytes) (r : State) (s : State), (s = r.land t) ∧ (s.acceptedOf 6 = some b)) ∧
  (∃ (t : Nat) (b : Blow) (rest : List Blow) (r : State) (s : State), (s = r.land t) ∧ (s.trust.blowing = b :: rest) ∧ (b.since + 100000 ≤ s.now) ∧ (64 ≤ b.fuse)) := by
  refine ⟨?_, ?_, ?_, ?_, ?_, ?_, ?_, ?_, ?_, ?_⟩
  · refine ⟨5, .firmware, zeros 4000, r0, _, rfl, ?_⟩
    refine ⟨?_, ?_, ?_⟩ <;> first | decide +kernel | rfl
  · refine ⟨5, true, { image := zeros 4000, sec := true, role := .brewer, since := 0 }, r0.trustIs fun x => { x with checking := some { image := zeros 4000, sec := true, role := .brewer, since := 0 } }, _, rfl, ?_⟩
    refine ⟨?_, ?_⟩ <;> first | decide +kernel | rfl
  · refine ⟨5, true, { image := zeros 4000, sec := false, role := .brewer, since := 0 }, r0.trustIs fun x => { x with checking := some { image := zeros 4000, sec := false, role := .brewer, since := 0 } }, _, rfl, ?_⟩
    refine ⟨?_, ?_⟩ <;> first | decide +kernel | rfl
  · refine ⟨5, imageOf 2, anImage 2, _, rfl, ?_⟩
    decide +kernel
  · refine ⟨5, imageOf 3, anImage 3, _, rfl, ?_⟩
    decide +kernel
  · refine ⟨5, imageOf 4, anImage 4, _, rfl, ?_⟩
    decide +kernel
  · refine ⟨5, imageOf 5, anImage 5, _, rfl, ?_⟩
    decide +kernel
  · refine ⟨5, 3, r0, _, rfl⟩
  · refine ⟨5, imageOf 6, anImage 6, _, rfl, ?_⟩
    decide +kernel
  · refine ⟨100000, { fuse := 64, target := 1, since := 0 }, [], r0.trustIs fun x => { x with blowing := [{ fuse := 64, target := 1, since := 0 }] }, _, rfl, ?_⟩
    refine ⟨?_, ?_, ?_⟩ <;> first | decide +kernel | rfl

/-- The hypotheses of ImageCommandsTakeEffect are met, part 2. -/
theorem witness_imageCommandsTakeEffect_2 :
  (∃ (t : Nat) (b : Blow) (rest : List Blow) (r : State) (s : State), (s = r.land t) ∧ (s.trust.blowing = b :: rest) ∧ (b.since + 100000 ≤ s.now) ∧ (b.fuse < 64)) := by
  · refine ⟨100000, { fuse := 2, target := 1, since := 0 }, [], r0.trustIs fun x => { x with blowing := [{ fuse := 2, target := 1, since := 0 }] }, _, rfl, ?_⟩
    refine ⟨?_, ?_, ?_⟩ <;> first | decide +kernel | rfl

/-- The hypotheses of SecurityCommandsTakeEffect are met, part 1. -/
theorem witness_securityCommandsTakeEffect_1 :
  (∃ (t : Nat) (who : Path) (v : Nat) (r : State) (s : State), (s = (r.land t).accessed who) ∧ (s.writeRefusal who Obj.secLifecycleAdvance 0 (.num v) = none) ∧ (s.trust.lifecycle = 1) ∧ (s.trust.identity.isNone = false)) ∧
  (∃ (t : Nat) (who : Path) (v : Nat) (r : State) (s : State), (s = (r.land t).accessed who) ∧ (s.writeRefusal who Obj.secRetire 0 (.num v) = none) ∧ (v = Config.serial) ∧ (s.trust.lifecycle = 2)) ∧
  (∃ (t : Nat) (who : Path) (r : State) (s : State), (s = (r.land t).accessed who) ∧ (s.writeRefusal who Obj.secRollbackCommit 0 (.num 1) = none) ∧ ((s.bankNamed s.tuns.inUse).digest.isEmpty = false)) ∧
  (∃ (t : Nat) (who : Path) (b : Bytes) (r : State) (s : State), (s = (r.land t).accessed who) ∧ (s.writeRefusal who Obj.secRollbackCommit 0 (.num 0) = none) ∧ (s.trust.fwActive = some b)) ∧
  (∃ (t : Nat) (who : Path) (seq : Nat) (data : Bytes) (z : Session) (r : State) (s : State), (s = (r.land t).accessed who) ∧ (s.writeRefusal who Obj.secKeyInstall 0 (.bytes data) = none) ∧ (s.sessionOf who = some z) ∧ (fieldBE data 2 2 = 0) ∧ (fieldBE data 1 1 ≤ 3) ∧ (fieldBE data 0 1 < 3) ∧ (fieldBE data 0 1 ≤ z.role.code) ∧ (z.unwrap seq (slice data 4 48) ≠ zeros 48)) ∧
  (∃ (t : Nat) (who : Path) (v : Nat) (r : State) (s : State), (s = (r.land t).accessed who) ∧ (s.writeRefusal who Obj.secKeyErase 0 (.num v) = none) ∧ (bits v 15 8 < 3) ∧ (bits v 7 0 ≤ 3) ∧ ((bits v 15 8 = 2 → ((Table.erase s.trust.keys (4 * bits v 15 8 + bits v 7 0)).any fun p => decide (8 ≤ p.1) && decide (p.1 < 12)) = true))) ∧
  (∃ (t : Nat) (who : Path) (v : Nat) (r : State) (s : State), (s = (r.land t).accessed who) ∧ (s.writeRefusal who Obj.secKeyErase 0 (.num v) = none) ∧ (bits v 15 8 = 3) ∧ (bits v 7 0 ≤ 3)) ∧
  (∃ (t : Nat) (who : Path) (v : Nat) (r : State) (s : State), (s = (r.land t).accessed who) ∧ (s.writeRefusal who Obj.secFwPatchRemove 0 (.num v) = none)) ∧
  (∃ (t : Nat) (who : Path) (data : Bytes) (id : Nat) (z : Session) (r : State) (s : State), (s = (r.land t).accessed who) ∧ (s.writeRefusal who Obj.secAttNonce 0 (.bytes data) = none) ∧ (who = .strel id) ∧ (s.trust.lifecycle ≠ 3) ∧ (s.session id = some z)) ∧
  (∃ (t : Nat) (who : Path) (data : Bytes) (r : State) (s : State), (s = (r.land t).accessed who) ∧ (s.writeRefusal who Obj.secAttNonce 0 (.bytes data) = none) ∧ (who = .can) ∧ (s.trust.lifecycle ≠ 3)) := by
  refine ⟨?_, ?_, ?_, ?_, ?_, ?_, ?_, ?_, ?_, ?_⟩
  · refine ⟨5, .firmware, 2, rMan.trustIs fun x => { x with identity := some [] }, _, rfl, ?_⟩
    refine ⟨?_, ?_, ?_⟩ <;> first | decide +kernel | rfl
  · refine ⟨5, .firmware, Config.serial, r0, _, rfl, ?_⟩
    exact ⟨serial_fits (by decide +kernel) rfl (by decide +kernel) (by decide +kernel), rfl, rfl⟩
  · refine ⟨5, .firmware, r0.tunsIs fun x => { x with bank0 := { x.bank0 with digest := [1] } }, _, rfl, ?_⟩
    refine ⟨?_, ?_⟩ <;> first | decide +kernel | rfl
  · refine ⟨5, .firmware, [], r0.trustIs fun x => { x with fwActive := some [] }, _, rfl, ?_⟩
    refine ⟨?_, ?_⟩ <;> first | decide +kernel | rfl
  · refine ⟨5, .strel 7, 1, zeros 52, (((State.land 5 rTop).accessed (.strel 7)).session 7).getD aSession, rTop, _, rfl, ?_⟩
    refine ⟨?_, some_getD ?_, ?_, ?_, ?_, ?_, ?_⟩ <;> decide +kernel
  · refine ⟨5, .firmware, 1, r0, _, rfl, ?_⟩
    refine ⟨?_, ?_, ?_, ?_⟩ <;> first | decide +kernel | rfl
  · refine ⟨5, .firmware, 769, r0, _, rfl, ?_⟩
    refine ⟨?_, ?_, ?_⟩ <;> first | decide +kernel | rfl
  · refine ⟨5, .firmware, 1, r0, _, rfl, ?_⟩
    decide +kernel
  · refine ⟨5, .strel 7, zeros 32, 7, (((State.land 5 rSession).accessed (.strel 7)).session 7).getD aSession, rSession, _, rfl, ?_⟩
    refine ⟨?_, rfl, ?_, some_getD ?_⟩ <;> decide +kernel
  · refine ⟨5, .can, zeros 32, r0.canIs fun x => { x with nmt := .operational, role := .brewer }, _, rfl, ?_⟩
    refine ⟨?_, rfl, ?_⟩ <;> decide +kernel

/-- The hypotheses of SecurityCommandsTakeEffect are met, part 2. -/
theorem witness_securityCommandsTakeEffect_2 :
  (∃ (t : Nat) (who : Path) (n : Bytes) (r : State) (s : State), (s = (r.land t).accessed who) ∧ (s.accessRefusal who Obj.secAttReport 0 false = none) ∧ (s.trust.lifecycle ≠ 0) ∧ (s.trust.lifecycle ≠ 3) ∧ (s.trust.attState ≠ 1) ∧ (s.trust.attState ≠ 2) ∧ (s.trust.attAt.all (fun a => decide (a + giga ≤ s.now)) = true) ∧ (s.attNonce who = some n)) ∧
  (∃ (t : Nat) (who : Path) (offset : Nat) (r : State) (s : State), (s = (r.land t).accessed who) ∧ (s.accessRefusal who Obj.secAttReport 0 false = none) ∧ (s.trust.lifecycle ≠ 0) ∧ (s.trust.lifecycle ≠ 3) ∧ (offset ≠ 0) ∧ ((s.attReport who).isEmpty = false) ∧ (offset ≤ (s.attReport who).length)) ∧
  (∃ (t : Nat) (r : State) (s : State), (s = r.land t) ∧ (s.trust.attState = 1)) ∧
  (∃ (t : Nat) (r : State) (s : State), (s = r.land t) ∧ (s.trust.lifecycle = 0)) ∧
  (∃ (t : Nat) (who : Path) (seq : Nat) (data : Bytes) (z : Session) (r : State) (s : State), (s = (r.land t).accessed who) ∧ (s.writeRefusal who Obj.twnKey 0 (.bytes data) = none) ∧ (s.sessionOf who = some z)) := by
  refine ⟨?_, ?_, ?_, ?_, ?_⟩
  · refine ⟨5, .strel 7, [], r0.strelIs fun x => { x with sessions := [{ aSession with attNonce := some [] }] }, _, rfl, ?_⟩
    refine ⟨?_, ?_, ?_, ?_, ?_, ?_, ?_⟩ <;> first | decide +kernel | rfl
  · refine ⟨5, .strel 7, 1, r0.strelIs fun x => { x with sessions := [{ aSession with attReport := [1, 2] }] }, _, rfl, ?_⟩
    refine ⟨?_, ?_, ?_, ?_, ?_, ?_⟩ <;> first | decide +kernel | rfl
  · refine ⟨5, r0.trustIs fun x => { x with attState := 1 }, _, rfl, ?_⟩
    decide +kernel
  · refine ⟨5, r0.trustIs fun x => { x with lifecycle := 0 }, _, rfl, ?_⟩
    decide +kernel
  · refine ⟨5, .strel 7, 1, zeros 48, (((State.land 5 rTop).accessed (.strel 7)).session 7).getD aSession, rTop, _, rfl, ?_⟩
    refine ⟨?_, some_getD ?_⟩ <;> decide +kernel

/-- The hypotheses of ResetCommandsTakeEffect are met. -/
theorem witness_resetCommandsTakeEffect :
  (∃ (t : Nat) (r : State) (s : State), (s = r.land t)) ∧
  (∃ (t : Nat) (nodeId : Nat) (twinRole : Nat) (bootSel : Nat) (r : State) (s : State), (s = r.land t) ∧ (s.pwr.porst = false)) ∧
  (∃ (t : Nat) (rail : Nat) (mv : Nat) (r : State) (s : State), (s = r.land t) ∧ (mv < brownoutLevel rail)) ∧
  (∃ (t : Nat) (rail : Nat) (mv : Nat) (r : State) (s : State), (s = r.land t) ∧ (brownoutLevel rail ≤ mv) ∧ (s.pwr.brown.contains rail = true)) ∧
  (∃ (t : Nat) (who : Path) (v : Nat) (r : State) (s : State), (s = (r.land t).accessed who) ∧ (s.writeRefusal who Obj.pwrReset 0 (.num v) = none) ∧ (v = Config.serial)) ∧
  (∃ (t : Nat) (a : Nat) (r : State) (s : State), (s = r.land t) ∧ (s.pwr.resetAt = some a) ∧ (a ≤ s.now)) ∧
  (∃ (t : Nat) (core : Nat) (r : State) (s : State), (s = r.land t) ∧ (core < 2)) ∧
  (∃ (t : Nat) (r : State) (s : State), (s = r.land t)) ∧
  (∃ (t : Nat) (r : State) (s : State), (s = r.land t) ∧ (s.pwr.refclk = false)) := by
  refine ⟨?_, ?_, ?_, ?_, ?_, ?_, ?_, ?_, ?_⟩
  · refine ⟨5, r0, _, rfl⟩
  · refine ⟨5, 3, 1, 0, r0.pwrIs fun x => { x with porst := false }, _, rfl, ?_⟩
    decide +kernel
  · refine ⟨5, 0, 2000, r0, _, rfl, ?_⟩
    decide +kernel
  · refine ⟨5, 0, 3000, r0.pwrIs fun x => { x with brown := [0] }, _, rfl, ?_⟩
    refine ⟨?_, ?_⟩ <;> first | decide +kernel | rfl
  · refine ⟨5, .firmware, Config.serial, r0, _, rfl, ?_⟩
    exact ⟨serial_fits (by decide +kernel) rfl (by decide +kernel) (by decide +kernel), rfl⟩
  · refine ⟨5, 3, r0.pwrIs fun x => { x with resetAt := some 3 }, _, rfl, ?_⟩
    refine ⟨?_, ?_⟩ <;> first | decide +kernel | rfl
  · refine ⟨5, 1, r0, _, rfl, ?_⟩
    decide +kernel
  · refine ⟨5, r0, _, rfl⟩
  · refine ⟨5, r0.pwrIs fun x => { x with refclk := false }, _, rfl, ?_⟩
    decide +kernel

/-- The hypotheses of PowerAndStartupCommandsTakeEffect are met, part 1. -/
theorem witness_powerAndStartupCommandsTakeEffect_1 :
  (∃ (t : Nat) (readings : List Int) (r : State) (s : State), (s = r.land t) ∧ (s.pwr.lastSensor + 1000000 ≤ s.now) ∧ (s.pwr.held = false)) ∧
  (∃ (t : Nat) (r : State) (s : State), (s = r.land t) ∧ (s.pwr.lifeAt + 3600 * giga ≤ s.now)) ∧
  (∃ (t : Nat) (acked : Bool) (r : State) (s : State), (s = r.land t) ∧ (s.pwr.avsRuns = true) ∧ (s.pwr.vout ≠ s.pwr.vt) ∧ (s.pwr.avsAt + 1000000 ≤ s.now) ∧ (acked = true)) ∧
  (∃ (t : Nat) (acked : Bool) (r : State) (s : State), (s = r.land t) ∧ (s.pwr.avsRuns = true) ∧ (s.pwr.vout ≠ s.pwr.vt) ∧ (s.pwr.avsAt + 1000000 ≤ s.now) ∧ (acked = false)) ∧
  (∃ (t : Nat) (slack : Int) (acked : Bool) (readMv : Nat) (readDa : Nat) (r : State) (s : State), (s = r.land t) ∧ (s.pwr.avsRuns = true) ∧ (s.pwr.vout = s.pwr.vt) ∧ (s.pwr.avsTickAt + 100000000 ≤ s.now) ∧ (acked = true)) ∧
  (∃ (t : Nat) (passed : Bool) (osc : Bool) (r : State) (s : State), (s = r.land t) ∧ (s.pwr.phase = 1) ∧ (s.pwr.held = false) ∧ (s.pwr.halted = false) ∧ (passed = true)) ∧
  (∃ (t : Nat) (passed : Bool) (osc : Bool) (r : State) (s : State), (s = r.land t) ∧ (s.pwr.phase = 1) ∧ (s.pwr.held = false) ∧ (s.pwr.halted = false) ∧ (passed = false)) ∧
  (∃ (t : Nat) (failedTuns : List Nat) (failedBanks : List Nat) (failedLanes : List Nat) (othersGood : Bool) (r : State) (s : State), (s = r.land t) ∧ (s.pwr.phase = 2) ∧ (s.pwr.held = false) ∧ (s.pwr.halted = false) ∧ ((List.range 64).any s.bistOpen = false)) ∧
  (∃ (t : Nat) (r : State) (s : State), (s = r.land t) ∧ (s.pwr.phase = 3) ∧ (s.pwr.held = false) ∧ (s.pwr.halted = false)) ∧
  (∃ (t : Nat) (failed : List Nat) (r : State) (s : State), (s = r.land t) ∧ (s.pwr.phase = 4) ∧ (s.pwr.held = false) ∧ (s.pwr.halted = false)) := by
  refine ⟨?_, ?_, ?_, ?_, ?_, ?_, ?_, ?_, ?_, ?_⟩
  · refine ⟨1000000, [], r0, _, rfl, ?_⟩
    refine ⟨?_, ?_⟩ <;> first | decide +kernel | rfl
  · refine ⟨3600 * giga, r0, _, rfl, ?_⟩
    decide +kernel
  · refine ⟨1000000, true, r0.pwrIs fun x => { x with avsRuns := true, vt := 755 }, _, rfl, ?_⟩
    refine ⟨?_, ?_, ?_, ?_⟩ <;> first | decide +kernel | rfl
  · refine ⟨1000000, false, r0.pwrIs fun x => { x with avsRuns := true, vt := 755 }, _, rfl, ?_⟩
    refine ⟨?_, ?_, ?_, ?_⟩ <;> first | decide +kernel | rfl
  · refine ⟨100000000, 50, true, 750, 0, r0.pwrIs fun x => { x with avsRuns := true }, _, rfl, ?_⟩
    refine ⟨?_, ?_, ?_, ?_⟩ <;> first | decide +kernel | rfl
  · refine ⟨5, true, true, r0, _, rfl, ?_⟩
    refine ⟨?_, ?_, ?_, ?_⟩ <;> first | decide +kernel | rfl
  · refine ⟨5, false, true, r0, _, rfl, ?_⟩
    refine ⟨?_, ?_, ?_, ?_⟩ <;> first | decide +kernel | rfl
  · refine ⟨5, [1], [2], [3], true, (r0.pwrIs fun x => { x with phase := 2 }).tunsIs fun x => { x with tuns := (List.range 64).map fun k => (k, { Tun.idle with state := .ready }) }, _, rfl, ?_⟩
    refine ⟨?_, ?_, ?_, ?_⟩ <;> first | decide +kernel | rfl
  · refine ⟨5, r0.pwrIs fun x => { x with phase := 3 }, _, rfl, ?_⟩
    refine ⟨?_, ?_, ?_⟩ <;> first | decide +kernel | rfl
  · refine ⟨5, [3], r0.pwrIs fun x => { x with phase := 4 }, _, rfl, ?_⟩
    refine ⟨?_, ?_, ?_⟩ <;> first | decide +kernel | rfl

/-- The hypotheses of PowerAndStartupCommandsTakeEffect are met, part 2. -/
theorem witness_powerAndStartupCommandsTakeEffect_2 :
  (∃ (t : Nat) (verified : Bool) (failed : List Nat) (r : State) (s : State), (s = r.land t) ∧ (s.pwr.phase = 5) ∧ (s.pwr.held = false) ∧ (s.pwr.halted = false)) ∧
  (∃ (t : Nat) (r : State) (s : State), (s = r.land t) ∧ (s.pwr.phase = 6) ∧ (s.pwr.held = false) ∧ (s.pwr.halted = false) ∧ (s.lanesSettled = true ∨ s.pwr.phaseAt + 300000000 ≤ s.now)) := by
  refine ⟨?_, ?_⟩
  · refine ⟨5, true, [], r0.pwrIs fun x => { x with phase := 5 }, _, rfl, ?_⟩
    refine ⟨?_, ?_, ?_⟩ <;> first | decide +kernel | rfl
  · refine ⟨5, r0.pwrIs fun x => { x with phase := 6 }, _, rfl, ?_⟩
    refine ⟨?_, ?_, ?_, ?_⟩ <;> first | decide +kernel | rfl

/-- The hypotheses of CommandsNotDueOnlyLandTime are met, part 1. -/
theorem witness_commandsNotDueOnlyLandTime_1 :
  (∃ (t : Nat) (r : State) (s : State), (s = r.land t) ∧ (s.sets.check = none)) ∧
  (∃ (t : Nat) (r : State) (s : State), (s = r.land t) ∧ (s.sets.validation = none)) ∧
  (∃ (t : Nat) (r : State) (s : State), (s = r.land t) ∧ (s.sets.rack.state ≠ .scheduled)) ∧
  (∃ (t : Nat) (r : State) (s : State), (s = r.land t) ∧ (s.sets.rack.state ≠ .reseeding)) ∧
  (∃ (t : Nat) (written : Bool) (r : State) (s : State), (s = r.land t) ∧ (s.sets.saving = none)) ∧
  (∃ (t : Nat) (r : State) (s : State), (s = r.land t) ∧ (s.sets.loading = none)) ∧
  (∃ (t : Nat) (m : StrelMsg) (r : State) (s : State), (s = r.land t) ∧ (s.hears m.peer = false)) ∧
  (∃ (t : Nat) (m : StrelMsg) (r : State) (s : State), (s = r.land t) ∧ (s.hears m.peer = false)) ∧
  (∃ (t : Nat) (id : Nat) (r : State) (s : State), (s = r.land t) ∧ ((s.session id).any (fun z => decide (z.idleDeadline ≤ s.now)) = false)) ∧
  (∃ (t : Nat) (r : State) (s : State), (s = r.land t) ∧ (s.val Obj.heartbeatTime = 0)) := by
  refine ⟨?_, ?_, ?_, ?_, ?_, ?_, ?_, ?_, ?_, ?_⟩
  · refine ⟨5, r0, _, rfl, ?_⟩
    decide +kernel
  · refine ⟨5, r0, _, rfl, ?_⟩
    decide +kernel
  · refine ⟨5, r0, _, rfl, ?_⟩
    decide +kernel
  · refine ⟨5, r0, _, rfl, ?_⟩
    decide +kernel
  · refine ⟨5, true, r0, _, rfl, ?_⟩
    decide +kernel
  · refine ⟨5, r0, _, rfl, ?_⟩
    decide +kernel
  · refine ⟨5, aHello 0, r0, _, rfl, ?_⟩
    decide +kernel
  · refine ⟨5, aProof [], r0, _, rfl, ?_⟩
    decide +kernel
  · refine ⟨5, 7, rSession, _, rfl, ?_⟩
    decide +kernel
  · refine ⟨5, r0.holds Obj.heartbeatTime 0 0, _, rfl, ?_⟩
    decide +kernel

/-- The hypotheses of CommandsNotDueOnlyLandTime are met, part 2. -/
theorem witness_commandsNotDueOnlyLandTime_2 :
  (∃ (t : Nat) (r : State) (s : State), (s = r.land t) ∧ (s.can.nonce = none)) ∧
  (∃ (t : Nat) (r : State) (s : State), (s = r.land t) ∧ (s.tbs.master = none)) ∧
  (∃ (t : Nat) (r : State) (s : State), (s = r.land t) ∧ (s.referenceGone = false)) ∧
  (∃ (t : Nat) (r : State) (s : State), (s = r.land t) ∧ (s.tbs.state ≠ .holdover)) ∧
  (∃ (t : Nat) (r : State) (s : State), (s = r.land t) ∧ (s.tbs.stepPending = none)) ∧
  (∃ (t : Nat) (r : State) (s : State), (s = r.land t) ∧ (s.tbs.gap = none)) ∧
  (∃ (t : Nat) (row : Nat) (parity : List Nat) (r : State) (s : State), (s = r.land t) ∧ (s.rowWork row = none)) ∧
  (∃ (t : Nat) (row : Nat) (late : LateRow) (r : State) (s : State), (s = r.land t) ∧ (s.rowWork row = none)) ∧
  (∃ (t : Nat) (tun : Nat) (slice : Bytes) (spent : Bool) (trims : Nat) (floors : Nat) (k : Task) (r : State) (s : State), (s = r.land t) ∧ ((s.tun tun).task = some k) ∧ (k.sends tun spent trims floors = false)) ∧
  (∃ (t : Nat) (tun : Nat) (slice : Bytes) (spent : Bool) (trims : Nat) (floors : Nat) (r : State) (s : State), (s = r.land t) ∧ ((s.tun tun).task = none)) := by
  refine ⟨?_, ?_, ?_, ?_, ?_, ?_, ?_, ?_, ?_, ?_⟩
  · refine ⟨5, r0, _, rfl, ?_⟩
    decide +kernel
  · refine ⟨5, r0, _, rfl, ?_⟩
    decide +kernel
  · refine ⟨5, r0, _, rfl, ?_⟩
    decide +kernel
  · refine ⟨5, r0, _, rfl, ?_⟩
    decide +kernel
  · refine ⟨5, r0, _, rfl, ?_⟩
    decide +kernel
  · refine ⟨5, r0, _, rfl, ?_⟩
    decide +kernel
  · refine ⟨5, 3, [], r0, _, rfl, ?_⟩
    decide +kernel
  · refine ⟨5, 3, ⟨0, []⟩, r0, _, rfl, ?_⟩
    decide +kernel
  · refine ⟨5, 2, [], false, 0, ((aTask 9 false).record 2).floors + 1, aTask 9 false, rTask, _, rfl, ?_⟩
    exact ⟨by decide +kernel, sends_floors _ rfl _ _ _⟩
  · refine ⟨5, 3, [], false, 0, 0, r0, _, rfl, ?_⟩
    decide +kernel

/-- The hypotheses of CommandsNotDueOnlyLandTime are met, part 3. -/
theorem witness_commandsNotDueOnlyLandTime_3 :
  (∃ (t : Nat) (tun : Nat) (r : State) (s : State), (s = r.land t) ∧ ((s.tun tun).task = none)) ∧
  (∃ (t : Nat) (tun : Nat) (phase : Nat) (r : State) (s : State), (s = r.land t) ∧ ((s.tun tun).bistFrom = none)) ∧
  (∃ (t : Nat) (r : State) (s : State), (s = r.land t) ∧ (s.tuns.switch = none)) ∧
  (∃ (t : Nat) (tun : Nat) (r : State) (s : State), (s = r.land t) ∧ ((s.tun tun).task = none)) ∧
  (∃ (t : Nat) (seg : Nat) (y : Nat) (r : State) (s : State), (s = r.land t) ∧ ((s.findSeg seg y fun g => decide (g.count ≤ 0) && !g.late) = none)) ∧
  (∃ (t : Nat) (r : State) (s : State), (s = r.land t) ∧ (s.dsp.rotateAt = none)) ∧
  (∃ (t : Nat) (r : State) (s : State), (s = r.land t) ∧ (s.dsp.effortPending = [])) ∧
  (∃ (t : Nat) (r : State) (s : State), (s = r.land t) ∧ (s.twn.state = .off)) ∧
  (∃ (t : Nat) (r : State) (s : State), (s = r.land t) ∧ (s.twn.linkUp = false)) ∧
  (∃ (t : Nat) (r : State) (s : State), (s = r.land t) ∧ (s.twn.state ≠ .pairing)) := by
  refine ⟨?_, ?_, ?_, ?_, ?_, ?_, ?_, ?_, ?_, ?_⟩
  · refine ⟨5, 3, r0, _, rfl, ?_⟩
    decide +kernel
  · refine ⟨5, 3, 1, r0, _, rfl, ?_⟩
    decide +kernel
  · refine ⟨5, r0, _, rfl, ?_⟩
    decide +kernel
  · refine ⟨5, 3, r0, _, rfl, ?_⟩
    decide +kernel
  · refine ⟨5, 3, 1, r0, _, rfl, ?_⟩
    decide +kernel
  · refine ⟨5, r0, _, rfl, ?_⟩
    decide +kernel
  · refine ⟨5, r0, _, rfl, ?_⟩
    decide +kernel
  · refine ⟨5, r0, _, rfl, ?_⟩
    decide +kernel
  · refine ⟨5, r0, _, rfl, ?_⟩
    decide +kernel
  · refine ⟨5, r0, _, rfl, ?_⟩
    decide +kernel

/-- The hypotheses of CommandsNotDueOnlyLandTime are met, part 4. -/
theorem witness_commandsNotDueOnlyLandTime_4 :
  (∃ (t : Nat) (tap : Nat) (r : State) (s : State), (s = r.land t) ∧ (s.tap.offers.find? (fun q => q.1 == tap) = none)) ∧
  (∃ (t : Nat) (tap : Nat) (r : State) (s : State), (s = r.land t) ∧ ((s.tapAt tap).window = [])) ∧
  (∃ (t : Nat) (port : Nat) (r : State) (s : State), (s = r.land t) ∧ (s.cellar.safe = true)) ∧
  (∃ (t : Nat) (channel : Nat) (result : Nat) (r : State) (s : State), (s = r.land t) ∧ ((s.qdr channel).state ≠ 1)) ∧
  (∃ (t : Nat) (r : State) (s : State), (s = r.land t) ∧ (s.mem.armed = none)) ∧
  (∃ (t : Nat) (trained : Bool) (r : State) (s : State), (s = r.land t) ∧ (s.mem.pause = none)) ∧
  (∃ (t : Nat) (bank : Nat) (passed : Bool) (r : State) (s : State), (s = r.land t) ∧ (s.bank bank ≠ .testing)) ∧
  (∃ (t : Nat) (channel : Nat) (timeout : Bool) (r : State) (s : State), (s = r.land t) ∧ ((s.spargeCh channel).flight = none)) ∧
  (∃ (t : Nat) (port : Nat) (pool : Nat) (ecc : Nat) (r : State) (s : State), (s = r.land t) ∧ ((s.kegCompeting pool).any (fun q => q.port == port) = false)) ∧
  (∃ (t : Nat) (line : Nat) (ecc : Nat) (r : State) (s : State), (s = r.land t) ∧ ((s.wortLine line).msgs = [])) := by
  refine ⟨?_, ?_, ?_, ?_, ?_, ?_, ?_, ?_, ?_, ?_⟩
  · refine ⟨5, 3, r0, _, rfl, ?_⟩
    decide +kernel
  · refine ⟨5, 3, r0, _, rfl, ?_⟩
    decide +kernel
  · refine ⟨5, 3, r0.cellarIs fun x => { x with safe := true }, _, rfl, ?_⟩
    decide +kernel
  · refine ⟨5, 3, 0, r0, _, rfl, ?_⟩
    decide +kernel
  · refine ⟨5, r0, _, rfl, ?_⟩
    decide +kernel
  · refine ⟨5, true, r0, _, rfl, ?_⟩
    decide +kernel
  · refine ⟨5, 3, true, r0, _, rfl, ?_⟩
    decide +kernel
  · refine ⟨5, 3, true, r0, _, rfl, ?_⟩
    decide +kernel
  · refine ⟨5, 2, 1, 0, r0, _, rfl, ?_⟩
    decide +kernel
  · refine ⟨5, 3, 0, r0, _, rfl, ?_⟩
    decide +kernel

/-- The hypotheses of CommandsNotDueOnlyLandTime are met, part 5. -/
theorem witness_commandsNotDueOnlyLandTime_5 :
  (∃ (t : Nat) (damaged : Bool) (parity : Bool) (r : State) (s : State), (s = r.land t) ∧ (s.nextFaultLine = none)) ∧
  (∃ (t : Nat) (r : State) (s : State), (s = r.land t) ∧ (s.cellar.safeSignal = none)) ∧
  (∃ (t : Nat) (r : State) (s : State), (s = r.land t) ∧ (s.nextLogLine = none)) ∧
  (∃ (t : Nat) (stored : Bool) (r : State) (s : State), (s = r.land t) ∧ (s.trust.checking = none)) ∧
  (∃ (t : Nat) (r : State) (s : State), (s = r.land t) ∧ (s.acceptedOf 2 = none)) ∧
  (∃ (t : Nat) (r : State) (s : State), (s = r.land t) ∧ (s.trust.blowing = [])) ∧
  (∃ (t : Nat) (r : State) (s : State), (s = r.land t) ∧ (s.pwr.resetAt = none)) ∧
  (∃ (t : Nat) (rail : Nat) (mv : Nat) (r : State) (s : State), (s = r.land t) ∧ (brownoutLevel rail ≤ mv)) ∧
  (∃ (t : Nat) (passed : Bool) (osc : Bool) (r : State) (s : State), (s = r.land t) ∧ (s.pwr.phase ≠ 1)) ∧
  (∃ (t : Nat) (r : State) (s : State), (s = r.land t) ∧ (s.pwr.phase = 6) ∧ (s.lanesSettled = false) ∧ (s.now < s.pwr.phaseAt + 300000000)) := by
  refine ⟨?_, ?_, ?_, ?_, ?_, ?_, ?_, ?_, ?_, ?_⟩
  · refine ⟨5, false, false, r0, _, rfl, ?_⟩
    decide +kernel
  · refine ⟨5, r0, _, rfl, ?_⟩
    decide +kernel
  · refine ⟨5, r0, _, rfl, ?_⟩
    decide +kernel
  · refine ⟨5, true, r0, _, rfl, ?_⟩
    decide +kernel
  · refine ⟨5, r0, _, rfl, ?_⟩
    decide +kernel
  · refine ⟨5, r0, _, rfl, ?_⟩
    decide +kernel
  · refine ⟨5, r0, _, rfl, ?_⟩
    decide +kernel
  · refine ⟨5, 0, 3300, r0, _, rfl, ?_⟩
    decide +kernel
  · refine ⟨5, true, true, r0.pwrIs fun x => { x with phase := 4 }, _, rfl, ?_⟩
    decide +kernel
  · refine ⟨5, ((r0.setPort 3 { Port.idle with state := .training }).holds Obj.lnkPortW0 3 1).pwrIs fun x => { x with phase := 6 }, _, rfl, ?_⟩
    refine ⟨?_, ?_, ?_⟩ <;> first | decide +kernel | rfl

end Sys2Proof.Machine
end

