-- ==== Sys2Proof/Tests/Witnesses4.lean ====
section
/-! SUPPORT. For every statement with hypotheses, states and operands that meet the hypotheses of each of its clauses together
(part 4 of 4). -/
set_option Elab.async false
namespace Sys2Proof.Machine

set_option maxRecDepth 4000
set_option linter.unusedVariables false
set_option linter.unreachableTactic false
set_option linter.unusedTactic false

/-- The hypotheses of RuleRefusalsChangeNothing are met, part 1. -/
theorem witness_ruleRefusalsChangeNothing_1 :
  (∃ (t : Nat) (who : Path) (v : Nat) (r : State) (s : State), (s = (r.land t).accessed who) ∧ (s.writeRefusal who Obj.flrFill 0 (.num v) = none) ∧ (s.greenLocked = true)) ∧
  (∃ (t : Nat) (who : Path) (form : Bytes) (r : State) (s : State), (s = (r.land t).accessed who) ∧ (s.writeRefusal who Obj.flrRegions 0 (.bytes form) = none) ∧ (s.greenLocked = true)) ∧
  (∃ (t : Nat) (who : Path) (v : Nat) (r : State) (s : State), (s = (r.land t).accessed who) ∧ (s.writeRefusal who Obj.setRack 0 (.num v) = none) ∧ (s.trust.lifecycle = 3)) ∧
  (∃ (t : Nat) (who : Path) (v : Nat) (r : State) (s : State), (s = (r.land t).accessed who) ∧ (s.writeRefusal who Obj.setRack 0 (.num v) = none) ∧ (s.trust.lifecycle ≠ 3) ∧ (s.sets.rack.state ≠ .idle)) ∧
  (∃ (t : Nat) (who : Path) (v : Nat) (r : State) (s : State), (s = (r.land t).accessed who) ∧ (s.writeRefusal who Obj.setRack 0 (.num v) = none) ∧ (s.trust.lifecycle ≠ 3) ∧ (s.sets.rack.state = .idle) ∧ (s.cellar.safe = true)) ∧
  (∃ (t : Nat) (who : Path) (v : Nat) (r : State) (s : State), (s = (r.land t).accessed who) ∧ (s.writeRefusal who Obj.setRackCancel 0 (.num v) = none) ∧ (s.rackTwin = true)) ∧
  (∃ (t : Nat) (who : Path) (v : Nat) (r : State) (s : State), (s = (r.land t).accessed who) ∧ (s.writeRefusal who Obj.setSave 0 (.num v) = none) ∧ (s.slotBusy = true)) ∧
  (∃ (t : Nat) (who : Path) (v : Nat) (r : State) (s : State), (s = (r.land t).accessed who) ∧ (s.writeRefusal who Obj.setLoad 0 (.num v) = none) ∧ (s.greenLocked = true)) ∧
  (∃ (t : Nat) (who : Path) (v : Nat) (r : State) (s : State), (s = (r.land t).accessed who) ∧ (s.writeRefusal who Obj.setLoad 0 (.num v) = none) ∧ (s.greenLocked = false) ∧ (s.slotBusy = true)) ∧
  (∃ (t : Nat) (who : Path) (v : Nat) (r : State) (s : State), (s = (r.land t).accessed who) ∧ (s.writeRefusal who Obj.setLoad 0 (.num v) = none) ∧ (s.greenLocked = false) ∧ (s.slotBusy = false) ∧ ((s.setSlot v).state = 0)) := by
  refine ⟨?_, ?_, ?_, ?_, ?_, ?_, ?_, ?_, ?_, ?_⟩
  · refine ⟨5, .firmware, 0, r0.setsIs fun x => { x with rack := { x.rack with state := .scheduled } }, _, rfl, ?_⟩
    refine ⟨?_, ?_⟩ <;> first | decide +kernel | rfl
  · refine ⟨5, .firmware, emptyForm, r0.setsIs fun x => { x with rack := { x.rack with state := .scheduled } }, _, rfl, ?_⟩
    refine ⟨?_, ?_⟩ <;> first | decide +kernel | rfl
  · refine ⟨5, .firmware, 0, r0.trustIs fun x => { x with lifecycle := 3 }, _, rfl, ?_⟩
    refine ⟨?_, ?_⟩ <;> first | decide +kernel | rfl
  · refine ⟨5, .firmware, 0, r0.setsIs fun x => { x with rack := { x.rack with state := .scheduled } }, _, rfl, ?_⟩
    refine ⟨?_, ?_, ?_⟩ <;> first | decide +kernel | rfl
  · refine ⟨5, .firmware, 0, r0.cellarIs fun x => { x with safe := true }, _, rfl, ?_⟩
    refine ⟨?_, ?_, ?_, ?_⟩ <;> first | decide +kernel | rfl
  · refine ⟨5, .firmware, 1, (r0.brightHas Obj.twnMode 0 1).twnIs fun x => { x with state := .paired }, _, rfl, ?_⟩
    refine ⟨?_, ?_⟩ <;> first | decide +kernel | rfl
  · refine ⟨5, .firmware, 1, r0.setsIs fun x => { x with savePending := some 0 }, _, rfl, ?_⟩
    refine ⟨?_, ?_⟩ <;> first | decide +kernel | rfl
  · refine ⟨5, .firmware, 1, r0.setsIs fun x => { x with rack := { x.rack with state := .scheduled } }, _, rfl, ?_⟩
    refine ⟨?_, ?_⟩ <;> first | decide +kernel | rfl
  · refine ⟨5, .firmware, 1, r0.setsIs fun x => { x with savePending := some 0 }, _, rfl, ?_⟩
    refine ⟨?_, ?_, ?_⟩ <;> first | decide +kernel | rfl
  · refine ⟨5, .firmware, 1, r0, _, rfl, ?_⟩
    refine ⟨?_, ?_, ?_, ?_⟩ <;> first | decide +kernel | rfl

/-- The hypotheses of RuleRefusalsChangeNothing are met, part 2. -/
theorem witness_ruleRefusalsChangeNothing_2 :
  (∃ (t : Nat) (who : Path) (v : Nat) (r : State) (s : State), (s = (r.land t).accessed who) ∧ (s.writeRefusal who Obj.setSessionKill 0 (.num v) = none) ∧ (s.session v = none)) ∧
  (∃ (t : Nat) (who : Path) (time80 : Bytes) (r : State) (s : State), (s = (r.land t).accessed who) ∧ (s.writeRefusal who Obj.tbsTodSet 0 (.bytes time80) = none) ∧ (s.tbsSource = 0)) ∧
  (∃ (t : Nat) (who : Path) (row : Nat) (v : Nat) (r : State) (s : State), (s = (r.land t).accessed who) ∧ (s.writeRefusal who Obj.tbsCalW0 row (.num v) = none) ∧ (s.tbs.raster.lt ≤ bits v 47 32)) ∧
  (∃ (t : Nat) (who : Path) (row : Nat) (v : Nat) (r : State) (s : State), (s = (r.land t).accessed who) ∧ (s.writeRefusal who Obj.tbsCalW1 row (.num v) = none) ∧ (bits v 39 28 ≠ 0x010)) ∧
  (∃ (t : Nat) (who : Path) (row : Nat) (v : Nat) (r : State) (s : State), (s = (r.land t).accessed who) ∧ (s.writeRefusal who Obj.cmpStillDesc row (.num v) = none) ∧ (bit v 1 = true) ∧ (bits v 15 2 % 2 = 0)) ∧
  (∃ (t : Nat) (who : Path) (v : Nat) (r : State) (s : State), (s = (r.land t).accessed who) ∧ (s.writeRefusal who Obj.tunSelftest 0 (.num v) = none) ∧ ((s.tun v).state = .selftest)) ∧
  (∃ (t : Nat) (who : Path) (v : Nat) (r : State) (s : State), (s = (r.land t).accessed who) ∧ (s.writeRefusal who Obj.tunReinstate 0 (.num v) = none) ∧ ((s.tun v).state ≠ .failed) ∧ ((s.tun v).state ≠ .retired)) ∧
  (∃ (t : Nat) (who : Path) (image : Bytes) (r : State) (s : State), (s = (r.land t).accessed who) ∧ (s.writeRefusal who Obj.tunPatchImage 0 (.bytes image) = none) ∧ (s.trust.lifecycle = 3)) ∧
  (∃ (t : Nat) (who : Path) (image : Bytes) (r : State) (s : State), (s = (r.land t).accessed who) ∧ (s.writeRefusal who Obj.tunPatchImage 0 (.bytes image) = none) ∧ (s.trust.lifecycle ≠ 3) ∧ (s.verifierBusy = true)) ∧
  (∃ (t : Nat) (who : Path) (v : Nat) (r : State) (s : State), (s = (r.land t).accessed who) ∧ (s.writeRefusal who Obj.tunPatchApply 0 (.num v) = none) ∧ (s.switchBusy = true)) := by
  refine ⟨?_, ?_, ?_, ?_, ?_, ?_, ?_, ?_, ?_, ?_⟩
  · refine ⟨5, .firmware, 99, r0, _, rfl, ?_⟩
    refine ⟨?_, ?_⟩ <;> first | decide +kernel | rfl
  · refine ⟨5, .firmware, zeros 10, r0, _, rfl, ?_⟩
    refine ⟨?_, ?_⟩ <;> first | decide +kernel | rfl
  · refine ⟨5, .firmware, 3, 65535 * 2 ^ 32, r0, _, rfl, ?_⟩
    refine ⟨?_, ?_⟩ <;> first | decide +kernel | rfl
  · refine ⟨5, .firmware, 3, 0, r0, _, rfl, ?_⟩
    refine ⟨?_, ?_⟩ <;> first | decide +kernel | rfl
  · refine ⟨5, .firmware, 3, 2, r0, _, rfl, ?_⟩
    refine ⟨?_, ?_, ?_⟩ <;> first | decide +kernel | rfl
  · refine ⟨5, .firmware, 3, r0.tunsIs fun x => { x with tuns := [(3, { Tun.idle with state := .selftest })] }, _, rfl, ?_⟩
    refine ⟨?_, ?_⟩ <;> first | decide +kernel | rfl
  · refine ⟨5, .firmware, 3, r0, _, rfl, ?_⟩
    refine ⟨?_, ?_, ?_⟩ <;> first | decide +kernel | rfl
  · refine ⟨5, .firmware, [], r0.trustIs fun x => { x with lifecycle := 3 }, _, rfl, ?_⟩
    refine ⟨?_, ?_⟩ <;> first | decide +kernel | rfl
  · refine ⟨5, .firmware, [], anImage 1, _, rfl, ?_⟩
    refine ⟨?_, ?_, ?_⟩ <;> first | decide +kernel | rfl
  · refine ⟨5, .firmware, 1, rSwitch, _, rfl, ?_⟩
    refine ⟨?_, ?_⟩ <;> first | decide +kernel | rfl

/-- The hypotheses of RuleRefusalsChangeNothing are met, part 3. -/
theorem witness_ruleRefusalsChangeNothing_3 :
  (∃ (t : Nat) (who : Path) (v : Nat) (r : State) (s : State), (s = (r.land t).accessed who) ∧ (s.writeRefusal who Obj.tunPatchApply 0 (.num v) = none) ∧ (s.switchBusy = false) ∧ (s.tuns.staged = none)) ∧
  (∃ (t : Nat) (who : Path) (v : Nat) (r : State) (s : State), (s = (r.land t).accessed who) ∧ (s.writeRefusal who Obj.tunPatchRemove 0 (.num v) = none) ∧ (s.switchBusy = true)) ∧
  (∃ (t : Nat) (who : Path) (v : Nat) (r : State) (s : State), (s = (r.land t).accessed who) ∧ (s.writeRefusal who Obj.rakNudge 0 (.num v) = none) ∧ (v ≤ 4094) ∧ (s.silenced = true ∨ s.sets.bright.isReceiver v = false)) ∧
  (∃ (t : Nat) (who : Path) (lane : Nat) (r : State) (s : State), (s = (r.land t).accessed who) ∧ (s.writeRefusal who Obj.lnkLanePrbs lane (.num 1) = none) ∧ ((s.portOfLane lane).isSome = true)) ∧
  (∃ (t : Nat) (who : Path) (v : Nat) (r : State) (s : State), (s = (r.land t).accessed who) ∧ (s.writeRefusal who Obj.memGrSelftest 0 (.num v) = none) ∧ (((List.range 32).any fun b => s.bank b == .draining || s.bank b == .testing) = true)) ∧
  (∃ (t : Nat) (who : Path) (data : Bytes) (r : State) (s : State), (s = (r.land t).accessed who) ∧ (s.writeRefusal who Obj.spgDiagDesc 0 (.bytes data) = none) ∧ (reservedWords (wordsOf data) = false) ∧ ((spargeSource (wordsOf data)).inWindow = false)) ∧
  (∃ (t : Nat) (who : Path) (data : Bytes) (r : State) (s : State), (s = (r.land t).accessed who) ∧ (s.writeRefusal who Obj.spgDiagDesc 0 (.bytes data) = none) ∧ (reservedWords (wordsOf data) = false) ∧ ((spargeSource (wordsOf data)).inWindow = true) ∧ ((spargeDest (wordsOf data)).inWindow = true) ∧ ((s.spargeCh 31).isFree = false)) ∧
  (∃ (t : Nat) (who : Path) (line : Nat) (r : State) (s : State), (s = (r.land t).accessed who) ∧ (s.writeRefusal who Obj.wrtFlush line (.num 1) = none) ∧ (wortDropMode line = false)) ∧
  (∃ (t : Nat) (who : Path) (line : Nat) (r : State) (s : State), (s = (r.land t).accessed who) ∧ (s.writeRefusal who Obj.wrtFlush line (.num 0) = none) ∧ (wortDropMode line = false)) ∧
  (∃ (t : Nat) (who : Path) (data : Bytes) (r : State) (s : State), (s = (r.land t).accessed who) ∧ (s.writeRefusal who Obj.cwtInject 0 (.bytes (data ++ [0])) = none) ∧ ((FaultMsg.ofBytes (data ++ [0])).reserved = 0) ∧ (FaultMsg.valid { FaultMsg.ofBytes (data ++ [0]) with inj := true } = true) ∧ (fieldBE (data ++ [0]) 12 1 = 0) ∧ (s.trust.lifecycle ≠ 1)) := by
  refine ⟨?_, ?_, ?_, ?_, ?_, ?_, ?_, ?_, ?_, ?_⟩
  · refine ⟨5, .firmware, 1, r0, _, rfl, ?_⟩
    refine ⟨?_, ?_, ?_⟩ <;> first | decide +kernel | rfl
  · refine ⟨5, .firmware, 1, rSwitch, _, rfl, ?_⟩
    refine ⟨?_, ?_⟩ <;> first | decide +kernel | rfl
  · refine ⟨5, .firmware, 3, r0, _, rfl, ?_⟩
    refine ⟨?_, ?_, ?_⟩ <;> first | decide +kernel | rfl
  · refine ⟨5, .firmware, 3, r0.holds Obj.lnkPortW0 3 1, _, rfl, ?_⟩
    refine ⟨?_, ?_⟩ <;> first | decide +kernel | rfl
  · refine ⟨5, .firmware, 3, r0.memIs fun x => { x with banks := [(3, .testing)] }, _, rfl, ?_⟩
    refine ⟨?_, ?_⟩ <;> first | decide +kernel | rfl
  · refine ⟨5, .firmware, zeros 64, r0, _, rfl, ?_⟩
    refine ⟨?_, ?_, ?_⟩ <;> first | decide +kernel | rfl
  · refine ⟨5, .firmware, (diagWords.flatMap (bytesBE 8)), r0.spargeIs fun x => { x with channels := [(31, { SpargeChannel.idle with state := .run })] }, _, rfl, ?_⟩
    refine ⟨?_, ?_, ?_, ?_, ?_⟩ <;> first | decide +kernel | rfl
  · refine ⟨5, .firmware, 3, r0, _, rfl, ?_⟩
    refine ⟨?_, ?_⟩ <;> first | decide +kernel | rfl
  · refine ⟨5, .firmware, 3, r0, _, rfl, ?_⟩
    refine ⟨?_, ?_⟩ <;> first | decide +kernel | rfl
  · refine ⟨5, .firmware, aFault, r0, _, rfl, ?_⟩
    refine ⟨?_, ?_, ?_, ?_, ?_⟩ <;> first | decide +kernel | rfl

/-- The hypotheses of RuleRefusalsChangeNothing are met, part 4. -/
theorem witness_ruleRefusalsChangeNothing_4 :
  (∃ (t : Nat) (who : Path) (target : Nat) (r : State) (s : State), (s = (r.land t).accessed who) ∧ (s.writeRefusal who Obj.cwtForce 0 (.num ((3 + 256 * target : Nat) : Int)) = none) ∧ (target < 48) ∧ (s.trust.lifecycle ≠ 1) ∧ (s.trust.lifecycle ≠ 2)) ∧
  (∃ (t : Nat) (who : Path) (target : Nat) (r : State) (s : State), (s = (r.land t).accessed who) ∧ (s.writeRefusal who Obj.cwtForce 0 (.num ((3 + 256 * target : Nat) : Int)) = none) ∧ (target < 48) ∧ (s.trust.lifecycle = 1 ∨ s.trust.lifecycle = 2) ∧ (s.cellar.force.isSome = true)) ∧
  (∃ (t : Nat) (who : Path) (target : Nat) (r : State) (s : State), (s = (r.land t).accessed who) ∧ (s.writeRefusal who Obj.cwtForce 0 (.num ((3 + 256 * target : Nat) : Int)) = none) ∧ (48 ≤ target) ∧ (target < 256)) ∧
  (∃ (t : Nat) (who : Path) (image : Bytes) (r : State) (s : State), (s = (r.land t).accessed who) ∧ (s.writeRefusal who Obj.secImage 0 (.bytes image) = none) ∧ (s.trust.lifecycle = 3)) ∧
  (∃ (t : Nat) (who : Path) (image : Bytes) (r : State) (s : State), (s = (r.land t).accessed who) ∧ (s.writeRefusal who Obj.secImage 0 (.bytes image) = none) ∧ (s.trust.lifecycle ≠ 3) ∧ (s.verifierBusy = true)) ∧
  (∃ (t : Nat) (who : Path) (v : Nat) (r : State) (s : State), (s = (r.land t).accessed who) ∧ (s.writeRefusal who Obj.secLifecycleAdvance 0 (.num v) = none) ∧ (s.trust.identity = none)) ∧
  (∃ (t : Nat) (who : Path) (v : Nat) (r : State) (s : State), (s = (r.land t).accessed who) ∧ (s.writeRefusal who Obj.secRetire 0 (.num v) = none) ∧ (v ≠ Config.serial)) ∧
  (∃ (t : Nat) (who : Path) (v : Nat) (r : State) (s : State), (s = (r.land t).accessed who) ∧ (s.writeRefusal who Obj.secRollbackCommit 0 (.num v) = none) ∧ (2 ≤ v)) ∧
  (∃ (t : Nat) (who : Path) (seq : Nat) (data : Bytes) (r : State) (s : State), (s = (r.land t).accessed who) ∧ (s.writeRefusal who Obj.secKeyInstall 0 (.bytes data) = none) ∧ (fieldBE data 2 2 ≠ 0)) ∧
  (∃ (t : Nat) (who : Path) (seq : Nat) (data : Bytes) (r : State) (s : State), (s = (r.land t).accessed who) ∧ (s.writeRefusal who Obj.secKeyInstall 0 (.bytes data) = none) ∧ (fieldBE data 2 2 = 0) ∧ (3 < fieldBE data 1 1 ∨ 3 < fieldBE data 0 1)) := by
  refine ⟨?_, ?_, ?_, ?_, ?_, ?_, ?_, ?_, ?_, ?_⟩
  · refine ⟨5, .firmware, 2, r0.trustIs fun x => { x with lifecycle := 3 }, _, rfl, ?_⟩
    refine ⟨?_, ?_, ?_, ?_⟩ <;> first | decide +kernel | rfl
  · refine ⟨5, .firmware, 2, r0.cellarIs fun x => { x with force := some (4, 0) }, _, rfl, ?_⟩
    refine ⟨?_, ?_, ?_, ?_⟩ <;> first | decide +kernel | rfl
  · refine ⟨5, .firmware, 50, r0, _, rfl, ?_⟩
    refine ⟨?_, ?_, ?_⟩ <;> first | decide +kernel | rfl
  · refine ⟨5, .firmware, zeros 4000, r0.trustIs fun x => { x with lifecycle := 3 }, _, rfl, ?_⟩
    refine ⟨?_, ?_⟩ <;> first | decide +kernel | rfl
  · refine ⟨5, .firmware, zeros 4000, anImage 1, _, rfl, ?_⟩
    refine ⟨?_, ?_, ?_⟩ <;> first | decide +kernel | rfl
  · refine ⟨5, .firmware, 2, rMan, _, rfl, ?_⟩
    refine ⟨?_, ?_⟩ <;> first | decide +kernel | rfl
  · refine ⟨5, .firmware, (if Config.serial = 0 then 1 else 0), r0, _, rfl, ?_⟩
    refine ⟨?_, ?_⟩
    · split <;> decide +kernel
    · split <;> omega
  · refine ⟨5, .firmware, 2, r0, _, rfl, ?_⟩
    refine ⟨?_, ?_⟩ <;> first | decide +kernel | rfl
  · refine ⟨5, .firmware, 1, (List.replicate 52 1), r0, _, rfl, ?_⟩
    refine ⟨?_, ?_⟩ <;> first | decide +kernel | rfl
  · refine ⟨5, .firmware, 1, (9 :: zeros 51), r0, _, rfl, ?_⟩
    refine ⟨?_, ?_, ?_⟩ <;> first | decide +kernel | rfl

/-- The hypotheses of RuleRefusalsChangeNothing are met, part 5. -/
theorem witness_ruleRefusalsChangeNothing_5 :
  (∃ (t : Nat) (who : Path) (seq : Nat) (data : Bytes) (z : Session) (r : State) (s : State), (s = (r.land t).accessed who) ∧ (s.writeRefusal who Obj.secKeyInstall 0 (.bytes data) = none) ∧ (fieldBE data 2 2 = 0) ∧ (fieldBE data 1 1 ≤ 3) ∧ (fieldBE data 0 1 ≤ 3) ∧ (s.sessionOf who = some z) ∧ (z.role.code < fieldBE data 0 1)) ∧
  (∃ (t : Nat) (who : Path) (v : Nat) (r : State) (s : State), (s = (r.land t).accessed who) ∧ (s.writeRefusal who Obj.secKeyErase 0 (.num v) = none) ∧ (bits v 15 8 = 2) ∧ (bits v 7 0 ≤ 3) ∧ (((Table.erase s.trust.keys (8 + bits v 7 0)).any fun p => decide (8 ≤ p.1) && decide (p.1 < 12)) = false)) ∧
  (∃ (t : Nat) (who : Path) (data : Bytes) (r : State) (s : State), (s = (r.land t).accessed who) ∧ (s.writeRefusal who Obj.secAttNonce 0 (.bytes data) = none) ∧ (s.trust.lifecycle = 3)) ∧
  (∃ (t : Nat) (who : Path) (v : Nat) (r : State) (s : State), (s = (r.land t).accessed who) ∧ (s.writeRefusal who Obj.pwrReset 0 (.num v) = none) ∧ (v ≠ Config.serial)) := by
  refine ⟨?_, ?_, ?_, ?_⟩
  · refine ⟨5, .strel 7, 1, (3 :: zeros 51), (((State.land 5 rTop).accessed (.strel 7)).session 7).getD aSession, rTop, _, rfl, ?_⟩
    refine ⟨?_, ?_, ?_, ?_, some_getD ?_, ?_⟩ <;> decide +kernel
  · refine ⟨5, .firmware, 512, r0.trustIs fun x => { x with keys := [(8, zeros 48)] }, _, rfl, ?_⟩
    refine ⟨?_, ?_, ?_, ?_⟩ <;> first | decide +kernel | rfl
  · refine ⟨5, .firmware, zeros 32, r0.trustIs fun x => { x with lifecycle := 3 }, _, rfl, ?_⟩
    refine ⟨?_, ?_⟩ <;> first | decide +kernel | rfl
  · refine ⟨5, .firmware, (if Config.serial = 0 then 1 else 0), r0, _, rfl, ?_⟩
    refine ⟨?_, ?_⟩
    · split <;> decide +kernel
    · split <;> omega

/-- The hypotheses of RefusedAccessesChangeNothing are met, part 1. -/
theorem witness_refusedAccessesChangeNothing_1 :
  (∃ (t : Nat) (who : Path) (v : Nat) (r s : State) (st : Status), s = (r.land t).accessed who ∧ s.writeRefusal who Obj.flrFill 0 (.num v) = some st) ∧
  (∃ (t : Nat) (who : Path) (form : Bytes) (r s : State) (st : Status), s = (r.land t).accessed who ∧ s.writeRefusal who Obj.flrRegions 0 (.bytes form) = some st) ∧
  (∃ (t : Nat) (who : Path) (v : Nat) (r s : State) (st : Status), s = (r.land t).accessed who ∧ s.writeRefusal who Obj.flrCheck 0 (.num v) = some st) ∧
  (∃ (t : Nat) (who : Path) (v : Nat) (r s : State) (st : Status), s = (r.land t).accessed who ∧ s.writeRefusal who Obj.setRack 0 (.num v) = some st) ∧
  (∃ (t : Nat) (who : Path) (v : Nat) (r s : State) (st : Status), s = (r.land t).accessed who ∧ s.writeRefusal who Obj.setRackCancel 0 (.num v) = some st) ∧
  (∃ (t : Nat) (who : Path) (v : Nat) (r s : State) (st : Status), s = (r.land t).accessed who ∧ s.writeRefusal who Obj.setDiscard 0 (.num v) = some st) ∧
  (∃ (t : Nat) (who : Path) (v : Nat) (r s : State) (st : Status), s = (r.land t).accessed who ∧ s.writeRefusal who Obj.setValidate 0 (.num v) = some st) ∧
  (∃ (t : Nat) (who : Path) (v : Nat) (r s : State) (st : Status), s = (r.land t).accessed who ∧ s.writeRefusal who Obj.setSave 0 (.num v) = some st) ∧
  (∃ (t : Nat) (who : Path) (v : Nat) (r s : State) (st : Status), s = (r.land t).accessed who ∧ s.writeRefusal who Obj.setLoad 0 (.num v) = some st) ∧
  (∃ (t : Nat) (who : Path) (v : Nat) (r s : State) (st : Status), s = (r.land t).accessed who ∧ s.writeRefusal who Obj.setSessionKill 0 (.num v) = some st) ∧
  (∃ (t : Nat) (who : Path) (v : Nat) (r s : State) (st : Status), s = (r.land t).accessed who ∧ s.writeRefusal who Obj.setStrelPort 0 (.num v) = some st) ∧
  (∃ (t : Nat) (who : Path) (r s : State) (st : Status), s = (r.land t).accessed who ∧ s.accessRefusal who Obj.setCanNonce 0 false = some st) := by
  refine ⟨?_, ?_, ?_, ?_, ?_, ?_, ?_, ?_, ?_, ?_, ?_, ?_⟩
  · exact ⟨5, .can, 0, r0, _, .noSession, rfl, refused_closed (by decide +kernel)⟩
  · exact ⟨5, .can, [], r0, _, .noSession, rfl, refused_closed (by decide +kernel)⟩
  · exact ⟨5, .can, 0, r0, _, .noSession, rfl, refused_closed (by decide +kernel)⟩
  · exact ⟨5, .can, 0, r0, _, .noSession, rfl, refused_closed (by decide +kernel)⟩
  · exact ⟨5, .can, 0, r0, _, .noSession, rfl, refused_closed (by decide +kernel)⟩
  · exact ⟨5, .can, 0, r0, _, .noSession, rfl, refused_closed (by decide +kernel)⟩
  · exact ⟨5, .can, 0, r0, _, .noSession, rfl, refused_closed (by decide +kernel)⟩
  · exact ⟨5, .can, 0, r0, _, .noSession, rfl, refused_closed (by decide +kernel)⟩
  · exact ⟨5, .can, 0, r0, _, .noSession, rfl, refused_closed (by decide +kernel)⟩
  · exact ⟨5, .can, 0, r0, _, .noSession, rfl, refused_closed (by decide +kernel)⟩
  · exact ⟨5, .can, 0, r0, _, .noSession, rfl, refused_closed (by decide +kernel)⟩
  · exact ⟨5, .can, r0, _, .noSession, rfl, by decide +kernel⟩

/-- The hypotheses of RefusedAccessesChangeNothing are met, part 2. -/
theorem witness_refusedAccessesChangeNothing_2 :
  (∃ (t : Nat) (who : Path) (data : Bytes) (r s : State) (st : Status), s = (r.land t).accessed who ∧ s.writeRefusal who Obj.setCanProof 0 (.bytes data) = some st) ∧
  (∃ (t : Nat) (who : Path) (v : Nat) (r s : State) (st : Status), s = (r.land t).accessed who ∧ s.writeRefusal who Obj.setCanLock 0 (.num v) = some st) ∧
  (∃ (t : Nat) (who : Path) (v : Nat) (r s : State) (st : Status), s = (r.land t).accessed who ∧ s.writeRefusal who Obj.tbsSource 0 (.num v) = some st) ∧
  (∃ (t : Nat) (who : Path) (time80 : Bytes) (r s : State) (st : Status), s = (r.land t).accessed who ∧ s.writeRefusal who Obj.tbsTodSet 0 (.bytes time80) = some st) ∧
  (∃ (t : Nat) (who : Path) (row v : Nat) (r s : State) (st : Status), s = (r.land t).accessed who ∧ s.writeRefusal who Obj.tbsCalW0 row (.num v) = some st) ∧
  (∃ (t : Nat) (who : Path) (row v : Nat) (r s : State) (st : Status), s = (r.land t).accessed who ∧ s.writeRefusal who Obj.tbsCalW1 row (.num v) = some st) ∧
  (∃ (t : Nat) (who : Path) (row v : Nat) (r s : State) (st : Status), s = (r.land t).accessed who ∧ s.writeRefusal who Obj.cmpStillDesc row (.num v) = some st) ∧
  (∃ (t : Nat) (who : Path) (row : Nat) (data : Bytes) (r s : State) (st : Status), s = (r.land t).accessed who ∧ s.writeRefusal who Obj.cmpStillData row (.bytes data) = some st) ∧
  (∃ (t : Nat) (who : Path) (v : Nat) (r s : State) (st : Status), s = (r.land t).accessed who ∧ s.writeRefusal who Obj.tunSelftest 0 (.num v) = some st) ∧
  (∃ (t : Nat) (who : Path) (v : Nat) (r s : State) (st : Status), s = (r.land t).accessed who ∧ s.writeRefusal who Obj.tunReinstate 0 (.num v) = some st) ∧
  (∃ (t : Nat) (who : Path) (image : Bytes) (r s : State) (st : Status), s = (r.land t).accessed who ∧ s.writeRefusal who Obj.tunPatchImage 0 (.bytes image) = some st) ∧
  (∃ (t : Nat) (who : Path) (v : Nat) (r s : State) (st : Status), s = (r.land t).accessed who ∧ s.writeRefusal who Obj.tunPatchApply 0 (.num v) = some st) := by
  refine ⟨?_, ?_, ?_, ?_, ?_, ?_, ?_, ?_, ?_, ?_, ?_, ?_⟩
  · exact ⟨5, .can, [], r0, _, .noSession, rfl, refused_closed (by decide +kernel)⟩
  · exact ⟨5, .can, 0, r0, _, .noSession, rfl, refused_closed (by decide +kernel)⟩
  · exact ⟨5, .can, 0, r0, _, .noSession, rfl, refused_closed (by decide +kernel)⟩
  · exact ⟨5, .can, [], r0, _, .noSession, rfl, refused_closed (by decide +kernel)⟩
  · exact ⟨5, .can, 0, 0, r0, _, .noSession, rfl, refused_closed (by decide +kernel)⟩
  · exact ⟨5, .can, 0, 0, r0, _, .noSession, rfl, refused_closed (by decide +kernel)⟩
  · exact ⟨5, .can, 0, 0, r0, _, .noSession, rfl, refused_closed (by decide +kernel)⟩
  · exact ⟨5, .can, 0, [], r0, _, .noSession, rfl, refused_closed (by decide +kernel)⟩
  · exact ⟨5, .can, 0, r0, _, .noSession, rfl, refused_closed (by decide +kernel)⟩
  · exact ⟨5, .can, 0, r0, _, .noSession, rfl, refused_closed (by decide +kernel)⟩
  · exact ⟨5, .can, [], r0, _, .noSession, rfl, refused_closed (by decide +kernel)⟩
  · exact ⟨5, .can, 0, r0, _, .noSession, rfl, refused_closed (by decide +kernel)⟩

/-- The hypotheses of RefusedAccessesChangeNothing are met, part 3. -/
theorem witness_refusedAccessesChangeNothing_3 :
  (∃ (t : Nat) (who : Path) (v : Nat) (r s : State) (st : Status), s = (r.land t).accessed who ∧ s.writeRefusal who Obj.tunPatchRemove 0 (.num v) = some st) ∧
  (∃ (t : Nat) (who : Path) (v : Nat) (r s : State) (st : Status), s = (r.land t).accessed who ∧ s.writeRefusal who Obj.dspEffortCap 0 (.num v) = some st) ∧
  (∃ (t : Nat) (who : Path) (v : Nat) (r s : State) (st : Status), s = (r.land t).accessed who ∧ s.writeRefusal who Obj.rakNudge 0 (.num v) = some st) ∧
  (∃ (t : Nat) (who : Path) (r s : State) (st : Status), s = (r.land t).accessed who ∧ s.writeRefusal who Obj.twnSilence 0 (.num 1) = some st) ∧
  (∃ (t : Nat) (who : Path) (r s : State) (st : Status), s = (r.land t).accessed who ∧ s.writeRefusal who Obj.twnSilence 0 (.num 0) = some st) ∧
  (∃ (t : Nat) (who : Path) (seq : Nat) (data : Bytes) (r s : State) (st : Status), s = (r.land t).accessed who ∧ s.writeRefusal who Obj.twnKey 0 (.bytes data) = some st) ∧
  (∃ (t : Nat) (who : Path) (row word v : Nat) (r s : State) (st : Status), s = (r.land t).accessed who ∧ s.writeRefusal who (lnkPortWord word) row (.num v) = some st) ∧
  (∃ (t : Nat) (who : Path) (lane errors : Nat) (r s : State) (st : Status), s = (r.land t).accessed who ∧ s.writeRefusal who Obj.lnkLanePrbs lane (.num 0) = some st) ∧
  (∃ (t : Nat) (who : Path) (lane : Nat) (r s : State) (st : Status), s = (r.land t).accessed who ∧ s.writeRefusal who Obj.lnkLanePrbs lane (.num 1) = some st) ∧
  (∃ (t : Nat) (who : Path) (lane : Nat) (r s : State) (st : Status), s = (r.land t).accessed who ∧ s.writeRefusal who Obj.lnkLanePrbs lane (.num 2) = some st) ∧
  (∃ (t : Nat) (who : Path) (row v : Nat) (r s : State) (st : Status), s = (r.land t).accessed who ∧ s.writeRefusal who Obj.tapFlush row (.num v) = some st) ∧
  (∃ (t : Nat) (who : Path) (v : Nat) (r s : State) (st : Status), s = (r.land t).accessed who ∧ s.writeRefusal who Obj.memRetrain 0 (.num v) = some st) := by
  refine ⟨?_, ?_, ?_, ?_, ?_, ?_, ?_, ?_, ?_, ?_, ?_, ?_⟩
  · exact ⟨5, .can, 0, r0, _, .noSession, rfl, refused_closed (by decide +kernel)⟩
  · exact ⟨5, .can, 0, r0, _, .noSession, rfl, refused_closed (by decide +kernel)⟩
  · exact ⟨5, .can, 0, r0, _, .noSession, rfl, refused_closed (by decide +kernel)⟩
  · exact ⟨5, .can, r0, _, .noSession, rfl, refused_closed (by decide +kernel)⟩
  · exact ⟨5, .can, r0, _, .noSession, rfl, refused_closed (by decide +kernel)⟩
  · exact ⟨5, .can, 0, [], r0, _, .noSession, rfl, refused_closed (by decide +kernel)⟩
  · exact ⟨5, .can, 0, 0, 0, r0, _, .noSession, rfl, refused_closed (by decide +kernel)⟩
  · exact ⟨5, .can, 0, 0, r0, _, .noSession, rfl, refused_closed (by decide +kernel)⟩
  · exact ⟨5, .can, 0, r0, _, .noSession, rfl, refused_closed (by decide +kernel)⟩
  · exact ⟨5, .can, 0, r0, _, .noSession, rfl, refused_closed (by decide +kernel)⟩
  · exact ⟨5, .can, 0, 0, r0, _, .noSession, rfl, refused_closed (by decide +kernel)⟩
  · exact ⟨5, .can, 0, r0, _, .noSession, rfl, refused_closed (by decide +kernel)⟩

/-- The hypotheses of RefusedAccessesChangeNothing are met, part 4. -/
theorem witness_refusedAccessesChangeNothing_4 :
  (∃ (t : Nat) (who : Path) (row v : Nat) (r s : State) (st : Status), s = (r.land t).accessed who ∧ s.writeRefusal who Obj.memArbPrio row (.num v) = some st) ∧
  (∃ (t : Nat) (who : Path) (v : Nat) (r s : State) (st : Status), s = (r.land t).accessed who ∧ s.writeRefusal who Obj.memGrSelftest 0 (.num v) = some st) ∧
  (∃ (t : Nat) (who : Path) (data : Bytes) (r s : State) (st : Status), s = (r.land t).accessed who ∧ s.writeRefusal who Obj.spgDiagDesc 0 (.bytes data) = some st) ∧
  (∃ (t : Nat) (who : Path) (line : Nat) (r s : State) (st : Status), s = (r.land t).accessed who ∧ s.writeRefusal who Obj.wrtFlush line (.num 1) = some st) ∧
  (∃ (t : Nat) (who : Path) (line : Nat) (r s : State) (st : Status), s = (r.land t).accessed who ∧ s.writeRefusal who Obj.wrtFlush line (.num 0) = some st) ∧
  (∃ (t : Nat) (who : Path) (v : Nat) (r s : State) (st : Status), s = (r.land t).accessed who ∧ s.writeRefusal who Obj.cwtSafeEnter 0 (.num v) = some st) ∧
  (∃ (t : Nat) (who : Path) (r s : State) (st : Status), s = (r.land t).accessed who ∧ s.writeRefusal who Obj.cwtClear 0 (.num 1) = some st) ∧
  (∃ (t : Nat) (who : Path) (r s : State) (st : Status), s = (r.land t).accessed who ∧ s.writeRefusal who Obj.cwtClear 0 (.num 2) = some st) ∧
  (∃ (t : Nat) (who : Path) (cls : Nat) (r s : State) (st : Status), s = (r.land t).accessed who ∧ s.writeRefusal who Obj.cwtAck 0 (.num ((2 ^ cls : Nat) : Int)) = some st) ∧
  (∃ (t : Nat) (who : Path) (r s : State) (st : Status), s = (r.land t).accessed who ∧ s.writeRefusal who Obj.cwtAck 0 (.num 128) = some st) ∧
  (∃ (t : Nat) (who : Path) (data : Bytes) (r s : State) (st : Status), s = (r.land t).accessed who ∧ s.writeRefusal who Obj.cwtInject 0 (.bytes (data ++ [0])) = some st) ∧
  (∃ (t : Nat) (who : Path) (data : Bytes) (r s : State) (st : Status), s = (r.land t).accessed who ∧ s.writeRefusal who Obj.cwtInject 0 (.bytes (data ++ [1])) = some st) := by
  refine ⟨?_, ?_, ?_, ?_, ?_, ?_, ?_, ?_, ?_, ?_, ?_, ?_⟩
  · exact ⟨5, .can, 0, 0, r0, _, .noSession, rfl, refused_closed (by decide +kernel)⟩
  · exact ⟨5, .can, 0, r0, _, .noSession, rfl, refused_closed (by decide +kernel)⟩
  · exact ⟨5, .can, [], r0, _, .noSession, rfl, refused_closed (by decide +kernel)⟩
  · exact ⟨5, .can, 0, r0, _, .noSession, rfl, refused_closed (by decide +kernel)⟩
  · exact ⟨5, .can, 0, r0, _, .noSession, rfl, refused_closed (by decide +kernel)⟩
  · exact ⟨5, .can, 0, r0, _, .noSession, rfl, refused_closed (by decide +kernel)⟩
  · exact ⟨5, .can, r0, _, .noSession, rfl, refused_closed (by decide +kernel)⟩
  · exact ⟨5, .can, r0, _, .noSession, rfl, refused_closed (by decide +kernel)⟩
  · exact ⟨5, .can, 0, r0, _, .noSession, rfl, refused_closed (by decide +kernel)⟩
  · exact ⟨5, .can, r0, _, .noSession, rfl, refused_closed (by decide +kernel)⟩
  · exact ⟨5, .can, [], r0, _, .noSession, rfl, refused_closed (by decide +kernel)⟩
  · exact ⟨5, .can, [], r0, _, .noSession, rfl, refused_closed (by decide +kernel)⟩

/-- The hypotheses of RefusedAccessesChangeNothing are met, part 5. -/
theorem witness_refusedAccessesChangeNothing_5 :
  (∃ (t : Nat) (who : Path) (target : Nat) (r s : State) (st : Status), s = (r.land t).accessed who ∧ s.writeRefusal who Obj.cwtForce 0 (.num ((1 + 256 * target : Nat) : Int)) = some st) ∧
  (∃ (t : Nat) (who : Path) (target : Nat) (r s : State) (st : Status), s = (r.land t).accessed who ∧ s.writeRefusal who Obj.cwtForce 0 (.num ((2 + 256 * target : Nat) : Int)) = some st) ∧
  (∃ (t : Nat) (who : Path) (target : Nat) (r s : State) (st : Status), s = (r.land t).accessed who ∧ s.writeRefusal who Obj.cwtForce 0 (.num ((3 + 256 * target : Nat) : Int)) = some st) ∧
  (∃ (t : Nat) (who : Path) (r s : State) (st : Status), s = (r.land t).accessed who ∧ s.writeRefusal who Obj.cwtForce 0 (.num ((4 + 256 * 0 : Nat) : Int)) = some st) ∧
  (∃ (t : Nat) (who : Path) (r s : State) (st : Status), s = (r.land t).accessed who ∧ s.writeRefusal who Obj.cwtForce 0 (.num ((5 + 256 * 0 : Nat) : Int)) = some st) ∧
  (∃ (t : Nat) (who : Path) (row v : Nat) (r s : State) (st : Status), s = (r.land t).accessed who ∧ s.writeRefusal who Obj.icuSrc row (.num v) = some st) ∧
  (∃ (t : Nat) (who : Path) (r s : State) (st : Status), s = (r.land t).accessed who ∧ s.accessRefusal who Obj.icuExtClaim 0 false = some st) ∧
  (∃ (t : Nat) (who : Path) (v : Nat) (r s : State) (st : Status), s = (r.land t).accessed who ∧ s.writeRefusal who Obj.icuExtEoi 0 (.num v) = some st) ∧
  (∃ (t : Nat) (who : Path) (row v : Nat) (r s : State) (st : Status), s = (r.land t).accessed who ∧ s.writeRefusal who Obj.icuExtMask row (.num v) = some st) ∧
  (∃ (t : Nat) (who : Path) (row v : Nat) (r s : State) (st : Status), s = (r.land t).accessed who ∧ s.writeRefusal who Obj.icuExtStorm row (.num v) = some st) ∧
  (∃ (t : Nat) (who : Path) (v : Nat) (r s : State) (st : Status), s = (r.land t).accessed who ∧ s.writeRefusal who Obj.logMark 0 (.num v) = some st) ∧
  (∃ (t : Nat) (who : Path) (image : Bytes) (r s : State) (st : Status), s = (r.land t).accessed who ∧ s.writeRefusal who Obj.secImage 0 (.bytes image) = some st) := by
  refine ⟨?_, ?_, ?_, ?_, ?_, ?_, ?_, ?_, ?_, ?_, ?_, ?_⟩
  · exact ⟨5, .can, 0, r0, _, .noSession, rfl, refused_closed (by decide +kernel)⟩
  · exact ⟨5, .can, 0, r0, _, .noSession, rfl, refused_closed (by decide +kernel)⟩
  · exact ⟨5, .can, 0, r0, _, .noSession, rfl, refused_closed (by decide +kernel)⟩
  · exact ⟨5, .can, r0, _, .noSession, rfl, refused_closed (by decide +kernel)⟩
  · exact ⟨5, .can, r0, _, .noSession, rfl, refused_closed (by decide +kernel)⟩
  · exact ⟨5, .can, 0, 0, r0, _, .noSession, rfl, refused_closed (by decide +kernel)⟩
  · exact ⟨5, .can, r0, _, .noSession, rfl, by decide +kernel⟩
  · exact ⟨5, .can, 0, r0, _, .noSession, rfl, refused_closed (by decide +kernel)⟩
  · exact ⟨5, .can, 0, 0, r0, _, .noSession, rfl, refused_closed (by decide +kernel)⟩
  · exact ⟨5, .can, 0, 0, r0, _, .noSession, rfl, refused_closed (by decide +kernel)⟩
  · exact ⟨5, .can, 0, r0, _, .noSession, rfl, refused_closed (by decide +kernel)⟩
  · exact ⟨5, .can, [], r0, _, .noSession, rfl, refused_closed (by decide +kernel)⟩

/-- The hypotheses of RefusedAccessesChangeNothing are met, part 6. -/
theorem witness_refusedAccessesChangeNothing_6 :
  (∃ (t : Nat) (who : Path) (v : Nat) (r s : State) (st : Status), s = (r.land t).accessed who ∧ s.writeRefusal who Obj.secLifecycleAdvance 0 (.num v) = some st) ∧
  (∃ (t : Nat) (who : Path) (v : Nat) (r s : State) (st : Status), s = (r.land t).accessed who ∧ s.writeRefusal who Obj.secRetire 0 (.num v) = some st) ∧
  (∃ (t : Nat) (who : Path) (v : Nat) (r s : State) (st : Status), s = (r.land t).accessed who ∧ s.writeRefusal who Obj.secRollbackCommit 0 (.num v) = some st) ∧
  (∃ (t : Nat) (who : Path) (seq : Nat) (data : Bytes) (r s : State) (st : Status), s = (r.land t).accessed who ∧ s.writeRefusal who Obj.secKeyInstall 0 (.bytes data) = some st) ∧
  (∃ (t : Nat) (who : Path) (v : Nat) (r s : State) (st : Status), s = (r.land t).accessed who ∧ s.writeRefusal who Obj.secKeyErase 0 (.num v) = some st) ∧
  (∃ (t : Nat) (who : Path) (v : Nat) (r s : State) (st : Status), s = (r.land t).accessed who ∧ s.writeRefusal who Obj.secFwPatchRemove 0 (.num v) = some st) ∧
  (∃ (t : Nat) (who : Path) (data : Bytes) (r s : State) (st : Status), s = (r.land t).accessed who ∧ s.writeRefusal who Obj.secAttNonce 0 (.bytes data) = some st) ∧
  (∃ (t : Nat) (who : Path) (offset : Nat) (r s : State) (st : Status), s = (r.land t).accessed who ∧ s.accessRefusal who Obj.secAttReport 0 false = some st) ∧
  (∃ (t : Nat) (who : Path) (v : Nat) (r s : State) (st : Status), s = (r.land t).accessed who ∧ s.writeRefusal who Obj.pwrReset 0 (.num v) = some st) := by
  refine ⟨?_, ?_, ?_, ?_, ?_, ?_, ?_, ?_, ?_⟩
  · exact ⟨5, .can, 0, r0, _, .noSession, rfl, refused_closed (by decide +kernel)⟩
  · exact ⟨5, .can, 0, r0, _, .noSession, rfl, refused_closed (by decide +kernel)⟩
  · exact ⟨5, .can, 0, r0, _, .noSession, rfl, refused_closed (by decide +kernel)⟩
  · exact ⟨5, .can, 0, [], r0, _, .noSession, rfl, refused_closed (by decide +kernel)⟩
  · exact ⟨5, .can, 0, r0, _, .noSession, rfl, refused_closed (by decide +kernel)⟩
  · exact ⟨5, .can, 0, r0, _, .noSession, rfl, refused_closed (by decide +kernel)⟩
  · exact ⟨5, .can, [], r0, _, .noSession, rfl, refused_closed (by decide +kernel)⟩
  · exact ⟨5, .can, 0, r0, _, .noSession, rfl, by decide +kernel⟩
  · exact ⟨5, .can, 0, r0, _, .noSession, rfl, refused_closed (by decide +kernel)⟩

/-- The hypotheses of StepServesTheFrontCommand are met. -/
theorem witness_stepServesTheFrontCommand :
  ∃ (s : State) (c : Instr) (rest : List Instr), s.pending = c :: rest := by
  exact ⟨{ r0 with pending := [.stormClear 5] }, .stormClear 5, [], rfl⟩

/-- The hypotheses of SufficientRoleIsNeverRefused are met. -/
theorem witness_sufficientRoleIsNeverRefused :
  (∃ (s : State) (who : Path) (o : Obj) (q : Role), s.roleOf who = some q ∧ o.role.code ≤ q.code) ∧ ∃ (s : State) (who : Path) (o : Obj) (row : Nat) (writing : Bool) (q : Role), s.roleOf who = some q ∧ q.code < o.role.code ∧ (if writing then o.access.writable && !rowFixed o row else o.access.readable) = true := by
  exact ⟨⟨r0, .firmware, Obj.logMark, .vendor, rfl, by decide⟩, rPre, .can, Obj.logMark, 0, true, .viewer, by decide +kernel, by decide, by decide⟩

/-- The hypotheses of DiscardCopiesTheBrightSet are met. -/
theorem witness_discardCopiesTheBrightSet :
  (∃ (t : Nat) (who : Path) (v : Nat) (r s : State), s = (r.land t).accessed who ∧ s.writeRefusal who Obj.setDiscard 0 (.num v) = none ∧ s.sets.rack.state = .idle) ∧ ∃ (t : Nat) (who : Path) (v : Nat) (r s : State), s = (r.land t).accessed who ∧ s.writeRefusal who Obj.setDiscard 0 (.num v) = none ∧ s.sets.rack.state ≠ .idle := by
  exact ⟨⟨5, .firmware, 1, r0, _, rfl, by decide +kernel, by decide +kernel⟩, 5, .firmware, 1, r0.setsIs fun x => { x with rack := { x.rack with state := .scheduled } }, _, rfl, by decide +kernel, by decide +kernel⟩

/-- The hypotheses of KeyEraseKeepsABrewerAndEverySession are met. -/
theorem witness_keyEraseKeepsABrewerAndEverySession :
  (∃ (t : Nat) (who : Path) (v : Nat) (r s : State), s = (r.land t).accessed who ∧ s.writeRefusal who Obj.secKeyErase 0 (.num v) = none ∧ bits v 15 8 ≤ 3 ∧ bits v 7 0 ≤ 3 ∧ bits v 15 8 = 2 ∧ (∀ p ∈ Table.erase s.trust.keys (8 + bits v 7 0), ¬ (8 ≤ p.1 ∧ p.1 < 12))) ∧ (∃ (t : Nat) (who : Path) (v : Nat) (r s : State), s = (r.land t).accessed who ∧ s.writeRefusal who Obj.secKeyErase 0 (.num v) = none ∧ bits v 15 8 ≤ 3 ∧ bits v 7 0 ≤ 3 ∧ bits v 15 8 = 2 ∧ ∃ p ∈ Table.erase s.trust.keys (8 + bits v 7 0), 8 ≤ p.1 ∧ p.1 < 12) ∧ ∃ (t : Nat) (who : Path) (v : Nat) (r s : State), s = (r.land t).accessed who ∧ s.writeRefusal who Obj.secKeyErase 0 (.num v) = none ∧ bits v 7 0 ≤ 3 ∧ bits v 15 8 = 3 := by
  exact ⟨⟨5, .firmware, 0x202, r0.trustIs fun x => { x with keys := [(8 + 2, zeros 48)] }, _, rfl, by decide +kernel⟩, ⟨5, .firmware, 0x202, r0.trustIs fun x => { x with keys := [(8 + 1, zeros 48), (8 + 2, zeros 48)] }, _, rfl, by decide +kernel⟩, 5, .firmware, 0x303, r0, _, rfl, by decide +kernel⟩

/-- The hypotheses of WorkingMemoryMapsLineByLine are met. -/
theorem witness_workingMemoryMapsLineByLine :
  ∃ w c word i : Nat, w ≤ 0x17FFFFFF ∧ c < 12 ∧ i < 8 ∧ word = word := by
  exact ⟨0x17FFFFFF, 11, 0, 7, by decide, by decide, by decide, rfl⟩

/-- The hypotheses of KegGrantsTheLowestFreeBuffer are met. -/
theorem witness_kegGrantsTheLowestFreeBuffer :
  (∃ (s : State) (pool x : Nat), s.kegFirstFree pool = some x) ∧ (∃ (s : State) (pool : Nat), s.kegFirstFree pool = none) ∧ ∃ (t port size : Nat) (spill : Bool) (r s : State) (pool x : Nat), s = r.land t ∧ 0 < size ∧ kegFirstPool size = some pool ∧ (∀ p, s.kegCompeting p = []) ∧ s.kegFirstFree pool = some x := by
  exact ⟨⟨r0, 0, 0, by decide +kernel⟩, ⟨r0, 7, by decide +kernel⟩, 5, 2, 100, true, r0, _, 0, 0, rfl, by decide, by decide, fun _ => rfl, by decide +kernel⟩

/-- The hypotheses of PushKeepsEveryLineWithinItsDepth are met. -/
theorem witness_pushKeepsEveryLineWithinItsDepth :
  (∃ (t line : Nat) (words : List Nat) (r u : State), exec (.push t line words) r = .next u ∧ ((r.land t).wortLine line).fill ≤ wortDepth line) ∧ ∃ (t line : Nat) (words : List Nat) (r s : State), s = r.land t ∧ line < 128 ∧ 1 ≤ words.length ∧ words.length ≤ 8 ∧ wortDropMode line = false := by
  exact ⟨⟨5, 3, [7], r0, _, rfl, by decide +kernel⟩, 5, 3, [7], r0, _, rfl, by decide, by decide, by decide, by decide⟩

/-- The hypotheses of LineInstantsReadBack are met. -/
theorem witness_lineInstantsReadBack :
  ∃ (q : Raster) (n l : Nat), 0 < q.num ∧ 0 < q.den ∧ q.num * q.lt ≤ q.den * giga ∧ l < q.lt := by
  exact ⟨{ num := 60, den := 1, lt := 1000, nk := 0, fk := 0 }, 7, 999, by decide, by decide, by decide, by decide⟩

/-- The hypotheses of AccessesStayInTheirBlocks are met. -/
theorem witness_accessesStayInTheirBlocks :
  ∃ (d : SpargeSide) (p o a : Nat), 0 < d.run ∧ o = p % d.run ∧ a = (d.runStart (p / d.run)).toNat ∧ (o < min d.run ((spaceBlock d.space - a % spaceBlock d.space) % spaceBlock d.space) ∨ (a + o) % spaceBlock d.space = 0) := by
  exact ⟨{ addr := 0, space := 0, run := 300, c0 := 1, c1 := 1, c2 := 1, s0 := 0, s1 := 0, s2 := 0 }, 64, 64, 0, by decide, by decide, by decide, by decide⟩

/-- The hypotheses of BurstStoresWhereItAims are met. -/
theorem witness_burstStoresWhereItAims :
  ∃ (t : Nat) (asserted : List Nat) (r s : State) (c : Nat), s = r.land t ∧ s.spargeChoose s.spargeReady = some c ∧ ((s.spargeCh c).req = 0 ∨ asserted.contains (s.spargeCh c).req = true) ∧ (s.spargeCh c).nextReads = false ∧ (spargeDest (s.spargeCh c).words).space ≤ 4 := by
  exact ⟨5, [], rWrites, _, 3, rfl, by decide +kernel, by decide +kernel, by decide +kernel, by decide +kernel⟩

/-- The hypotheses of CommandsAreServedInOrder are met. -/
theorem witness_commandsAreServedInOrder :
  ∃ (s : State) (c : Instr) (rest : List Instr), s.pending = c :: rest := by
  exact ⟨{ r0 with pending := [.stormClear 5] }, .stormClear 5, [], rfl⟩

/-- The hypotheses of OnlyNamedCommandsChangeTheBrightSetOrAMemory are met. -/
theorem witness_onlyNamedCommandsChangeTheBrightSetOrAMemory :
  (∃ (c : Instr) (s u : State), exec c s = .next u ∧ c.racks = false) ∧ (∃ (c : Instr) (s u : State), exec c s = .next u ∧ c.racks = false ∧ c.stores = false) ∧ ∃ (c : Instr) (s u : State), exec c s = .next u ∧ c.stores = false := by
  exact ⟨⟨.stormClear 5, r0, _, rfl, rfl⟩, ⟨.stormClear 5, r0, _, rfl, rfl, rfl⟩, .stormClear 5, r0, _, rfl, rfl⟩

/-- The hypotheses of MemoriesStayCanonical are met. -/
theorem witness_memoriesStayCanonical :
  ∃ s : State, s.memoriesWf = true := by
  exact ⟨r0, by decide +kernel⟩

/-- The hypotheses of FusesAreNeverUnblown are met. -/
theorem witness_fusesAreNeverUnblown :
  ∃ s u : State, step s = .next u := by
  exact ⟨r0, r0, rfl⟩

end Sys2Proof.Machine
end

section
/-! PROOFS. The scope family. The access checks of R454 by the role a path holds (R7); what saving, loading and the line
boundary do once the checks let them through (R36, R48, R49); what a write of an object by index and a USDO transfer do once
the index has been looked up (R33, R60). Each obligation is assembled from the lemma of its clause. -/
set_option Elab.async false
namespace Sys2Proof.Machine

/-! ### Roles (R7) -/

/-- Whether the object's access class permits an access of the row: step 2 of R454. -/
def Obj.permits (o : Obj) (row : Nat) (writing : Bool) : Bool :=
  if writing then o.access.writable && !rowFixed o row else o.access.readable

section
variable {s : State} {who : Path} {o : Obj} {row : Nat} {writing : Bool} {q : Role} (hq : s.roleOf who = some q)
include hq

/-- R454: for a path that holds role `q`, steps 2 to 4 are the access class, then the role, then the row. -/
theorem State.accessRefusal_of_roleOf : s.accessRefusal who o row writing =
    if o.permits row writing = false then some .access
    else if q.code < o.role.code then some .role else if row < o.rowCount then none else some .row := by
  unfold State.accessRefusal
  rw [hq]
  rfl

/-- R7: a role at or above an object's minimum role is enough; only the other conditions of R454 can refuse. -/
theorem State.accessRefusal_ne_role (hle : o.role.code ≤ q.code) : s.accessRefusal who o row writing ≠ some .role := by
  rw [State.accessRefusal_of_roleOf hq, if_neg (Nat.not_lt.mpr hle)]
  cases o.permits row writing with
  | false => simp
  | true => by_cases hrow : row < o.rowCount <;> simp [hrow]

/-- R7: below the minimum role, an access that its access class permits is refused with ROLE, whatever the row. -/
theorem State.accessRefusal_eq_role (hlt : q.code < o.role.code) (hclass : o.permits row writing = true) :
    s.accessRefusal who o row writing = some .role := by
  rw [State.accessRefusal_of_roleOf hq, hclass, if_neg (by decide), if_pos hlt]

end

/-- Settles O47: the order of the roles is their codes'; the two directions are the two lemmas above. -/
theorem sufficientRoleIsNeverRefused : Obligations.SufficientRoleIsNeverRefused := by
  unfold Obligations.SufficientRoleIsNeverRefused
  refine ⟨by decide, ?_, ?_⟩
  · intro s who o row writing q
    exact State.accessRefusal_ne_role
  · intro s who o row writing q
    exact State.accessRefusal_eq_role

/-! ### Saves, loads and the line boundary (R36, R48, R49) -/

section
variable {t : Nat} {who : Path} {r s : State}

/-- R48: with no save or load under way, SET_SAVE waits for the line boundary. -/
theorem setSave_of_not_slotBusy {v : Nat} (h : s.slotBusy = false) :
    setSave v s = ({ s with sets := { s.sets with savePending := some v } }.put Obj.setSaveStatus 0 1, .ok) := by
  simp [setSave, h]

/-- R49: with the green set unlocked, no save or load under way and data in the slot, the load begins. -/
theorem setLoad_of_hasData {v : Nat} (hlock : s.greenLocked = false) (hbusy : s.slotBusy = false)
    (hempty : (s.setSlot v).state ≠ 0) (hdamaged : (s.setSlot v).state ≠ 3) :
    setLoad v s = ({ s with sets := { s.sets with loading := some v } }, .ok) := by
  simp [setLoad, hlock, hbusy, hempty, hdamaged]

/-- R30, R48: a save that read back right, its region form within the limit, ends by the size of the set alone. -/
theorem execSetSaveDone_of_written {k : Nat} {c : CanvasSet} (hsaving : (r.land t).sets.saving = some (k, c))
    (hs : s = { r.land t with sets := { (r.land t).sets with saving := none } })
    (hlimit : c.regionBytes ≤ (s.put Obj.setSaveStatus 0 2).persistLimit) :
    execSetSaveDone t true r = .next (if 2097024 < c.slotBytes then s.put Obj.setSaveStatus 0 3
      else ((s.put Obj.setSaveStatus 0 2).putSlot k { state := 1, image := { c with map := c.canonicalMap } }).put
        Obj.flrPersistStatus 0 0) := by
  subst hs
  simp only [execSetSaveDone, hsaving]
  by_cases hlarge : 2097024 < c.slotBytes
  · simp only [hlarge, if_true]
  · simp only [hlarge, hlimit, Bool.true_eq_false, if_true, if_false]

/-- R49: a load that ends with the green set unlocked and data in the slot makes the slot's image the green set. -/
theorem execSetLoadDone_of_hasData {k : Nat} (hs : s = r.land t) (hloading : s.sets.loading = some k)
    (hlock : s.greenLocked = false) (hempty : (s.setSlot k).state ≠ 0) (hdamaged : (s.setSlot k).state ≠ 3) :
    execSetLoadDone t r = .next (({ s with sets := { s.sets with loading := none } } : State).loadSlot (s.setSlot k)) := by
  have hgo : ¬ (s.greenLocked = true ∨ (s.setSlot k).state = 0 ∨ (s.setSlot k).state = 3) := by
    simp [hlock, hempty, hdamaged]
  subst hs
  simp only [execSetLoadDone, hloading]
  exact congrArg _ (if_neg hgo)

/-- R36, R76: outside a gap, the line boundary takes the staged writes, then the snapshot, the segments and the rows. -/
theorem execLineBoundary_of_not_inGap (hs : s = r.land t) (hgap : s.inGap = false) :
    execLineBoundary t r = .next (
      let u := (((s.stagedTaken (s.staged.foldl State.takeStaged { s with staged := [] })).takeSnapshot).segBoundary).rowBoundary
      { u with links := { u.links with mgEvent := false } }) := by
  subst hs
  simp only [execLineBoundary, hgap, Bool.false_eq_true, if_false]

end

/-- Settles O3: each clause is the lemma of its command; the Cask keeps neither SET_SAVE nor SET_LOAD. -/
theorem slotAndBoundaryCommandsTakeEffect : Obligations.SlotAndBoundaryCommandsTakeEffect := by
  unfold Obligations.SlotAndBoundaryCommandsTakeEffect
  refine ⟨?setSave, ?setSaveDone, ?setLoad, ?setLoadDone, ?lineBoundary⟩
  case setSave =>
    rintro t who v r s rfl haccepted hbusy
    exact objectCommand_takes haccepted rfl (setSave_of_not_slotBusy hbusy)
  case setSaveDone =>
    rintro t written k c r s rfl rfl hsaving hlimit
    exact execSetSaveDone_of_written hsaving rfl hlimit
  case setLoad =>
    rintro t who v r s rfl haccepted hlock hbusy hempty hdamaged
    exact objectCommand_takes haccepted rfl (setLoad_of_hasData hlock hbusy hempty hdamaged)
  case setLoadDone =>
    intro t k r s hs hloading hlock hempty hdamaged
    exact execSetLoadDone_of_hasData hs hloading hlock hempty hdamaged
  case lineBoundary =>
    intro t r s hs hgap
    exact execLineBoundary_of_not_inGap hs hgap

/-! ### Writes by index and USDO transfers (R33, R60) -/

section
variable {t index sub row seq : Nat} {who : Path} {data : Bytes} {o : Obj} {v : Value} {r s : State}

/-- R6, R36: a live object without a rule of its own, in force from the next line boundary, is staged. -/
theorem State.writeEffect_of_live (haccess : o.access = .rw) (hselect : o.isRowSelect = false)
    (hrange : s.ruleRange o row v.toNat = true) (hwriter : writers.find? (fun p => p.1 == o.code) = none)
    (hreset : o.atReset = false) : s.writeEffect who seq o row v = (s.stage o row v, .ok) := by
  have hgreen : ¬ o.access = .rg := by simp [haccess]
  simp only [State.writeEffect, hgreen, hselect, hrange, hwriter, hreset, Bool.true_eq_false, Bool.false_eq_true, if_false]

/-- R454: a write that the checks let through and that its effect answers OK; the Cask keeps it where its table says so. -/
theorem State.writeObject_of_ok {u : State} (haccepted : s.writeRefusal who o row v = none)
    (heffect : s.writeEffect who seq o row v = (u, .ok)) :
    s.writeObject who seq o row v = (if o.kept then u.keep o row v else u, .ok) := by
  simp only [State.writeObject, haccepted, heffect, true_and]

/-- R33: OBJECT_WRITE of an index that names an object writes it and answers the status. -/
theorem execObjectWrite_of_found (hs : s = (r.land t).accessed who) (hfound : lookupObj index sub = .ok o) :
    execObjectWrite t who index sub row data r = .next (
      let x := s.writeObject who (s.nextSeq who) o row (o.valueOf data)
      x.1.send (.answer who x.2 [])) := by
  subst hs
  simp only [execObjectWrite, hfound]

/-- R32: OBJECT_WRITE of an index that names no object answers the status of the search alone. -/
theorem execObjectWrite_of_missing {st : Status} (hs : s = (r.land t).accessed who) (hmissing : lookupObj index sub = .error st) :
    execObjectWrite t who index sub row data r = .next (s.send (.answer who st [])) := by
  subst hs
  simp only [execObjectWrite, hmissing]

/-- The row a USDO transfer of an object means: the selected one of a table, 0 otherwise (R34). -/
def State.usdoRow (s : State) (o : Obj) : Nat := if o.rows = 0 then 0 else Table.get 0 s.can.rowSelect (selectIndex o.index)

/-- The answer of a USDO upload: the bytes read, or the abort code of the status that refused the read. -/
def State.usdoUploaded (x : State × Except Status Bytes) : State :=
  match x.2 with
  | .error st => x.1.send (.usdo st (if st = .ok then 0 else st.abort true) [])
  | .ok b => x.1.send (.usdo .ok 0 b)

section
variable (hs : s = (r.land t).accessed .can) (hserves : r.can.serves = true) (hheld : r.pwr.held = false)
  (hfound : lookupObj index sub = .ok o)
include hs hserves hheld hfound

/-- R60: a unicast USDO download writes the object at its row and answers the status or its abort code. -/
theorem execCanUsdoTransfer_of_download :
    execCanUsdoTransfer t true index sub (some data) r = .next (
      let x := s.usdoWrite o (s.usdoRow o) data
      x.1.send (.usdo x.2 (if x.2 = .ok then 0 else x.2.abort false) [])) := by
  subst hs
  simp only [execCanUsdoTransfer, State.usdoRow, hfound, hserves, hheld, State.land_can, State.land_pwr, Bool.true_eq_false,
    Bool.false_eq_true, or_self, if_false, Option.isNone_some]
  rfl

/-- R60: a unicast USDO upload reads the object at its row and answers what the read gave. -/
theorem execCanUsdoTransfer_of_upload :
    execCanUsdoTransfer t true index sub none r = .next (State.usdoUploaded (s.usdoRead o (s.usdoRow o))) := by
  subst hs
  simp only [execCanUsdoTransfer, State.usdoRow, hfound, hserves, hheld, State.land_can, State.land_pwr,
    Bool.true_eq_false, Bool.false_eq_true, or_self, if_false]
  split
  next st hread => simp [State.usdoUploaded, hread]
  next b hread => simp [State.usdoUploaded, hread]

end

end

/-- Settles O6: a write by index is `writeObject` once the index names an object, and that stages a live value; a USDO
transfer is `usdoWrite`, or `usdoRead` by whether the read succeeds. -/
theorem objectWriteStagesLiveValue : Obligations.ObjectWriteStagesLiveValue := by
  unfold Obligations.ObjectWriteStagesLiveValue
  refine ⟨?staged, ?missing, ?download, ?upload⟩
  case staged =>
    intro t who index sub row data o r s hs hfound haccepted haccess hselect hrange hwriter hreset
    have hwrite : s.writeObject who (s.nextSeq who) o row (o.valueOf data) = _ :=
      State.writeObject_of_ok haccepted (State.writeEffect_of_live haccess hselect hrange hwriter hreset)
    have hexec := execObjectWrite_of_found (data := data) (row := row) hs hfound
    rw [hwrite] at hexec
    exact hexec
  case missing =>
    intro t who index sub row data st r s hs hmissing
    exact execObjectWrite_of_missing hs hmissing
  case download =>
    intro t index sub d o r s hs hserves hheld hfound
    exact execCanUsdoTransfer_of_download hs hserves hheld hfound
  case upload =>
    intro t index sub o r s hs hserves hheld hfound
    exact execCanUsdoTransfer_of_upload hs hserves hheld hfound

end Sys2Proof.Machine
end

section
/-! PROOFS. The canvas and floor map family. What the effects of FLR_FILL, FLR_REGIONS and SET_DISCARD are while the green
set is unlocked (R26, R27, R41); how a running check ends (R25). The obligation is assembled from the lemma of its clause. -/
set_option Elab.async false
namespace Sys2Proof.Machine

section
variable {t : Nat} {run : CheckRun} {r s : State}

/-- R26: with the green set unlocked, FLR_FILL replaces the green map by one whose every row has the value. -/
theorem flrFill_of_not_greenLocked {v : Nat} (hlock : s.greenLocked = false) :
    flrFill v s = (s.setGreenMap { fill := v, rows := [] }, .ok) := by
  simp only [flrFill, hlock, Bool.false_eq_true, if_false]

/-- R27: with the green set unlocked, a well-formed region form records code 0 and fills the green map in its order. -/
theorem flrRegions_of_wellFormed {form : Bytes} {regions : List Region} (hlock : s.greenLocked = false)
    (hform : regionStatus s.sets.green.width s.sets.green.height form = (0, regions)) :
    flrRegions form s =
      ((s.put Obj.flrLoadStatus 0 0).setGreenMap (regions.foldl Region.fill s.sets.green.map), .ok) := by
  simp only [flrRegions, hlock, hform, State.put_sets, ne_eq, not_true_eq_false, Bool.false_eq_true, if_false,
    Nat.cast_zero]

/-- R41: with the green set unlocked, SET_DISCARD makes the bright set the green one. -/
theorem setDiscard_of_not_greenLocked (hlock : s.greenLocked = false) :
    setDiscard s =
      ({ s with sets := { s.sets with green := s.sets.bright, mapAbsent := false } }.greenTouched.checkTouched, .ok) := by
  simp only [setDiscard, hlock, Bool.false_eq_true, if_false]

section
variable (hs : s = r.land t) (hcheck : s.sets.check = some run)
include hs hcheck

/-- R25: a check whose green set a write touched ends with status 4, its rule and place left as they stood. -/
theorem execFlrCheckComplete_of_stale (hstale : run.stale = true) :
    execFlrCheckComplete t r =
      .next ({ s with sets := { s.sets with check := none } }.put Obj.flrCheckStatus 0 4) := by
  subst hs
  simp only [execFlrCheckComplete, hcheck, hstale, if_true]

/-- R24, R25: a check of an untouched green set writes the result of the set it started on, and its status. -/
theorem execFlrCheckComplete_of_fresh (hfresh : run.stale = false) :
    execFlrCheckComplete t r =
      .next ((State.floorResult { s with sets := { s.sets with check := none } } run.set.floorCheck).put
        Obj.flrCheckStatus 0 (if run.set.floorCheck.1 = 0 then 2 else 3)) := by
  subst hs
  simp only [execFlrCheckComplete, hcheck, hfresh, Bool.false_eq_true, if_false]

end

end

/-- Settles O1: each clause is the lemma of its command, and FLR_CHECK's effect has no condition to decide; the Cask keeps
none of the four objects written. -/
theorem floorMapCommandsTakeEffect : Obligations.FloorMapCommandsTakeEffect := by
  unfold Obligations.FloorMapCommandsTakeEffect
  refine ⟨?fill, ?regions, ?check, ?checkStale, ?checkFresh, ?discard⟩
  case fill =>
    rintro t who v r s rfl haccepted hlock
    exact objectCommand_takes haccepted rfl (flrFill_of_not_greenLocked hlock)
  case regions =>
    rintro t who form regions r s rfl haccepted hlock hform
    exact objectCommand_takes haccepted rfl (flrRegions_of_wellFormed hlock hform)
  case check =>
    rintro t who v r s rfl haccepted
    exact objectCommand_takes haccepted rfl rfl
  case checkStale =>
    intro t run r s hs hcheck hstale
    exact execFlrCheckComplete_of_stale hs hcheck hstale
  case checkFresh =>
    intro t run r s hs hcheck hfresh
    exact execFlrCheckComplete_of_fresh hs hcheck hfresh
  case discard =>
    rintro t who v r s rfl haccepted hlock
    exact objectCommand_takes haccepted rfl (setDiscard_of_not_greenLocked hlock)

end Sys2Proof.Machine
end

section
/-! PROOFS. The object dictionary, sets and sessions family, what holds of every command. Each command answers a next state and
advances: the queue, the bright set and the memories stand as `Instr.racks` and `Instr.stores` say (R36, R41, R44, R46, R51,
R360, R451). The statements about every command, and about a step, follow from that one lemma. -/
set_option Elab.async false
namespace Sys2Proof.Machine

/-- A meaning that answers a next state and leaves the stable part alone advances, whatever the command may change. -/
theorem completes_of_stable {x : Host.Outcome State Fault Refusal} {s : State} {swaps stores : Bool}
    (h : ∃ u, x = .next u ∧ u.stable = s.stable) : ∃ u, x = .next u ∧ s.Advances swaps stores u := by
  obtain ⟨u, hnext, hstable⟩ := h
  exact ⟨u, hnext, .of_stable hstable⟩

/-- Every command completes and advances; it changes the bright objects only if it may rack, and a memory only if it may store.
Most commands leave the whole stable part alone. -/
theorem exec_advances (c : Instr) (s : State) : ∃ u, exec c s = .next u ∧ s.Advances c.racks c.stores u :=
  match c with
  | .objectWrite .. => execObjectWrite_advances ..
  | .flrFill .. => completes_of_stable (execFlrFill_stable ..)
  | .flrRegions .. => completes_of_stable (execFlrRegions_stable ..)
  | .flrCheck .. => completes_of_stable (execFlrCheck_stable ..)
  | .flrCheckComplete .. => completes_of_stable (execFlrCheckComplete_stable ..)
  | .setRack .. => completes_of_stable (execSetRack_stable ..)
  | .setRackCancel .. => completes_of_stable (execSetRackCancel_stable ..)
  | .setDiscard .. => completes_of_stable (execSetDiscard_stable ..)
  | .setValidate .. => completes_of_stable (execSetValidate_stable ..)
  | .setValidationDone .. => completes_of_stable (execSetValidationDone_stable ..)
  | .rackAgreeTimeout .. => completes_of_stable (execRackAgreeTimeout_stable ..)
  | .rackSwap .. => execRackSwap_advances ..
  | .reseedComplete .. => completes_of_stable (execReseedComplete_stable ..)
  | .setSave .. => completes_of_stable (execSetSave_stable ..)
  | .setSaveDone .. => completes_of_stable (execSetSaveDone_stable ..)
  | .setLoad .. => completes_of_stable (execSetLoad_stable ..)
  | .setLoadDone .. => completes_of_stable (execSetLoadDone_stable ..)
  | .bootRackRequest .. => completes_of_stable (execBootRackRequest_stable ..)
  | .hello .. => completes_of_stable (execHello_stable ..)
  | .proof .. => completes_of_stable (execProof_stable ..)
  | .proofTimeout .. => completes_of_stable (execProofTimeout_stable ..)
  | .authLockExpiry .. => completes_of_stable (execAuthLockExpiry_stable ..)
  | .close .. => completes_of_stable (execClose_stable ..)
  | .ping .. => completes_of_stable (execPing_stable ..)
  | .read .. => completes_of_stable (execRead_stable ..)
  | .write .. => execWrite_advances ..
  | .readRows .. => completes_of_stable (execReadRows_stable ..)
  | .writeRows .. => execWriteRows_advances ..
  | .describe .. => completes_of_stable (execDescribe_stable ..)
  | .subscribe .. => completes_of_stable (execSubscribe_stable ..)
  | .sessionIdleTimeout .. => completes_of_stable (execSessionIdleTimeout_stable ..)
  | .setSessionKill .. => completes_of_stable (execSetSessionKill_stable ..)
  | .setStrelPort .. => completes_of_stable (execSetStrelPort_stable ..)
  | .canUsdoTransfer .. => execCanUsdoTransfer_advances ..
  | .nmtStart .. => completes_of_stable (execNmtStart_stable ..)
  | .nmtStop .. => completes_of_stable (execNmtStop_stable ..)
  | .nmtEnterPreOperational .. => completes_of_stable (execNmtEnterPreOperational_stable ..)
  | .nmtResetCommunication .. => completes_of_stable (execNmtResetCommunication_stable ..)
  | .nmtResetNode .. => completes_of_stable (execNmtResetNode_stable ..)
  | .canHeartbeat .. => completes_of_stable (execCanHeartbeat_stable ..)
  | .setCanNonce .. => completes_of_stable (execSetCanNonce_stable ..)
  | .canNonceExpiry .. => completes_of_stable (execCanNonceExpiry_stable ..)
  | .setCanProof .. => completes_of_stable (execSetCanProof_stable ..)
  | .setCanLock .. => completes_of_stable (execSetCanLock_stable ..)
  | .canRoleTimeout .. => completes_of_stable (execCanRoleTimeout_stable ..)
  | .tbsSource .. => completes_of_stable (execTbsSource_stable ..)
  | .tbsTodSet .. => completes_of_stable (execTbsTodSet_stable ..)
  | .ptpAnnounceRx .. => completes_of_stable (execPtpAnnounceRx_stable ..)
  | .ptpSyncRx .. => completes_of_stable (execPtpSyncRx_stable ..)
  | .ptpFollowUpRx .. => completes_of_stable (execPtpFollowUpRx_stable ..)
  | .ptpDelayRespRx .. => completes_of_stable (execPtpDelayRespRx_stable ..)
  | .ptpDelayReq .. => completes_of_stable (execPtpDelayReq_stable ..)
  | .ppsInEdge .. => completes_of_stable (execPpsInEdge_stable ..)
  | .frameInEdge .. => completes_of_stable (execFrameInEdge_stable ..)
  | .referenceLost .. => completes_of_stable (execReferenceLost_stable ..)
  | .holdoverLimit .. => completes_of_stable (execHoldoverLimit_stable ..)
  | .todWaitExpiry .. => completes_of_stable (execTodWaitExpiry_stable ..)
  | .timeStep .. => completes_of_stable (execTimeStep_stable ..)
  | .rasterGapEnd .. => execRasterGapEnd_advances ..
  | .tbsCalW0 .. => completes_of_stable (execTbsCalW0_stable ..)
  | .tbsCalW1 .. => completes_of_stable (execTbsCalW1_stable ..)
  | .calHeldW0Expiry .. => completes_of_stable (execCalHeldW0Expiry_stable ..)
  | .gpioSet .. => completes_of_stable (execGpioSet_stable ..)
  | .gpioPulse .. => completes_of_stable (execGpioPulse_stable ..)
  | .gpioPulseEnd .. => completes_of_stable (execGpioPulseEnd_stable ..)
  | .tallySet .. => completes_of_stable (execTallySet_stable ..)
  | .calMark .. => completes_of_stable (execCalMark_stable ..)
  | .flowPacketRx .. => completes_of_stable (execFlowPacketRx_stable ..)
  | .frameBufferCopy .. => completes_of_stable (execFrameBufferCopy_stable ..)
  | .rowSamplePoint .. => completes_of_stable (execRowSamplePoint_stable ..)
  | .rowCompositionDone .. => completes_of_stable (execRowCompositionDone_stable ..)
  | .compositionLimit .. => completes_of_stable (execCompositionLimit_stable ..)
  | .cmpStillDesc .. => completes_of_stable (execCmpStillDesc_stable ..)
  | .cmpStillData .. => completes_of_stable (execCmpStillData_stable ..)
  | .segmentComposed .. => completes_of_stable (execSegmentComposed_stable ..)
  | .segmentAssign .. => completes_of_stable (execSegmentAssign_stable ..)
  | .nextStep .. => completes_of_stable (execNextStep_stable ..)
  | .branchStep .. => completes_of_stable (execBranchStep_stable ..)
  | .jumpStep .. => completes_of_stable (execJumpStep_stable ..)
  | .callStep .. => completes_of_stable (execCallStep_stable ..)
  | .returnStep .. => completes_of_stable (execReturnStep_stable ..)
  | .yieldStep .. => completes_of_stable (execYieldStep_stable ..)
  | .loopStep .. => completes_of_stable (execLoopStep_stable ..)
  | .endStep .. => completes_of_stable (execEndStep_stable ..)
  | .commit .. => completes_of_stable (execCommit_stable ..)
  | .yieldWatchdog .. => completes_of_stable (execYieldWatchdog_stable ..)
  | .tunKegRetry .. => completes_of_stable (execTunKegRetry_stable ..)
  | .tunPoison .. => completes_of_stable (execTunPoison_stable ..)
  | .tunBistDone .. => completes_of_stable (execTunBistDone_stable ..)
  | .tunSelftest .. => completes_of_stable (execTunSelftest_stable ..)
  | .tunReinstate .. => completes_of_stable (execTunReinstate_stable ..)
  | .tunPatchImage .. => completes_of_stable (execTunPatchImage_stable ..)
  | .tunPatchApply .. => completes_of_stable (execTunPatchApply_stable ..)
  | .tunPatchRemove .. => completes_of_stable (execTunPatchRemove_stable ..)
  | .patchSwitch .. => completes_of_stable (execPatchSwitch_stable ..)
  | .poisonReport .. => completes_of_stable (execPoisonReport_stable ..)
  | .segmentDeadline .. => completes_of_stable (execSegmentDeadline_stable ..)
  | .segmentHardLimit .. => completes_of_stable (execSegmentHardLimit_stable ..)
  | .fallbackTimeout .. => completes_of_stable (execFallbackTimeout_stable ..)
  | .tunRotate .. => completes_of_stable (execTunRotate_stable ..)
  | .governorTick .. => completes_of_stable (execGovernorTick_stable ..)
  | .dspEffortCap .. => completes_of_stable (execDspEffortCap_stable ..)
  | .effortChange .. => completes_of_stable (execEffortChange_stable ..)
  | .effortAgreeTimeout .. => completes_of_stable (execEffortAgreeTimeout_stable ..)
  | .clockGroupEnable .. => completes_of_stable (execClockGroupEnable_stable ..)
  | .rakNudge .. => completes_of_stable (execRakNudge_stable ..)
  | .refreshNudge .. => completes_of_stable (execRefreshNudge_stable ..)
  | .nudgeAgreeTimeout .. => completes_of_stable (execNudgeAgreeTimeout_stable ..)
  | .tasteVerdict .. => completes_of_stable (execTasteVerdict_stable ..)
  | .tasteWindowEnd .. => completes_of_stable (execTasteWindowEnd_stable ..)
  | .tasteMismatch .. => completes_of_stable (execTasteMismatch_stable ..)
  | .laneKatDone .. => completes_of_stable (execLaneKatDone_stable ..)
  | .tasteCoverage .. => completes_of_stable (execTasteCoverage_stable ..)
  | .segmentAssemble .. => completes_of_stable (execSegmentAssemble_stable ..)
  | .asmKegRetry .. => completes_of_stable (execAsmKegRetry_stable ..)
  | .asmDryLimit .. => completes_of_stable (execAsmDryLimit_stable ..)
  | .twinHoldExpiry .. => completes_of_stable (execTwinHoldExpiry_stable ..)
  | .heartbeatTx .. => completes_of_stable (execHeartbeatTx_stable ..)
  | .heartbeat .. => completes_of_stable (execHeartbeat_stable ..)
  | .twinLinkDown .. => completes_of_stable (execTwinLinkDown_stable ..)
  | .digests .. => completes_of_stable (execDigests_stable ..)
  | .digestMissing .. => completes_of_stable (execDigestMissing_stable ..)
  | .propose .. => completes_of_stable (execPropose_stable ..)
  | .proposeRepeat .. => completes_of_stable (execProposeRepeat_stable ..)
  | .answer .. => completes_of_stable (execAnswer_stable ..)
  | .silence .. => completes_of_stable (execSilence_stable ..)
  | .twinRejoin .. => completes_of_stable (execTwinRejoin_stable ..)
  | .rejoin .. => completes_of_stable (execRejoin_stable ..)
  | .rejoinLine .. => completes_of_stable (execRejoinLine_stable ..)
  | .syncReq .. => completes_of_stable (execSyncReq_stable ..)
  | .sync .. => completes_of_stable (execSync_stable ..)
  | .syncReqRetry .. => completes_of_stable (execSyncReqRetry_stable ..)
  | .syncApply .. => execSyncApply_advances ..
  | .pairingListenEnd .. => completes_of_stable (execPairingListenEnd_stable ..)
  | .twinOkInChange .. => completes_of_stable (execTwinOkInChange_stable ..)
  | .twnSilenceSet .. => completes_of_stable (execTwnSilenceSet_stable ..)
  | .twnSilenceClear .. => completes_of_stable (execTwnSilenceClear_stable ..)
  | .twnKey .. => completes_of_stable (execTwnKey_stable ..)
  | .decodePacketRx .. => completes_of_stable (execDecodePacketRx_stable ..)
  | .reorderTimeout .. => completes_of_stable (execReorderTimeout_stable ..)
  | .decodeItemAssign .. => completes_of_stable (execDecodeItemAssign_stable ..)
  | .completionItem .. => completes_of_stable (execCompletionItem_stable ..)
  | .lnkPortWrite .. => completes_of_stable (execLnkPortWrite_stable ..)
  | .anComplete .. => completes_of_stable (execAnComplete_stable ..)
  | .trainingDone .. => completes_of_stable (execTrainingDone_stable ..)
  | .alignLock .. => completes_of_stable (execAlignLock_stable ..)
  | .alignTimeout .. => completes_of_stable (execAlignTimeout_stable ..)
  | .holdExpiry .. => completes_of_stable (execHoldExpiry_stable ..)
  | .portFault .. => completes_of_stable (execPortFault_stable ..)
  | .portRetry .. => completes_of_stable (execPortRetry_stable ..)
  | .fecWindow .. => completes_of_stable (execFecWindow_stable ..)
  | .prbsStop .. => completes_of_stable (execPrbsStop_stable ..)
  | .prbsStart .. => completes_of_stable (execPrbsStart_stable ..)
  | .prbsLoopback .. => completes_of_stable (execPrbsLoopback_stable ..)
  | .rxFrame .. => completes_of_stable (execRxFrame_stable ..)
  | .puntFrame .. => completes_of_stable (execPuntFrame_stable ..)
  | .nextHopResolve .. => completes_of_stable (execNextHopResolve_stable ..)
  | .tapOffer .. => completes_of_stable (execTapOffer_stable ..)
  | .wheelSlot .. => completes_of_stable (execWheelSlot_stable ..)
  | .wheelScan .. => completes_of_stable (execWheelScan_stable ..)
  | .packetDepart .. => completes_of_stable (execPacketDepart_stable ..)
  | .monitorDiscard .. => completes_of_stable (execMonitorDiscard_stable ..)
  | .windowAge .. => completes_of_stable (execWindowAge_stable ..)
  | .rtcpNack .. => completes_of_stable (execRtcpNack_stable ..)
  | .senderReport .. => completes_of_stable (execSenderReport_stable ..)
  | .tapFlush .. => completes_of_stable (execTapFlush_stable ..)
  | .qdrScrub .. => completes_of_stable (execQdrScrub_stable ..)
  | .ddrScrub .. => completes_of_stable (execDdrScrub_stable ..)
  | .qdrMarginLow .. => completes_of_stable (execQdrMarginLow_stable ..)
  | .qdrImmediateRetrain .. => completes_of_stable (execQdrImmediateRetrain_stable ..)
  | .qdrRetrainDone .. => completes_of_stable (execQdrRetrainDone_stable ..)
  | .retrainPause .. => completes_of_stable (execRetrainPause_stable ..)
  | .retrainDone .. => completes_of_stable (execRetrainDone_stable ..)
  | .memRetrain .. => completes_of_stable (execMemRetrain_stable ..)
  | .selfRefreshEntry .. => completes_of_stable (execSelfRefreshEntry_stable ..)
  | .selfRefreshExit .. => completes_of_stable (execSelfRefreshExit_stable ..)
  | .ddrRefresh .. => completes_of_stable (execDdrRefresh_stable ..)
  | .dramTempRead .. => completes_of_stable (execDramTempRead_stable ..)
  | .pageClose .. => completes_of_stable (execPageClose_stable ..)
  | .arbitration .. => completes_of_stable (execArbitration_stable ..)
  | .memArbPrio .. => completes_of_stable (execMemArbPrio_stable ..)
  | .memGrSelftest .. => completes_of_stable (execMemGrSelftest_stable ..)
  | .gristTestStart .. => completes_of_stable (execGristTestStart_stable ..)
  | .gristTestDone .. => completes_of_stable (execGristTestDone_stable ..)
  | .descriptorPost .. => completes_of_stable (execDescriptorPost_stable ..)
  | .reqAssert .. => execReqAssert_advances ..
  | .burstIssue .. => execBurstIssue_advances ..
  | .burstFail .. => execBurstFail_advances ..
  | .burstRetry .. => execBurstRetry_advances ..
  | .descriptorDone .. => completes_of_stable (execDescriptorDone_stable ..)
  | .channelResume .. => execChannelResume_advances ..
  | .channelAbort .. => completes_of_stable (execChannelAbort_stable ..)
  | .spgDiagDesc .. => completes_of_stable (execSpgDiagDesc_stable ..)
  | .allocate .. => completes_of_stable (execAllocate_stable ..)
  | .allocateSpill .. => completes_of_stable (execAllocateSpill_stable ..)
  | .freeKeg .. => completes_of_stable (execFreeKeg_stable ..)
  | .take .. => completes_of_stable (execTake_stable ..)
  | .push .. => completes_of_stable (execPush_stable ..)
  | .pop .. => completes_of_stable (execPop_stable ..)
  | .wrtFlushSet .. => completes_of_stable (execWrtFlushSet_stable ..)
  | .wrtFlushClear .. => completes_of_stable (execWrtFlushClear_stable ..)
  | .faultMessage .. => completes_of_stable (execFaultMessage_stable ..)
  | .collectorSelftest .. => completes_of_stable (execCollectorSelftest_stable ..)
  | .safeEntry .. => completes_of_stable (execSafeEntry_stable ..)
  | .cwtSafeEnter .. => completes_of_stable (execCwtSafeEnter_stable ..)
  | .clearRealLatch .. => completes_of_stable (execClearRealLatch_stable ..)
  | .clearInjectedLatch .. => completes_of_stable (execClearInjectedLatch_stable ..)
  | .ackClass .. => completes_of_stable (execAckClass_stable ..)
  | .ackCollectorSelf .. => completes_of_stable (execAckCollectorSelf_stable ..)
  | .injectCollect .. => completes_of_stable (execInjectCollect_stable ..)
  | .injectAct .. => completes_of_stable (execInjectAct_stable ..)
  | .forceTunFault .. => completes_of_stable (execForceTunFault_stable ..)
  | .forceLaneLoss .. => completes_of_stable (execForceLaneLoss_stable ..)
  | .forceTasterMismatch .. => completes_of_stable (execForceTasterMismatch_stable ..)
  | .forceTwinDigest .. => completes_of_stable (execForceTwinDigest_stable ..)
  | .forceDeadlineMiss .. => completes_of_stable (execForceDeadlineMiss_stable ..)
  | .icuSrc .. => completes_of_stable (execIcuSrc_stable ..)
  | .icuExtClaim .. => completes_of_stable (execIcuExtClaim_stable ..)
  | .icuExtEoi .. => completes_of_stable (execIcuExtEoi_stable ..)
  | .icuExtMask .. => completes_of_stable (execIcuExtMask_stable ..)
  | .icuExtStorm .. => completes_of_stable (execIcuExtStorm_stable ..)
  | .stormClear .. => completes_of_stable (execStormClear_stable ..)
  | .externalPoll .. => completes_of_stable (execExternalPoll_stable ..)
  | .logWrite .. => completes_of_stable (execLogWrite_stable ..)
  | .logMark .. => completes_of_stable (execLogMark_stable ..)
  | .logCheckpoint .. => completes_of_stable (execLogCheckpoint_stable ..)
  | .secImage .. => completes_of_stable (execSecImage_stable ..)
  | .imageCheckDone .. => completes_of_stable (execImageCheckDone_stable ..)
  | .firmwarePatch .. => completes_of_stable (execFirmwarePatch_stable ..)
  | .keyRevoke .. => completes_of_stable (execKeyRevoke_stable ..)
  | .keyReset .. => completes_of_stable (execKeyReset_stable ..)
  | .vendorGrant .. => completes_of_stable (execVendorGrant_stable ..)
  | .vendorGrantExpiry .. => completes_of_stable (execVendorGrantExpiry_stable ..)
  | .identity .. => completes_of_stable (execIdentity_stable ..)
  | .secLifecycleAdvance .. => execSecLifecycleAdvance_advances ..
  | .secRetire .. => execSecRetire_advances ..
  | .secRollbackCommit .. => completes_of_stable (execSecRollbackCommit_stable ..)
  | .secKeyInstall .. => completes_of_stable (execSecKeyInstall_stable ..)
  | .secKeyErase .. => completes_of_stable (execSecKeyErase_stable ..)
  | .secFwPatchRemove .. => completes_of_stable (execSecFwPatchRemove_stable ..)
  | .secAttNonce .. => completes_of_stable (execSecAttNonce_stable ..)
  | .secAttReport .. => completes_of_stable (execSecAttReport_stable ..)
  | .bottomTreeDone .. => completes_of_stable (execBottomTreeDone_stable ..)
  | .caskScrub .. => completes_of_stable (execCaskScrub_stable ..)
  | .porstNAssert .. => execPorstNAssert_advances ..
  | .porstNRelease .. => execPorstNRelease_advances ..
  | .brownout .. => execBrownout_advances ..
  | .pwrReset .. => completes_of_stable (execPwrReset_stable ..)
  | .pwrResetDelay .. => execPwrResetDelay_advances ..
  | .maltsterWatchdog .. => execMaltsterWatchdog_advances ..
  | .sensorRead .. => execSensorRead_advances ..
  | .lifeSave .. => completes_of_stable (execLifeSave_stable ..)
  | .avsRampStep .. => completes_of_stable (execAvsRampStep_stable ..)
  | .avsTick .. => completes_of_stable (execAvsTick_stable ..)
  | .romBootDone .. => completes_of_stable (execRomBootDone_stable ..)
  | .bistPhaseDone .. => completes_of_stable (execBistPhaseDone_stable ..)
  | .caskLoadDone .. => completes_of_stable (execCaskLoadDone_stable ..)
  | .qdrTrainingDone .. => completes_of_stable (execQdrTrainingDone_stable ..)
  | .ddrTrainingDone .. => completes_of_stable (execDdrTrainingDone_stable ..)
  | .lanesDone .. => completes_of_stable (execLanesDone_stable ..)
  | .patchAgreeTimeout .. => completes_of_stable (execPatchAgreeTimeout_stable ..)
  | .lineBoundary .. => completes_of_stable (execLineBoundary_stable ..)
  | .retrainDue .. => completes_of_stable (execRetrainDue_stable ..)
  | .calNoneFire .. => completes_of_stable (execCalNoneFire_stable ..)
  | .managementLinkChange .. => completes_of_stable (execManagementLinkChange_stable ..)
  | .dadTimerExpiry .. => completes_of_stable (execDadTimerExpiry_stable ..)
  | .unsolicitedReportInterval .. => completes_of_stable (execUnsolicitedReportInterval_stable ..)
  | .classShaperRefill .. => completes_of_stable (execClassShaperRefill_stable ..)
  | .rollbackFuseBlown .. => execRollbackFuseBlown_advances ..
  | .blankToManufacture .. => execBlankToManufacture_advances ..
  | .brownoutRecovery .. => execBrownoutRecovery_advances ..
  | .refclkSysLoss .. => execRefclkSysLoss_advances ..
  | .refclkSysReturn .. => execRefclkSysReturn_advances ..

/-- The same, of the state a command is known to answer. -/
theorem advances_of_exec {c : Instr} {s u : State} (h : exec c s = .next u) : s.Advances c.racks c.stores u := by
  obtain ⟨v, hnext, hadvances⟩ := exec_advances c s
  rw [h] at hnext
  injection hnext with huv
  exact huv ▸ hadvances

/-- A set is its objects and its Floor Map. -/
theorem CanvasSet.eq_of_objs_of_map {c d : CanvasSet} (hobjs : c.objs = d.objs) (hmap : c.map = d.map) : c = d := by
  cases c
  cases d
  exact congrArg₂ CanvasSet.mk hobjs hmap

/-- R37: a step serves the command at the front of the queue. -/
theorem step_cons {s : State} {c : Instr} {rest : List Instr} (h : s.pending = c :: rest) :
    step s = exec c { s with pending := rest } := by
  simp only [step, h]

/-- A step on an empty queue idles (log entry 1). -/
theorem step_nil {s : State} (h : s.pending = []) : step s = .next s := by
  simp only [step, h]

/-- Settles O56: the command's own advance. -/
theorem everyCommandCompletes : Obligations.EveryCommandCompletes := by
  unfold Obligations.EveryCommandCompletes
  intro c s
  obtain ⟨u, hnext, -⟩ := exec_advances c s
  exact ⟨u, hnext⟩

/-- Settles O57: the step takes the front command, and no command changes the queue that is left. -/
theorem commandsAreServedInOrder : Obligations.CommandsAreServedInOrder := by
  unfold Obligations.CommandsAreServedInOrder
  intro s c rest hqueue
  obtain ⟨u, hnext, hadvances⟩ := exec_advances c { s with pending := rest }
  exact ⟨u, (step_cons hqueue).trans hnext, hadvances.queue⟩

/-- Settles O58: the objects and the Floor Map of the bright set stand by the command's advance, and with both the set. -/
theorem onlyNamedCommandsChangeTheBrightSetOrAMemory : Obligations.OnlyNamedCommandsChangeTheBrightSetOrAMemory := by
  unfold Obligations.OnlyNamedCommandsChangeTheBrightSetOrAMemory
  intro c s u hnext
  have hadvances := advances_of_exec hnext
  refine ⟨hadvances.bright, fun hracks hstores => ?_, hadvances.bytes⟩
  exact CanvasSet.eq_of_objs_of_map (hadvances.bright hracks) (hadvances.map hracks hstores)

/-- Settles O45: the two cases of the queue. -/
theorem stepServesTheFrontCommand : Obligations.StepServesTheFrontCommand := by
  unfold Obligations.StepServesTheFrontCommand
  intro s
  exact ⟨fun c rest => step_cons, step_nil⟩

end Sys2Proof.Machine
end

section
/-! PROOFS. The object dictionary, sets and sessions family, racks: what each rack command does in the state it is made for
(R40 to R47), and the state after a reset (R451, R452). Each obligation is assembled from the lemma of its clause. -/
set_option Elab.async false
namespace Sys2Proof.Machine

section
variable {t : Nat} {r s : State} {run : CheckRun}

/-! ### The objects' own rules (R41, R44, R47) -/

/-- R44: in IDLE outside SAFE, on a part that is not RETIRED, SET_RACK requests the rack. -/
theorem setRack_of_idle {v : Nat} (hlife : s.trust.lifecycle ≠ 3) (hidle : s.sets.rack.state = .idle)
    (hsafe : s.cellar.safe = false) : setRack v s = (s.requestRack v, .ok) := by
  simp only [setRack, hlife, hidle, hsafe, ne_eq, not_true_eq_false, Bool.false_eq_true, if_false]

/-- R47: in single mode, SET_RACK_CANCEL ends a rack that is validated or waits for its swap. -/
theorem setRackCancel_of_single (hsingle : s.rackTwin = false)
    (hstate : s.sets.rack.state = .validating ∨ s.sets.rack.state = .scheduled) :
    setRackCancel s = ((s.endRack .cancelled).moveGroups, .ok) := by
  rcases hstate with hstate | hstate <;> simp only [setRackCancel, hsingle, hstate, Bool.false_eq_true, if_false]

/-- R41: while the green set is locked, SET_DISCARD is refused. -/
theorem setDiscard_of_greenLocked (hlock : s.greenLocked = true) : setDiscard s = (s, .greenLocked) := if_pos hlock

/-- R41: the green set is locked in every rack state but IDLE. -/
theorem State.greenLocked_iff : s.greenLocked = true ↔ s.sets.rack.state ≠ .idle := bne_iff_ne

/-! ### What time brings (R40, R42, R44, R46) -/

section
variable (hs : s = r.land t)
include hs

section
variable (hrun : s.sets.validation = some run) (hstate : s.sets.rack.state ≠ .validating)
include hrun hstate

/-- R42: outside a rack, a validation whose green set a write touched ends with status 4. -/
theorem execSetValidationDone_of_stale (hstale : run.stale = true) :
    execSetValidationDone t r =
      .next ({ s with sets := { s.sets with validation := none } }.put Obj.setValidStatus 0 4) := by
  subst hs
  simp only [execSetValidationDone, hrun, beq_false_of_ne hstate, hstale, Bool.false_eq_true, false_and, if_true, if_false]

/-- R42: outside a rack, a validation that breaks no rule ends with code 0, status 2 and the set it was started on. -/
theorem execSetValidationDone_of_passed {x : Nat × Nat × Option Nat} (hfresh : run.stale = false)
    (hpassed : State.validate { s with sets := { s.sets with validation := none } } run = (0, 0, 0, some x)) :
    execSetValidationDone t r = .next (
      let u := ((((State.floorResult { s with sets := { s.sets with validation := none } } x).put Obj.setValidCode 0 0).put
        Obj.setValidStatus 0 2).put Obj.setValidObject 0 0).put Obj.setValidRow 0 0
      { u with sets := { u.sets with validated := some run.set } }) := by
  subst hs
  simp only [execSetValidationDone, hrun, beq_false_of_ne hstate, hfresh, hpassed, Bool.false_eq_true, false_and, if_true,
    if_false, Bool.not_false]
  rfl

end

/-- Table 2-3, AGREEING: without an answer by ⟨F−2:0⟩ the proposal is withdrawn. -/
theorem execRackAgreeTimeout_of_closed (hstate : s.sets.rack.state = .agreeing)
    (hclosed : s.agreeClosed s.sets.rack.frame = true) :
    execRackAgreeTimeout t r = .next ((s.unpropose 1 0).endRack .twinTimeout) := by
  subst hs
  exact congrArg _ (if_pos ⟨hstate, hclosed⟩)

/-- Table 2-3, SCHEDULED: at its turn of the calendar the rack swaps the sets. -/
theorem execRackSwap_of_turn (hstate : s.sets.rack.state = .scheduled) (hturn : s.calTurn s.rackEntry = true) :
    execRackSwap t r =
      .next (((s.swapSets s.sets.rack.frame s.rackTwin).reanchor s.sets.green s.sets.rack.frame).calTicked) := by
  subst hs
  exact congrArg _ (if_pos ⟨hstate, hturn⟩)

/-- R46: the copy into the freed set ends the rack. -/
theorem execReseedComplete_of_copying (hstate : s.sets.rack.state = .reseeding) (hcopying : s.sets.rack.copying = true) :
    execReseedComplete t r = .next (State.changeRack
      { s with sets := { s.sets with green := s.sets.bright, mapAbsent := false } }
      (fun x => { x with state := .idle, paired := false, copying := false })) := by
  subst hs
  exact congrArg _ (if_pos ⟨hstate, hcopying⟩)

/-- R40, R249: with nothing in its way, the boot rack that is due is requested. -/
theorem execBootRackRequest_of_due (hdue : s.sets.bootRackDue = true) (hlock : s.tbs.canvasLock = true)
    (hlisten : s.twn.listenUntil = none) (hjoin : s.twn.state ≠ .joining) (hidle : s.sets.rack.state = .idle)
    (hsafe : s.cellar.safe = false) :
    execBootRackRequest t r = .next (State.requestRack { s with sets := { s.sets with bootRackDue := false } } 0) := by
  subst hs
  simp only [execBootRackRequest, hdue, hlock, hlisten, hjoin, hidle, hsafe, Option.isNone_none, ne_eq, not_false_eq_true,
    Bool.not_false, and_self, if_true]

end

end

/-- Settles O2: each clause is the lemma of its command; the Cask keeps none of the three objects written. -/
theorem rackCommandsTakeEffect : Obligations.RackCommandsTakeEffect := by
  unfold Obligations.RackCommandsTakeEffect
  refine ⟨?rack, ?cancel, ?validate, ?validationStale, ?validationPassed, ?agreeTimeout, ?swap, ?reseed, ?bootRack⟩
  case rack =>
    rintro t who v r s rfl haccepted hlife hidle hsafe
    exact objectCommand_takes haccepted rfl (setRack_of_idle hlife hidle hsafe)
  case cancel =>
    rintro t who v r s rfl haccepted hsingle hstate
    exact objectCommand_takes haccepted rfl (setRackCancel_of_single hsingle hstate)
  case validate =>
    rintro t who v r s rfl haccepted
    exact objectCommand_takes haccepted rfl rfl
  case validationStale =>
    intro t run r s hs hrun hstate hstale
    exact execSetValidationDone_of_stale hs hrun hstate hstale
  case validationPassed =>
    intro t run x r s hs hrun hstate hfresh hpassed
    exact execSetValidationDone_of_passed hs hrun hstate hfresh hpassed
  case agreeTimeout =>
    intro t r s hs hstate hclosed
    exact execRackAgreeTimeout_of_closed hs hstate hclosed
  case swap =>
    intro t r s hs hstate hturn
    exact execRackSwap_of_turn hs hstate hturn
  case reseed =>
    intro t r s hs hstate hcopying
    exact execReseedComplete_of_copying hs hstate hcopying
  case bootRack =>
    intro t r s hs hdue hlock hlisten hjoin hidle hsafe
    exact execBootRackRequest_of_due hs hdue hlock hlisten hjoin hidle hsafe

/-- Settles O48: IDLE is the one rack state in which the green set is not locked, so the two cases are the rule's own. -/
theorem discardCopiesTheBrightSet : Obligations.DiscardCopiesTheBrightSet := by
  unfold Obligations.DiscardCopiesTheBrightSet
  rintro t who v r s rfl haccepted
  constructor
  · intro hidle
    have hlock : ((r.land t).accessed who).greenLocked = false :=
      Bool.eq_false_iff.mpr fun h => State.greenLocked_iff.mp h hidle
    exact ⟨_, objectCommand_takes haccepted rfl (setDiscard_of_not_greenLocked hlock), rfl, rfl⟩
  · intro hracking
    exact objectCommand_takes haccepted rfl (setDiscard_of_greenLocked (State.greenLocked_iff.mpr hracking))

/-- R40: a store that lists no object reads every object at its default. -/
theorem Store.read_nil (o : Obj) (row : Nat) : Store.read [] o row = rowDefault o row := Table.get_nil _ _

/-- Settles O46: `State.reset` lists no byte and no object, and names the other fields. -/
theorem resetLeavesTheStatedState : Obligations.ResetLeavesTheStatedState := by
  unfold Obligations.ResetLeavesTheStatedState
  exact ⟨rfl, rfl, Store.read_nil, Store.read_nil, rfl, rfl, rfl, rfl, rfl, rfl, rfl, rfl, rfl⟩

end Sys2Proof.Machine
end

section
/-! PROOFS. The object dictionary, sets and sessions family, paths: how a Strel session opens, serves its requests and ends
(R51 to R58), and what the CAN path's commands do (R60 to R63). Each obligation is assembled from the lemma of its clause. -/
set_option Elab.async false
namespace Sys2Proof.Machine

/-! ### A session opens and ends (R53, R54, R57) -/

section
variable {t id : Nat} {m : StrelMsg} {p : Provisional} {k : Bytes} {z : Session} {r s : State}

/-- R53: the right proof of a provisional session, while a session is free, grants it. -/
theorem State.prove_of_right (hkey : (s.forget p.id).accessKey p.role.code p.slot = some k) (hright : m.payload = p.proof k)
    (hroom : s.strel.sessions.length < 16) : s.prove m p = (s.forget p.id).grant p k m.seq := by
  have hfree : ¬ 16 ≤ (s.forget p.id).strel.sessions.length := Nat.not_le.mpr hroom
  simp only [State.prove, hkey, hright, hfree, ne_eq, not_true_eq_false, if_false]

/-- R53, R54: a wrong proof counts against its key slot and is answered AUTH_FAIL. -/
theorem State.prove_of_wrong (hkey : (s.forget p.id).accessKey p.role.code p.slot = some k) (hwrong : m.payload ≠ p.proof k) :
    s.prove m p = ((s.forget p.id).authFailed p.role.code p.slot false).refuse m 0x03 .authFail := by
  simp only [State.prove, hkey, hwrong, ne_eq, not_false_eq_true, if_true]

/-- R57: a session that is open closes with its notice. -/
theorem State.closeSession_of_open (hopen : (s.session id).isNone = false) : s.closeSession id =
    ({ s with strel := { s.strel with sessions := s.strel.sessions.filter fun y => y.id != id } } : State).sessionNotice id 0 := by
  simp only [State.closeSession, hopen, Bool.false_eq_true, if_false]

/-- R57: SET_SESSION_KILL closes the open session it names. -/
theorem setSessionKill_of_open (hopen : (s.session id).isNone = false) : setSessionKill id s = (s.closeSession id, .ok) := by
  simp only [setSessionKill, hopen, Bool.false_eq_true, if_false]

section
variable (hs : s = r.land t)
include hs

section
variable (hhears : s.hears m.peer = true) (hformed : m.formed false = true)
include hhears hformed

/-- R53: a HELLO that nothing refuses is answered with a CHALLENGE. -/
theorem execHello_of_accepted (haccepted : s.helloRefusal m = none) : execHello t m r = .next (s.challenge m) := by
  subst hs
  simp only [execHello, hhears, hformed, haccepted, Bool.true_eq_false, or_self, if_false]

/-- R53: a HELLO that a condition refuses is answered with its status. -/
theorem execHello_of_refused {st : Status} (hrefused : s.helloRefusal m = some st) :
    execHello t m r = .next (s.refuse m 0x01 st) := by
  subst hs
  simp only [execHello, hhears, hformed, hrefused, Bool.true_eq_false, or_self, if_false]

/-- R53: a PROOF within its 5 s, from the provisional session's own peer, is put to the proof. -/
theorem execProof_of_found (hlong : s.tooLong m = false)
    (hfound : s.strel.provisional.find? (fun p => p.id == m.session && decide (s.now ≤ p.deadline)) = some p)
    (hpeer : p.peer.same m.peer = true) : execProof t m r = .next (s.prove m p) := by
  subst hs
  simp only [execProof, hhears, hformed, hlong, hfound, hpeer, Bool.true_eq_false, Bool.false_eq_true, or_self, if_false]

end

/-- R53: without a PROOF for 5 s, a provisional session is forgotten. -/
theorem execProofTimeout_of_expired
    (hexpired : s.strel.provisional.any (fun p => p.id == id && decide (p.deadline ≤ s.now)) = true) :
    execProofTimeout t id r = .next (s.forget id) := by
  subst hs
  exact congrArg _ (if_pos hexpired)

/-- R54: a lock whose 60 s have passed is lifted; the slot's failures stay. -/
theorem execAuthLockExpiry_of_expired {role slot until_ : Nat} (hlocked : (s.authSlot role slot).lockedUntil = some until_)
    (hexpired : until_ ≤ s.now) : execAuthLockExpiry t role slot r = .next (
      let x : AuthSlot := { s.authSlot role slot with lockedUntil := none }
      let auth := Table.set { fails := [], lockedUntil := none } s.strel.auth (4 * role + slot) x
      { s with strel := { s.strel with auth := auth } }) := by
  have hover : (s.authSlot role slot).lockedUntil.any (fun u => decide (u ≤ s.now)) = true := by
    simp only [hlocked, Option.any_some, hexpired, decide_true]
  subst hs
  exact congrArg _ (if_pos hover)

/-- R57: a session idle for 60 s closes. -/
theorem execSessionIdleTimeout_of_idle (hsession : s.session id = some z) (hidle : z.idleDeadline ≤ s.now) :
    execSessionIdleTimeout t id r = .next (s.closeSession id) := by
  have hover : (s.session id).any (fun z => decide (z.idleDeadline ≤ s.now)) = true := by
    simp only [hsession, Option.any_some, hidle, decide_true]
  subst hs
  exact congrArg _ (if_pos hover)

end

end

/-- Settles O4: each clause is the lemma of its command; of the two objects written the Cask keeps SET_STREL_PORT. -/
theorem sessionCommandsTakeEffect : Obligations.SessionCommandsTakeEffect := by
  unfold Obligations.SessionCommandsTakeEffect
  refine ⟨?hello, ?helloRefused, ?proofRight, ?proofWrong, ?proofTimeout, ?lockExpiry, ?idleTimeout, ?kill, ?port⟩
  case hello =>
    intro t m r s hs hhears hformed haccepted
    exact execHello_of_accepted hs hhears hformed haccepted
  case helloRefused =>
    intro t m st r s hs hhears hformed hrefused
    exact execHello_of_refused hs hhears hformed hrefused
  case proofRight =>
    intro t m p k r s hs hhears hformed hlong hfound hpeer hkey hright hroom
    exact State.prove_of_right hkey hright hroom ▸ execProof_of_found hs hhears hformed hlong hfound hpeer
  case proofWrong =>
    intro t m p k r s hs hhears hformed hlong hfound hpeer hkey hwrong
    exact State.prove_of_wrong hkey hwrong ▸ execProof_of_found hs hhears hformed hlong hfound hpeer
  case proofTimeout =>
    intro t id r s hs hexpired
    exact execProofTimeout_of_expired hs hexpired
  case lockExpiry =>
    intro t role slot u r s hs hlocked hexpired
    exact execAuthLockExpiry_of_expired hs hlocked hexpired
  case idleTimeout =>
    intro t id z r s hs hsession hidle
    have hopen : (s.session id).isNone = false := by rw [hsession, Option.isNone_some]
    exact State.closeSession_of_open hopen ▸ execSessionIdleTimeout_of_idle hs hsession hidle
  case kill =>
    rintro t who v r s rfl haccepted hopen
    exact State.closeSession_of_open hopen ▸ objectCommand_takes haccepted rfl (setSessionKill_of_open hopen)
  case port =>
    rintro t who v r s rfl haccepted
    exact objectCommand_keeps haccepted rfl rfl

/-! ### Requests of a session (R51, R52, R55 to R58) -/

section
variable {t opcode : Nat} {m : StrelMsg} {z : Session} {r s : State} {run : Session → State → StrelReply}

/-- R454: where the header and the length of a request are right, its own run is the reply. -/
theorem State.headed_of_sound {x : StrelReply} (hlong : s.tooLong m = false) (hstatus : m.status = 0)
    (hflags : bits m.flags 7 4 = 0) : s.headed m x = x := by
  simp only [State.headed, hlong, hstatus, hflags, ne_eq, not_true_eq_false, Bool.false_eq_true, if_false, ite_self]

/-- R55, R56: a request that the device takes runs, in the session that now answers to the sender, and is answered. -/
theorem sessionRequest_of_takes (hs : s = r.land t) (htakes : s.takes opcode m z) :
    sessionRequest t opcode m run r = .next (State.replied { z with peer := m.peer } opcode m.seq
      (run { z with peer := m.peer } (s.setSession { z with peer := m.peer }))) := by
  obtain ⟨hhears, hformed, hlong, hsession, hpeer, hmac, hexecutes, hstatus, hflags⟩ := htakes
  have hheaded : ∀ x, (s.setSession { z with peer := m.peer }).headed m x = x := fun x =>
    State.headed_of_sound hlong hstatus hflags
  subst hs
  simp only [sessionRequest, hhears, hformed, hsession, hpeer, hmac, hexecutes, State.runRequest, hheaded,
    Bool.true_eq_false, or_self, if_true, if_false]
  rfl

/-- R57: a request without a payload is answered OK and does nothing. -/
theorem emptyRequest_of_empty (hempty : m.payload = []) : emptyRequest m s = replyStatus s .ok := by
  simp only [emptyRequest, hempty, List.isEmpty_nil, if_true]

/-- R58: SUBSCRIBE of legal classes sets the session's classes. -/
theorem subscribe_of_legal (hlength : m.payload.length = 4) (hclasses : bits (fieldBE m.payload 0 4) 31 3 = 0) :
    subscribe m z s = replyStatus (s.setSession { z with classes := fieldBE m.payload 0 4 }) .ok := by
  simp only [subscribe, hlength, hclasses, ne_eq, not_true_eq_false, if_false]

/-- R57: an executed PING answers OK. -/
theorem execPing_of_takes (hs : s = r.land t) (htakes : s.takes 0x06 m z) (hempty : m.payload = []) :
    execPing t m r = .next (State.replied { z with peer := m.peer } 0x06 m.seq
      (replyStatus (s.setSession { z with peer := m.peer }) .ok)) := by
  simp only [execPing, sessionRequest_of_takes hs htakes, emptyRequest_of_empty hempty]

/-- R57: an executed CLOSE closes its session once the answer has left. -/
theorem execClose_of_takes (hs : s = r.land t) (htakes : s.takes 0x05 m z) (hempty : m.payload = []) :
    execClose t m r = .next ((State.replied { z with peer := m.peer } 0x05 m.seq
      (replyStatus (s.setSession { z with peer := m.peer }) .ok)).closeIfAsked m.session) := by
  simp only [execClose, sessionRequest_of_takes hs htakes, emptyRequest_of_empty hempty]

/-- R58: an executed SUBSCRIBE of legal classes sets them in the session that now answers to the sender. -/
theorem execSubscribe_of_takes (hs : s = r.land t) (htakes : s.takes 0x20 m z) (hlength : m.payload.length = 4)
    (hclasses : bits (fieldBE m.payload 0 4) 31 3 = 0) :
    execSubscribe t m r = .next (State.replied { z with peer := m.peer } 0x20 m.seq (replyStatus
      ((s.setSession { z with peer := m.peer }).setSession { z with peer := m.peer, classes := fieldBE m.payload 0 4 }) .ok)) := by
  simp only [execSubscribe, sessionRequest_of_takes hs htakes, subscribe_of_legal hlength hclasses]

end

/-- Settles O5: each request is a session's request that the device takes; PING, CLOSE and SUBSCRIBE answer by their own lemma. -/
theorem strelRequestsTakeEffect : Obligations.StrelRequestsTakeEffect := by
  unfold Obligations.StrelRequestsTakeEffect
  refine ⟨?ping, ?close, ?read, ?write, ?readRows, ?writeRows, ?describe, ?subscribe⟩
  case ping =>
    intro t m z r s hs htakes hempty
    exact execPing_of_takes hs htakes hempty
  case close =>
    intro t m z r s hs htakes hempty
    exact execClose_of_takes hs htakes hempty
  case subscribe =>
    intro t m z r s hs htakes hlength hclasses
    exact execSubscribe_of_takes hs htakes hlength hclasses
  case read | write | readRows | writeRows | describe =>
    intro t m z r s hs htakes
    exact sessionRequest_of_takes hs htakes

/-! ### The CAN path (R60, R61, R63) -/

section
variable {t : Nat} {who : Path} {r s : State}

/-- R61: an NMT command of an enabled path, in another state than the one it leads to, enters that state; the boot-up message
goes with PRE-OPERATIONAL. -/
theorem State.nmt_of_enabled {new : NmtState} (henabled : s.can.nmt ≠ .disabled) (hother : s.can.nmt ≠ new) :
    s.nmt new = (if new = .preOperational then State.send { s with can := { s.can with nmt := new } } .canBootUp
      else { s with can := { s.can with nmt := new } }) := by
  simp only [State.nmt, henabled, hother, or_self, if_false]

/-- R63: a proof in due form, of a slot that is not locked, that unlocks its role gives the CAN path the role. -/
theorem setCanProof_of_unlocks {data : Bytes} {role : Role} (hreserved : fieldBE data 2 2 = 0)
    (hrole : Role.ofCode (fieldBE data 0 1) = some role) (hroleRange : fieldBE data 0 1 ≤ 3) (hslot : fieldBE data 1 1 ≤ 3)
    (hlocked : s.authLocked (fieldBE data 0 1) (fieldBE data 1 1) = false)
    (hunlocks : s.canUnlocks (fieldBE data 0 1) (fieldBE data 1 1) (slice data 4 32) (slice data 36 48) = true) :
    setCanProof data s = ({ s with can := { s.can with nonce := none, role := role } }, .ok) := by
  have hrange : ¬ (3 < fieldBE data 0 1 ∨ 3 < fieldBE data 1 1) := by omega
  simp only [setCanProof, hreserved, hrange, hlocked, hunlocks, hrole, ne_eq, not_true_eq_false, Bool.false_eq_true, if_true,
    if_false, Option.getD_some]

/-- R63: an accepted read of SET_CAN_NONCE draws a nonce with 5 s to live and answers it. -/
theorem execSetCanNonce_of_accepted (hs : s = (r.land t).accessed who)
    (haccepted : s.accessRefusal who Obj.setCanNonce 0 false = none) :
    execSetCanNonce t who r = .next (State.send
      { s with draws := s.draws + 1, can := { s.can with nonce := some (s.random 32, s.now + 5 * giga) } }
      (.answer who .ok (s.random 32))) := by
  subst hs
  simp only [execSetCanNonce, haccepted]
  rfl

section
variable (hs : s = r.land t)
include hs

/-- R60, R61: an enabled path whose heartbeat is on sends it each 0x1017 milliseconds. -/
theorem execCanHeartbeat_of_due (henabled : s.can.nmt ≠ .disabled) (hon : s.val Obj.heartbeatTime ≠ 0)
    (hdue : s.can.lastHeartbeat + 1000000 * s.val Obj.heartbeatTime ≤ s.now) : execCanHeartbeat t r = .next
      (State.send { s with can := { s.can with lastHeartbeat := s.now } } (.canHeartbeat s.can.nmt.code)) := by
  have hgo : ¬ (s.can.nmt = .disabled ∨ s.val Obj.heartbeatTime = 0 ∨
      s.now < s.can.lastHeartbeat + 1000000 * s.val Obj.heartbeatTime) := by
    simp only [henabled, hon, Nat.not_lt.mpr hdue, or_self, not_false_eq_true]
  subst hs
  exact congrArg _ (if_neg hgo)

/-- R63: a nonce is void 5 s after its read. -/
theorem execCanNonceExpiry_of_expired {n : Bytes} {until_ : Nat} (hnonce : s.can.nonce = some (n, until_))
    (hexpired : until_ ≤ s.now) : execCanNonceExpiry t r = .next { s with can := { s.can with nonce := none } } := by
  have hover : s.can.nonce.any (fun p => decide (p.2 ≤ s.now)) = true := by
    simp only [hnonce, Option.any_some, hexpired, decide_true]
  subst hs
  exact congrArg _ (if_pos hover)

/-- R63: 60 s after the last USDO request the CAN role is VIEWER again. -/
theorem execCanRoleTimeout_of_idle (hidle : s.can.lastRequest + 60 * giga ≤ s.now) :
    execCanRoleTimeout t r = .next s.lockCan := by
  subst hs
  exact congrArg _ (if_pos hidle)

end

end

/-- Settles O7: each clause is the lemma of its command; a reset of communication has no condition to decide but its own, and the
Cask keeps neither SET_CAN_PROOF nor SET_CAN_LOCK. -/
theorem canCommandsTakeEffect : Obligations.CanCommandsTakeEffect := by
  unfold Obligations.CanCommandsTakeEffect
  refine ⟨?start, ?stop, ?preOperational, ?resetCommunication, ?resetNode, ?heartbeat, ?nonce, ?nonceExpiry, ?proof, ?lock,
    ?roleTimeout⟩
  case start | stop | preOperational =>
    rintro t r s rfl hstate
    refine congrArg _ (State.nmt_of_enabled ?_ ?_) <;> rcases hstate with h | h <;> rw [h] <;> decide
  case resetCommunication | resetNode =>
    rintro t r s rfl -
    rfl
  case heartbeat =>
    intro t r s hs henabled hon hdue
    exact execCanHeartbeat_of_due hs henabled hon hdue
  case nonce =>
    intro t who r s hs haccepted
    exact execSetCanNonce_of_accepted hs haccepted
  case nonceExpiry =>
    intro t n u r s hs hnonce hexpired
    exact execCanNonceExpiry_of_expired hs hnonce hexpired
  case proof =>
    rintro t who data role r s rfl haccepted hreserved hrole hroleRange hslot hlocked hunlocks
    exact objectCommand_takes haccepted rfl (setCanProof_of_unlocks hreserved hrole hroleRange hslot hlocked hunlocks)
  case lock =>
    rintro t who v r s rfl haccepted
    exact objectCommand_takes haccepted rfl rfl
  case roleTimeout =>
    intro t r s hs hidle
    exact execCanRoleTimeout_of_idle hs hidle

end Sys2Proof.Machine
end

section
/-! PROOFS. The object dictionary, sets and sessions family, refusals: a command on one object that a check of R454 or the
object's own rule refuses answers the status and changes nothing else. For each rule that refuses, the case of its effect that
does; the obligations are assembled from these and from what a command on one object answers. -/
set_option Elab.async false
namespace Sys2Proof.Machine

/-! ### What a refused command answers (R38, R454) -/

section
variable {t offset : Nat} {who : Path} {o : Obj} {row : Nat} {v : Value} {eff : State → Effect} {r s : State} {st : Status}
  (hs : s = (r.land t).accessed who)
include hs

/-- R454: the check that refuses a write is answered, and the write has no effect. -/
theorem objectCommand_of_refusal (h : s.writeRefusal who o row v = some st) :
    objectCommand t who o row v eff r = .next (s.send (.answer who st [])) := by
  subst hs
  exact objectCommand_refused h

/-- R454: a write that the checks let through and its object's own rule refuses; the Cask keeps no refused value. -/
theorem objectCommand_of_rule (h : s.writeRefusal who o row v = none) (hrule : eff s = (s, st)) (hst : st ≠ .ok) :
    objectCommand t who o row v eff r = .next (s.send (.answer who st [])) := by
  subst hs
  simp only [objectCommand, h, hrule, hst, false_and, if_false]

/-- R454: a refused read of SET_CAN_NONCE draws no nonce. -/
theorem execSetCanNonce_of_refusal (h : s.accessRefusal who Obj.setCanNonce 0 false = some st) :
    execSetCanNonce t who r = .next (s.send (.answer who st [])) := by
  subst hs
  simp only [execSetCanNonce, h]

/-- R454: a refused read of ICU_EXT_CLAIM claims nothing. -/
theorem execIcuExtClaim_of_refusal (h : s.accessRefusal who Obj.icuExtClaim 0 false = some st) :
    execIcuExtClaim t who r = .next (s.send (.answer who st [])) := by
  subst hs
  simp only [execIcuExtClaim, h]

/-- R454: a refused read of SEC_ATT_REPORT makes no report. -/
theorem execSecAttReport_of_refusal (h : s.accessRefusal who Obj.secAttReport 0 false = some st) :
    execSecAttReport t who offset r = .next (s.send (.answer who st [])) := by
  subst hs
  simp only [execSecAttReport, h]

end

/-- Settles O44: three of the commands read their object; each of the others is a write on one object, refused by its check. -/
theorem refusedAccessesChangeNothing : Obligations.RefusedAccessesChangeNothing := by
  unfold Obligations.RefusedAccessesChangeNothing
  refine ⟨?_, ?_, ?_, ?_, ?_, ?_, ?_, ?_, ?_, ?_, ?_, ?canNonce, ?_, ?_, ?_, ?_, ?_, ?_, ?_, ?_, ?_, ?_, ?_, ?_, ?_, ?_, ?_, ?_,
    ?_, ?_, ?_, ?_, ?_, ?_, ?_, ?_, ?_, ?_, ?_, ?_, ?_, ?_, ?_, ?_, ?_, ?_, ?_, ?_, ?_, ?_, ?_, ?_, ?_, ?_, ?extClaim, ?_, ?_,
    ?_, ?_, ?_, ?_, ?_, ?_, ?_, ?_, ?_, ?_, ?attReport, ?_⟩
  case canNonce =>
    intro t who r s st hs h
    exact execSetCanNonce_of_refusal hs h
  case extClaim =>
    intro t who r s st hs h
    exact execIcuExtClaim_of_refusal hs h
  case attReport =>
    intro t who offset r s st hs h
    exact execSecAttReport_of_refusal hs h
  all_goals
    intros
    apply objectCommand_of_refusal <;> assumption

/-! ### What the objects' own rules refuse -/

section
variable {who : Path} {v row seq : Nat} {data : Bytes} {s : State}

/-! The green set, racks and Cask slots (R26, R27, R44, R47 to R49). -/

theorem flrFill_of_greenLocked (h : s.greenLocked = true) : flrFill v s = (s, .greenLocked) := if_pos h

theorem flrRegions_of_greenLocked (h : s.greenLocked = true) : flrRegions data s = (s, .greenLocked) := if_pos h

theorem setRack_of_retired (h : s.trust.lifecycle = 3) : setRack v s = (s, .state) := if_pos h

theorem setRack_of_racking (hlife : s.trust.lifecycle ≠ 3) (h : s.sets.rack.state ≠ .idle) : setRack v s = (s, .busy) :=
  (if_neg hlife).trans (if_pos h)

theorem setRack_of_safe (hlife : s.trust.lifecycle ≠ 3) (hidle : s.sets.rack.state = .idle) (h : s.cellar.safe = true) :
    setRack v s = (s, .state) := by
  simp only [setRack, hlife, hidle, h, ne_eq, not_true_eq_false, if_true, if_false]

theorem setRackCancel_of_twin (h : s.rackTwin = true) : setRackCancel s = (s, .state) := if_pos h

theorem setSave_of_slotBusy (h : s.slotBusy = true) : setSave v s = (s, .busy) := if_pos h

theorem setLoad_of_greenLocked (h : s.greenLocked = true) : setLoad v s = (s, .greenLocked) := if_pos h

theorem setLoad_of_slotBusy (hlock : s.greenLocked = false) (h : s.slotBusy = true) : setLoad v s = (s, .busy) := by
  simp only [setLoad, hlock, h, Bool.false_eq_true, if_true, if_false]

theorem setLoad_of_empty (hlock : s.greenLocked = false) (hbusy : s.slotBusy = false) (h : (s.setSlot v).state = 0) :
    setLoad v s = (s, .noData) := by
  simp only [setLoad, hlock, hbusy, h, Bool.false_eq_true, true_or, if_true, if_false]

/-! Sessions, the Timebase and the calendar (R57, R70, R80, R87). -/

theorem setSessionKill_of_closed (h : s.session v = none) : setSessionKill v s = (s, .range) := by
  simp only [setSessionKill, h, Option.isNone_none, if_true]

theorem tbsTodSet_of_ptp (h : s.tbsSource = 0) : tbsTodSet data s = (s, .state) := if_pos h

theorem tbsCalW0_of_line_range (h : s.tbs.raster.lt ≤ bits v 47 32) : tbsCalW0 who row v s = (s, .range) := if_pos h

theorem tbsCalW1_of_owner_range (h : bits v 39 28 ≠ 0x010) : tbsCalW1 who row v s = (s, .range) := if_pos h

/-! The Compositor, Tuns, recipe patches and the Rake (R100, R152, R153, R158, R163, R205). -/

theorem cmpStillDesc_of_odd_width (hchroma : bit v 1 = true) (hwidth : bits v 15 2 % 2 = 0) :
    cmpStillDesc row v s = (s, .range) := if_pos ⟨hchroma, hwidth⟩

theorem tunSelftest_of_selftest (h : (s.tun v).state = .selftest) : tunSelftest v s = (s, .busy) := if_pos (.inl h)

theorem tunReinstate_of_in_service (hfailed : (s.tun v).state ≠ .failed) (hretired : (s.tun v).state ≠ .retired) :
    tunReinstate v s = (s, .state) := by
  simp only [tunReinstate, hfailed, hretired, or_self, false_and, if_false]

theorem tunPatchImage_of_retired (h : s.trust.lifecycle = 3) : tunPatchImage who data s = (s, .state) := if_pos h

theorem tunPatchImage_of_verifierBusy (hlife : s.trust.lifecycle ≠ 3) (h : s.verifierBusy = true) :
    tunPatchImage who data s = (s, .busy) := (if_neg hlife).trans (if_pos (.inl h))

theorem tunPatchApply_of_switchBusy (h : s.switchBusy = true) : tunPatchApply v s = (s, .busy) := if_pos h

theorem tunPatchApply_of_unstaged (hswitch : s.switchBusy = false) (h : s.tuns.staged = none) :
    tunPatchApply v s = (s, .noData) := by
  simp only [tunPatchApply, hswitch, h, Bool.false_eq_true, if_false]

theorem tunPatchRemove_of_switchBusy (h : s.switchBusy = true) : tunPatchRemove s = (s, .busy) := if_pos h

theorem rakNudge_of_no_receiver (hentry : v ≤ 4094) (h : s.silenced = true ∨ s.sets.bright.isReceiver v = false) :
    rakNudge v s = (s, .state) := (if_neg (Nat.not_lt.mpr hentry)).trans (if_pos h)

/-! Links, the Grist, the Sparge and the Wort (R280, R352, R360, R379). -/

theorem prbs_of_enabled_port {lane errors : Nat} (h : (s.portOfLane lane).isSome = true) :
    prbs lane v errors s = (s, .busyDeferred) := if_pos h

theorem memGrSelftest_of_testing (h : ((List.range 32).any fun b => s.bank b == .draining || s.bank b == .testing) = true) :
    memGrSelftest v s = (s, .busy) := if_pos h

theorem spgDiagDesc_of_source_range (hreserved : reservedWords (wordsOf data) = false)
    (h : (spargeSource (wordsOf data)).inWindow = false) : spgDiagDesc data s = (s, .range) := by
  simp only [spgDiagDesc, hreserved, h, Bool.false_eq_true, true_or, if_true, if_false]

theorem spgDiagDesc_of_running (hreserved : reservedWords (wordsOf data) = false)
    (hsource : (spargeSource (wordsOf data)).inWindow = true) (hdest : (spargeDest (wordsOf data)).inWindow = true)
    (h : (s.spargeCh 31).isFree = false) : spgDiagDesc data s = (s, .busy) := by
  simp only [spgDiagDesc, hreserved, hsource, hdest, h, Bool.true_eq_false, Bool.false_eq_true, or_self, if_true, if_false]

theorem wortFlushSet_of_credit {line : Nat} (h : wortDropMode line = false) : wortFlushSet line s = (s, .state) := if_pos h

theorem wortFlushClear_of_credit {line : Nat} (h : wortDropMode line = false) : wortFlushClear line s = (s, .state) := if_pos h

/-! Injections and forces (R396, R397). -/

theorem cwtInject_of_not_manufacture (hreserved : (FaultMsg.ofBytes data).reserved = 0)
    (hvalid : FaultMsg.valid { FaultMsg.ofBytes data with inj := true } = true) (hwhere : fieldBE data 12 1 = 0)
    (h : s.trust.lifecycle ≠ 1) : cwtInject data s = (s, .state) := by
  have hrange : ¬ (1 < fieldBE data 12 1 ∨ FaultMsg.valid { FaultMsg.ofBytes data with inj := true } = false) := by
    rw [hvalid, hwhere]
    decide
  exact (if_neg (not_not.mpr hreserved)).trans ((if_neg hrange).trans (if_pos h))

section
variable {target : Nat}

/-- R397: a write of CWT_FORCE that spells force 3 is out of range exactly for a target beyond the 48 Taster lanes. -/
theorem taster_force_out_of_range_iff (hbyte : target < 256) :
    (bits (3 + 256 * target) 7 0 < 1 ∨ 5 < bits (3 + 256 * target) 7 0 ∨
      forceTargets (bits (3 + 256 * target) 7 0) ≤ bits (3 + 256 * target) 15 8) ↔ 48 ≤ target := by
  have hcode : bits (3 + 256 * target) 7 0 = 3 := by simp only [bits]; omega
  have htarget : bits (3 + 256 * target) 15 8 = target := by simp only [bits]; omega
  have hlanes : forceTargets 3 = 48 := rfl
  rw [hcode, htarget, hlanes]
  omega

theorem cwtForce_taster_of_target_range (hbeyond : 48 ≤ target) (hbyte : target < 256) :
    cwtForce (3 + 256 * target) s = (s, .range) := if_pos ((taster_force_out_of_range_iff hbyte).mpr hbeyond)

section
variable (hlane : target < 48)
include hlane

theorem taster_force_in_range : ¬ (bits (3 + 256 * target) 7 0 < 1 ∨ 5 < bits (3 + 256 * target) 7 0 ∨
    forceTargets (bits (3 + 256 * target) 7 0) ≤ bits (3 + 256 * target) 15 8) := by
  rw [taster_force_out_of_range_iff (by omega)]
  exact Nat.not_le.mpr hlane

theorem cwtForce_taster_of_lifecycle (hmanufacture : s.trust.lifecycle ≠ 1) (hdeployed : s.trust.lifecycle ≠ 2) :
    cwtForce (3 + 256 * target) s = (s, .state) :=
  (if_neg (taster_force_in_range hlane)).trans (if_pos ⟨hmanufacture, hdeployed⟩)

theorem cwtForce_taster_of_armed (hlife : s.trust.lifecycle = 1 ∨ s.trust.lifecycle = 2)
    (h : s.cellar.force.isSome = true) : cwtForce (3 + 256 * target) s = (s, .busy) := by
  have hserves : ¬ (s.trust.lifecycle ≠ 1 ∧ s.trust.lifecycle ≠ 2) := by omega
  exact (if_neg (taster_force_in_range hlane)).trans ((if_neg hserves).trans (if_pos h))

end

end

/-! Images, keys, the lifecycle and the reset (R413, R416, R418, R422, R423, R428, R451). -/

theorem secImage_of_retired (h : s.trust.lifecycle = 3) : secImage who data s = (s, .state) := if_pos h

theorem secImage_of_verifierBusy (hlife : s.trust.lifecycle ≠ 3) (h : s.verifierBusy = true) :
    secImage who data s = (s, .busy) := (if_neg hlife).trans (if_pos h)

theorem secLifecycleAdvance_of_no_identity (h : s.trust.identity = none) : secLifecycleAdvance s = (s, .state) :=
  if_pos (.inr (by rw [h, Option.isNone_none]))

theorem secRetire_of_not_serial (h : v ≠ Config.serial) : secRetire v s = (s, .range) := if_pos h

theorem secRollbackCommit_of_no_counter (h : 2 ≤ v) : secRollbackCommit v s = (s, .noData) := by
  have hrecipes : v ≠ 1 := by omega
  have hfirmware : v ≠ 0 := by omega
  simp only [secRollbackCommit, hrecipes, hfirmware, if_false]

theorem secKeyInstall_of_reserved (h : fieldBE data 2 2 ≠ 0) : secKeyInstall who seq data s = (s, .reserved) := if_pos h

theorem secKeyInstall_of_slot_range (hreserved : fieldBE data 2 2 = 0) (h : 3 < fieldBE data 1 1 ∨ 3 < fieldBE data 0 1) :
    secKeyInstall who seq data s = (s, .range) := (if_neg (not_not.mpr hreserved)).trans (if_pos h)

theorem secKeyInstall_of_role {z : Session} (hreserved : fieldBE data 2 2 = 0) (hslot : fieldBE data 1 1 ≤ 3)
    (hrole : fieldBE data 0 1 ≤ 3) (hsession : s.sessionOf who = some z) (h : z.role.code < fieldBE data 0 1) :
    secKeyInstall who seq data s = (s, .role) := by
  have hrange : ¬ (3 < fieldBE data 1 1 ∨ 3 < fieldBE data 0 1) := by omega
  simp only [secKeyInstall, hreserved, hrange, hsession, h, ne_eq, not_true_eq_false, if_true, if_false]

theorem secKeyErase_of_last_brewer (hrole : bits v 15 8 = 2) (hslot : bits v 7 0 ≤ 3)
    (h : ((Table.erase s.trust.keys (8 + bits v 7 0)).any fun p => decide (8 ≤ p.1) && decide (p.1 < 12)) = false) :
    secKeyErase v s = (s, .state) := by
  have hrange : ¬ ((3 : Nat) < 2 ∨ 3 < bits v 7 0) := by omega
  simp only [secKeyErase, hrole, hrange, h, Nat.reduceMul, Nat.reduceEqDiff, Bool.not_false, and_self, if_true, if_false]

theorem secAttNonce_of_retired (h : s.trust.lifecycle = 3) : secAttNonce who data s = (s, .state) := if_pos h

theorem pwrReset_of_not_serial (h : v ≠ Config.serial) : pwrReset v s = (s, .range) := if_pos h

end

/-- Settles O43: each clause is the case of its object's rule that refuses; no refusal is OK. -/
theorem ruleRefusalsChangeNothing : Obligations.RuleRefusalsChangeNothing := by
  unfold Obligations.RuleRefusalsChangeNothing
  exact ⟨
    fun _ _ _ _ _ hs haccepted h => objectCommand_of_rule hs haccepted (flrFill_of_greenLocked h) nofun,
    fun _ _ _ _ _ hs haccepted h => objectCommand_of_rule hs haccepted (flrRegions_of_greenLocked h) nofun,
    fun _ _ _ _ _ hs haccepted h => objectCommand_of_rule hs haccepted (setRack_of_retired h) nofun,
    fun _ _ _ _ _ hs haccepted hlife h => objectCommand_of_rule hs haccepted (setRack_of_racking hlife h) nofun,
    fun _ _ _ _ _ hs haccepted hlife hidle h =>
      objectCommand_of_rule hs haccepted (setRack_of_safe hlife hidle h) nofun,
    fun _ _ _ _ _ hs haccepted h => objectCommand_of_rule hs haccepted (setRackCancel_of_twin h) nofun,
    fun _ _ _ _ _ hs haccepted h => objectCommand_of_rule hs haccepted (setSave_of_slotBusy h) nofun,
    fun _ _ _ _ _ hs haccepted h => objectCommand_of_rule hs haccepted (setLoad_of_greenLocked h) nofun,
    fun _ _ _ _ _ hs haccepted hlock h => objectCommand_of_rule hs haccepted (setLoad_of_slotBusy hlock h) nofun,
    fun _ _ _ _ _ hs haccepted hlock hbusy h =>
      objectCommand_of_rule hs haccepted (setLoad_of_empty hlock hbusy h) nofun,
    fun _ _ _ _ _ hs haccepted h => objectCommand_of_rule hs haccepted (setSessionKill_of_closed h) nofun,
    fun _ _ _ _ _ hs haccepted h => objectCommand_of_rule hs haccepted (tbsTodSet_of_ptp h) nofun,
    fun _ _ _ _ _ _ hs haccepted h => objectCommand_of_rule hs haccepted (tbsCalW0_of_line_range h) nofun,
    fun _ _ _ _ _ _ hs haccepted h => objectCommand_of_rule hs haccepted (tbsCalW1_of_owner_range h) nofun,
    fun _ _ _ _ _ _ hs haccepted hchroma h =>
      objectCommand_of_rule hs haccepted (cmpStillDesc_of_odd_width hchroma h) nofun,
    fun _ _ _ _ _ hs haccepted h => objectCommand_of_rule hs haccepted (tunSelftest_of_selftest h) nofun,
    fun _ _ _ _ _ hs haccepted hfailed hretired =>
      objectCommand_of_rule hs haccepted (tunReinstate_of_in_service hfailed hretired) nofun,
    fun _ _ _ _ _ hs haccepted h => objectCommand_of_rule hs haccepted (tunPatchImage_of_retired h) nofun,
    fun _ _ _ _ _ hs haccepted hlife h =>
      objectCommand_of_rule hs haccepted (tunPatchImage_of_verifierBusy hlife h) nofun,
    fun _ _ _ _ _ hs haccepted h => objectCommand_of_rule hs haccepted (tunPatchApply_of_switchBusy h) nofun,
    fun _ _ _ _ _ hs haccepted hswitch h =>
      objectCommand_of_rule hs haccepted (tunPatchApply_of_unstaged hswitch h) nofun,
    fun _ _ _ _ _ hs haccepted h => objectCommand_of_rule hs haccepted (tunPatchRemove_of_switchBusy h) nofun,
    fun _ _ _ _ _ hs haccepted hentry h => objectCommand_of_rule hs haccepted (rakNudge_of_no_receiver hentry h) nofun,
    fun _ _ _ _ _ hs haccepted h => objectCommand_of_rule hs haccepted (prbs_of_enabled_port h) nofun,
    fun _ _ _ _ _ hs haccepted h => objectCommand_of_rule hs haccepted (memGrSelftest_of_testing h) nofun,
    fun _ _ _ _ _ hs haccepted hreserved h =>
      objectCommand_of_rule hs haccepted (spgDiagDesc_of_source_range hreserved h) nofun,
    fun _ _ _ _ _ hs haccepted hreserved hsource hdest h =>
      objectCommand_of_rule hs haccepted (spgDiagDesc_of_running hreserved hsource hdest h) nofun,
    fun _ _ _ _ _ hs haccepted h => objectCommand_of_rule hs haccepted (wortFlushSet_of_credit h) nofun,
    fun _ _ _ _ _ hs haccepted h => objectCommand_of_rule hs haccepted (wortFlushClear_of_credit h) nofun,
    fun _ _ _ _ _ hs haccepted hreserved hvalid hwhere h =>
      objectCommand_of_rule hs haccepted (cwtInject_of_not_manufacture hreserved hvalid hwhere h) nofun,
    fun _ _ _ _ _ hs haccepted hlane hmanufacture hdeployed =>
      objectCommand_of_rule hs haccepted (cwtForce_taster_of_lifecycle hlane hmanufacture hdeployed) nofun,
    fun _ _ _ _ _ hs haccepted hlane hlife h =>
      objectCommand_of_rule hs haccepted (cwtForce_taster_of_armed hlane hlife h) nofun,
    fun _ _ _ _ _ hs haccepted hbeyond hbyte =>
      objectCommand_of_rule hs haccepted (cwtForce_taster_of_target_range hbeyond hbyte) nofun,
    fun _ _ _ _ _ hs haccepted h => objectCommand_of_rule hs haccepted (secImage_of_retired h) nofun,
    fun _ _ _ _ _ hs haccepted hlife h => objectCommand_of_rule hs haccepted (secImage_of_verifierBusy hlife h) nofun,
    fun _ _ _ _ _ hs haccepted h => objectCommand_of_rule hs haccepted (secLifecycleAdvance_of_no_identity h) nofun,
    fun _ _ _ _ _ hs haccepted h => objectCommand_of_rule hs haccepted (secRetire_of_not_serial h) nofun,
    fun _ _ _ _ _ hs haccepted h => objectCommand_of_rule hs haccepted (secRollbackCommit_of_no_counter h) nofun,
    fun _ _ _ _ _ _ hs haccepted h => objectCommand_of_rule hs haccepted (secKeyInstall_of_reserved h) nofun,
    fun _ _ _ _ _ _ hs haccepted hreserved h =>
      objectCommand_of_rule hs haccepted (secKeyInstall_of_slot_range hreserved h) nofun,
    fun _ _ _ _ _ _ _ hs haccepted hreserved hslot hrole hsession h =>
      objectCommand_of_rule hs haccepted (secKeyInstall_of_role hreserved hslot hrole hsession h) nofun,
    fun _ _ _ _ _ hs haccepted hrole hslot h =>
      objectCommand_of_rule hs haccepted (secKeyErase_of_last_brewer hrole hslot h) nofun,
    fun _ _ _ _ _ hs haccepted h => objectCommand_of_rule hs haccepted (secAttNonce_of_retired h) nofun,
    fun _ _ _ _ _ hs haccepted h => objectCommand_of_rule hs haccepted (pwrReset_of_not_serial h) nofun⟩

end Sys2Proof.Machine
end

section
/-! PROOFS. The object dictionary, sets and sessions family, commands that are not due: for each timed or guarded command, the
case of its meaning in which there is nothing to act on, so that only the running time moves (log entries 2 and 33). The
obligation lists these cases in its own order. -/
set_option Elab.async false
namespace Sys2Proof.Machine

/-- R317: an empty window has nothing to age. -/
theorem State.ageWindow_of_empty {s : State} {tap : Nat} (h : (s.tapAt tap).window = []) : s.ageWindow tap = s := by
  unfold State.ageWindow
  rw [h]
  exact ite_self s

section
variable {t row tun seg y id tap port channel bank pool line ecc : Nat} {who : Path} {m : StrelMsg} {r s : State}
  (hs : s = r.land t)
include hs

/-! Sets and racks (R25, R42, R46, R48, R49). -/

theorem execFlrCheckComplete_of_no_check (h : s.sets.check = none) : execFlrCheckComplete t r = .next s := by
  subst hs; simp only [execFlrCheckComplete, h]

theorem execSetValidationDone_of_no_validation (h : s.sets.validation = none) : execSetValidationDone t r = .next s := by
  subst hs; simp only [execSetValidationDone, h]

theorem execRackSwap_of_not_scheduled (h : s.sets.rack.state ≠ .scheduled) : execRackSwap t r = .next s := by
  subst hs; simp only [execRackSwap, h, false_and, if_false]

theorem execReseedComplete_of_not_reseeding (h : s.sets.rack.state ≠ .reseeding) : execReseedComplete t r = .next s := by
  subst hs; simp only [execReseedComplete, h, false_and, if_false]

theorem execSetSaveDone_of_no_save {written : Bool} (h : s.sets.saving = none) : execSetSaveDone t written r = .next s := by
  subst hs; simp only [execSetSaveDone, h]

theorem execSetLoadDone_of_no_load (h : s.sets.loading = none) : execSetLoadDone t r = .next s := by
  subst hs; simp only [execSetLoadDone, h]

/-! Sessions and the CAN path (R50, R53, R57, R60, R63). -/

theorem execHello_of_unheard (h : s.hears m.peer = false) : execHello t m r = .next s := by
  subst hs; simp only [execHello, h, true_or, if_true]

theorem execProof_of_unheard (h : s.hears m.peer = false) : execProof t m r = .next s := by
  subst hs; simp only [execProof, h, true_or, if_true]

theorem execSessionIdleTimeout_of_active (h : (s.session id).any (fun z => decide (z.idleDeadline ≤ s.now)) = false) :
    execSessionIdleTimeout t id r = .next s := by
  subst hs; simp only [execSessionIdleTimeout, h, Bool.false_eq_true, if_false]

theorem execCanHeartbeat_of_off (h : s.val Obj.heartbeatTime = 0) : execCanHeartbeat t r = .next s := by
  subst hs; simp only [execCanHeartbeat, h, true_or, or_true, if_true]

theorem execCanNonceExpiry_of_no_nonce (h : s.can.nonce = none) : execCanNonceExpiry t r = .next s := by
  subst hs; simp only [execCanNonceExpiry, h, Option.any_none, Bool.false_eq_true, if_false]

/-! The Timebase (R65, R67, R78, R79). -/

theorem execPtpDelayReq_of_no_master (h : s.tbs.master = none) : execPtpDelayReq t r = .next s := by
  subst hs; simp only [execPtpDelayReq, h]

theorem execReferenceLost_of_present (h : s.referenceGone = false) : execReferenceLost t r = .next s := by
  subst hs; simp only [execReferenceLost, h, if_true]

theorem execHoldoverLimit_of_not_holdover (h : s.tbs.state ≠ .holdover) : execHoldoverLimit t r = .next s := by
  subst hs; simp only [execHoldoverLimit, h, false_and, if_false]

theorem execTimeStep_of_no_step (h : s.tbs.stepPending = none) : execTimeStep t r = .next s := by
  subst hs; simp only [execTimeStep, h]

theorem execRasterGapEnd_of_no_gap (h : s.tbs.gap = none) : execRasterGapEnd t r = .next s := by
  subst hs; simp only [execRasterGapEnd, h]

/-! The Compositor and the Tuns (R103, R104, R153, R154, R156, R162). -/

theorem execRowCompositionDone_of_no_row {parity : List Nat} (h : s.rowWork row = none) :
    execRowCompositionDone t row parity r = .next s := by
  subst hs; simp only [execRowCompositionDone, h]

theorem execCompositionLimit_of_no_row {late : LateRow} (h : s.rowWork row = none) :
    execCompositionLimit t row late r = .next s := by
  subst hs; simp only [execCompositionLimit, h]

section
variable {slice : Bytes} {spent : Bool} {trims floors : Nat}

theorem execCommit_of_foreign {k : Task} (htask : (s.tun tun).task = some k) (h : k.sends tun spent trims floors = false) :
    execCommit t tun slice spent trims floors r = .next s := by
  subst hs; simp only [execCommit, htask, h, Bool.not_false, or_true, if_true]

theorem execCommit_of_no_task (h : (s.tun tun).task = none) : execCommit t tun slice spent trims floors r = .next s := by
  subst hs; simp only [execCommit, h]

end

theorem execYieldWatchdog_of_no_task (h : (s.tun tun).task = none) : execYieldWatchdog t tun r = .next s := by
  subst hs; simp only [execYieldWatchdog, h, Option.isNone_none, true_or, if_true]

theorem execTunBistDone_of_no_bist {phase : Nat} (h : (s.tun tun).bistFrom = none) : execTunBistDone t tun phase r = .next s := by
  subst hs; simp only [execTunBistDone, h]

theorem execPatchSwitch_of_no_switch (h : s.tuns.switch = none) : execPatchSwitch t r = .next s := by
  subst hs; simp only [execPatchSwitch, h]

/-! The Dispatcher (R171, R173, R178, R181). -/

theorem execPoisonReport_of_no_task (h : (s.tun tun).task = none) : execPoisonReport t tun r = .next s := by
  subst hs; simp only [execPoisonReport, h, Option.any_none, Bool.false_eq_true, if_false]

theorem execSegmentDeadline_of_no_segment (h : (s.findSeg seg y fun g => decide (g.count ≤ 0) && !g.late) = none) :
    execSegmentDeadline t seg y r = .next s := by
  subst hs; simp only [execSegmentDeadline, h]

theorem execTunRotate_of_no_rotation (h : s.dsp.rotateAt = none) : execTunRotate t r = .next s := by
  subst hs; simp only [execTunRotate, h]

theorem execEffortChange_of_none_pending (h : s.dsp.effortPending = []) : execEffortChange t r = .next s := by
  subst hs; simp only [execEffortChange, h]

/-! The twin (R237, R249, R251). -/

theorem execHeartbeatTx_of_off (h : s.twn.state = .off) : execHeartbeatTx t r = .next s := by
  subst hs; simp only [execHeartbeatTx, h, ne_eq, not_true_eq_false, false_and, if_false]

theorem execTwinLinkDown_of_down (h : s.twn.linkUp = false) : execTwinLinkDown t r = .next s := by
  subst hs; simp only [execTwinLinkDown, h, Bool.false_eq_true, false_and, if_false]

theorem execPairingListenEnd_of_not_pairing (h : s.twn.state ≠ .pairing) : execPairingListenEnd t r = .next s := by
  subst hs; simp only [execPairingListenEnd, h, false_and, if_false]

/-! The Taproom (R309, R314, R317). -/

theorem execTapOffer_of_no_packet (h : s.tap.offers.find? (fun q => q.1 == tap) = none) : execTapOffer t tap r = .next s := by
  subst hs; simp only [execTapOffer, h]

theorem execWindowAge_of_empty (h : (s.tapAt tap).window = []) : execWindowAge t tap r = .next s := by
  subst hs; exact congrArg _ (State.ageWindow_of_empty h)

theorem execPacketDepart_of_safe (h : s.cellar.safe = true) : execPacketDepart t port r = .next s := by
  subst hs; simp only [execPacketDepart, h, if_true]

/-! Memories, the Sparge, the Keg and the Wort (R328, R342, R343, R352, R367, R372, R376). -/

theorem execQdrScrub_of_out_of_service {result : Nat} (h : (s.qdr channel).state ≠ 1) :
    execQdrScrub t channel result r = .next s := by
  subst hs; simp only [execQdrScrub, h, ne_eq, not_false_eq_true, or_true, if_true]

theorem execRetrainPause_of_unarmed (h : s.mem.armed = none) : execRetrainPause t r = .next s := by
  subst hs; simp only [execRetrainPause, h]

theorem execRetrainDone_of_no_pause {trained : Bool} (h : s.mem.pause = none) : execRetrainDone t trained r = .next s := by
  subst hs; simp only [execRetrainDone, h]

theorem execGristTestDone_of_not_testing {passed : Bool} (h : s.bank bank ≠ .testing) :
    execGristTestDone t bank passed r = .next s := by
  subst hs; simp only [execGristTestDone, h, ne_eq, not_false_eq_true, true_or, or_true, if_true]

theorem execBurstFail_of_no_flight {timeout : Bool} (h : (s.spargeCh channel).flight = none) :
    execBurstFail t channel timeout r = .next s := by
  subst hs; simp only [execBurstFail, h, Option.isSome_none, Bool.false_eq_true, and_false, if_false]

theorem execAllocateSpill_of_no_request (h : (s.kegCompeting pool).any (fun q => q.port == port) = false) :
    execAllocateSpill t port pool ecc r = .next s := by
  subst hs; simp only [execAllocateSpill, h, Bool.false_eq_true, if_false]

theorem execPop_of_empty (h : (s.wortLine line).msgs = []) : execPop t line ecc r = .next s := by
  subst hs; simp only [execPop, h, List.isEmpty_nil, if_true]

/-! The Cellar Watch and the log (R385, R394, R409). -/

theorem execFaultMessage_of_no_line {damaged parity : Bool} (h : s.nextFaultLine = none) :
    execFaultMessage t damaged parity r = .next s := by
  subst hs; simp only [execFaultMessage, h]

theorem execSafeEntry_of_no_signal (h : s.cellar.safeSignal = none) : execSafeEntry t r = .next s := by
  subst hs; simp only [execSafeEntry, h]

theorem execLogWrite_of_no_line (h : s.nextLogLine = none) : execLogWrite t r = .next s := by
  subst hs; simp only [execLogWrite, h]

/-! Trust, power and start-up (R298, R415, R416, R418, R420, R443, R451, R452). -/

theorem execImageCheckDone_of_no_image {stored : Bool} (h : s.trust.checking = none) : execImageCheckDone t stored r = .next s := by
  subst hs; simp only [execImageCheckDone, h]

theorem execFirmwarePatch_of_none_accepted (h : s.acceptedOf 2 = none) : execFirmwarePatch t r = .next s := by
  subst hs; simp only [execFirmwarePatch, h]

theorem execRollbackFuseBlown_of_none_blowing (h : s.trust.blowing = []) : execRollbackFuseBlown t r = .next s := by
  subst hs; simp only [execRollbackFuseBlown, h]

theorem execPwrResetDelay_of_no_request (h : s.pwr.resetAt = none) : execPwrResetDelay t r = .next s := by
  subst hs; simp only [execPwrResetDelay, h, Option.any_none, Bool.false_eq_true, if_false]

theorem execBrownout_of_level_held {rail mv : Nat} (h : brownoutLevel rail ≤ mv) : execBrownout t rail mv r = .next s := by
  subst hs; simp only [execBrownout, h, if_true]

/-- R452: a start-up step does nothing in another phase than its own. -/
theorem startupStep_of_other_phase {phase : Nat} {f : State → State} (h : s.pwr.phase ≠ phase) :
    startupStep t phase f r = .next s := by
  subst hs; simp only [startupStep, h, false_and, if_false]

theorem execRomBootDone_of_other_phase {passed osc : Bool} (h : s.pwr.phase ≠ 1) : execRomBootDone t passed osc r = .next s :=
  startupStep_of_other_phase hs h

/-- R452: a start-up step that does nothing to the state moves the running time alone. -/
theorem startupStep_of_fixed {phase : Nat} {f : State → State} (h : f s = s) : startupStep t phase f r = .next s := by
  subst hs; simp only [startupStep, h, ite_self]

theorem execLanesDone_of_settling (hsettled : s.lanesSettled = false) (h : s.now < s.pwr.phaseAt + 300000000) :
    execLanesDone t r = .next s := by
  refine startupStep_of_fixed hs (if_neg ?_)
  simp only [hsettled, Nat.not_le.mpr h, Bool.false_eq_true, or_self, not_false_eq_true]

end

/-- Settles O42: each clause is the case of its command; a step in phase 6 needs no premise on its phase. -/
theorem commandsNotDueOnlyLandTime : Obligations.CommandsNotDueOnlyLandTime := by
  unfold Obligations.CommandsNotDueOnlyLandTime
  exact ⟨
    fun _ _ _ hs h => execFlrCheckComplete_of_no_check hs h,
    fun _ _ _ hs h => execSetValidationDone_of_no_validation hs h,
    fun _ _ _ hs h => execRackSwap_of_not_scheduled hs h,
    fun _ _ _ hs h => execReseedComplete_of_not_reseeding hs h,
    fun _ _ _ _ hs h => execSetSaveDone_of_no_save hs h,
    fun _ _ _ hs h => execSetLoadDone_of_no_load hs h,
    fun _ _ _ _ hs h => execHello_of_unheard hs h,
    fun _ _ _ _ hs h => execProof_of_unheard hs h,
    fun _ _ _ _ hs h => execSessionIdleTimeout_of_active hs h,
    fun _ _ _ hs h => execCanHeartbeat_of_off hs h,
    fun _ _ _ hs h => execCanNonceExpiry_of_no_nonce hs h,
    fun _ _ _ hs h => execPtpDelayReq_of_no_master hs h,
    fun _ _ _ hs h => execReferenceLost_of_present hs h,
    fun _ _ _ hs h => execHoldoverLimit_of_not_holdover hs h,
    fun _ _ _ hs h => execTimeStep_of_no_step hs h,
    fun _ _ _ hs h => execRasterGapEnd_of_no_gap hs h,
    fun _ _ _ _ _ hs h => execRowCompositionDone_of_no_row hs h,
    fun _ _ _ _ _ hs h => execCompositionLimit_of_no_row hs h,
    fun _ _ _ _ _ _ _ _ _ hs htask h => execCommit_of_foreign hs htask h,
    fun _ _ _ _ _ _ _ _ hs h => execCommit_of_no_task hs h,
    fun _ _ _ _ hs h => execYieldWatchdog_of_no_task hs h,
    fun _ _ _ _ _ hs h => execTunBistDone_of_no_bist hs h,
    fun _ _ _ hs h => execPatchSwitch_of_no_switch hs h,
    fun _ _ _ _ hs h => execPoisonReport_of_no_task hs h,
    fun _ _ _ _ _ hs h => execSegmentDeadline_of_no_segment hs h,
    fun _ _ _ hs h => execTunRotate_of_no_rotation hs h,
    fun _ _ _ hs h => execEffortChange_of_none_pending hs h,
    fun _ _ _ hs h => execHeartbeatTx_of_off hs h,
    fun _ _ _ hs h => execTwinLinkDown_of_down hs h,
    fun _ _ _ hs h => execPairingListenEnd_of_not_pairing hs h,
    fun _ _ _ _ hs h => execTapOffer_of_no_packet hs h,
    fun _ _ _ _ hs h => execWindowAge_of_empty hs h,
    fun _ _ _ _ hs h => execPacketDepart_of_safe hs h,
    fun _ _ _ _ _ hs h => execQdrScrub_of_out_of_service hs h,
    fun _ _ _ hs h => execRetrainPause_of_unarmed hs h,
    fun _ _ _ _ hs h => execRetrainDone_of_no_pause hs h,
    fun _ _ _ _ _ hs h => execGristTestDone_of_not_testing hs h,
    fun _ _ _ _ _ hs h => execBurstFail_of_no_flight hs h,
    fun _ _ _ _ _ _ hs h => execAllocateSpill_of_no_request hs h,
    fun _ _ _ _ _ hs h => execPop_of_empty hs h,
    fun _ _ _ _ _ hs h => execFaultMessage_of_no_line hs h,
    fun _ _ _ hs h => execSafeEntry_of_no_signal hs h,
    fun _ _ _ hs h => execLogWrite_of_no_line hs h,
    fun _ _ _ _ hs h => execImageCheckDone_of_no_image hs h,
    fun _ _ _ hs h => execFirmwarePatch_of_none_accepted hs h,
    fun _ _ _ hs h => execRollbackFuseBlown_of_none_blowing hs h,
    fun _ _ _ hs h => execPwrResetDelay_of_no_request hs h,
    fun _ _ _ _ _ hs h => execBrownout_of_level_held hs h,
    fun _ _ _ _ _ hs h => execRomBootDone_of_other_phase hs h,
    fun _ _ _ hs _ hsettled h => execLanesDone_of_settling hs hsettled h⟩

end Sys2Proof.Machine
end

section
/-! PROOFS. The canvas time family, the raster (R72, R74). Canvas time is one count of lines, cut into frames of Lt lines; the
instant of a line is where that count reaches it. With lines of 1 ns or more the count skips no line from one nanosecond to the next,
so the instant reads its own line, and each earlier nanosecond reads an earlier one. -/
set_option Elab.async false
namespace Sys2Proof.Machine

/-- R72: the lines that lie wholly before device time `t`, counted from line 0 of aligned frame 0. -/
def Raster.linesAt (q : Raster) (t : Nat) : Nat := t * (q.num * q.lt) / (q.den * giga)

theorem giga_pos : 0 < giga := by decide

section
variable {q : Raster} (hlines : 0 < q.lt)

include hlines in
/-- R72: the aligned frame index counts whole frames of lines. -/
theorem Raster.index_eq_linesAt_div (t : Nat) : q.index t = q.linesAt t / q.lt :=
  calc t * q.num / (q.den * giga)
    _ = t * q.num * q.lt / (q.den * giga * q.lt) := (Nat.mul_div_mul_right _ _ hlines).symm
    _ = t * (q.num * q.lt) / (q.den * giga) / q.lt := by rw [Nat.mul_assoc, Nat.div_div_eq_div_mul]

include hlines in
/-- R72: the line is what the count of lines leaves beyond its whole frames. -/
theorem Raster.ctime_line_eq_linesAt_mod (t : Nat) : (q.ctime t).line = q.linesAt t % q.lt := by
  have hline : (q.ctime t).line = q.linesAt t - q.lt * q.index t :=
    calc (t * q.num - q.index t * q.den * giga) * q.lt / (q.den * giga)
      _ = (t * (q.num * q.lt) - q.den * giga * (q.lt * q.index t)) / (q.den * giga) := by
        rw [Nat.sub_mul]; ring_nf
      _ = t * (q.num * q.lt) / (q.den * giga) - q.lt * q.index t := Nat.sub_mul_div ..
  rw [hline, Raster.index_eq_linesAt_div hlines, Nat.mod_eq_sub]

variable (hnum : 0 < q.num) (hden : 0 < q.den) (hslow : q.num * q.lt ≤ q.den * giga) {n l t : Nat}

include hlines hnum hden in
/-- R74: the instant of line `l` of aligned frame `n` is the first at which the count of lines reaches it. -/
theorem Raster.lineStart_le_iff : q.lineStart n l ≤ t ↔ q.lt * n + l ≤ q.linesAt t := by
  have hceil : q.lineStart n l = (n * q.lt + l) * q.den * giga ⌈/⌉ (q.num * q.lt) := rfl
  rw [hceil, ceilDiv_le_iff_le_mul (Nat.mul_pos hnum hlines), Raster.linesAt,
    Nat.le_div_iff_mul_le (Nat.mul_pos hden giga_pos), Nat.mul_assoc, Nat.mul_comm t, Nat.mul_comm q.lt]

include hden hslow in
/-- With lines of 1 ns or more, one nanosecond adds at most one line. -/
theorem Raster.linesAt_succ_le (t : Nat) : q.linesAt (t + 1) ≤ q.linesAt t + 1 :=
  calc (t + 1) * (q.num * q.lt) / (q.den * giga)
    _ ≤ (t * (q.num * q.lt) + q.den * giga) / (q.den * giga) :=
      Nat.div_le_div_right (by rw [Nat.succ_mul]; exact Nat.add_le_add_left hslow _)
    _ = t * (q.num * q.lt) / (q.den * giga) + 1 := Nat.add_div_right _ (Nat.mul_pos hden giga_pos)

include hlines hnum hden hslow in
/-- With lines of 1 ns or more, the count at the instant of a line is that line's own. -/
theorem Raster.linesAt_lineStart : q.linesAt (q.lineStart n l) = q.lt * n + l := by
  refine Nat.le_antisymm ?_ ((Raster.lineStart_le_iff hlines hnum hden).mp le_rfl)
  cases hstart : q.lineStart n l with
  | zero => simp [Raster.linesAt]
  | succ t =>
    have hbefore : q.linesAt t < q.lt * n + l := by
      rw [← Nat.not_le, ← Raster.lineStart_le_iff hlines hnum hden, hstart]
      exact Nat.not_succ_le_self t
    exact (Raster.linesAt_succ_le hden hslow t).trans hbefore

include hnum hden hslow in
/-- R72, R74: the instant of line `l` of aligned frame `n` lies in that frame. -/
theorem Raster.index_lineStart (hline : l < q.lt) : q.index (q.lineStart n l) = n := by
  have hlines : 0 < q.lt := Nat.zero_lt_of_lt hline
  rw [Raster.index_eq_linesAt_div hlines, Raster.linesAt_lineStart hlines hnum hden hslow, Nat.mul_add_div hlines,
    Nat.div_eq_of_lt hline, Nat.add_zero]

include hnum hden hslow in
/-- R72, R74: at the instant of line `l` the raster reads line `l`. -/
theorem Raster.ctime_line_lineStart (hline : l < q.lt) : (q.ctime (q.lineStart n l)).line = l := by
  have hlines : 0 < q.lt := Nat.zero_lt_of_lt hline
  rw [Raster.ctime_line_eq_linesAt_mod hlines, Raster.linesAt_lineStart hlines hnum hden hslow, Nat.mul_add_mod,
    Nat.mod_eq_of_lt hline]

include hnum hden in
/-- R72, R74: before the instant of a line, the raster reads an earlier frame, or an earlier line of the same. -/
theorem Raster.reads_earlier_of_lt_lineStart (hline : l < q.lt) (hearlier : t < q.lineStart n l) :
    q.index t < n ∨ (q.index t = n ∧ (q.ctime t).line < l) := by
  have hlines : 0 < q.lt := Nat.zero_lt_of_lt hline
  have hbefore : q.linesAt t < q.lt * n + l := by
    rw [← Nat.not_le, ← Raster.lineStart_le_iff hlines hnum hden]
    exact Nat.not_le.mpr hearlier
  have hsplit : q.lt * q.index t + (q.ctime t).line = q.linesAt t := by
    rw [Raster.index_eq_linesAt_div hlines, Raster.ctime_line_eq_linesAt_mod hlines, Nat.div_add_mod]
  have hnotAfter : q.index t < n + 1 := by
    rw [Raster.index_eq_linesAt_div hlines]
    exact Nat.div_lt_of_lt_mul (by rw [Nat.mul_succ]; omega)
  rcases Nat.lt_succ_iff_lt_or_eq.mp hnotAfter with hframe | hframe
  · exact .inl hframe
  · rw [hframe] at hsplit
    exact .inr ⟨hframe, by omega⟩

end

/-- Settles O53: the instant of a line is the first nanosecond at which the count of lines reaches it: the
raster reads the line from then on, and an earlier place before. -/
theorem lineInstantsReadBack : Obligations.LineInstantsReadBack := by
  unfold Obligations.LineInstantsReadBack
  intro q n l hnum hden hslow hline
  have hindex : q.index (q.lineStart n l) = n := Raster.index_lineStart hnum hden hslow hline
  have hreads : (q.ctime (q.lineStart n l)).line = l := Raster.ctime_line_lineStart hnum hden hslow hline
  refine ⟨hindex, ?_, fun t => Raster.reads_earlier_of_lt_lineStart hnum hden hline⟩
  calc q.ctime (q.lineStart n l)
    _ = { frame := q.frameOf (q.index (q.lineStart n l)), line := (q.ctime (q.lineStart n l)).line } := rfl
    _ = { frame := q.frameOf n, line := l } := by rw [hindex, hreads]

end Sys2Proof.Machine
end

section
/-! PROOFS. The canvas time family, the Timebase. What TBS_SOURCE, TBS_TOD_SET, the reference edges, loss and holdover do
(R64, R66, R67, R70), and the PTP messages (R65, R71), once their conditions hold. Each obligation is assembled from the lemma
of its clause. -/
set_option Elab.async false
namespace Sys2Proof.Machine

/-! ### The time of day (R70, R77) -/

section
variable {time80 : Bytes} {s : State} (hsource : s.tbsSource ≠ 0)
include hsource

/-- R70: before canvas lock, a time of day is stepped to, whatever the policy. -/
theorem tbsTodSet_of_not_canvasLock (hlock : s.tbs.canvasLock = false) :
    tbsTodSet time80 s = (let u := s.planStep ((ofTime80 time80 : Int) - s.deviceTime)
      State.tryLock { u with tbs := { u.tbs with todWritten := true } }, .ok) := by
  simp only [tbsTodSet, hsource, hlock, Bool.false_eq_true, false_and, Bool.not_false, Bool.true_or, if_true, if_false]

/-- R70, R77: after canvas lock, a time of day nearer than TBS_STEP_NS is slewed to, and a step that waits is dropped. -/
theorem tbsTodSet_of_near (hlock : s.tbs.canvasLock = true)
    (hnear : ((ofTime80 time80 : Int) - s.deviceTime).natAbs < s.val Obj.tbsStepNs)
    (hoff : (ofTime80 time80 : Int) - s.deviceTime ≠ 0) :
    tbsTodSet time80 s = (let u := (s.planStep 0).slewBy ((ofTime80 time80 : Int) - s.deviceTime)
      State.tryLock { u with tbs := { u.tbs with todWritten := true } }, .ok) := by
  simp only [tbsTodSet, hsource, hlock, hoff, Nat.not_le.mpr hnear, decide_false, Bool.not_true, Bool.or_self,
    Bool.false_eq_true, false_and, and_false, if_false]

end

/-! ### Edges, loss and holdover (R64, R67) -/

section
variable {t : Nat} {r s : State} (hs : s = r.land t)
include hs

/-- R64: with source 1, an edge on PPS_IN marks the nearest whole second. -/
theorem execPpsInEdge_of_source (hacquires : s.acquires = true) (hsource : s.tbsSource = 1) :
    execPpsInEdge t r =
      .next (s.edge ((s.deviceTime : Int) - (((s.deviceTime + giga / 2) / giga * giga : Nat) : Int))) := by
  subst hs
  exact congrArg _ (if_pos ⟨hacquires, hsource⟩)

/-- R64: with source 2, an edge on FRAME_IN marks the nearest frame start whose aligned index TBS_FRAME_DIV divides. -/
theorem execFrameInEdge_of_source (hacquires : s.acquires = true) (hsource : s.tbsSource = 2) :
    execFrameInEdge t r = .next (s.edge ((s.deviceTime : Int) - s.tbs.raster.lineStart
      (roundDiv (s.deviceTime * s.tbs.raster.num) (s.val Obj.tbsFrameDiv * s.tbs.raster.den * giga) * s.val Obj.tbsFrameDiv)
      0)) := by
  subst hs
  exact congrArg _ (if_pos ⟨hacquires, hsource⟩)

section
variable (hgone : s.referenceGone = true)
include hgone

/-- Table 3-1: a lock whose reference is gone is held over at the mean frequency of R67. -/
theorem execReferenceLost_of_locked (hstate : s.tbs.state = .locked) :
    execReferenceLost t r = .next (
      let u : State := { s with tbs := { s.tbs with master := none, syncWait := none, delayWait := none, ptpBackup := true } }
      (u.setFreq u.meanFreq).setTbs .holdover) := by
  subst hs
  simp only [execReferenceLost, hgone, hstate, Bool.true_eq_false, if_false]

/-- Table 3-1: an acquisition whose reference is gone is held over under canvas lock, and is over without it. -/
theorem execReferenceLost_of_acquiring (hstate : s.tbs.state = .acquiring) :
    execReferenceLost t r = .next (
      let u : State := { s with tbs := { s.tbs with master := none, syncWait := none, delayWait := none, ptpBackup := true } }
      (u.setTbs (if u.tbs.canvasLock then .holdover else .free)).tryLock) := by
  subst hs
  simp only [execReferenceLost, hgone, hstate, Bool.true_eq_false, if_false]

end

/-- R67: holdover that has lasted TBS_HOLDOVER_LIMIT seconds, where there is such a limit, ends in FREE. -/
theorem execHoldoverLimit_of_reached (hstate : s.tbs.state = .holdover) (hlimited : s.val Obj.tbsHoldoverLimit ≠ 0)
    (hreached : s.val Obj.tbsHoldoverLimit ≤ s.holdoverSeconds) :
    execHoldoverLimit t r = .next (((s.setTbs .free).report 0x020 .timeout 0 0).tryLock) := by
  subst hs
  exact congrArg _ (if_pos ⟨hstate, hlimited, hreached⟩)

/-- R70: once TBS_TOD_WAIT_S seconds have passed since the Cask load, canvas lock no longer waits for a time of day. -/
theorem execTodWaitExpiry_of_passed {from_ : Nat} (hwaits : s.tbs.todWaitFrom = some from_)
    (hlimited : s.val Obj.tbsTodWaitS ≠ 0) (hpassed : from_ + giga * s.val Obj.tbsTodWaitS ≤ s.now) :
    execTodWaitExpiry t r =
      .next (State.tryLock { s with tbs := { s.tbs with todWritten := true, todWaitFrom := none } }) := by
  subst hs
  simp only [execTodWaitExpiry, hwaits, hlimited, Nat.not_lt.mpr hpassed, or_self, if_false]

end

/-- Settles O8: each clause is the lemma of its command; TBS_SOURCE's effect has no condition to decide, and the Cask keeps it
and not TBS_TOD_SET. -/
theorem timebaseReferenceCommandsTakeEffect : Obligations.TimebaseReferenceCommandsTakeEffect := by
  unfold Obligations.TimebaseReferenceCommandsTakeEffect
  refine ⟨?source, ?todStepped, ?todSlewed, ?pps, ?frame, ?lostLocked, ?lostAcquiring, ?holdover, ?todWait⟩
  case source =>
    rintro t who v r s rfl haccepted
    exact objectCommand_keeps haccepted rfl rfl
  case todStepped =>
    rintro t who time80 r s rfl haccepted hsource hlock
    exact objectCommand_takes haccepted rfl (tbsTodSet_of_not_canvasLock hsource hlock)
  case todSlewed =>
    rintro t who time80 r s rfl haccepted hsource hlock hnear hoff
    exact objectCommand_takes haccepted rfl (tbsTodSet_of_near hsource hlock hnear hoff)
  case pps =>
    intro t r s hs hacquires hsource
    exact execPpsInEdge_of_source hs hacquires hsource
  case frame =>
    intro t r s hs hacquires hsource
    exact execFrameInEdge_of_source hs hacquires hsource
  case lostLocked =>
    intro t r s hs hgone hstate
    exact execReferenceLost_of_locked hs hgone hstate
  case lostAcquiring =>
    intro t r s hs hgone hstate
    exact execReferenceLost_of_acquiring hs hgone hstate
  case holdover =>
    intro t r s hs hstate hlimited hreached
    exact execHoldoverLimit_of_reached hs hstate hlimited hreached
  case todWait =>
    intro t from_ r s hs hwaits hlimited hpassed
    exact execTodWaitExpiry_of_passed hs hwaits hlimited hpassed

/-! ### PTP (R65, R66, R71) -/

section
variable {t port domain identity seq : Nat} {r s : State} (hs : s = r.land t)
include hs

/-- R65: an Announce that is taken and that wins makes its sender the master. -/
theorem execPtpAnnounceRx_of_wins {rank announceNs syncNs utcOffset : Nat} (htakes : s.ptpTakes port domain = true)
    (hwins : s.announceWins port identity rank = true) :
    execPtpAnnounceRx t port domain identity rank announceNs syncNs utcOffset r = .next (
      let m : Master := { port := port, identity := identity, rank := rank, announceNs := announceNs, syncNs := syncNs,
                          lastAnnounce := s.now, since := (s.masterAt port identity).getD s.now }
      let u : State := { s with tbs := { s.tbs with
        master := some m, ptpBackup := s.tbs.ptpBackup && port != s.val Obj.tbsPtpPortA } }
      let u := (u.putValue Obj.tbsPtpMaster 0 (.bytes (bytesBE 10 identity))).put Obj.tbsPtpUtcOffset 0
        (signed 16 (utcOffset % 65536))
      if u.tbs.state = .free then u.setTbs .acquiring else u) := by
  subst hs
  simp only [execPtpAnnounceRx, htakes, hwins, Bool.true_eq_false, or_self, if_false]

section
variable (hmaster : s.fromMaster port domain identity = true)
include hmaster

section
variable {stampErr : Int} {originNs : Nat}

/-- R66: a two-step Sync of the master waits with its receive time. -/
theorem execPtpSyncRx_of_twoStep :
    execPtpSyncRx t port domain identity seq stampErr originNs true [] r = .next ({ s with tbs := { s.tbs with
      syncWait := some (seq, ((s.deviceTime : Int) + max (-3) (min stampErr 3)).toNat, originNs) } }) := by
  subst hs
  simp only [execPtpSyncRx, hmaster, Bool.true_eq_false, List.isEmpty_nil, if_true, if_false]

/-- R66: a one-step Sync of the master is measured at once. -/
theorem execPtpSyncRx_of_oneStep :
    execPtpSyncRx t port domain identity seq stampErr originNs false [] r =
      .next (s.syncMeasure ((s.deviceTime : Int) + max (-3) (min stampErr 3)).toNat originNs) := by
  subst hs
  simp only [execPtpSyncRx, hmaster, Bool.true_eq_false, Bool.false_eq_true, List.isEmpty_nil, if_true, if_false]

/-- R66: the Follow_Up of the Sync that waits is measured with that Sync's receive time. -/
theorem execPtpFollowUpRx_of_waited {rx origin : Nat} (hwaits : s.tbs.syncWait = some (seq, rx, origin)) :
    execPtpFollowUpRx t port domain identity seq originNs r =
      .next (State.syncMeasure { s with tbs := { s.tbs with syncWait := none } } rx originNs) := by
  subst hs
  simp only [execPtpFollowUpRx, hwaits, hmaster, Bool.true_eq_false, ne_eq, not_true_eq_false, or_self, if_false]

end

/-- R65: the Delay_Resp of the request that waits gives the mean path delay, which is never negative. -/
theorem execPtpDelayRespRx_of_waited {receivedNs sent : Nat} (hwaits : s.tbs.delayWait = some (seq, sent)) :
    execPtpDelayRespRx t port domain identity seq receivedNs r =
      .next (State.put { s with tbs := { s.tbs with delayWait := none } } Obj.tbsPtpMeanDelayNs 0
        (max 0 ((s.tbs.syncDiff + ((receivedNs : Int) - sent)) / 2))) := by
  subst hs
  simp only [execPtpDelayRespRx, hwaits, hmaster, Bool.true_eq_false, ne_eq, not_true_eq_false, or_self, if_false]

end

/-- R65, R71: outside SAFE, one Delay_Req goes to the master once its Sync interval has passed. -/
theorem execPtpDelayReq_of_due {m : Master} (hmaster : s.tbs.master = some m) (hsafe : s.cellar.safe = false)
    (hacquires : s.acquires = true) (hsource : s.tbsSource = 0) (hdue : s.tbs.lastDelayReq + m.syncNs ≤ s.now) :
    execPtpDelayReq t r = .next ((State.send { s with tbs := { s.tbs with
        delaySeq := add16 s.tbs.delaySeq 1, delayWait := some (s.tbs.delaySeq, s.deviceTime), lastDelayReq := s.now } }
      (.frame m.port "Delay_Req"
        [s.tbs.delaySeq, s.val Obj.tbsPtpDelayMode, s.val Obj.tbsPtpTransport, s.val Obj.tbsPtpDomain]
        (s.ptpHeader m.port))).txFrame m.port) := by
  subst hs
  simp only [execPtpDelayReq, hmaster, hsafe, hacquires, hsource, Nat.not_lt.mpr hdue, Bool.false_eq_true,
    Bool.true_eq_false, ne_eq, not_true_eq_false, or_self, if_false]

end

/-- Settles O9: each clause is the lemma of its command. -/
theorem ptpCommandsTakeEffect : Obligations.PtpCommandsTakeEffect := by
  unfold Obligations.PtpCommandsTakeEffect
  refine ⟨?announce, ?syncTwoStep, ?syncOneStep, ?followUp, ?delayResp, ?delayReq⟩
  case announce =>
    intro t port domain identity rank announceNs syncNs utcOffset r s hs htakes hwins
    exact execPtpAnnounceRx_of_wins hs htakes hwins
  case syncTwoStep =>
    rintro t port domain identity seq stampErr originNs twoStep tlv r s hs rfl rfl hmaster
    exact execPtpSyncRx_of_twoStep hs hmaster
  case syncOneStep =>
    rintro t port domain identity seq stampErr originNs twoStep tlv r s hs rfl rfl hmaster
    exact execPtpSyncRx_of_oneStep hs hmaster
  case followUp =>
    intro t port domain identity seq originNs rx origin r s hs hwaits hmaster
    exact execPtpFollowUpRx_of_waited hs hmaster hwaits
  case delayResp =>
    intro t port domain identity seq receivedNs sent r s hs hwaits hmaster
    exact execPtpDelayRespRx_of_waited hs hmaster hwaits
  case delayReq =>
    intro t m r s hs hmaster hsafe hacquires hsource hdue
    exact execPtpDelayReq_of_due hs hmaster hsafe hacquires hsource hdue

end Sys2Proof.Machine
end

section
/-! PROOFS. The canvas time family, time steps and gaps of the raster (R76 to R79). The end of a gap that leaves the raster's
anchor is one lemma; whether a rack waits for it then decides the rest. -/
set_option Elab.async false
namespace Sys2Proof.Machine

section
variable {t : Nat} {r s : State} (hs : s = r.land t)
include hs

/-- R78, R79: outside a gap, once the frame that the step was planned in is over, the step is applied. -/
theorem execTimeStep_of_due {d : Int} {n : Nat} (hpending : s.tbs.stepPending = some (d, n)) (hgap : s.tbs.gap = none)
    (hover : n < s.tbs.raster.index s.deviceTime) :
    execTimeStep t r = .next (let u := s.jump d
      let new := s.tbs.raster.ctime u.deviceTime
      let w : State := { u with tbs := { u.tbs with
        gap := some (s.tbs.raster.stepGap u.deviceTime s.ctime.frame), stepPending := none } }
      (((w.noteStep d).calSweep s.ctime new).rackStepped (add32 new.frame 1) s.ctime).restartPacers) := by
  subst hs
  simp only [execTimeStep, hpending, hgap, Nat.not_le.mpr hover, Option.isSome_none, Bool.false_eq_true, or_self, if_false]

/-- R76, R83: a gap that leaves the raster's anchor ends with the calendar swept; a rack that waits for the end swaps then, and
the fallback segments that are ready are served. -/
theorem execRasterGapEnd_of_same_raster {g : Gap} {u : State} (hgap : s.tbs.gap = some g) (hover : g.untilNs ≤ s.deviceTime)
    (hsame : g.next = s.tbs.raster)
    (hu : u = State.calSweep { s with tbs := { s.tbs with gap := none } } g.place
      (State.ctime { s with tbs := { s.tbs with gap := none } })) :
    execRasterGapEnd t r = .next (
      let v := if u.sets.rack.state = .scheduled ∧ u.sets.rack.swapAtGap then
          (u.swapSets u.sets.rack.frame u.rackTwin).reanchor u.sets.green u.sets.rack.frame
        else u
      v.fallbacksReady v.readyFallbacks) := by
  subst hs hu
  simp only [execRasterGapEnd, hgap, hsame, Nat.not_lt.mpr hover, bne_self_eq_false, Bool.false_eq_true, if_false]

end

/-- Settles O10: a step is the lemma of its command; the two ends of a gap are one lemma, by whether a rack waits. -/
theorem timeStepAndGapEndTakeEffect : Obligations.TimeStepAndGapEndTakeEffect := by
  unfold Obligations.TimeStepAndGapEndTakeEffect
  refine ⟨?step, ?gapEnd, ?gapEndSwap⟩
  case step =>
    intro t d n r s hs hpending hgap hover
    exact execTimeStep_of_due hs hpending hgap hover
  case gapEnd =>
    intro t g u r s hs hgap hover hsame hu hfree
    have hend := execRasterGapEnd_of_same_raster hs hgap hover hsame hu
    rw [hfree, if_neg (by simp)] at hend
    exact hend
  case gapEndSwap =>
    intro t g u r s hs hgap hover hsame hu hscheduled hwaits
    have hend := execRasterGapEnd_of_same_raster hs hgap hover hsame hu
    rw [if_pos ⟨hscheduled, hwaits⟩] at hend
    exact hend

end Sys2Proof.Machine
end

section
/-! PROOFS. The canvas time family, the event calendar. The two writes of a row and the time a first word is held (R80, R82,
R87); what each ACTION does when its entry fires (R81, R455), which is one lemma about a firing. -/
set_option Elab.async false
namespace Sys2Proof.Machine

/-! ### Writes of a row (R80, R82, R83, R87) -/

section
variable {who : Path} {row v : Nat} {s : State}

/-- R80, R87: word 0 whose LINE the raster has is held for its path, for one second. -/
theorem tbsCalW0_of_line (hline : bits v 47 32 < s.tbs.raster.lt) :
    tbsCalW0 who row v s =
      (s.setHeld who (Table.insert (s.heldWords who).1 row v) (Table.insert (s.heldWords who).2 row (s.now + giga)), .ok) :=
  if_neg (Nat.not_le.mpr hline)

/-- R82: word 1 as a write leaves it in its row before a missed instant is looked for: FIRED stays, MISSED is clear. -/
def State.calWrittenW1 (s : State) (row v : Nat) : Nat := setBit (setBit v 54 (bit (s.calW1 row) 54)) 55 false

/-- R87: the row of a write of word 1, with the held word 0 or its own. -/
def State.calWritten (s : State) (who : Path) (row v : Nat) : State :=
  (s.dropHeld who row).setCal row ((s.heldWord who row).getD (s.calW0 row)) (s.calWrittenW1 row v)

/-- R80, R83, R87: word 1 of the user's source, its instant still to come, gives the row both its words; MISSED stays. -/
theorem tbsCalW1_of_future (hsource : bits v 39 28 = 0x010)
    (hfuture : (s.calWritten who row v).calPast row (s.calWritten who row v).calNow = false) :
    tbsCalW1 who row v s = ((s.calWritten who row v).put Obj.tbsCalW1 row
      (setBit (s.calWrittenW1 row v) 55 (bit (s.calW1 row) 55) : Nat), .ok) := by
  refine (if_neg (not_not_intro hsource)).trans (Prod.ext (if_neg ?_) rfl)
  exact Bool.eq_false_iff.mp hfuture

end

/-! ### Firing and expiry (R81, R82, R87, R455) -/

section
variable {t row : Nat} {r s : State} (hs : s = r.land t)
include hs

/-- R82: an entry that is due fires: the row is updated, the tick takes one more, and the action acts on ARG. -/
theorem calFire_of_due {action : Nat} {act : Nat → State → State} (hdue : s.calDue row action = true) :
    calFire t row action act r = .next (act (bits (s.calW0 row) 63 48) (s.calFired row).calTicked) := by
  subst hs
  exact congrArg _ (if_pos hdue)

/-- R87: a word 0 held for its second is dropped. -/
theorem execCalHeldW0Expiry_of_over {who : Path}
    (hover : (s.heldWords who).2.any (fun p => p.1 == row && decide (p.2 ≤ s.now)) = true) :
    execCalHeldW0Expiry t who row r =
      .next (s.setHeld who (Table.erase (s.heldWords who).1 row) (Table.erase (s.heldWords who).2 row)) := by
  subst hs
  exact congrArg _ (if_pos hover)

/-- R455: one line after its pulse, the bit is cleared. -/
theorem execGpioPulseEnd_of_over {pin : Nat}
    (hover : s.pwr.pulses.any (fun p => p.1 == pin && decide (p.2 ≤ s.deviceTime)) = true) :
    execGpioPulseEnd t pin r = .next (State.gpioOut
      { s with pwr := { s.pwr with pulses := s.pwr.pulses.filter fun p => p.1 != pin } } pin false) := by
  subst hs
  exact congrArg _ (if_pos hover)

end

/-- Settles O11: the writes and the two expiries are the lemmas of their commands, and the Cask keeps neither word; every
ACTION is a firing. -/
theorem calendarCommandsTakeEffect : Obligations.CalendarCommandsTakeEffect := by
  unfold Obligations.CalendarCommandsTakeEffect
  refine ⟨?w0, ?w1, ?heldExpiry, ?gpioSet, ?gpioPulse, ?gpioPulseEnd, ?tally, ?mark, ?none⟩
  case w0 =>
    rintro t who row v r s rfl haccepted hline
    exact objectCommand_takes haccepted rfl (tbsCalW0_of_line hline)
  case w1 =>
    rintro t who row v r s rfl haccepted hsource hfuture
    exact objectCommand_takes haccepted rfl (tbsCalW1_of_future hsource hfuture)
  case heldExpiry =>
    intro t who row r s hs hover
    exact execCalHeldW0Expiry_of_over hs hover
  case gpioPulseEnd =>
    intro t pin r s hs hover
    exact execGpioPulseEnd_of_over hs hover
  case gpioSet =>
    intro t row r s hs hdue
    change execGpioSet t row r = _
    exact calFire_of_due hs hdue
  case gpioPulse =>
    intro t row r s hs hdue
    change execGpioPulse t row r = _
    exact calFire_of_due hs hdue
  case tally =>
    intro t row r s hs hdue
    change execTallySet t row r = _
    exact calFire_of_due hs hdue
  case mark =>
    intro t row r s hs hdue
    change execCalMark t row r = _
    exact calFire_of_due hs hdue
  case none =>
    intro t row r s hs hdue
    change execCalNoneFire t row r = _
    exact calFire_of_due hs hdue

end Sys2Proof.Machine
end

section
/-! PROOFS. The source flows and Compositor family: what reception writes (R89, R92, R94, R95), when a row is sampled and
written (R94, R103, R104), and the two writes of a still (R100). The obligation is assembled from the lemma of its clause. -/
set_option Elab.async false
namespace Sys2Proof.Machine

/-! ### Reception (R89, R92, R94, R95) -/

/-- R89: whether a sample row data header names a line or a column outside the flow's picture. -/
def CanvasSet.headsOutside (c : CanvasSet) (flow : Nat) (heads : List (Nat × Nat × Nat)) : Bool :=
  heads.any fun h => decide (c.flowH flow ≤ h.2.1) ||
    decide (c.flowW flow < h.2.2 +
      ceilDiv h.1 (pgroupBytes (bits (c.flow0 flow) 3 1)) * pgroupPixels (bits (c.flow0 flow) 3 1))

/-- R94: whether a row in composition has pinned entry `k` of the flow's ring. -/
def State.pinsEntry (s : State) (flow k : Nat) : Bool :=
  s.cmp.rows.any fun w => w.pinned.any fun p => p.1 == flow && p.2 % (s.flowSet flow).flowRing flow == k

/-- R92, R94: a packet of path A, its segments written to the ring of a LINE-mode flow; a pinned entry counts an overrun. -/
def State.ringReceived (s : State) (flow ts : Nat) (heads : List (Nat × Nat × Nat)) (data : Bytes) : State :=
  let c := s.flowSet flow
  let x := ringWrite (bits (c.flow0 flow) 3 1) (c.flowRing flow) ts (s.pinsEntry flow) heads data (s.flow flow).ring
  let u := (s.count Obj.cmpFlowPktsA flow).setFlow flow { s.flow flow with ring := x.1 }
  if x.2 then u.count Obj.cmpFlowOverrun flow else u

section
variable {t flow : Nat} {r s : State} (hs : s = r.land t) (henabled : (s.flowSet flow).flowEn flow = true)
include hs henabled

/-- R89, R92: outside SAFE, a well-formed packet of an enabled single-path flow in LINE mode goes to the flow's ring. -/
theorem execFlowPacketRx_of_ring {seq ts : Nat} {payload data : Bytes} {heads : List (Nat × Nat × Nat)}
    (hsingle : bit ((s.flowSet flow).flow0 flow) 5 = false) (hring : (s.flowSet flow).flowFrames flow = false)
    (hparsed : srdHeaders 3 (payload.drop 2) = some (heads, data)) (hsafe : s.cellar.safe = false)
    (hinside : (s.flowSet flow).headsOutside flow heads = false) (hwhole : (heads.map (·.1)).sum ≤ data.length) :
    execFlowPacketRx t flow false seq ts payload r = .next (s.ringReceived flow ts heads data) := by
  subst hs
  unfold CanvasSet.headsOutside at hinside
  simp only [execFlowPacketRx, henabled, hsingle, hring, hparsed, hsafe, hinside, Nat.not_lt.mpr hwhole,
    Bool.false_eq_true, Bool.true_eq_false, reduceCtorEq, false_and, or_self, if_false, Bool.not_false, Bool.true_and]
  rfl

/-- R95: a complete line of the staging ring of a FRAME-mode flow goes to the empty place of its frame's buffer. -/
theorem execFrameBufferCopy_of_empty {line : Nat} {e : LineEntry} {m : Int}
    (hstaged : lineEntry (s.flow flow).ring (line % (s.flowSet flow).flowRing flow) = some e)
    (hframes : (s.flowSet flow).flowFrames flow = true) (hline : e.line = line)
    (hcomplete : (s.flowSet flow).flowLb flow ≤ e.received)
    (hselected : (s.flowSet flow).selected flow e.ts (s.tbs.raster.index s.deviceTime) = some m)
    (hempty : lineEntry (s.flow flow).buffers ((m % 3).toNat * 65536 + line) = none) :
    execFrameBufferCopy t flow line r = .next (s.setFlow flow { s.flow flow with
      buffers := Table.set LineEntry.empty (s.flow flow).buffers ((m % 3).toNat * 65536 + line) e }) := by
  subst hs
  simp only [execFrameBufferCopy, hstaged, henabled, hframes, hline, hselected, hempty, Nat.not_lt.mpr hcomplete,
    Bool.true_eq_false, ne_eq, not_true_eq_false, or_self, if_false]

end

/-! ### Composition of a row (R94, R103, R104) -/

section
variable {t row : Nat} {w : RowWork} {r s : State} (hs : s = r.land t) (hwork : s.rowWork row = some w)
  (hgap : s.inGap = false)
include hs hwork hgap

/-- R103, R104: outside a gap, a row in composition is written once its parity errors are reported. -/
theorem execRowCompositionDone_of_work {parity : List Nat} :
    execRowCompositionDone t row parity r =
      .next ((s.parityFound w parity).1.composeRow (s.parityFound w parity).2 (s.setFor w.frame).width) := by
  subst hs
  simp only [execRowCompositionDone, hwork, hgap, Bool.false_eq_true, if_false]

/-- R103, R104: a row still in composition at its limit is late, and is written up to the column reached. -/
theorem execCompositionLimit_of_late {late : LateRow} (hlimit : 32 ≤ w.lines) :
    execCompositionLimit t row late r = .next (
      let q := s.parityFound w late.parity
      ((q.1.report 0x200 .deadlineMiss (faultAddr w.frame row) 0).count Obj.cmpLateRows).composeRow q.2
        (max late.fromCx w.written)) := by
  subst hs
  simp only [execCompositionLimit, hwork, hgap, Nat.not_lt.mpr hlimit, Bool.false_eq_true, or_self, if_false]

end

/-! ### Stills (R100) -/

section
variable {row : Nat} {s : State} (hbright : s.sets.bright.namesStill row = false)
  (hgreen : s.sets.green.namesStill row = false)
include hbright hgreen

/-- R100: a descriptor of FORMAT 0 that fits the area gives a still that no set names new bytes and clears its VALID. -/
theorem cmpStillDesc_of_fits {v : Nat} (hformat : bit v 1 = false)
    (hfits : s.areaUsed (some row) + stillBytes v ≤ 1048576 * s.cmp.areaMib) :
    cmpStillDesc row v s =
      ((s.setStill row { allocated := stillBytes v, valid := false, data := [] }).put Obj.cmpStillDesc row
        (setBits v 0 0 0 : Nat), .ok) := by
  simp only [cmpStillDesc, hformat, hgreen, hbright, Nat.not_lt.mpr hfits, Bool.false_eq_true, false_and, and_false,
    if_false]

/-- R100: pixels of exactly the allocated length give a still that no set names its content and set its VALID. -/
theorem cmpStillData_of_exact {data : Bytes} (hallocated : (s.still row).allocated ≠ 0)
    (hexact : data.length = (s.still row).allocated) :
    cmpStillData row data s = (s.setStill row { s.still row with valid := true, data := data }, .ok) := by
  simp only [cmpStillData, hexact, hallocated, hgreen, hbright, Nat.lt_irrefl, Bool.false_eq_true, and_false, if_false]

end

/-- Settles O12: each clause but one is the lemma of its command, and the Cask keeps neither object of a still; at a sample
point none of the conditions that leave the state alone is met, and the statement spells the rest of the command. -/
theorem compositorCommandsTakeEffect : Obligations.CompositorCommandsTakeEffect := by
  unfold Obligations.CompositorCommandsTakeEffect
  refine ⟨?packet, ?copy, ?sample, ?done, ?limit, ?desc, ?data⟩
  case packet =>
    intro t flow seq ts payload heads data r s hs henabled hsingle hring hparsed hsafe hinside hwhole
    exact execFlowPacketRx_of_ring hs henabled hsingle hring hparsed hsafe hinside hwhole
  case copy =>
    intro t flow line e m r s hs hstaged henabled hframes hline hcomplete hselected hempty
    exact execFrameBufferCopy_of_empty hs henabled hstaged hframes hline hcomplete hselected hempty
  case sample =>
    rintro t row unreadable r s rfl hgap hsafe hcanvas hnext hheight hline
    change execRowSamplePoint t row unreadable r = _
    refine if_neg ?_
    rintro (h | h | h | h | h | h)
    · exact Bool.eq_false_iff.mp hgap h
    · exact Bool.eq_false_iff.mp hsafe h
    · exact Bool.eq_false_iff.mp h hcanvas
    · exact h hnext
    · exact Nat.not_le.mpr hheight h
    · exact Nat.not_lt.mpr hline h
  case done =>
    intro t row parity w r s hs hwork hgap
    exact execRowCompositionDone_of_work hs hwork hgap
  case limit =>
    intro t row late w r s hs hwork hgap hlimit
    exact execCompositionLimit_of_late hs hwork hgap hlimit
  case desc =>
    rintro t who row v r s rfl haccepted hformat hbright hgreen hfits
    exact objectCommand_takes haccepted rfl (cmpStillDesc_of_fits hbright hgreen hformat hfits)
  case data =>
    rintro t who row data r s rfl haccepted hallocated hexact hbright hgreen
    exact objectCommand_takes haccepted rfl (cmpStillData_of_exact hbright hgreen hallocated hexact)

end Sys2Proof.Machine
end

section
/-! PROOFS. The Tuns and recipes family, the eight sequencing codes of a recipe step (R146, R154, R155). Each command acts only
on a running Tun whose step has its code; what it makes of such a Tun is the lemma of that code. -/
set_option Elab.async false
namespace Sys2Proof.Machine

/-! ### Sequencing codes (R146, Table 6-5) -/

section
variable {t tun : Nat} {r s : State} (hs : s = (r.land t).tunPhase tun)
include hs

/-- R146: NEXT goes to the address after `cur`. -/
theorem execNextStep_of_stepIs (hstep : s.stepIs tun 0 = true) :
    execNextStep t tun r = .next (s.stepTun tun fun x => { x with cur := (x.cur + 1) % 65536 }) := by
  subst hs
  exact congrArg _ (if_pos hstep)

/-- R146, R148: BRANCH goes to its target in the page with the condition bits it selects; the condition takes one draw. -/
theorem execBranchStep_of_stepIs {x : Tun} {w g c : Nat} (hstep : s.stepIs tun 1 = true) (hx : x = s.tun tun)
    (hw : w = (s.tunBank x).step x.cur) (hg : g = (s.tunBank x).grain w)
    (hc : c = s.condition x (bits g 3 0) % 2 ^ min 4 (bits g 6 4)) :
    execBranchStep t tun r = .next (
      let u := s.stepTun tun fun x => { x with cur := x.cur / 256 * 256 + (bits w 23 16 ||| c) }
      { u with draws := u.draws + 1 }) := by
  subst hc hg hw hx hs
  exact congrArg _ (if_neg ((Bool.not_eq_false _).mpr hstep))

/-- R146: JUMP goes to the start of the page that the step names. -/
theorem execJumpStep_of_stepIs (hstep : s.stepIs tun 2 = true) :
    execJumpStep t tun r = .next (s.stepTun tun fun x =>
      { x with cur := bits ((s.tunBank (s.tun tun)).step (s.tun tun).cur) 23 16 * 256 }) := by
  subst hs
  exact congrArg _ (if_pos hstep)

section
variable (hstep : s.stepIs tun 3 = true)
include hstep

/-- R146: while the stack has room, CALL pushes the address after `cur` and goes to the start of the page named. -/
theorem execCallStep_of_room (hroom : (s.tun tun).stack.length < 8) :
    execCallStep t tun r = .next (s.stepTun tun fun x =>
      { x with cur := bits ((s.tunBank (s.tun tun)).step (s.tun tun).cur) 23 16 * 256,
               stack := (x.cur + 1) % 65536 :: x.stack }) := by
  subst hs
  exact congrArg _ ((if_neg ((Bool.not_eq_false _).mpr hstep)).trans (if_neg (Nat.not_le.mpr hroom)))

/-- R146, Table 6-12: CALL on a full stack is reported as TIMEOUT and stops the sequencer. -/
theorem execCallStep_of_full (hfull : 8 ≤ (s.tun tun).stack.length) :
    execCallStep t tun r = .next (
      let u := s.tunReport tun false .timeout (s.tun tun).cur
      u.setTun tun { u.tun tun with stopped := true }) := by
  subst hs
  exact congrArg _ ((if_neg ((Bool.not_eq_false _).mpr hstep)).trans (if_pos hfull))

end

/-- R146, R155: RETURN pops its address, which is a free value where the stack is empty; it ends the attention handler where the
handler pushed that address. -/
theorem execReturnStep_of_stepIs (hstep : s.stepIs tun 4 = true) :
    execReturnStep t tun r = .next (
      (s.stepTun tun fun x => { x with
        cur := (s.tun tun).stack.headD (Config.freeValue (s.draws + issueDraws) % 65536), stack := x.stack.tail }).drawn.when
      ((s.tun tun).handling == some (s.tun tun).stack.length) (fun v => v.handlerReturn tun)) := by
  subst hs
  exact congrArg _ (if_pos hstep)

/-- R154, R155: YIELD keeps the longest interval of a Tun with a task, in cycles, starts the next one and takes attention. -/
theorem execYieldStep_of_stepIs {gap : Nat} {u : State} (hstep : s.stepIs tun 5 = true)
    (hgap : gap = (s.now - (s.tun tun).yieldAt) * 8 / 5)
    (hu : u = if (s.tun tun).task.isSome ∧ s.val Obj.tunMaxYieldGap tun < gap then
        s.put Obj.tunMaxYieldGap tun (min gap 65535 : Nat) else s) :
    execYieldStep t tun r = .next ((u.stepTun tun fun x => { x with yieldAt := u.now }).yieldAction tun) := by
  subst hu hgap hs
  simp only [execYieldStep, hstep, Bool.true_eq_false, if_false]

/-- R146: LOOP takes one off the counter its grain names and branches in the page, or goes on where the counter is 0. -/
theorem execLoopStep_of_stepIs {w i v : Nat} (hstep : s.stepIs tun 6 = true)
    (hw : w = (s.tunBank (s.tun tun)).step (s.tun tun).cur) (hi : i = bits ((s.tunBank (s.tun tun)).grain w) 8 7)
    (hv : v = (s.tun tun).lc.getD i 0) :
    execLoopStep t tun r = .next (s.stepTun tun fun x =>
      if v = 0 then { x with cur := (x.cur + 1) % 65536 }
      else { x with cur := x.cur / 256 * 256 + bits w 23 16,
                    lc := ((x.lc ++ List.replicate 4 0).take 4).set i (v - 1) }) := by
  subst hv hi hw hs
  exact congrArg _ (if_neg ((Bool.not_eq_false _).mpr hstep))

/-- R146, R155: END goes to the idle entry; the attention handler then ends, and a task that waits neither for Keg buffers
nor for its verdict is drained or discarded. -/
theorem execEndStep_of_stepIs {x : Tun} {u : State} (hstep : s.stepIs tun 7 = true) (hx : x = s.tun tun)
    (hu : u = s.stepTun tun fun x => { x with cur := 0, stack := [] }) :
    execEndStep t tun r = .next (
      if x.handling.isSome then u.handlerEnd tun
      else if x.task.isNone ∨ (x.outq.isSome || s.dsp.commits.any fun c => c.tun == tun) then u
      else if x.state = .draining then u.drainEnd tun else u.endDiscard tun) := by
  subst hu hx hs
  exact congrArg _ (if_neg ((Bool.not_eq_false _).mpr hstep))

end

/-- Settles O14: each clause is the lemma of its sequencing code; CALL has one for a stack with room and one for a full one. -/
theorem recipeStepsTakeEffect : Obligations.RecipeStepsTakeEffect := by
  unfold Obligations.RecipeStepsTakeEffect
  refine ⟨?next, ?branch, ?jump, ?call, ?callFull, ?pop, ?yield, ?loop, ?stop⟩
  case next =>
    intro t tun r s hs hstep
    exact execNextStep_of_stepIs hs hstep
  case branch =>
    intro t tun r s hs hstep
    exact execBranchStep_of_stepIs hs hstep rfl rfl rfl rfl
  case jump =>
    intro t tun r s hs hstep
    exact execJumpStep_of_stepIs hs hstep
  case call =>
    intro t tun r s hs hstep hroom
    exact execCallStep_of_room hs hstep hroom
  case callFull =>
    intro t tun r s hs hstep hfull
    exact execCallStep_of_full hs hstep hfull
  case pop =>
    intro t tun r s hs hstep
    exact execReturnStep_of_stepIs hs hstep
  case yield =>
    intro t tun r s hs hstep
    exact execYieldStep_of_stepIs hs hstep rfl rfl
  case loop =>
    intro t tun r s hs hstep
    exact execLoopStep_of_stepIs hs hstep rfl rfl rfl
  case stop =>
    intro t tun r s hs hstep
    exact execEndStep_of_stepIs hs hstep rfl rfl

end Sys2Proof.Machine
end

section
/-! PROOFS. The Tuns and recipes family, what happens to a Tun: its commit (R156), the watchdog and the retry of a dry pool
(R154, R157), faults (R159), BIST, self-test and reinstatement (R158, R162, R163), rotation (R178) and the clock groups of
start-up (R184). A rotation instant is one lemma, which the number of active Tuns then decides. -/
set_option Elab.async false
namespace Sys2Proof.Machine

/-- R159: a Tun of the array that is at work is none of those in which no fault is found. -/
theorem not_idle_of_works {tun : Nat} {x : Tun} (htun : tun < 64)
    (hworks : x.state = .ready ∨ x.state = .encode ∨ x.state = .decode ∨ x.state = .draining) :
    ¬ (64 ≤ tun ∨ !(x.state == .ready || x.state == .encode || x.state == .decode || x.state == .draining)) := by
  rintro (houtside | hidle)
  · exact Nat.not_le.mpr htun houtside
  · rcases hworks with h | h | h | h <;> simp [h] at hidle

/-! ### Commit, watchdog and retry (R154, R156, R157) -/

section
variable {t tun : Nat} {r s : State} (hs : s = r.land t)
include hs

section
variable {slice : Bytes} {spent : Bool} {trims floors : Nat} {k : Task} (htask : (s.tun tun).task = some k)
  (hruns : (s.tun tun).stopped = false) (hout : (s.tun tun).outq = none) (hdry : (s.tun tun).kegWait = none)
  (hfirst : s.dsp.commits.any (fun c => c.tun == tun) = false)
include htask hruns hout hdry hfirst

/-- R138, R156: an encode task's record goes to the Dispatcher with the bytes that the OUT unit wrote. -/
theorem execCommit_of_encode (hencode : k.isDecode = false) (hsends : k.sends tun spent trims floors = true) :
    execCommit t tun slice spent trims floors r = .next (s.submitCommit tun { k.record tun with slice := slice }) := by
  subst hs
  simp only [execCommit, htask, hruns, hout, hdry, hfirst, hencode, hsends, Option.isSome_none, Bool.not_true,
    Bool.false_eq_true, or_self, if_false]

/-- R156, R161, R260: a decode task stages the rest of its lines; then it commits its item or, poisoned, ends draining. -/
theorem execCommit_of_decode (hdecode : k.isDecode = true) (hwhole : s.itemWhole k = true) :
    execCommit t tun slice spent trims floors r = .next (
      let u := (s.stageTo tun k.ctus 0).1
      if k.poisoned then u.drainEnd tun else u.commitItem tun k) := by
  have hsends : k.sends tun spent trims floors = true := by simp only [Task.sends, hdecode, Bool.true_or]
  subst hs
  simp only [execCommit, htask, hruns, hout, hdry, hfirst, hdecode, hsends, hwhole, Option.isSome_none, Bool.not_true,
    Bool.false_eq_true, Bool.true_eq_false, or_self, if_true, if_false]

end

/-- R154: a task without a yield step for 1,280 ns stops its Tun, reports TIMEOUT unless the Tun had stopped, and drains. -/
theorem execYieldWatchdog_of_expired (htask : (s.tun tun).task.isNone = false) (hwet : (s.tun tun).kegWait.isSome = false)
    (hexpired : (s.tun tun).yieldAt + 1280 ≤ s.now) :
    execYieldWatchdog t tun r = .next (
      let u := s.setTun tun { s.tun tun with stopped := true }
      let u := if (s.tun tun).stopped then u else u.tunReport tun false .timeout (s.tun tun).cur
      (u.setTun tun { u.tun tun with state := .draining }).drainEnd tun) := by
  subst hs
  simp only [execYieldWatchdog, htask, hwet, Nat.not_lt.mpr hexpired, Bool.false_eq_true, or_self, if_false]

/-- R157: 40 ns after a dry answer the loop passes a yield step, where attention is taken and a draining Tun ends; else the Tun
asks for its buffers again. -/
theorem execTunKegRetry_of_due {a : Nat} (hwaits : (s.tun tun).kegWait = some a) (hdue : a + 40 ≤ s.now) :
    execTunKegRetry t tun r = .next (
      let u := s.setTun tun { s.tun tun with yieldAt := s.now }
      if (s.tun tun).abortPosted ∧ (s.tun tun).handling.isNone then u.takeAttention tun
      else if (s.tun tun).state = .draining then u.drainEnd tun
      else match (s.tun tun).outq with
      | some c => u.submitCommit tun c
      | none => (u.stageTo tun 0 0).1) := by
  cases hout : (s.tun tun).outq <;> subst hs <;>
    simp only [execTunKegRetry, hwaits, hout, Nat.not_lt.mpr hdue, if_false]

/-! ### Faults and BIST (R159, R162) -/

section
variable {detail : Nat} (htun : tun < 64) (hworks : (s.tun tun).state = .ready ∨ (s.tun tun).state = .encode ∨
  (s.tun tun).state = .decode ∨ (s.tun tun).state = .draining)
include htun hworks

/-- R159, Table 6-12: a corrected error of a Tun at work is reported and counted. -/
theorem execTunPoison_of_corrected : execTunPoison t tun 1 detail r =
    .next ((s.report (0x300 + tun) .eccCorr (s.tunAddr tun) detail).count Obj.tunEccCorr tun) := by
  subst hs
  exact congrArg _ ((if_neg (not_idle_of_works htun hworks)).trans (if_pos rfl))

/-- R159, Table 6-12: an uncorrectable or a parity error of a Tun at work sets its bit of ERR, and is reported as a fault. -/
theorem execTunPoison_of_uncorrected {kind : Nat} {k : Kind}
    (hkind : kind = 2 ∧ k = .eccUncorr ∨ kind = 3 ∧ k = .parity) :
    execTunPoison t tun kind detail r =
      .next ((s.setTun tun ((s.tun tun).errBit k)).tunReport tun false k detail) := by
  have hworking := not_idle_of_works htun hworks
  subst hs
  rcases hkind with ⟨rfl, rfl⟩ | ⟨rfl, rfl⟩ <;>
    simp only [execTunPoison, hworking, tunKind, if_false, Nat.reduceEqDiff, Nat.reduceLeDiff, and_false]

end

section
variable {phase from_ : Nat} (hbist : (s.tun tun).bistFrom = some from_) (hover : from_ + 40000000 ≤ s.now)
  (hserves : (s.tun tun).bistHeld = false)
include hbist hover hserves

/-- R162: the BIST of a Tun in service that failed in a phase ends in FAILED, with DIGEST_MISMATCH. -/
theorem execTunBistDone_of_failed (hphase : phase ≠ 0) : execTunBistDone t tun phase r = .next (
    let u := s.unmark tun
    let y : Tun := { (s.tun tun).clear 0 u.now with
      bistStage := 4, sram := [], bistFrom := none, bistHeld := false, bistPending := false, bistResult := 2,
      bistPhase := phase, bistEnd := u.deviceTime, attn := [], lastPass := none, state := .failed }
    (((u.report (0x300 + tun) .digestMismatch 0 phase).count Obj.tunFaults tun).setTun tun y).capacity) := by
  subst hs
  simp only [execTunBistDone, hbist, hserves, hphase, Nat.not_lt.mpr hover, Bool.false_eq_true, if_false]

/-- R162: the BIST of a Tun in service that passed sets the Tun free. -/
theorem execTunBistDone_of_passed : execTunBistDone t tun 0 r = .next (
    let u := s.unmark tun
    let y : Tun := { (s.tun tun).clear 0 u.now with
      bistStage := 4, sram := [], bistFrom := none, bistHeld := false, bistPending := false, bistResult := 1,
      bistPhase := 0, bistEnd := u.deviceTime, attn := [], lastPass := some u.now }
    (u.setTun tun y).tunFree tun) := by
  subst hs
  simp only [execTunBistDone, hbist, hserves, Nat.not_lt.mpr hover, Bool.false_eq_true, if_true, if_false]

end

/-! ### Rotation and clock groups (R178, R184) -/

/-- R178: at a rotation instant the Tun is chosen and the next instant armed; the Tun rotates where one more than Na are active,
and the rotation is put off where not. -/
theorem execTunRotate_of_turn {f : Nat} {v u : State} (harmed : s.dsp.rotateAt = some f)
    (hturn : s.calTurn (rotateEntry f) = true) (hon : s.val Obj.dspRotateS ≠ 0) (hv : v = s.calTicked)
    (hu : u = State.armRotation { v with dsp := { v.dsp with rotatedAt := f } }) :
    execTunRotate t r = .next (
      if u.na + 1 ≤ u.tunsActive then
        let w : State := { u with dsp := { u.dsp with
          rotating := v.rotateChoice :: u.dsp.rotating.filter (· != v.rotateChoice), lastRotated := v.rotateChoice,
          retryTun := none } }
        if (u.tun v.rotateChoice).state = .ready ∨ (u.tun v.rotateChoice).state = .failed ∨
            (u.tun v.rotateChoice).state = .retired then w.beginBist v.rotateChoice 1
        else w.capacity
      else State.brewRec { u with dsp := { u.dsp with retryTun := some v.rotateChoice } } 0x340 0x042 v.rotateChoice) := by
  subst hu hv hs
  simp only [execTunRotate, harmed, hturn, hon, Bool.true_eq_false, or_self, if_false]
  rfl

/-- R184: in the BIST step, when a group's time has come and the groups below have left GATED, its Tuns in GATED begin BIST. -/
theorem execClockGroupEnable_of_due {group : Nat} (hphase : s.pwr.phase = 2) (hgroup : group < 8)
    (hdue : s.pwr.phaseAt + 5000 * group ≤ s.now)
    (hbelow : (List.range (8 * group)).any (fun u => (s.tun u).state == .gated) = false) :
    execClockGroupEnable t group r = .next ((List.range 8).foldl
      (fun u i => if (u.tun (8 * group + i)).state = .gated then u.beginBist (8 * group + i) 0 else u) s) := by
  subst hs
  simp only [execClockGroupEnable, hphase, hbelow, Nat.not_le.mpr hgroup, Nat.not_lt.mpr hdue, ne_eq, not_true_eq_false,
    Bool.false_eq_true, or_self, if_false]

end

/-! ### Self-test and reinstatement on request (R158, R163) -/

section
variable {v : Nat} {s : State}

section
variable (hbist : (s.tun v).bistFrom = none)
include hbist

/-- R163: the self-test of a Tun out of service begins at once. -/
theorem tunSelftest_of_out (hout : (s.tun v).state = .failed ∨ (s.tun v).state = .retired) :
    tunSelftest v s = (s.beginBist v 2, .ok) := by
  rcases hout with hout | hout <;>
    simp only [tunSelftest, hbist, hout, Option.isSome_none, Bool.false_eq_true, reduceCtorEq, or_self, or_true,
      true_or, if_true, if_false]

/-- R163: the self-test of a Tun at work waits for the Tun's rotation. -/
theorem tunSelftest_of_work
    (hwork : (s.tun v).state = .encode ∨ (s.tun v).state = .decode ∨ (s.tun v).state = .draining) :
    tunSelftest v s = (s.setTun v { s.tun v with bistPending := true }, .ok) := by
  rcases hwork with hwork | hwork | hwork <;>
    simp only [tunSelftest, hbist, hwork, Option.isSome_none, Bool.false_eq_true, reduceCtorEq, or_self, false_and,
      if_false]

end

/-- R158: a Tun out of service whose self-test passed within the last 60 s is set free. -/
theorem tunReinstate_of_passed {a : Nat} (hout : (s.tun v).state = .failed ∨ (s.tun v).state = .retired)
    (hpassed : (s.tun v).lastPass = some a) (hrecent : s.now ≤ a + 60 * giga) :
    tunReinstate v s = ((s.setTun v { s.tun v with bistFrom := none, bistHeld := false }).tunFree v, .ok) := by
  refine if_pos ⟨hout, ?_⟩
  simpa only [hpassed, Option.any_some] using decide_eq_true hrecent

end

/-- Settles O15: each clause is the lemma of its command; the two faults share one, and so do the two ends of a rotation
instant. The Cask keeps neither TUN_SELFTEST nor TUN_REINSTATE. -/
theorem tunCommandsTakeEffect : Obligations.TunCommandsTakeEffect := by
  unfold Obligations.TunCommandsTakeEffect
  refine ⟨?encode, ?decode, ?watchdog, ?retry, ?uncorrected, ?corrected, ?bistFailed, ?bistPassed, ?selftestOut,
    ?selftestWork, ?reinstate, ?skipped, ?rotates, ?clockGroup⟩
  case encode =>
    intro t tun slice spent trims floors k r s hs htask hencode hruns hout hdry hfirst hsends
    exact execCommit_of_encode hs htask hruns hout hdry hfirst hencode hsends
  case decode =>
    intro t tun slice spent trims floors k r s hs htask hdecode hruns hout hdry hfirst hwhole
    exact execCommit_of_decode hs htask hruns hout hdry hfirst hdecode hwhole
  case watchdog =>
    intro t tun r s hs htask hwet hexpired
    exact execYieldWatchdog_of_expired hs htask hwet hexpired
  case retry =>
    intro t tun a r s hs hwaits hdue
    exact execTunKegRetry_of_due hs hwaits hdue
  case uncorrected =>
    intro t tun kind detail k r s hs htun hworks hkind
    exact execTunPoison_of_uncorrected hs htun hworks hkind
  case corrected =>
    rintro t tun kind detail r s hs htun hworks rfl
    exact execTunPoison_of_corrected hs htun hworks
  case bistFailed =>
    intro t tun phase a r s hs hbist hover hphase hserves
    exact execTunBistDone_of_failed hs hbist hover hserves hphase
  case bistPassed =>
    rintro t tun phase a r s hs hbist hover rfl hserves
    exact execTunBistDone_of_passed hs hbist hover hserves
  case selftestOut =>
    rintro t who v r s rfl haccepted hout hbist
    exact objectCommand_takes haccepted rfl (tunSelftest_of_out hbist hout)
  case selftestWork =>
    rintro t who v r s rfl haccepted hwork hbist
    exact objectCommand_takes haccepted rfl (tunSelftest_of_work hbist hwork)
  case reinstate =>
    rintro t who v a r s rfl haccepted hout hpassed hrecent
    exact objectCommand_takes haccepted rfl (tunReinstate_of_passed hout hpassed hrecent)
  case skipped =>
    intro t f v u r s hs harmed hturn hon hv hu hfew
    have hrotation := execTunRotate_of_turn hs harmed hturn hon hv hu
    rw [if_neg (by omega)] at hrotation
    exact hrotation
  case rotates =>
    intro t f v u r s hs harmed hturn hon hv hu hspare hready
    have hrotation := execTunRotate_of_turn hs harmed hturn hon hv hu
    rw [if_pos hspare, if_pos (.inl hready)] at hrotation
    exact hrotation
  case clockGroup =>
    intro t group r s hs hphase hgroup hdue hbelow
    exact execClockGroupEnable_of_due hs hphase hgroup hdue hbelow

end Sys2Proof.Machine
end

section
/-! PROOFS. The Tuns and recipes family, recipe patches: the check of an image begins, and a bank switch is scheduled, made at
its calendar turn, or given up (R152, R153, R246). APPLY and REMOVE schedule by the same lemma. -/
set_option Elab.async false
namespace Sys2Proof.Machine

section
variable {s : State}

/-- R152, R153, R413: with the verifier and the switch free, the image is checked with the role of its writer. -/
theorem tunPatchImage_of_free {who : Path} {image : Bytes} {role : Role} (hlife : s.trust.lifecycle ≠ 3)
    (hverifier : s.verifierBusy = false) (hswitch : s.switchBusy = false) (hrole : s.roleOf who = some role) :
    tunPatchImage who image s = (s.modTrust fun x => { x with
      checking := some { image := image, sec := false, role := role, since := s.now } }, .ok) := by
  simp only [tunPatchImage, State.checkImage, hlife, hverifier, hswitch, hrole, Bool.false_eq_true, or_self, if_false,
    Option.getD_some]

section
variable {target f : Nat} (hsingle : s.twinMode = false) (hframe : rackFrame s.ctime.frame (s.rackLead false) target = .ok f)
include hsingle hframe

/-- R153: in single mode, a switch for which there is a frame is scheduled, agreed from the start. -/
theorem State.scheduleSwitch_of_single {bank : PatchBank} : s.scheduleSwitch bank target =
    { s with tuns := { s.tuns with switch := some { frame := f, bank := bank, agreed := true }, patchFrame := f } } := by
  simp only [State.scheduleSwitch, hsingle, hframe, Bool.not_false, Bool.false_eq_true, if_false]

/-- R153: with no switch under way, TUN_PATCH_APPLY schedules the switch to the staged image. -/
theorem tunPatchApply_of_staged {bank : PatchBank} (hfree : s.switchBusy = false)
    (hstaged : s.tuns.staged = some bank) :
    tunPatchApply target s = ({ s with tuns := { s.tuns with
      switch := some { frame := f, bank := bank, agreed := true }, patchFrame := f } }, .ok) := by
  simp only [tunPatchApply, hfree, hstaged, State.scheduleSwitch_of_single hsingle hframe, Bool.false_eq_true, if_false]

end

/-- R153: with no switch under way, TUN_PATCH_REMOVE schedules the switch to an empty bank, for the earliest frame. -/
theorem tunPatchRemove_of_free {f : Nat} (hsingle : s.twinMode = false)
    (hframe : rackFrame s.ctime.frame (s.rackLead false) 0 = .ok f) (hfree : s.switchBusy = false) :
    tunPatchRemove s = ({ s with tuns := { s.tuns with
      switch := some { frame := f, bank := PatchBank.empty, agreed := true }, patchFrame := f } }, .ok) := by
  simp only [tunPatchRemove, hfree, State.scheduleSwitch_of_single hsingle hframe, Bool.false_eq_true, if_false]

end

section
variable {t : Nat} {w : PatchSwitch} {r s : State} (hs : s = r.land t) (hswitch : s.tuns.switch = some w)
include hs hswitch

/-- R153: an agreed switch is made at its turn of the calendar. -/
theorem execPatchSwitch_of_turn (hagreed : w.agreed = true) (hturn : s.calTurn (s.switchEntry w) = true) :
    execPatchSwitch t r = .next (s.calTicked.switchBank w) := by
  subst hs
  simp only [execPatchSwitch, hswitch, hagreed, hturn, and_self, if_true]

/-- R246: a switch that the partner has not agreed when its agreement closes is given up. -/
theorem execPatchAgreeTimeout_of_closed (hopen : w.agreed = false) (hclosed : s.agreeClosed w.frame = true) :
    execPatchAgreeTimeout t r = .next (s.endPatch .twinTimeout) := by
  subst hs
  simp only [execPatchAgreeTimeout, hswitch, hopen, hclosed, Bool.not_false, and_self, if_true]

end

/-- Settles O16: each clause is the lemma of its command; the Cask keeps none of the three objects written. -/
theorem patchCommandsTakeEffect : Obligations.PatchCommandsTakeEffect := by
  unfold Obligations.PatchCommandsTakeEffect
  refine ⟨?image, ?apply, ?remove, ?switch, ?agreeTimeout⟩
  case image =>
    rintro t who image role r s rfl haccepted hlife hverifier hswitch hrole
    exact objectCommand_takes haccepted rfl (tunPatchImage_of_free hlife hverifier hswitch hrole)
  case apply =>
    rintro t who v bank f r s rfl haccepted hfree hstaged hsingle hframe
    exact objectCommand_takes haccepted rfl (tunPatchApply_of_staged hsingle hframe hfree hstaged)
  case remove =>
    rintro t who v f r s rfl haccepted hfree hsingle hframe
    exact objectCommand_takes haccepted rfl (tunPatchRemove_of_free hsingle hframe hfree)
  case switch =>
    intro t w r s hs hswitch hagreed hturn
    exact execPatchSwitch_of_turn hs hswitch hagreed hturn
  case agreeTimeout =>
    intro t w r s hs hswitch hopen hclosed
    exact execPatchAgreeTimeout_of_closed hs hswitch hopen hclosed

end Sys2Proof.Machine
end

section
/-! PROOFS. The dispatch, deadlines and sparing family, segments: the composed report and the assignment (R166 to R168, R226),
the poisoned task (R169, R171), the deadline, the hard limit and the fallback's time limit (R173 to R175). Each command acts on
the one segment or task that is due; what it makes of it is the lemma of that command. -/
set_option Elab.async false
namespace Sys2Proof.Machine

/-! ### No report disarms a force (R385, R397) -/

section
variable (s : State)

@[simp] theorem State.setWort_cellar (line : Nat) (l : WortLine) : (s.setWort line l).cellar = s.cellar := rfl

@[simp] theorem State.pushCredit_cellar (line : Nat) (words : List Nat) : (s.pushCredit line words).cellar = s.cellar := by
  dsimp only [State.pushCredit]
  split <;> exact s.setWort_cellar line _

/-- R394: a report may drive the signal to the SAFE logic; it disarms no force. -/
@[simp] theorem State.reportMsg_force (m : FaultMsg) : (s.reportMsg m).cellar.force = s.cellar.force := by
  dsimp only [State.reportMsg]
  split <;> simp only [State.pushCredit_cellar]

@[simp] theorem State.report_force (source : Nat) (k : Kind) (address detail : Nat) :
    (s.report source k address detail).cellar.force = s.cellar.force := s.reportMsg_force _

@[simp] theorem State.modSeg_cellar (g : SegRec) (f : SegRec → SegRec) : (s.modSeg g f).cellar = s.cellar := rfl

end

/-- R397: where no force is armed, none is armed for a target. -/
theorem State.forced_of_no_force {s : State} {code target : Nat} (h : s.cellar.force = none) :
    s.forced code target = false := by
  simp only [State.forced, h]
  rfl

/-! ### What happens to a segment -/

/-- R103, R166: segment `g` of key `key` is composed, with its integrity and the anomaly bit of concealed content. -/
def State.markComposed (s : State) (g : SegRec) (key : Nat) : State :=
  s.modSeg g fun q => { q with composed := true, si := !s.cmp.integrityLost.contains key,
                               anom := q.anom ||| (2 * ofBool (s.cmp.concealed.contains key)) }

/-- R168: segment `g` holds the ticket of task `k` on Tun `u`, with the anomaly bit of Floor Map words that cannot be read. -/
def State.assignTo (s : State) (g : SegRec) (u : Nat) (k : Task) (bad : List Nat) : State :=
  (State.startTask { s with dsp := { s.dsp with nextTicket := k.ticket + 1 } } u k).modSeg g fun q =>
    { q with ticket := some k.ticket, tun := u, respared := false, anom := q.anom ||| ofBool (!bad.isEmpty) }

section
variable {t : Nat} {r s : State} {g : SegRec} (hs : s = r.land t)
include hs

/-! ### The composed report and the assignment (R166 to R168, R226) -/

section
variable {seg : Nat} {done : ComposedRow} (hfound : s.findSeg seg done.y (fun g => !g.composed) = some g)
  (hgap : s.inGap = false)
include hfound hgap

/-- R103: the row still in composition is composed up to the segment's last column before the segment is marked. -/
theorem execSegmentComposed_of_row {w : RowWork}
    (hrow : (s.cmp.rows.find? fun w => w.frame == g.frame && w.row == done.y) = some w) :
    execSegmentComposed t seg done r = .next (
      ((s.parityFound w done.parity).1.composeCols (s.parityFound w done.parity).2 (g.x0 + g.w)
        (s.setFor g.frame).width).markComposed g (segKey seg done.y)) := by
  subst hs
  simp only [execSegmentComposed, hfound, hgap, hrow, Bool.false_eq_true, if_false, State.markComposed]

/-- R103: of a row that is no longer in composition, the segment is only marked. -/
theorem execSegmentComposed_of_no_row
    (hrow : (s.cmp.rows.find? fun w => w.frame == g.frame && w.row == done.y) = none) :
    execSegmentComposed t seg done r = .next (s.markComposed g (segKey seg done.y)) := by
  subst hs
  simp only [execSegmentComposed, hfound, hgap, hrow, Bool.false_eq_true, if_false, State.markComposed]

end

section
variable {unreadable bad : List Nat} {u : Nat} {p : Picture} {m v : State} {k : Task} (hready : s.firstReady = some g)
  (htun : s.readyTun = some u) (hroom : s.encodeTickets < s.encodeLimit) (hpic : s.picture g.pic = some p)
  (hbad : bad = s.badColumns ((s.setFor g.frame).entry g.s) g.frame g.y unreadable)
  (hm : m = s.mapUnreadable g.frame g.y bad) (hk : k = m.encodeTask g p bad) (hv : v = m.assignTo g u k bad)
include hready htun hroom hpic hbad hm hk hv

/-- R168, R226: the first ready segment is assigned to the Tun that is READY, and its ticket bound to the lane chosen. -/
theorem execSegmentAssign_of_lane {n : Nat} (hlane : v.chooseLane g.frame g.s g.y = some n) :
    execSegmentAssign t unreadable r = .next (v.bindLane n k.ticket) := by
  subst hv hk hm hbad hs
  simp only [State.assignTo] at hlane
  simp only [execSegmentAssign, hready, htun, hroom, hpic, hlane, if_true, State.assignTo]

/-- R168, R226: a segment for which no lane is chosen is assigned without one. -/
theorem execSegmentAssign_of_no_lane (hlane : v.chooseLane g.frame g.s g.y = none) :
    execSegmentAssign t unreadable r = .next v := by
  subst hv hk hm hbad hs
  simp only [State.assignTo] at hlane
  simp only [execSegmentAssign, hready, htun, hroom, hpic, hlane, if_true, State.assignTo]

end

/-! ### The deadline, the hard limit and the fallback's time limit (R173 to R175) -/

section
variable {seg y : Nat}

/-- R173: a segment at its deadline is late, is reported and counted; with no force armed it goes on. -/
theorem execSegmentDeadline_of_due (hdue : s.findSeg seg y (fun g => decide (g.count ≤ 0) && !g.late) = some g)
    (hforce : s.cellar.force = none) :
    execSegmentDeadline t seg y r = .next (((s.modSeg g fun q => { q with late := true }).report 0x340 .segmentLate
      (faultAddr g.frame y) seg).count Obj.dspSegsLate) := by
  have hunforced : (((s.modSeg g fun q => { q with late := true }).report 0x340 .segmentLate (faultAddr g.frame y) seg).count
      Obj.dspSegsLate).forced 5 0 = false := State.forced_of_no_force (by simpa using hforce)
  subst hs
  simp only [execSegmentDeadline, hdue, hunforced, Bool.false_eq_true, false_and, if_false]

/-- R174: a late segment at its hard limit loses its Tun, if it has one, and becomes a fallback segment. -/
theorem execSegmentHardLimit_of_due
    (hdue : s.findSeg seg y (fun g => g.late && !g.fallback &&
      decide (g.count ≤ -((s.setFor g.frame).nat Obj.dspLateLines : Int))) = some g) :
    execSegmentHardLimit t seg y r = .next (s.hardLimit g false) := by
  subst hs
  simp only [execSegmentHardLimit, hdue]

/-- R175: a fallback segment at its time limit loses its Tun, if it has one, and fails. -/
theorem execFallbackTimeout_of_due
    (hdue : s.findSeg seg y (fun g => g.fallback && !g.failed && decide (32 ≤ g.sinceFallback)) = some g) :
    execFallbackTimeout t seg y r =
      .next ((if g.ticket.isSome then s.attend g.tun .abort else s).fallbackFailed g) := by
  subst hs
  simp only [execFallbackTimeout, hdue]

end

/-! ### The poisoned task (R169, R171) -/

/-- R171: the fault of a Tun's task reaches the Dispatcher. -/
theorem execPoisonReport_of_poisoned {tun : Nat} {k : Task} (htask : (s.tun tun).task = some k) (hpoison : k.poisoned = true) :
    execPoisonReport t tun r = .next (s.taskPoisoned tun) := by
  subst hs
  simp only [execPoisonReport, htask, Option.any_some, hpoison, if_true]

end

section
variable {s : State} {tun : Nat} {k : Task} (htask : (s.tun tun).task = some k)
include htask

/-- R161, R171: a poisoned work item that its Tun still holds is released, to be run again. -/
theorem State.taskPoisoned_of_decode (hdecode : k.isDecode = true) :
    s.taskPoisoned tun = if s.itemHeld tun k then (s.releaseItem tun).attend tun .respare else s := by
  simp only [State.taskPoisoned, htask, hdecode, if_true]

section
variable (hencode : k.isDecode = false)
include hencode

/-- R171: a poisoned task whose ticket is current takes it from its segment. -/
theorem State.taskPoisoned_of_current {g : SegRec} (hcurrent : (s.dsp.segs.find? fun g => g.ticket == some k.ticket) = some g) :
    s.taskPoisoned tun = s.segPoisoned g tun := by
  simp only [State.taskPoisoned, htask, hencode, hcurrent, Bool.false_eq_true, if_false]

/-- R169: a poisoned task whose ticket was revoked before has no segment to lose. -/
theorem State.taskPoisoned_of_revoked (hrevoked : (s.dsp.segs.find? fun g => g.ticket == some k.ticket) = none) :
    s.taskPoisoned tun = s := by
  simp only [State.taskPoisoned, htask, hencode, hrevoked, Bool.false_eq_true, if_false]

end

end

/-- Settles O13: each clause is the lemma of its command; the composed report splits on whether the row is still in composition,
the assignment on whether a lane is chosen, and the poisoned task on what it is and whether its ticket is current. -/
theorem segmentCommandsTakeEffect : Obligations.SegmentCommandsTakeEffect := by
  unfold Obligations.SegmentCommandsTakeEffect
  refine ⟨?composed, ?assign, ?poison, ?deadline, ?hardLimit, ?timeout⟩
  case composed =>
    intro t seg done g r s hs hfound hgap
    cases hrow : s.cmp.rows.find? fun w => w.frame == g.frame && w.row == done.y with
    | none => exact execSegmentComposed_of_no_row hs hfound hgap hrow
    | some w => exact execSegmentComposed_of_row hs hfound hgap hrow
  case assign =>
    intro t unreadable g u p r s hs hready htun hroom hpic
    dsimp only
    split
    next n hlane => exact execSegmentAssign_of_lane hs hready htun hroom hpic rfl rfl rfl rfl hlane
    next hlane => exact execSegmentAssign_of_no_lane hs hready htun hroom hpic rfl rfl rfl rfl hlane
  case poison =>
    intro t tun k r s hs htask hpoison
    refine (execPoisonReport_of_poisoned hs htask hpoison).trans (congrArg _ ?_)
    split
    next hdecode => exact State.taskPoisoned_of_decode htask hdecode
    next hencode =>
      have hencode := Bool.eq_false_of_not_eq_true hencode
      split
      next g hcurrent => exact State.taskPoisoned_of_current htask hencode hcurrent
      next hrevoked => exact State.taskPoisoned_of_revoked htask hencode hrevoked
  case deadline =>
    intro t seg y g r s hs hdue hforce
    exact execSegmentDeadline_of_due hs hdue hforce
  case hardLimit =>
    intro t seg y g r s hs hdue
    exact execSegmentHardLimit_of_due hs hdue
  case timeout =>
    intro t seg y g r s hs hdue
    exact execFallbackTimeout_of_due hs hdue

end Sys2Proof.Machine
end

section
/-! PROOFS. The dispatch, deadlines and sparing family, effort and nudges: the governor (R180), the effort's cap and its changes
(R181 to R183), and the start of a nudge sweep (R205, R206). -/
set_option Elab.async false
namespace Sys2Proof.Machine

/-! ### The governor (R180) -/

section
variable {t : Nat} {r s : State} (hs : s = r.land t)
include hs

/-- R180: a Tj that calls for no move breaks the hold time of a raise. -/
theorem execGovernorTick_of_no_move (hmove : governorMove s.dsp.govState (s.valInt Obj.dspThermLeanC)
      (s.valInt Obj.dspThermMinC) (s.val Obj.dspThermHystC) s.pwr.tj = none) :
    execGovernorTick t r = .next { s with dsp := { s.dsp with govCoolFrom := none } } := by
  subst hs
  simp only [execGovernorTick, hmove]

/-- R180: a move to a lower effort waits for no hold time. -/
theorem execGovernorTick_of_lower {new : Nat} (hmove : governorMove s.dsp.govState (s.valInt Obj.dspThermLeanC)
      (s.valInt Obj.dspThermMinC) (s.val Obj.dspThermHystC) s.pwr.tj = some new) (hlower : s.dsp.govState < new) :
    execGovernorTick t r = .next (State.requestEffort { s with dsp := { s.dsp with govState := new, govCoolFrom := none } }) := by
  subst hs
  simp only [execGovernorTick, hmove, hlower, if_true]

/-! ### Changes of the effort (R181, R182) -/

/-- R181: an agreed change takes effect at its turn of the calendar, and every Tun that may hold a task is sent CONTEXT. -/
theorem execEffortChange_of_turn {x : EffortChange} {rest : List EffortChange} {v u : State}
    (hfirst : s.dsp.effortPending = x :: rest) (hagreed : x.agreed = true) (hturn : s.calTurn (s.effortEntry x) = true)
    (hv : v = s.calTicked)
    (hu : u = (State.count { v with dsp := { v.dsp with effort := x.level, effortPending := rest, effortFrame := x.frame } }
      Obj.dspEffortChanges).brewRec 0x340 0x043 (x.level * 2 ^ 32 + x.frame)) :
    execEffortChange t r = .next ((List.range 64).foldl (fun s t =>
      if (s.tun t).state = .gated ∨ (s.tun t).state = .failed ∨ (s.tun t).state = .retired then s
      else s.attend t .context) u).effortSettled := by
  subst hu hv hs
  simp only [execEffortChange, hfirst, hagreed, hturn, and_self, if_true]

/-- R182: a change that is not agreed when its agreement closes is scheduled again, for its level. -/
theorem execEffortAgreeTimeout_of_closed {x : EffortChange}
    (hopen : s.dsp.effortPending.find? (fun x => !x.agreed && s.reached { frame := sub32 x.frame 2, line := 0 }) = some x) :
    execEffortAgreeTimeout t r = .next (State.scheduleEffort
      { s with dsp := { s.dsp with effortPending := s.dsp.effortPending.filter fun q => q != x } } x.level) := by
  subst hs
  simp only [execEffortAgreeTimeout, hopen]

/-! ### The start of a nudge sweep (R205, R206) -/

section
variable {seg : Nat}

/-- R205: an agreed start is taken at its turn of the calendar. -/
theorem execRefreshNudge_of_turn (hstarts : (s.nudge seg).state = .scheduled ∨ (s.nudge seg).state = .queued)
    (hagreed : (s.nudge seg).agreed = true) (hturn : s.calTurn (s.nudgeEntry seg (s.nudge seg)) = true) :
    execRefreshNudge t seg r = .next (s.setNudge seg { s.nudge seg with taken := true }).calTicked := by
  subst hs
  exact congrArg _ (if_pos ⟨hstarts, hagreed, hturn⟩)

/-- R206: a scheduled start that is not agreed when its agreement closes is proposed again, three frames ahead. -/
theorem execNudgeAgreeTimeout_of_closed (hstarts : (s.nudge seg).state = .scheduled) (hopen : (s.nudge seg).agreed = false)
    (hclosed : s.reached { frame := sub32 (s.nudge seg).fn 2, line := 0 } = true) :
    execNudgeAgreeTimeout t seg r =
      .next (s.nudgeStart seg (add32 s.ctime.frame 3) (s.nudge seg) .scheduled) := by
  subst hs
  simp only [execNudgeAgreeTimeout, hstarts, hopen, hclosed, true_or, Bool.not_false, and_self, reduceCtorEq, if_true, if_false]

end

end

/-! ### Objects written (R183, R205) -/

section
variable {s : State} {v : Nat}

/-- R183: a level is taken as the cap, and the effort requested anew. -/
theorem dspEffortCap_of_level (hlevel : v ≤ 2) :
    dspEffortCap v s = (State.requestEffort { s with dsp := { s.dsp with effortCap := v } }, .ok) :=
  if_neg (Nat.not_lt.mpr hlevel)

/-- R205: a nudge of a receiver entry is requested in the present frame, on a device that sends. -/
theorem rakNudge_of_receiver (hentry : v ≤ 4094) (hsends : s.silenced = false) (hreceiver : s.sets.bright.isReceiver v = true) :
    rakNudge v s = (s.nudgeRequest v s.ctime.frame, .ok) := by
  simp only [rakNudge, Nat.not_lt.mpr hentry, hsends, hreceiver, Bool.false_eq_true, Bool.true_eq_false, or_self, if_false]

end

/-- Settles O17: each clause is the lemma of its command; the Cask keeps neither DSP_EFFORT_CAP nor RAK_NUDGE. -/
theorem effortAndNudgeCommandsTakeEffect : Obligations.EffortAndNudgeCommandsTakeEffect := by
  unfold Obligations.EffortAndNudgeCommandsTakeEffect
  refine ⟨?noMove, ?lower, ?cap, ?change, ?effortTimeout, ?nudge, ?start, ?nudgeTimeout⟩
  case noMove =>
    intro t r s hs hmove
    exact execGovernorTick_of_no_move hs hmove
  case lower =>
    intro t new r s hs hmove hlower
    exact execGovernorTick_of_lower hs hmove hlower
  case cap =>
    rintro t who v r s rfl haccepted hlevel
    exact objectCommand_takes haccepted rfl (dspEffortCap_of_level hlevel)
  case change =>
    intro t x rest r s hs hfirst hagreed hturn
    exact execEffortChange_of_turn hs hfirst hagreed hturn rfl rfl
  case effortTimeout =>
    intro t x r s hs hopen
    exact execEffortAgreeTimeout_of_closed hs hopen
  case nudge =>
    rintro t who v r s rfl haccepted hentry hsends hreceiver
    exact objectCommand_takes haccepted rfl (rakNudge_of_receiver hentry hsends hreceiver)
  case start =>
    intro t seg r s hs hstarts hagreed hturn
    exact execRefreshNudge_of_turn hs hstarts hagreed hturn
  case nudgeTimeout =>
    intro t seg r s hs hstarts hopen hclosed
    exact execNudgeAgreeTimeout_of_closed hs hstarts hopen hclosed

end Sys2Proof.Machine
end

section
/-! PROOFS. The assembly, extraction and Taster family, the Taster: the verdict on a commit record and the end of its window
(R229), the mismatch and a lane's known-answer slices (R230), the coverage of a second (R231). -/
set_option Elab.async false
namespace Sys2Proof.Machine

section
variable {t : Nat} {r s : State} (hs : s = r.land t)
include hs

/-! ### A commit record is judged (R229) -/

section
variable {tun : Nat} {c : CommitRec} (hcommit : s.commitOf tun = some c)
include hcommit

section
variable {verdict : Nat} (hunforced : c.lane.any (fun l => s.forced 3 l) = false)
include hunforced

/-- R229, R230: where the lane's own decode fails, its check fails the task, whatever the bytes are. -/
theorem execTasteVerdict_of_fail (hlow : 1 ≤ verdict) (hhigh : verdict ≤ 5) :
    execTasteVerdict t tun verdict r = .next (s.tasteFail tun verdict false) := by
  subst hs
  simp only [execTasteVerdict, hcommit, hunforced, hlow, hhigh, and_self, Bool.false_eq_true, if_true, if_false]

section
variable (hholds : verdict = 0 ∨ verdict ≥ 6)
include hholds

/-- R229: the whole slice is decoded, and one of the lane's checks fails. -/
theorem execTasteVerdict_of_laneFails {check : Nat} (hfails : s.laneFails c c.slice.length = some check) :
    execTasteVerdict t tun verdict r = .next (s.tasteFail tun check false) := by
  have hdecodes : ¬(1 ≤ verdict ∧ verdict ≤ 5) := by omega
  subst hs
  simp only [execTasteVerdict, hcommit, hunforced, hdecodes, hfails, Bool.false_eq_true, if_false]

/-- R229: the whole slice is decoded and every check holds, so every bit counts as tasted. -/
theorem execTasteVerdict_of_passes (hpasses : s.laneFails c c.slice.length = none) :
    execTasteVerdict t tun verdict r = .next ((s.takeCommit tun).decideCommit c c.bits) := by
  have hdecodes : ¬(1 ≤ verdict ∧ verdict ≤ 5) := by omega
  subst hs
  simp only [execTasteVerdict, hcommit, hunforced, hdecodes, hpasses, Bool.false_eq_true, if_false]

end

end

section
variable {decoded : Nat} (hended : c.windowEnd ≤ s.now)
include hended

/-- R229: when the window ends, a check made on the bytes tasted by then fails. -/
theorem execTasteWindowEnd_of_laneFails {check : Nat} (hfails : s.laneFails c (min decoded c.slice.length) = some check) :
    execTasteWindowEnd t tun decoded r = .next (s.tasteFail tun check false) := by
  subst hs
  simp only [execTasteWindowEnd, hcommit, Nat.not_lt.mpr hended, hfails, if_false]

/-- R229: when the window ends and every check made so far holds, only the bits tasted by then count. -/
theorem execTasteWindowEnd_of_passes (hpasses : s.laneFails c (min decoded c.slice.length) = none) :
    execTasteWindowEnd t tun decoded r =
      .next ((s.takeCommit tun).decideCommit c (8 * min decoded c.slice.length)) := by
  subst hs
  simp only [execTasteWindowEnd, hcommit, Nat.not_lt.mpr hended, hpasses, if_false]

end

end

/-! ### The mismatch and the lane's self-test (R230) -/

/-- R230: a check of Table 9-7 that fails while the slice is still written fails the task at once. -/
theorem execTasteMismatch_of_check {tun check : Nat} (hlow : 1 ≤ check) (hhigh : check ≤ 5) :
    execTasteMismatch t tun check r = .next (s.tasteFail tun check false) := by
  have hcheck : ¬(check = 0 ∨ 5 < check) := by omega
  subst hs
  exact congrArg _ (if_neg hcheck)

section
variable {lane : Nat} (hlane : lane < 48) (htests : (s.lane lane).state = 1)
  (hdone : (s.lane lane).testFrom + 250000 ≤ s.now)
include hlane htests hdone

/-- R230: a lane that decoded its known-answer slices right is in service again. -/
theorem execLaneKatDone_of_passed :
    execLaneKatDone t lane true r = .next (s.setLane lane { s.lane lane with state := 0 }) := by
  subst hs
  simp only [execLaneKatDone, Nat.not_le.mpr hlane, htests, Nat.not_lt.mpr hdone, ne_eq, not_true_eq_false, or_self, if_true,
    if_false]

/-- R230: a lane that did not is retired and reported. -/
theorem execLaneKatDone_of_failed :
    execLaneKatDone t lane false r =
      .next ((s.setLane lane { s.lane lane with state := 2 }).report (0x390 + lane) .digestMismatch 0 0) := by
  subst hs
  simp only [execLaneKatDone, Nat.not_le.mpr hlane, htests, Nat.not_lt.mpr hdone, ne_eq, not_true_eq_false, or_self,
    Bool.false_eq_true, if_false]

end

/-! ### The coverage of a second (R231) -/

/-- R231: when its second is over, the coverage is computed from what was tasted in it and the next second is counted anew. -/
theorem execTasteCoverage_of_over {v : Nat} {u : State} (hover : s.asm.secondFrom + giga ≤ s.now)
    (hv : v = coverageOf s.asm.tasted s.asm.untasted)
    (hu : u = State.put { s with asm := { s.asm with tasted := 0, untasted := 0, secondFrom := s.now, coverage := v } }
      Obj.asmCoveragePermille 0 v) :
    execTasteCoverage t r = .next (if (s.asm.coverage = 1000) = (v = 1000) then u else u.brewRec 0x390 0x060 v) := by
  subst hu hv hs
  exact congrArg _ (if_neg (Nat.not_lt.mpr hover))

end

/-- Settles O18: each clause is the lemma of its command; a verdict and a window's end each split on whether a check of the lane
fails, and the known-answer slices on whether they passed. -/
theorem tasterCommandsTakeEffect : Obligations.TasterCommandsTakeEffect := by
  unfold Obligations.TasterCommandsTakeEffect
  refine ⟨?verdict, ?fail, ?windowEnd, ?mismatch, ?knownAnswer, ?coverage⟩
  case verdict =>
    intro t tun verdict c r s hs hcommit hholds hunforced
    split
    next check hfails => exact execTasteVerdict_of_laneFails hs hcommit hunforced hholds hfails
    next hpasses => exact execTasteVerdict_of_passes hs hcommit hunforced hholds hpasses
  case fail =>
    intro t tun verdict c r s hs hcommit hlow hhigh hunforced
    exact execTasteVerdict_of_fail hs hcommit hunforced hlow hhigh
  case windowEnd =>
    intro t tun decoded c r s hs hcommit hended
    split
    next check hfails => exact execTasteWindowEnd_of_laneFails hs hcommit hended hfails
    next hpasses => exact execTasteWindowEnd_of_passes hs hcommit hended hpasses
  case mismatch =>
    intro t tun check r s hs hlow hhigh
    exact execTasteMismatch_of_check hs hlow hhigh
  case knownAnswer =>
    intro t lane passed r s hs hlane htests hdone
    cases passed with
    | true => exact execLaneKatDone_of_passed hs hlane htests hdone
    | false => exact execLaneKatDone_of_failed hs hlane htests hdone
  case coverage =>
    intro t r s hs hover
    exact execTasteCoverage_of_over hs hover rfl rfl

end Sys2Proof.Machine
end

section
/-! PROOFS. The assembly, extraction and Taster family, the assembler: the digest of an accepted commit (R210, R211), the dry
Keg (R225) and the hold of a segment that waits for the partner (R240). -/
set_option Elab.async false
namespace Sys2Proof.Machine

section
variable {t : Nat} {r s : State} (hs : s = r.land t)
include hs

/-! ### The digest (R210, R211) -/

section
variable {a : AccSeg} (hnext : s.asm.accepted.find? (fun a => a.digest.isEmpty) = some a)
include hnext

/-- R211: with templates read without an error, the oldest commit without a digest gets it and the access units are built. -/
theorem execSegmentAssemble_of_intact : execSegmentAssemble t 0 r = .next (s.digestSegment a 0).assemble := by
  subst hs
  simp only [execSegmentAssemble, hnext, if_true]

/-- R211: a template copy that cannot be read is reported for the segment before anything is built. -/
theorem execSegmentAssemble_of_damaged {ecc : Nat} (hdamaged : ecc ≠ 0) :
    execSegmentAssemble t ecc r =
      .next ((s.digestSegment a ecc).report 0x380 .eccUncorr (faultAddr a.frame a.y) 0).assemble := by
  subst hs
  simp only [execSegmentAssemble, hnext, hdamaged, if_false]

end

/-! ### The dry Keg (R225) -/

/-- R225: once 100 ns have passed since the last dry answer, the packets in the outbox ask for their buffers again. -/
theorem execAsmKegRetry_of_due (hdry : s.asm.dry.isSome = true) (hdue : s.asm.dryAt + 100 ≤ s.now) :
    execAsmKegRetry t r = .next (State.drain s.asm.outbox.length s) := by
  subst hs
  exact congrArg _ (if_pos ⟨hdry, hdue⟩)

/-- R225: a packet dry for the limit is dropped with its group, and building goes on behind it. -/
theorem execAsmDryLimit_of_reached {d : Nat} (hdry : s.asm.dry = some d) (hreached : d + s.val Obj.asmDryLimitNs ≤ s.now) :
    execAsmDryLimit t r = .next s.dropRun.build := by
  subst hs
  simp only [execAsmDryLimit, hdry, Option.any_some, hreached, decide_true, if_true]

/-! ### The hold (R240) -/

/-- R240: a segment whose hold is over goes out without the partner's record. -/
theorem execTwinHoldExpiry_of_expired {frame seg y h : Nat} {a : AccSeg}
    (hfound : s.asm.accepted.find? (fun a => a.frame == frame && a.s == seg && a.y == y) = some a)
    (hheld : a.holdUntil = some h) (hexpired : h ≤ s.deviceTime) :
    execTwinHoldExpiry t frame seg y r = .next ((s.releaseSegment frame seg y).count Obj.twnUnverified).assemble := by
  subst hs
  simp only [execTwinHoldExpiry, hfound, hheld, Option.any_some, hexpired, decide_true, if_true]

end

/-- Settles O19: each clause is the lemma of its command; the digest splits on whether the templates were read without an error. -/
theorem assemblerCommandsTakeEffect : Obligations.AssemblerCommandsTakeEffect := by
  unfold Obligations.AssemblerCommandsTakeEffect
  refine ⟨?assemble, ?retry, ?dryLimit, ?hold⟩
  case assemble =>
    intro t ecc a r s hs hnext
    split
    next hintact =>
      subst hintact
      exact execSegmentAssemble_of_intact hs hnext
    next hdamaged => exact execSegmentAssemble_of_damaged hs hnext hdamaged
  case retry =>
    intro t r s hs hdry hdue
    exact execAsmKegRetry_of_due hs hdry hdue
  case dryLimit =>
    intro t d r s hs hdry hreached
    exact execAsmDryLimit_of_reached hs hdry hreached
  case hold =>
    intro t frame seg y a h r s hs hfound hheld hexpired
    exact execTwinHoldExpiry_of_expired hs hfound hheld hexpired

end Sys2Proof.Machine
end

section
/-! PROOFS. The twin operation family, the link: what a frame that passes the receiver's checks does (R238), the heartbeat and
the loss of the link (R237, R243), the partner's presence (R247), the end of the listen in PAIRING (R249) and the digests (R239). -/
set_option Elab.async false
namespace Sys2Proof.Machine

/-- R239: what DIGESTS does with record `i` of its body: it takes the place of the partner's record of the same segment and is
paired with the own one. -/
def TwinMsg.pairRecord (m : TwinMsg) (s : State) (i : Nat) : State :=
  let q := { DigestRec.ofBytes (slice m.body (4 + 28 * i) 28) with emitted := m.state == 3 || m.state == 5 }
  (s.modTwin fun x => { x with theirs := x.theirs.filter (fun y => !y.same q) ++ [q] }).pairRecord q

section
variable {t : Nat} {m : TwinMsg} {u r s : State} (hs : s = r.land t)
include hs

/-- R237, R238: an accepted frame whose body has its stated length has the effect of its type, on the state that accepting it left. -/
theorem twinFrame_of_accepted {ty : Nat} {stated : Bool} {eff : State → State} (haccepted : s.twinAccept ty m = some u)
    (hstated : stated = true) : twinFrame t ty m stated eff r = .next (eff u) := by
  subst hs
  simp only [twinFrame, haccepted, hstated, if_true]

/-! ### The heartbeat and the link (R237, R243) -/

/-- R237: from PAIRING on, an interval after the last HEARTBEAT the next one is sent. -/
theorem execHeartbeatTx_of_due (hactive : s.twn.state ≠ .off) (hdue : s.twn.lastHeartbeat + 10000 ≤ s.now) :
    execHeartbeatTx t r = .next ((s.modTwin fun x => { x with lastHeartbeat := s.now }).twinSend 1 s.heartBody) := by
  subst hs
  exact congrArg _ (if_pos ⟨hactive, hdue⟩)

/-- R237, R243: whether a HEARTBEAT goes on with a run is judged by the last valid frame before it; then the pair conditions are
checked. -/
theorem execHeartbeat_of_accepted (haccepted : s.twinAccept 1 m = some u) (hlength : m.body.length = 40) :
    execHeartbeat t m r = .next ((u.heartBeat m.heart s.twn.lastValid).pairCheck m.heart) := by
  have hlast : r.twn.lastValid = s.twn.lastValid := by rw [hs, State.land_twn]
  rw [← hlast]
  exact twinFrame_of_accepted hs haccepted (beq_iff_eq.mpr hlength)

/-- R237, R251: five intervals without a valid frame are reported and lose the link. -/
theorem execTwinLinkDown_of_unheard (hup : s.twn.linkUp = true) (hunheard : s.twn.lastValid + 50000 ≤ s.now) :
    execTwinLinkDown t r = .next (s.report 0x3C0 .timeout 0 0).linkLost := by
  subst hs
  exact congrArg _ (if_pos ⟨hup, hunheard⟩)

/-! ### The end of the listen in PAIRING (R249) -/

section
variable {a : Nat} (hpairing : s.twn.state = .pairing) (hlistens : s.twn.listenUntil = some a) (hended : a ≤ s.now)
include hpairing hlistens hended

/-- R249: a partner that is PAIRED or SOLO already is joined by its SYNC. -/
theorem execPairingListenEnd_of_partner {h : Heart} (hheard : s.twn.heart = some h) (hup : s.twn.linkUp = true)
    (hactive : h.state = 3 ∨ h.state = 5) :
    execPairingListenEnd t r = .next (((s.modTwin fun x => { x with listenUntil := none }).modTwin fun x =>
      { x with state := .joining }).syncRequest) := by
  have hpast : h.state ≠ 1 := by omega
  subst hs
  simp only [execPairingListenEnd, State.modTwin, hpairing, hlistens, hended, hheard, hup, hpast, hactive, Option.any_some,
    decide_true, and_self, and_false, if_true, if_false]

/-- R249: a device that heard no HEARTBEAT found no partner. -/
theorem execPairingListenEnd_of_unheard (hunheard : s.twn.heart = none) :
    execPairingListenEnd t r = .next (s.modTwin fun x => { x with listenUntil := none }).standAlone := by
  subst hs
  simp only [execPairingListenEnd, State.modTwin, hpairing, hlistens, hended, hunheard, Option.any_some, decide_true, and_self,
    if_true]

end

/-! ### Digests (R239) -/

/-- R239: DIGESTS with a legal count and a body of that length pairs its records in their order. -/
theorem execDigests_of_accepted {n : Nat} (haccepted : s.twinAccept 2 m = some u) (hcount : n = fieldBE m.body 0 2) (hsome : 1 ≤ n)
    (hmost : n ≤ 48) (hlength : m.body.length = 4 + 28 * n) (hexchanges : u.exchanges = true) :
    execDigests t m r = .next (((List.range n).foldl m.pairRecord u).assemble) := by
  subst hcount
  have hstated : (decide (1 ≤ fieldBE m.body 0 2) && decide (fieldBE m.body 0 2 ≤ 48)
      && m.body.length == 4 + 28 * fieldBE m.body 0 2) = true := by
    simp only [hsome, hmost, hlength, decide_true, beq_self_eq_true, Bool.and_self]
  refine (twinFrame_of_accepted hs haccepted hstated).trans (congrArg _ (if_neg ?_))
  rw [hexchanges]
  decide

/-- R239: at the close of a frame its records leave both lists, and own ones without a partner's break the run. -/
theorem execDigestMissing_of_closed {frame : Nat} {lost : List DigestRec}
    (hclosed : s.reached { frame := add32 frame 2, line := 0 } = true) (hlost : lost = s.twn.own.filter fun q => q.frame == frame)
    (hu : u = s.modTwin fun x => { x with
      own := x.own.filter (fun q => q.frame != frame), theirs := x.theirs.filter fun q => q.frame != frame }) :
    execDigestMissing t frame r =
      .next (if lost.isEmpty then u else (u.count Obj.twnMissing 0 lost.length).runBroken frame) := by
  subst hu hlost hs
  exact congrArg _ (if_pos hclosed)

end

/-- Settles O20: each clause is the lemma of its command; a change of TWIN_OK_IN has no condition to decide. -/
theorem twinLinkCommandsTakeEffect : Obligations.TwinLinkCommandsTakeEffect := by
  unfold Obligations.TwinLinkCommandsTakeEffect
  refine ⟨?heartbeatTx, ?heartbeat, ?linkDown, ?okIn, ?join, ?alone, ?digests, ?missing⟩
  case heartbeatTx =>
    intro t r s hs hactive hdue
    exact execHeartbeatTx_of_due hs hactive hdue
  case heartbeat =>
    intro t m u r s hs haccepted hlength
    exact execHeartbeat_of_accepted hs haccepted hlength
  case linkDown =>
    intro t r s hs hup hunheard
    exact execTwinLinkDown_of_unheard hs hup hunheard
  case okIn =>
    rintro t high r s rfl
    rfl
  case join =>
    intro t a h r s hs hpairing hlistens hended hheard hup hactive
    exact execPairingListenEnd_of_partner hs hpairing hlistens hended hheard hup hactive
  case alone =>
    intro t a r s hs hpairing hlistens hended hunheard
    exact execPairingListenEnd_of_unheard hs hpairing hlistens hended hunheard
  case digests =>
    intro t m u r s hs haccepted hsome hmost hlength hexchanges
    exact execDigests_of_accepted hs haccepted rfl hsome hmost hlength hexchanges
  case missing =>
    intro t frame r s hs hclosed
    exact execDigestMissing_of_closed hs hclosed rfl rfl

end Sys2Proof.Machine
end

section
/-! PROOFS. The twin operation family, agreement: proposals and answers (R246), silence (R244) and rejoining (R245). -/
set_option Elab.async false
namespace Sys2Proof.Machine

/-! ### An FR that is due (R245) -/

/-- R245: an FR that is set and whose ⟨FR:0⟩ is reached is due. -/
theorem State.any_reached_of_some (s : State) {o : Option Nat} {f : Nat} (hset : o = some f)
    (hreached : s.reached { frame := f, line := 0 } = true) :
    (o.any fun fr => s.reached { frame := fr, line := 0 }) = true := by
  rw [hset, Option.any_some, hreached]

/-- R245: no FR that is not set is due. -/
theorem State.not_any_reached_of_none (s : State) {o : Option Nat} (hunset : o = none) :
    ¬(o.any fun fr => s.reached { frame := fr, line := 0 }) = true := by
  rw [hunset, Option.any_none]
  exact Bool.false_ne_true

section
variable {t : Nat} {m : TwinMsg} {u r s : State} (hs : s = r.land t)
include hs

/-! ### Frames of agreement (R244 to R246) -/

/-- R246: a PROPOSE of its stated length is considered, or answered again. -/
theorem execPropose_of_accepted (haccepted : s.twinAccept 3 m = some u) (hlength : m.body.length = 72) :
    execPropose t m r = .next (u.proposed m.proposal) :=
  twinFrame_of_accepted hs haccepted (beq_iff_eq.mpr hlength)

/-- R246: an ANSWER of its stated length is applied to the proposal it names. -/
theorem execAnswer_of_accepted (haccepted : s.twinAccept 4 m = some u) (hlength : m.body.length = 16) :
    execAnswer t m r = .next (u.answered m.answer) :=
  twinFrame_of_accepted hs haccepted (beq_iff_eq.mpr hlength)

/-- R244: from a SILENCE on the partner counts as SILENCED. -/
theorem execSilence_of_accepted (haccepted : s.twinAccept 5 m = some u) (hlength : m.body.length = 12) :
    execSilence t m r =
      .next (u.modTwin fun x => { x with heart := x.heart.map fun (h : Heart) => { h with state := 4 } }) :=
  twinFrame_of_accepted hs haccepted (beq_iff_eq.mpr hlength)

/-- R245: a REJOIN names the frame from which the partner transmits again. -/
theorem execRejoin_of_accepted (haccepted : s.twinAccept 6 m = some u) (hlength : m.body.length = 8) :
    execRejoin t m r = .next (u.modTwin fun x => { x with partnerRejoin := some (fieldBE m.body 0 4) }) :=
  twinFrame_of_accepted hs haccepted (beq_iff_eq.mpr hlength)

/-! ### Rejoining (R245) -/

/-- R245: a silenced device that meets every condition announces the frame two ahead as its FR. -/
theorem execTwinRejoin_of_mayRejoin (hmay : s.mayRejoin = true) :
    execTwinRejoin t r = .next ((s.modTwin fun x => { x with rejoin := some (add32 s.ctime.frame 2) }).twinSend 6
      (bytesBE 4 (add32 s.ctime.frame 2) ++ bytesBE 4 s.twn.matchRun)) := by
  subst hs
  exact congrArg _ (if_pos hmay)

section
variable {f : Nat} (hreached : s.reached { frame := f, line := 0 } = true)
include hreached

/-- R245: at its own FR, with none of the partner's open, a silenced device resumes. -/
theorem execRejoinLine_of_own (hown : s.twn.rejoin = some f) (hsilenced : s.twn.state = .silenced)
    (hpartner : s.twn.partnerRejoin = none) : execRejoinLine t r = .next (s.resume f) := by
  have hdue := s.any_reached_of_some hown hreached
  have hclear := s.not_any_reached_of_none hpartner
  have hframe : s.resume (s.twn.rejoin.getD 0) = s.resume f := by rw [hown, Option.getD_some]
  subst hs
  exact congrArg _ ((if_neg hclear).trans ((if_pos ⟨hdue, hsilenced⟩).trans hframe))

/-- R245: at the partner's FR, with none of its own open, a device in SOLO is one of a pair again. -/
theorem execRejoinLine_of_partner (hpartner : s.twn.partnerRejoin = some f) (hsolo : s.twn.state = .solo)
    (hown : s.twn.rejoin = none) :
    execRejoinLine t r = .next (s.modTwin fun x => { x with state := .paired, partnerRejoin := none }) := by
  have hdue := s.any_reached_of_some hpartner hreached
  have hclear := s.not_any_reached_of_none hown
  have hstate : (if s.twn.state = .solo then .paired else s.twn.state) = TwinState.paired := if_pos hsolo
  subst hs
  refine congrArg _ ((if_pos hdue).trans ?_)
  rw [if_neg fun h => hclear h.1]
  exact congrArg (fun x => (r.land t).modTwin fun y => { y with state := x, partnerRejoin := none }) hstate

end

end

/-- R244: TWN_SILENCE written with 1 silences a device in PAIRED, with cause MANUAL. -/
theorem silenceSet_of_paired {s : State} (hpaired : s.twn.state = .paired) :
    silenceSet s = (s.silence 6 0 s.ctime.frame 0 0, .ok) :=
  if_pos hpaired

/-- Settles O21: each clause is the lemma of its command, and a frame's is the rule of accepted frames; what PROPOSE_REPEAT sends
and what TWN_SILENCE written with 0 removes have no condition to decide. The Cask does not keep TWN_SILENCE. -/
theorem twinAgreementCommandsTakeEffect : Obligations.TwinAgreementCommandsTakeEffect := by
  unfold Obligations.TwinAgreementCommandsTakeEffect
  refine ⟨?propose, ?repeated, ?answer, ?silence, ?twinRejoin, ?rejoin, ?ownLine, ?partnerLine, ?set, ?clear⟩
  case propose =>
    intro t m u r s hs haccepted hlength
    exact execPropose_of_accepted hs haccepted hlength
  case repeated =>
    rintro t r s rfl
    rfl
  case answer =>
    intro t m u r s hs haccepted hlength
    exact execAnswer_of_accepted hs haccepted hlength
  case silence =>
    intro t m u r s hs haccepted hlength
    exact execSilence_of_accepted hs haccepted hlength
  case twinRejoin =>
    intro t r s hs hmay
    exact execTwinRejoin_of_mayRejoin hs hmay
  case rejoin =>
    intro t m u r s hs haccepted hlength
    exact execRejoin_of_accepted hs haccepted hlength
  case ownLine =>
    intro t f r s hs hown hreached hsilenced hpartner
    exact execRejoinLine_of_own hs hreached hown hsilenced hpartner
  case partnerLine =>
    intro t f r s hs hpartner hreached hsolo hown
    exact execRejoinLine_of_partner hs hreached hpartner hsolo hown
  case set =>
    rintro t who r s rfl haccepted hpaired
    exact objectCommand_takes haccepted rfl (silenceSet_of_paired hpaired)
  case clear =>
    rintro t who r s rfl haccepted
    exact objectCommand_takes haccepted rfl rfl

end Sys2Proof.Machine
end

section
/-! PROOFS. The twin operation family, SYNC (R249): the request, its repetition and its answer, the first fragment, and what a
whole SYNC makes of the device at FJ. -/
set_option Elab.async false
namespace Sys2Proof.Machine

section
variable {t : Nat} {m : TwinMsg} {u r s : State} (hs : s = r.land t)
include hs

/-! ### The request (R249) -/

/-- R249: a device in PAIRED or SOLO answers with its state at the frame four ahead, and each ES in it is a free value. -/
theorem execSyncReq_of_active {es : List SyncEntry} {sent : State} (haccepted : s.twinAccept 7 m = some u)
    (hactive : u.twn.state = .paired ∨ u.twn.state = .solo) (hes : es = u.syncRecords (add32 u.ctime.frame 4))
    (hsent : sent = State.syncSend (u.syncState (add32 u.ctime.frame 4)) (es.length + 1) 0 es u) :
    execSyncReq t m r = .next { sent with draws := sent.draws + es.length + 1 } := by
  subst hsent hes
  exact (twinFrame_of_accepted hs haccepted rfl).trans (congrArg _ (if_pos hactive))

/-- R249: a second after a request that has brought no whole SYNC, it is repeated. -/
theorem execSyncReqRetry_of_due {a : Nat} (hwants : s.wantsSync = true) (hpartial : s.twn.syncComplete = false)
    (hasked : s.twn.syncReqAt = some a) (hdue : a + giga ≤ s.now) : execSyncReqRetry t r = .next s.syncRequest := by
  have hincomplete : (!s.twn.syncComplete) = true := by rw [hpartial, Bool.not_false]
  have hover : (s.twn.syncReqAt.any fun a => decide (a + giga ≤ s.now)) = true := by
    rw [hasked, Option.any_some]
    exact decide_eq_true hdue
  subst hs
  exact congrArg _ (if_pos ⟨hwants, hincomplete, hover⟩)

/-! ### The fragments (R249) -/

/-- R249: the first fragment is the 44-byte state and entries; with LAST it makes the whole SYNC. -/
theorem execSync_of_first {v : State} (haccepted : s.twinAccept 8 m = some u) (hfirst : fieldBE m.body 4 2 = 0)
    (hstate : 52 ≤ m.body.length) (hentries : (m.body.length - 52) % 16 = 0) (hwants : u.wantsSync = true)
    (hpartial : u.twn.syncComplete = false) (hnext : u.twn.syncNext = 0)
    (hv : v = u.modTwin fun x =>
      { x with sync := some (syncStateOf m.body), syncNext := 1, syncEntries := syncEntriesOf m.body 52 }) :
    execSync t m r = .next (if fieldBE m.body 6 1 = 0 then v else v.syncWhole) := by
  have hstated : (decide ((if fieldBE m.body 4 2 = 0 then 52 else 8) ≤ m.body.length)
      && (m.body.length - if fieldBE m.body 4 2 = 0 then 52 else 8) % 16 == 0) = true := by
    simp only [hfirst, hstate, hentries, decide_true, beq_self_eq_true, Bool.and_self, if_true]
  refine (twinFrame_of_accepted hs haccepted hstated).trans ?_
  simp only [hv, hfirst, hwants, hpartial, hnext, Bool.true_eq_false, Bool.false_eq_true, ne_eq, not_true_eq_false, or_self,
    false_and, Nat.zero_add, List.nil_append, if_true, if_false]

/-! ### At FJ (R249) -/

/-- R249: at FJ a device that racks nothing else takes the SYNC's raster, swaps its sets alone, takes the coding state, and is
silenced with cause JOIN. -/
theorem execSyncApply_of_reached {y : SyncState} {joined : State} (hsync : s.twn.sync = some y)
    (hwhole : s.twn.syncComplete = true) (hwants : s.wantsSync = true) (hreached : s.syncStart y ≤ s.deviceTime)
    (hidle : s.sets.rack.state = .idle)
    (hjoined : joined = ((State.swapSets { s with
        sets := { s.sets with bootRackDue := false }, tbs := { s.tbs with raster := s.syncRaster y, gap := none } } y.fj
        false).syncCoding y s.twn.syncEntries s.rake.nudges).restartPacers) :
    execSyncApply t r = .next (State.silence (joined.modTwin fun x =>
      { x with synced := true, matchRun := 0, sync := none, syncEntries := [], syncComplete := false, syncNext := 0 }) 4 0 y.fj 0 0) := by
  have hready : ¬((!s.twn.syncComplete) = true ∨ (!s.wantsSync) = true ∨ s.deviceTime < s.syncStart y) := by
    simp only [hwhole, hwants, Bool.not_true, Bool.false_eq_true, Nat.not_lt.mpr hreached, or_self, not_false_eq_true]
  subst hjoined hs
  simp only [execSyncApply, hsync]
  exact congrArg _ ((if_neg hready).trans (if_neg (not_not_intro hidle)))

end

/-- Settles O22: each clause is the lemma of its command. -/
theorem twinSyncCommandsTakeEffect : Obligations.TwinSyncCommandsTakeEffect := by
  unfold Obligations.TwinSyncCommandsTakeEffect
  refine ⟨?request, ?fragment, ?retry, ?apply⟩
  case request =>
    intro t m u r s hs haccepted hactive
    exact execSyncReq_of_active hs haccepted hactive rfl rfl
  case fragment =>
    intro t m u r s hs haccepted hfirst hstate hentries hwants hpartial hnext
    exact execSync_of_first hs haccepted hfirst hstate hentries hwants hpartial hnext rfl
  case retry =>
    intro t a r s hs hwants hpartial hasked hdue
    exact execSyncReqRetry_of_due hs hwants hpartial hasked hdue
  case apply =>
    intro t y r s hs hsync hwhole hwants hreached hidle
    exact execSyncApply_of_reached hs hsync hwhole hwants hreached hidle rfl

end Sys2Proof.Machine
end

section
/-! PROOFS. The contribution decode family (R256, R261, R265 to R271, R168): the first packet of a stream, the end of the wait for a
missing one, the assignment of a work item, and the completion of a picture that lost nothing. -/
set_option Elab.async false
namespace Sys2Proof.Machine

/-! ### The first number of a sequence (R91, R256) -/

/-- R91: without a number before it, every number is accepted and opens the window. -/
@[simp] theorem mergeSeq_none (window : Nat) (ahead : Nat → Nat → Nat) (accepted : List Nat) (n : Nat) :
    mergeSeq window ahead none accepted n = (.accept, some n, [n]) := rfl

/-- The first extended number leaves a whole turn below it for packets that come late. -/
@[simp] theorem extendSeq_none (seq : Nat) : extendSeq none seq = 65536 + seq := rfl

/-! ### What a completed picture and its stream are -/

/-- R267, R269: the picture of access unit `a` with its samples, its motion and its dirty map, where it conceals nothing. -/
def DecStream.pictureOf (x : DecStream) (a : DecAu) : DecPic :=
  let input := x.inputOf a
  let motion := a.motionOf input
  let plane := a.plane input (x.source a) motion
  { a.pic with
    cells := a.map x input x.concealed, planes := { y := plane 0, cb := plane 1, cr := plane 2 }, motion := motion }

/-- R259, R261, R268, R270: the stream once `pic` has taken the place of its access unit. The DPB + 2 pictures released last stay
(log entry 21) with those still referenced; what was concealed stays for the recovery points to come; and a picture with an empty
map is the last good one. -/
def DecStream.release (x : DecStream) (pic : DecPic) (dpb : Nat) : DecStream :=
  let aus := x.aus.filter fun b => b.pic.number != pic.number
  let y := { x with aus := aus, pics := x.pics ++ [pic] }
  let awaits := (x.recovery.map (·.1)).toList ++ aus.filterMap (·.recovers)
  { y with
    pics := y.keep (dpb + 2), concealed := x.concealed.filter fun q => awaits.any fun g => decide (g ≤ q.1),
    lastOut := some pic, lastGood := if pic.cells.isEmpty then some pic else x.lastGood }

section
variable {t : Nat} {r s : State} (hs : s = r.land t)
include hs

section
variable {stream : Nat}

/-! ### Reception (R256) -/

/-- R256: outside SAFE the first packet of an enabled stream that names no payload type opens its sequence. -/
theorem execDecodePacketRx_of_first {seq pt ts : Nat} {marker : Bool} {payload : Bytes} {x : DecStream}
    (henabled : (s.decStream stream).state ≠ 0) (hany : bits (s.sets.bright.dec0 stream) 52 46 = 0)
    (hsafe : s.cellar.safe = false) (htop : (s.decStream stream).top = none) (hnext : (s.decStream stream).next = none)
    (hx : x = { s.decStream stream with
      top := some (65536 + seq), accepted := [65536 + seq], next := some (65536 + seq),
      waiting := (s.decStream stream).waiting ++
        [{ ext := 65536 + seq, at_ := s.deviceTime, marker := marker, ts := ts, payload := payload }] }) :
    execDecodePacketRx t stream false seq pt ts marker payload r =
      .next (State.releaseRun stream x.waiting.length ((s.setDec stream x).count Obj.finPkts stream)) := by
  have hheard : ¬(s.cellar.safe = true ∨ (s.decStream stream).state = 0 ∨
      (false = true ∧ (!bit (s.sets.bright.dec0 stream) 30) = true)) := by
    simp only [hsafe, henabled, Bool.false_eq_true, false_and, or_self, not_false_eq_true]
  subst hx hs
  refine (if_neg hheard).trans ((if_neg fun h => h.1 hany).trans ?_)
  simp only [htop, hnext, extendSeq_none, mergeSeq_none, Option.any_none, Option.getD_none, Bool.false_eq_true, reduceCtorEq,
    if_false]

/-- R256: FIN_REORDER_US after the first packet that waits, what is missing below the least of them is given up as lost. -/
theorem execReorderTimeout_of_due {first : DecWait} {rest : List DecWait} {least : Nat} {u : State}
    (hwaiting : (s.decStream stream).waiting = first :: rest)
    (hdue : first.at_ + 1000 * s.val Obj.finReorderUs ≤ s.deviceTime)
    (hleast : least = (s.decStream stream).waiting.foldl (fun m p => min m p.ext) first.ext)
    (hu : u = (s.count Obj.finPktsLost stream (least - (s.decStream stream).next.getD least)).dropFragment stream false true) :
    execReorderTimeout t stream r = .next (State.releaseRun stream (s.decStream stream).waiting.length
      (u.setDec stream { u.decStream stream with next := some least })) := by
  subst hu hleast hs
  simp only [execReorderTimeout, hwaiting, if_neg (Nat.not_lt.mpr hdue)]

/-! ### Completion (R261, R265 to R271) -/

/-- R261, R265 to R271: a whole picture that lost nothing is released without a fault, and no CTU counts as concealed. -/
theorem execCompletionItem_of_undamaged {a : DecAu} {pic : DecPic} {u : State}
    (hwhole : (s.decStream stream).aus.find? (s.decStream stream).whole = some a)
    (hlost : ((s.decStream stream).inputOf a).lost = []) (hsyntax : a.syntaxLost = []) (hunits : a.badUnits = 0)
    (hmissing : a.missing = []) (hpic : pic = (s.decStream stream).pictureOf a)
    (hu : u = ((s.setDec stream ((s.decStream stream).release pic (bits (s.sets.bright.dec0 stream) 44 40))).count
      Obj.finPicsOut stream).count Obj.finCtusConcealed stream 0) :
    execCompletionItem t stream r = .next (if pic.cells.isEmpty then u.put Obj.finLastGoodTs stream a.pic.ts else u) := by
  subst hu hpic hs
  simp only [execCompletionItem, hwhole, hlost, hsyntax, hunits, hmissing, List.isEmpty_nil, List.length_nil, and_self, if_true]
  rfl

end

/-! ### Assignment (R168, R261) -/

/-- R168, R261: within the decode tickets, the first ready item goes to the Tun that is READY, which reads its coded slice. -/
theorem execDecodeItemAssign_of_ready {need d pic item u : Nat} {k : Task}
    (hready : firstItem s.readyItems = some (need, d, pic, item)) (htun : s.readyTun = some u)
    (hroom : s.decodeTickets < s.nd) (hsafe : s.cellar.safe = false) (hk : k = s.decodeTask d pic item) :
    execDecodeItemAssign t r = .next (
      ((State.startTask { s with dsp := { s.dsp with nextTicket := k.ticket + 1 } } u k).readItem u d pic item).modItem d pic item
        fun i => { i with tun := some u, progress := 0 }) := by
  have hfree : s.decodeTickets < s.nd ∧ (!s.cellar.safe) = true := ⟨hroom, by rw [hsafe, Bool.not_false]⟩
  subst hk hs
  simp only [execDecodeItemAssign, hready, htun, if_pos hfree]

end

/-- Settles O23: each clause is the lemma of its command. -/
theorem decodeStreamCommandsTakeEffect : Obligations.DecodeStreamCommandsTakeEffect := by
  unfold Obligations.DecodeStreamCommandsTakeEffect
  refine ⟨?packet, ?timeout, ?assign, ?completion⟩
  case packet =>
    intro t stream seq pt ts marker payload r s hs henabled hany hsafe htop hnext
    exact execDecodePacketRx_of_first hs henabled hany hsafe htop hnext rfl
  case timeout =>
    intro t stream first rest r s hs hwaiting hdue
    exact execReorderTimeout_of_due hs hwaiting hdue rfl rfl
  case assign =>
    intro t need d pic item u r s hs hready htun hroom hsafe
    exact execDecodeItemAssign_of_ready hs hready htun hroom hsafe rfl
  case completion =>
    intro t stream a r s hs hwhole hlost hsyntax hunits hmissing
    exact execCompletionItem_of_undamaged hs hwhole hlost hsyntax hunits hmissing rfl rfl

end Sys2Proof.Machine
end

section
/-! PROOFS. The link fabric family, ports. A port's events from AN to DOWN (Table 12-4, R281, R282), and the write of a port word
(R278). Every event but a fault goes through the rule of `portEvent`. -/
set_option Elab.async false
namespace Sys2Proof.Machine

section
variable {t port : Nat} {r s : State} (hs : s = r.land t) (hport : port < 96)
include hs hport

/-- Table 12-4: an event that meets its port in its own state has its effect. -/
theorem portEvent_of_state {st : PortState} {f : State → State} (hstate : (s.port port).state = st) :
    portEvent t port st f r = .next (f s) := by
  subst hs
  exact congrArg _ (if_pos ⟨hport, hstate⟩)

/-- R281: the exchange leads to TRAINING where the partner has the ability of the port's mode. -/
theorem execAnComplete_of_an {partner : Option Nat} (hstate : (s.port port).state = .an) :
    execAnComplete t port partner r = .next (
      if partner.any fun a => bit a (s.portMode port) then
        s.setPort port { s.port port with state := .training, since := s.now }
      else s.portDown port 4 port) :=
  portEvent_of_state hs hport hstate

section
variable (hstate : (s.port port).state = .training)
include hstate

/-- R279, R281: training that no lane failed sets the taps and leads to ALIGN. -/
theorem execTrainingDone_of_trained : execTrainingDone t port none r = .next (
    (s.laneTrain port).setPort port { (s.laneTrain port).port port with state := .align, since := s.now }) :=
  portEvent_of_state hs hport hstate

/-- R281: training that a lane failed takes the port DOWN. -/
theorem execTrainingDone_of_failed {lane : Nat} :
    execTrainingDone t port (some lane) r = .next (s.portDown port 5 lane) :=
  portEvent_of_state hs hport hstate

end

section
variable (hstate : (s.port port).state = .align)
include hstate

/-- Table 12-4: a port whose lanes align holds. -/
theorem execAlignLock_of_align : execAlignLock t port r = .next (
    s.setPort port { s.port port with state := .hold, since := s.now }) :=
  portEvent_of_state hs hport hstate

/-- Table 12-4, R447: after 500 ms in ALIGN, only a missing SREFP clock keeps the port there. -/
theorem execAlignTimeout_of_due {why : AlignFailure} (hdue : (s.port port).since + 500000000 ≤ s.now) :
    execAlignTimeout t port why r = .next (
      if why.noClock then s else s.portDown port (if why.deskewOnly then 3 else 2) why.lane) := by
  refine (portEvent_of_state hs hport hstate).trans ?_
  simp only [Nat.not_lt.mpr hdue, false_or]

end

/-- Table 12-4: LNK_UP_HOLD_MS in HOLD without a fault. -/
theorem execHoldExpiry_of_due (hstate : (s.port port).state = .hold)
    (hdue : (s.port port).since + 1000000 * s.val Obj.lnkUpHoldMs ≤ s.now) :
    execHoldExpiry t port r = .next (s.portUpNow port) :=
  (portEvent_of_state hs hport hstate).trans (congrArg _ (if_neg (Nat.not_lt.mpr hdue)))

/-- R282, Table 12-5: a port-down cause is felt in UP and in HOLD. -/
theorem execPortFault_of_up_or_hold {cause lane : Nat}
    (hstate : (s.port port).state = .up ∨ (s.port port).state = .hold) :
    execPortFault t port cause lane r = .next (s.portDown port cause lane) := by
  subst hs
  exact congrArg _ (if_pos ⟨hport, hstate⟩)

/-- Table 12-4, R282: after LNK_RETRY_MS a port that no force holds down is tried again. -/
theorem execPortRetry_of_due (hstate : (s.port port).state = .down) (hfree : (s.port port).heldDown = false)
    (hdue : (s.port port).since + 1000000 * s.val Obj.lnkRetryMs ≤ s.now) :
    execPortRetry t port r =
      .next ((s.brewRec (0x100 + port) 0x081 ((s.port port).cause * 256 + port)).portStart port) := by
  refine (portEvent_of_state hs hport hstate).trans (congrArg _ (if_neg ?_))
  rw [hfree, Bool.false_eq_true, false_or]
  exact Nat.not_lt.mpr hdue

end

/-! ### The write of a port word (R278) -/

/-- R277, Table 12-12: every word of the port table is kept in the Cask. -/
theorem lnkPortWord_kept (word : Nat) : (lnkPortWord word).kept = true := by
  unfold lnkPortWord
  split <;> rfl

/-- R278: a port word in range that breaks no rule is in force at once, and the port follows it. -/
theorem lnkPort_of_accepted {row word v : Nat} {s u : State} (hu : u = s.put (lnkPortWord word) row v)
    (hrange : u.portRange row = true) (hrules : u.portForbidden row = false) :
    lnkPort row word v s = (u.portWritten row word (s.val (lnkPortWord word) row) v (u.portAddrs row != s.portAddrs row), .ok) := by
  subst hu
  simp only [lnkPort, hrange, hrules, Bool.true_eq_false, Bool.false_eq_true, if_false]

/-- Settles O24: each event is the lemma of its command, and training splits on whether a lane failed; the Cask keeps every port
word. -/
theorem portCommandsTakeEffect : Obligations.PortCommandsTakeEffect := by
  unfold Obligations.PortCommandsTakeEffect
  refine ⟨?write, ?an, ?training, ?lock, ?timeout, ?hold, ?fault, ?retry⟩
  case write =>
    rintro t who row word v r s rfl haccepted hrange hrules
    exact objectCommand_keeps haccepted (lnkPortWord_kept word) (lnkPort_of_accepted rfl hrange hrules)
  case an =>
    intro t port partner r s hs hport hstate
    exact execAnComplete_of_an hs hport hstate
  case training =>
    intro t port failed r s hs hport hstate
    cases failed with
    | none => exact execTrainingDone_of_trained hs hport hstate
    | some lane => exact execTrainingDone_of_failed hs hport hstate
  case lock =>
    intro t port r s hs hport hstate
    exact execAlignLock_of_align hs hport hstate
  case timeout =>
    intro t port why r s hs hport hstate hdue
    exact execAlignTimeout_of_due hs hport hstate hdue
  case hold =>
    intro t port r s hs hport hstate hdue
    exact execHoldExpiry_of_due hs hport hstate hdue
  case fault =>
    intro t port cause lane r s hs hport hstate
    exact execPortFault_of_up_or_hold hs hport hstate
  case retry =>
    intro t port r s hs hport hstate hfree hdue
    exact execPortRetry_of_due hs hport hstate hfree hdue

end Sys2Proof.Machine
end

section
/-! PROOFS. The link fabric family, lanes. A window of FEC counts (R283, R383), and the lane tests (R280). -/
set_option Elab.async false
namespace Sys2Proof.Machine

/-- R283: a window of 1 s of an UP port with FEC counts its codewords and is judged by them. -/
theorem execFecWindow_of_due {t port corrected received uncorrectable : Nat} {r s u : State} (hs : s = r.land t)
    (hport : port < 96) (hup : (s.port port).state = .up) (hfec : bits (s.portWord port 0) 5 4 ≠ 0)
    (hdue : (s.port port).fecAt + giga ≤ s.now)
    (hu : u = ((s.setPort port { s.port port with fecAt := s.now }).count Obj.lnkPortFecCorr port corrected).count
      Obj.lnkPortFecUncorr port uncorrectable) :
    execFecWindow t port corrected received uncorrectable r = .next (
      let u := if 0 < received ∧ received ≤ corrected * 10 ^ u.val Obj.lnkFecDegrade then
        u.report (0x100 + port) .eccCorr 0 0 else u
      if uncorrectable = 0 then u else u.report (0x100 + port) .eccUncorr 0 (min uncorrectable 65535)) := by
  have hcounts : ¬(96 ≤ port ∨ (s.port port).state ≠ .up ∨ bits (s.portWord port 0) 5 4 = 0 ∨
      s.now < (s.port port).fecAt + giga) := by
    simp only [hup, hfec, Nat.not_le.mpr hport, Nat.not_lt.mpr hdue, ne_eq, not_true_eq_false, or_self, not_false_eq_true]
  subst hu hs
  exact congrArg _ (if_neg hcounts)

section
variable {lane errors : Nat} {s : State} (hfree : s.portOfLane lane = none)
include hfree

/-- R280: on a lane of no enabled port, a pattern that runs stops, and its errors (log entry 92) are counted. -/
theorem prbs_stop_of_running (hrunning : Table.get 0 s.links.prbs lane ≠ 0) :
    prbs lane 0 errors s = (State.count
      { s with links := { s.links with
        prbs := Table.set 0 s.links.prbs lane 0, prbsFrom := Table.set 0 s.links.prbsFrom lane s.now } }
      Obj.lnkLanePrbsErr lane errors, .ok) := by
  simp only [prbs, hfree, hrunning, Option.isSome_none, Bool.false_eq_true, ne_eq, not_true_eq_false, false_and, if_true, if_false]

/-- R280: on a lane of no enabled port, outside SAFE (log entry 92), a pattern starts with no errors. -/
theorem prbs_start_of_not_safe {v : Nat} (hv : v ≠ 0) (hsafe : s.cellar.safe = false) :
    prbs lane v errors s = (State.put
      { s with links := { s.links with
        prbs := Table.set 0 s.links.prbs lane v, prbsFrom := Table.set 0 s.links.prbsFrom lane s.now } }
      Obj.lnkLanePrbsErr lane 0, .ok) := by
  simp only [prbs, hfree, hv, hsafe, Option.isSome_none, Bool.false_eq_true, and_false, if_false]

end

/-- Settles O25: the window is the lemma of its command; both ways to start a pattern are one lemma, and the Cask keeps no lane
test. -/
theorem laneCommandsTakeEffect : Obligations.LaneCommandsTakeEffect := by
  unfold Obligations.LaneCommandsTakeEffect
  refine ⟨?window, ?stop, ?start, ?loopback⟩
  case window =>
    intro t port corrected received uncorrectable r s hs hport hup hfec hdue
    exact execFecWindow_of_due hs hport hup hfec hdue rfl
  case stop =>
    rintro t who lane errors r s rfl haccepted hfree hrunning
    exact objectCommand_takes haccepted rfl (prbs_stop_of_running hfree hrunning)
  case start =>
    rintro t who lane r s rfl haccepted hfree hsafe
    exact objectCommand_takes haccepted rfl (prbs_start_of_not_safe hfree Nat.one_ne_zero hsafe)
  case loopback =>
    rintro t who lane r s rfl haccepted hfree hsafe
    exact objectCommand_takes haccepted rfl (prbs_start_of_not_safe hfree two_ne_zero hsafe)

end Sys2Proof.Machine
end

section
/-! PROOFS. The link fabric family, ingress. Where a received frame goes (R287, R288), a punted ARP request (R289), the next hops
(R290), the management link (R297), address detection and the repeated membership reports (R289). -/
set_option Elab.async false
namespace Sys2Proof.Machine

section
variable {t port : Nat} {r s : State} (hs : s = r.land t)
include hs

/-! ### Reception on a port that is UP (R287, R288) -/

section
variable {fcsGood : Bool} {frame : Bytes} {u : State} (hport : port < 96) (hup : s.portUp port = true)
  (hu : u = s.count Obj.lnkPortRxFrames port)
include hport hup hu

/-- R287: a frame with a bad FCS is counted among the received frames and among the FCS errors. -/
theorem execRxFrame_of_fcs (hto : u.ingress port fcsGood (ethFrame frame) = .fcs) :
    execRxFrame t port fcsGood frame r = .next (u.count Obj.lnkPortRxFcs port) := by
  subst hu hs
  simp only [execRxFrame, hport, hport.ne, hup, hto, Bool.true_eq_false, if_true, if_false]

/-- R287: a frame that no step of Table 12-6 takes is a discard of its port. -/
theorem execRxFrame_of_discard (hto : u.ingress port fcsGood (ethFrame frame) = .discard) :
    execRxFrame t port fcsGood frame r = .next (u.count Obj.lnkPortRxDiscards port) := by
  subst hu hs
  simp only [execRxFrame, State.rxDiscard, hport, hport.ne, hup, hto, Bool.true_eq_false, if_true, if_false]

section
variable (hsafe : s.cellar.safe = false)
include hsafe

/-- R291: outside SAFE a frame that found row `k` of the flow table is that flow's. -/
theorem execRxFrame_of_flow {k : Nat} (hto : u.ingress port fcsGood (ethFrame frame) = .flow k) :
    execRxFrame t port fcsGood frame r = .next (u.flowFrame port k (ethFrame frame)) := by
  subst hu hs
  simp only [execRxFrame, State.count_cellar, hport, hport.ne, hup, hto, hsafe, Bool.true_eq_false, Bool.false_eq_true,
    if_true, if_false]

/-- R288, R289: outside SAFE a frame for the Maltster waits for it, once the port's limit has let it pass. -/
theorem execRxFrame_of_maltster (hto : u.ingress port fcsGood (ethFrame frame) = .maltster)
    (hallowed : (u.puntAllowed port).2 = true) :
    execRxFrame t port fcsGood frame r = .next ((u.puntAllowed port).1.punt port frame) := by
  subst hu hs
  simp only [execRxFrame, State.count_cellar, hport, hport.ne, hup, hto, hsafe, hallowed, Bool.true_eq_false,
    Bool.false_eq_true, false_and, if_true, if_false]

end

end

/-! ### The firmware's answers and timers (R289, R290, R297) -/

/-- R289: an ARP frame, the oldest that waits, leaves its punt line and is answered. -/
theorem execPuntFrame_of_arp {b : Bytes} {rest : List (Nat × Bytes)} {u : State} (holdest : s.links.punted = (port, b) :: rest)
    (harp : (ethFrame b).ty = 0x0806) (hu : u = { s with links := { s.links with punted := rest } }) :
    execPuntFrame t r = .next (
      (u.setWort (76 + port % 4) ((u.wortLine (76 + port % 4)).dropFirst (wortDepth (76 + port % 4)))).answerArp port
        (b.drop (ethFrame b).off)) := by
  subst hu hs
  simp only [execPuntFrame, holdest, harp, if_true]

/-- R290: a resolution that is due, at once or by its interval, takes each next hop that is needed once. -/
theorem execNextHopResolve_of_due {replies : List (Nat × Nat × Nat)}
    (hdue : s.links.resolveDue = true ∨ s.links.resolvedAt + giga * s.val Obj.lnkResolveS ≤ s.now) :
    execNextHopResolve t replies r = .next (
      let green := if s.sets.rack.state = .scheduled then s.hopsNeeded s.sets.green else []
      let u := (s.hopsNeeded s.sets.bright ++ green).eraseDups.foldl (fun u x => u.resolveHop replies x.1 x.2) s
      { u with links := { u.links with resolvedAt := u.now, resolveDue := false } }) := by
  have hruns : ¬(s.links.resolveDue = false ∧ s.now < s.links.resolvedAt + giga * s.val Obj.lnkResolveS) := by
    rwa [not_and_or, Bool.not_eq_false, not_lt]
  subst hs
  exact if_neg hruns

/-- R289: the detection that began at `f` ends 1 s later (log entry 19), and an address not marked a duplicate comes into use. -/
theorem execDadTimerExpiry_of_due {f : Nat} (hfrom : (s.port port).dadFrom = some f) (hdue : f + giga ≤ s.now) :
    execDadTimerExpiry t port r = .next (s.setPort port { s.port port with
      dadFrom := none
      inUse := ofBool (!bit (s.val Obj.lnkPortDad port) 0) +
        2 * ofBool (decide (s.portIpv6 port ≠ 0) && !bit (s.val Obj.lnkPortDad port) 1) }) := by
  subst hs
  simp only [execDadTimerExpiry, hfrom, Nat.not_lt.mpr hdue, if_false]

end

/-- Settles O26: each clause is the lemma of its command; a change of the management link (port 96, log entries 18 and 73) and the
repeat of membership reports have no condition to decide. -/
theorem ingressCommandsTakeEffect : Obligations.IngressCommandsTakeEffect := by
  unfold Obligations.IngressCommandsTakeEffect
  refine ⟨?fcs, ?discard, ?flow, ?maltster, ?punt, ?resolve, ?management, ?dad, ?report⟩
  case fcs =>
    intro t port fcsGood frame r s hs hport hup hto
    exact execRxFrame_of_fcs hs hport hup rfl hto
  case discard =>
    intro t port fcsGood frame r s hs hport hup hto
    exact execRxFrame_of_discard hs hport hup rfl hto
  case flow =>
    intro t port fcsGood frame k r s hs hport hup hto hsafe
    exact execRxFrame_of_flow hs hport hup rfl hsafe hto
  case maltster =>
    intro t port fcsGood frame r s hs hport hup hto hsafe hallowed
    exact execRxFrame_of_maltster hs hport hup rfl hsafe hto hallowed
  case punt =>
    intro t port b rest r s hs holdest harp
    exact execPuntFrame_of_arp hs holdest harp rfl
  case resolve =>
    intro t replies r s hs hdue
    exact execNextHopResolve_of_due hs hdue
  case management =>
    rintro t speed r s rfl
    rfl
  case dad =>
    intro t port f r s hs hfrom hdue
    exact execDadTimerExpiry_of_due hs hfrom hdue
  case report =>
    rintro t r s rfl
    rfl

end Sys2Proof.Machine
end

section
/-! PROOFS. The Taproom family: offers, the wheel, the windows and the flush of a tap (R307 to R313, R317), and what a port's scheduler decides
and sends (R314 to R316, R318 to R321). -/
set_option Elab.async false
namespace Sys2Proof.Machine

/-! ### Offers, the wheel and the windows (R309 to R313, R317) -/

section
variable {t tap : Nat} {r s : State} (hs : s = r.land t)
include hs

section
variable {x : Pkt} (hoffer : s.tap.offers.find? (fun q => q.1 == tap) = some (tap, x))
include hoffer

/-- R309: the oldest packet offered is taken unless the tap is full, in credit mode and not flushing. -/
theorem execTapOffer_of_taken (htaken : (s.tapAt tap).videoCount < (s.setFor x.frame).tapQmax tap ∨
    bit ((s.setFor x.frame).tap tap 0) 4 = true ∨ s.val Obj.tapFlush tap ≠ 0) :
    execTapOffer t tap r = .next (State.tapAccept { s with tap := { s.tap with offers := dropOffer tap s.tap.offers } } tap x
      (decide ((s.setFor x.frame).tapQmax tap ≤ (s.tapAt tap).videoCount))) := by
  have hwaits : ¬(decide ((s.setFor x.frame).tapQmax tap ≤ (s.tapAt tap).videoCount) = true ∧
      (!bit ((s.setFor x.frame).tap tap 0) 4) = true ∧ s.val Obj.tapFlush tap = 0) := by
    rintro ⟨hfull, hcredit, hflush⟩
    rcases htaken with hroom | hdrop | hflushing
    · exact Nat.not_lt.mpr (of_decide_eq_true hfull) hroom
    · rw [hdrop] at hcredit
      exact Bool.noConfusion hcredit
    · exact hflushing hflush
  subst hs
  simp only [execTapOffer, hoffer]
  exact if_neg hwaits

/-- R309: a full tap in credit mode that is not flushing leaves the packet with its producer. -/
theorem execTapOffer_of_waits (hfull : (s.setFor x.frame).tapQmax tap ≤ (s.tapAt tap).videoCount)
    (hcredit : bit ((s.setFor x.frame).tap tap 0) 4 = false) (hflush : s.val Obj.tapFlush tap = 0) :
    execTapOffer t tap r = .next s := by
  subst hs
  simp only [execTapOffer, hoffer, hfull, hcredit, hflush, decide_true, Bool.not_false, and_self, if_true]

end

/-- R313: 65,536 ns after the last scan, entries within reach are placed. -/
theorem execWheelScan_of_due (hdue : s.tap.scannedAt + 65536 ≤ s.now) :
    execWheelScan t r = .next { s with tap := { s.tap with
      scannedAt := s.now
      wheel := s.tap.wheel.map fun x => { x with placed := x.placed || decide (x.due < s.deviceTime + 131072) } } } := by
  subst hs
  exact if_neg (Nat.not_lt.mpr hdue)

section
variable {x : TapPkt} {rest : List TapPkt} (hwindow : (s.tapAt tap).window = x :: rest)
include hwindow

/-- R317: outside SAFE a window's oldest packet is released once it is too old, and then the next. -/
theorem execWindowAge_of_old (hsafe : s.cellar.safe = false) (hold : x.departed + 1000 * s.val Obj.tapWinAgeUs < s.now) :
    execWindowAge t tap r = .next (windowAge tap rest.length (s.windowRelease tap)) := by
  subst hs
  simp only [execWindowAge, State.ageWindow, hsafe, hwindow, List.length_cons, windowAge, hold, Bool.false_eq_true, if_false, if_true]

/-- R317: a window whose oldest packet is younger stays. -/
theorem execWindowAge_of_young (hyoung : s.now ≤ x.departed + 1000 * s.val Obj.tapWinAgeUs) : execWindowAge t tap r = .next s := by
  subst hs
  simp only [execWindowAge, State.ageWindow, hwindow, List.length_cons, windowAge, Nat.not_lt.mpr hyoung, if_false, ite_self]

end

end

/-- R312: writing 1 empties a tap's queues, takes its entries off the wheel and leaves its paths idle. -/
theorem tapFlush_one (p : Nat) (s : State) : tapFlush p 1 s = (
    let u := (List.range 4).foldl (fun (u : State) cls => u.flushQueue p cls) (s.put Obj.tapFlush p (1 : Nat))
    let u : State := { u with tap := { u.tap with wheel := u.tap.wheel.filter fun x => x.tap != p } }
    (List.range 3).foldl (fun (u : State) path => u.pathIdle p path) u, .ok) := by
  simp only [tapFlush, if_true]

/-- R312: writing 0 ends the flush. -/
theorem tapFlush_zero (p : Nat) (s : State) : tapFlush p 0 s = (s.put Obj.tapFlush p 0, .ok) := by
  simp only [tapFlush, Nat.zero_ne_one, if_false, Nat.cast_zero]

/-- Settles O27: each clause is the lemma of its command; the due entries of the wheel and the two writes of TAP_FLUSH have no
condition. -/
theorem tapQueueCommandsTakeEffect : Obligations.TapQueueCommandsTakeEffect := by
  unfold Obligations.TapQueueCommandsTakeEffect
  refine ⟨?taken, ?waits, ?slot, ?scan, ?old, ?young, ?flush, ?resume⟩
  case taken =>
    intro t tap x r s hs hoffer htaken
    exact execTapOffer_of_taken hs hoffer htaken
  case waits =>
    intro t tap x r s hs hoffer hfull hcredit hflush
    exact execTapOffer_of_waits hs hoffer hfull hcredit hflush
  case slot =>
    rintro t r s rfl
    rfl
  case scan =>
    intro t r s hs hdue
    exact execWheelScan_of_due hs hdue
  case old =>
    intro t tap x rest r s hs hwindow hsafe hold
    exact execWindowAge_of_old hs hwindow hsafe hold
  case young =>
    intro t tap x rest r s hs hwindow hyoung
    exact execWindowAge_of_young hs hwindow hyoung
  case flush =>
    rintro t who row r s rfl haccepted
    exact objectCommand_takes haccepted rfl (tapFlush_one ..)
  case resume =>
    rintro t who row r s rfl haccepted
    exact objectCommand_takes haccepted rfl (tapFlush_zero ..)

/-! ### What a port decides (R315, R316) -/

section
variable {s : State} {port : Nat}

/-- R315: a port on which no class qualifies idles. -/
theorem State.portDecide_of_none (hnone : (s.portChoose port).2 = none) :
    s.portDecide port = (s.portChoose port).1.setSched port { (s.portChoose port).1.sched port with idle := true } := by
  rcases hchoice : s.portChoose port with ⟨u, choice⟩
  rw [hchoice] at hnone
  obtain rfl : choice = none := hnone
  simp only [State.portDecide, hchoice]

section
variable {ref cls : Nat} {h : TapPkt} (hsome : (s.portChoose port).2 = some (ref, cls, h))
include hsome

/-- R315: a packet of another class than MONITOR is the port's next. -/
theorem State.portDecide_of_class (hcls : cls ≠ 3) : s.portDecide port = (s.portChoose port).1.choose port ref cls h := by
  rcases hchoice : s.portChoose port with ⟨u, choice⟩
  rw [hchoice] at hsome
  obtain rfl : choice = some (ref, cls, h) := hsome
  simp only [State.portDecide, hchoice, hcls, false_and, if_false]

/-- R315: in flat mode a MONITOR packet that finds MON_RATE short is discarded. -/
theorem State.portDecide_of_short (hcls : cls = 3) (hflat : (s.portChoose port).1.portHier port = false)
    (hshort : ((s.portChoose port).1.monitorShort port h).2 = true) :
    s.portDecide port = ((s.portChoose port).1.monitorShort port h).1.discardHead port ref cls h := by
  rcases hchoice : s.portChoose port with ⟨u, choice⟩
  rw [hchoice] at hsome hflat hshort
  obtain rfl : choice = some (ref, cls, h) := hsome
  rcases hbucket : u.monitorShort port h with ⟨v, short⟩
  rw [hbucket] at hshort
  obtain rfl : short = true := hshort
  simp only [State.portDecide, hchoice, hcls, hflat, hbucket, and_self, if_true]

end

/-! ### What a port sends (R314) -/

/-- R314: without a decision nothing departs. -/
theorem State.departChosen_of_none (hnone : (s.sched port).chosen = none) : s.departChosen port = s := by
  simp only [State.departChosen, hnone]

/-- R314: the packet decided on departs from the head of its queue where its descriptor is good. -/
theorem State.departChosen_of_head {ref cls : Nat} {h : TapPkt} (hchosen : (s.sched port).chosen = some (ref, cls))
    (hhead : (s.setSched port { s.sched port with chosen := none }).headOn port ref cls = some h)
    (hgood : (s.setSched port { s.sched port with chosen := none }).descriptorBad (ref / 4) (ref % 4) cls = false) :
    s.departChosen port = (s.setSched port { s.sched port with chosen := none }).depart port ref cls h := by
  simp only [State.departChosen, hchosen, hhead, hgood, Bool.false_eq_true, if_false]

end

section
variable {t port : Nat} {r s : State} (hs : s = r.land t)
include hs

section
variable (hsafe : s.cellar.safe = false)
include hsafe

/-- R314, R315: outside SAFE a port decides where it may, and what it decided on departs once the wire is free. -/
theorem execPacketDepart_of_not_safe {v : State} (hv : v = if (s.sched port).chosen.isNone ∧
      (s.sched port).busyUntil ≤ s.now + ceilDiv 512 (modeGbps (s.portMode port)) then s.portDecide port else s) :
    execPacketDepart t port r = .next (if v.now < (v.sched port).busyUntil then v else v.departChosen port) := by
  subst hv hs
  exact if_neg (ne_true_of_eq_false hsafe)

section
variable (hnone : (s.sched port).chosen = none)
  (hdecides : (s.sched port).busyUntil ≤ s.now + ceilDiv 512 (modeGbps (s.portMode port)))
include hnone hdecides

/-- R315: a port that has nothing decided decides as the packet on the wire begins its last 64 bytes. -/
theorem execPacketDepart_of_decides : execPacketDepart t port r = .next (
    if (s.portDecide port).now < ((s.portDecide port).sched port).busyUntil then s.portDecide port
    else (s.portDecide port).departChosen port) :=
  execPacketDepart_of_not_safe hs hsafe (if_pos ⟨Option.isNone_iff_eq_none.mpr hnone, hdecides⟩).symm

/-- R315: a decision that leaves nothing to send is all that happens. -/
theorem execPacketDepart_of_nothing_chosen (hnothing : ((s.portDecide port).sched port).chosen = none) :
    execPacketDepart t port r = .next (s.portDecide port) := by
  rw [execPacketDepart_of_decides hs hsafe hnone hdecides, State.departChosen_of_none hnothing, ite_self]

/-- R315: a decision made before the wire is free is all that happens. -/
theorem execPacketDepart_of_busy (hbusy : (s.portDecide port).now < ((s.portDecide port).sched port).busyUntil) :
    execPacketDepart t port r = .next (s.portDecide port) := by
  rw [execPacketDepart_of_decides hs hsafe hnone hdecides, if_pos hbusy]

end

/-- R318: outside SAFE each packet of the compound is served or counted. -/
theorem execRtcpNack_of_not_safe {data : Bytes} :
    execRtcpNack t data r = .next ((rtcpPackets data.length data).foldl (fun u pkt =>
      if fieldBE pkt 1 1 = 205 ∧ bits (fieldBE pkt 0 1) 4 0 = 1 ∧ 12 ≤ pkt.length then (if u.silenced then u else u.nack pkt)
      else u.count Obj.tapRtcpOther) s) := by
  subst hs
  exact if_neg (ne_true_of_eq_false hsafe)

end

/-- R316: an idle hierarchical port is refilled, and wakes where it then finds a packet to serve. -/
theorem execClassShaperRefill_of_idle (hhier : s.portHier port = true) (hidle : (s.sched port).idle = true) :
    execClassShaperRefill t port r = .next (
      match ((s.refill port).hierChoose port classOrder).2 with
      | none => s.refill port
      | some _ => (s.refill port).setSched port { (s.refill port).sched port with idle := false }) := by
  subst hs
  refine (if_pos ⟨hhier, hidle⟩).trans ?_
  rcases ((r.land t).refill port).hierChoose port classOrder with ⟨u, _ | choice⟩ <;> rfl

/-- R320: a tap whose report is due sends it for its stream. -/
theorem execSenderReport_of_due {tap k ssrc es : Nat} (hgap : s.inGap = false) (henabled : s.sets.bright.tapEn tap = true)
    (hreports : bit (s.sets.bright.tap tap 0) 6 = true) (hframe : s.ctime.frame % s.sets.bright.nat Obj.tapSrFrames = 0)
    (hnew : (s.tapAt tap).srFrame ≠ some s.ctime.frame) (hsource : s.tapSource tap s.ctime.frame = some (k, ssrc, es)) :
    execSenderReport t tap r = .next (s.sendReport tap s.ctime.frame k ssrc es) := by
  subst hs
  simp only [execSenderReport, hgap, henabled, hreports, hframe, hnew, hsource, Bool.not_true, Bool.false_eq_true, ne_eq,
    not_true_eq_false, or_self, if_false]

end

/-- Settles O28: a departure is a decision of the port and what it decided on, or one of them alone; the other clauses are the lemmas of
their commands. -/
theorem departureCommandsTakeEffect : Obligations.DepartureCommandsTakeEffect := by
  unfold Obligations.DepartureCommandsTakeEffect
  refine ⟨?departs, ?chosen, ?short, ?idles, ?monitor, ?refill, ?nack, ?report⟩
  case departs =>
    intro t port ref cls h v r s hs hsafe hv hfree hchosen hhead hgood
    rw [exec, execPacketDepart_of_not_safe hs hsafe hv, if_neg (Nat.not_lt.mpr hfree), State.departChosen_of_head hchosen hhead hgood]
  case chosen =>
    intro t port ref cls h r s hs hsafe hnone hdecides hsome hcls hbusy
    have hdecision := State.portDecide_of_class hsome hcls
    rw [exec, execPacketDepart_of_busy hs hsafe hnone hdecides (hdecision ▸ hbusy), hdecision]
  case short =>
    intro t port ref h r s hs hsafe hnone hdecides hsome hflat hshort hnothing
    have hdecision := State.portDecide_of_short hsome rfl hflat hshort
    rw [exec, execPacketDepart_of_nothing_chosen hs hsafe hnone hdecides (hdecision ▸ hnothing), hdecision]
  case idles =>
    intro t port r s hs hsafe hnone hdecides hidle hnothing
    have hdecision := State.portDecide_of_none hidle
    rw [exec, execPacketDepart_of_nothing_chosen hs hsafe hnone hdecides (hdecision ▸ hnothing), hdecision]
  case monitor =>
    rintro t port r s rfl hhier
    exact if_neg (by rw [hhier]; exact Bool.noConfusion)
  case refill =>
    intro t port r s hs hhier hidle
    exact execClassShaperRefill_of_idle hs hhier hidle
  case nack =>
    intro t data r s hs hsafe
    exact execRtcpNack_of_not_safe hs hsafe
  case report =>
    intro t tap k ssrc es r s hs hgap henabled hreports hframe hnew hsource
    exact execSenderReport_of_due hs hgap henabled hreports hframe hnew hsource

end Sys2Proof.Machine
end

section
/-! PROOFS. The memory system and trust families, what every step keeps: the canonical form of the byte memories (R324, R332, R360, R362)
and what fuses hold (R412, R413, R416, R420). A step is the advance of the command it serves. -/
set_option Elab.async false
namespace Sys2Proof.Machine

/-- A step answers a next state, to which the state without the command served advances. -/
theorem step_advances (s : State) :
    ∃ racks stores u, step s = .next u ∧ ({ s with pending := s.pending.tail } : State).Advances racks stores u := by
  cases hqueue : s.pending with
  | nil =>
    have hsame : ({ s with pending := [].tail } : State) = s := by rw [List.tail_nil, ← hqueue]
    exact ⟨false, false, s, step_nil hqueue, hsame ▸ .refl _⟩
  | cons c rest =>
    obtain ⟨u, hnext, hadvances⟩ := exec_advances c { s with pending := rest }
    exact ⟨c.racks, c.stores, u, (step_cons hqueue).trans hnext, hadvances⟩

/-- Settles O59: the advance of a step keeps canonical memories canonical, and the queue is no memory. -/
theorem memoriesStayCanonical : Obligations.MemoriesStayCanonical := by
  unfold Obligations.MemoriesStayCanonical
  intro s hcanonical
  obtain ⟨_, _, u, hnext, hadvances⟩ := step_advances s
  exact ⟨u, hnext, hadvances.memories hcanonical⟩

/-- Settles O60: the advance of a step unblows no fuse. -/
theorem fusesAreNeverUnblown : Obligations.FusesAreNeverUnblown := by
  unfold Obligations.FusesAreNeverUnblown
  intro s u hstep
  obtain ⟨_, _, v, hnext, hadvances⟩ := step_advances s
  obtain rfl : v = u := Host.Outcome.next.inj (hnext.symm.trans hstep)
  exact ⟨hadvances.lifecycle, hadvances.revoked, hadvances.counters⟩

end Sys2Proof.Machine
end

section
/-! PROOFS. The memory system family, the map of working memory (R325): 64-byte lines in turn over the twelve QDR channels. -/
set_option Elab.async false
namespace Sys2Proof.Machine

/-- R325: the place of an address, in the manual's shifts and masks. -/
theorem qdrPlace_eq_shifts (w : Nat) : qdrPlace w = ((w >>> 6) % 12, (w >>> 6) / 12 * 8 + ((w >>> 3) &&& 7)) := by
  have hmask : (w >>> 3) &&& 7 = w / 8 % 8 := by
    rw [Nat.shiftRight_eq_div_pow]
    exact Nat.and_two_pow_sub_one_eq_mod _ 3
  rw [hmask, Nat.shiftRight_eq_div_pow]
  rfl

/-- R325: the address of an address's place is the start of its word. -/
theorem qdrAddress_qdrPlace (w : Nat) : qdrAddress (qdrPlace w).1 (qdrPlace w).2 = w - w % 8 := by
  simp only [qdrAddress, qdrPlace]
  omega

section
variable {c i : Nat} (hi : i < 8) (word : Nat)
include hi

/-- R325: a byte of a word of a channel lies in that channel's share of the lines. -/
theorem qdrAddress_line : (qdrAddress c word + i) / 64 = word / 8 * 12 + c := by
  unfold qdrAddress
  omega

/-- R325: every byte of a word of a channel has that channel and word. -/
theorem qdrPlace_qdrAddress (hc : c < 12) : qdrPlace (qdrAddress c word + i) = (c, word) := by
  have hline := qdrAddress_line (c := c) hi word
  have hoffset : (qdrAddress c word + i) / 8 % 8 = word % 8 := by
    unfold qdrAddress
    omega
  simp only [qdrPlace, hline, hoffset, Prod.mk.injEq]
  omega

end

/-- Settles O50: a place is the line's remainder by twelve, and the word of its quotient; so a line has one channel, and the next line the
next. -/
theorem workingMemoryMapsLineByLine : Obligations.WorkingMemoryMapsLineByLine := by
  unfold Obligations.WorkingMemoryMapsLineByLine
  refine ⟨fun w _ => ⟨qdrPlace_eq_shifts w, qdrAddress_qdrPlace w⟩, fun c word i hc hi => ?_⟩
  have hline := qdrAddress_line (c := c) hi word
  refine ⟨qdrPlace_qdrAddress hi word hc, ?_, fun a ha => ?_⟩
  · simp only [qdrPlace]
    omega
  · simp only [qdrPlace, ha, hline]
    omega

end Sys2Proof.Machine
end

section
/-! PROOFS. The Sparge, Kegs and Wort lines family, the accesses of a burst (R364): heads up to a block boundary, then whole blocks, then a
tail, none across 256 bytes. -/
set_option Elab.async false
namespace Sys2Proof.Machine

/-- Table 15-3: a block is 8 or 64 bytes. -/
theorem spaceBlock_cases (space : Nat) : spaceBlock space = 8 ∨ spaceBlock space = 64 := by
  unfold spaceBlock
  split
  · exact .inl rfl
  · exact .inr rfl

/-- R364: the bytes of a run before its first block boundary, for a run that starts at `a`. -/
def SpargeSide.head (d : SpargeSide) (a : Nat) : Nat := min d.run ((spaceBlock d.space - a % spaceBlock d.space) % spaceBlock d.space)

section
variable {d : SpargeSide} {p o a : Nat} (ho : o = p % d.run) (ha : a = (d.runStart (p / d.run)).toNat)
include ho ha

/-- R364: within the head, the access is the rest of the head. -/
theorem SpargeSide.accessLength_of_head (hhead : o < d.head a) : d.accessLength p = d.head a - o := by
  subst ho ha
  exact if_pos hhead

/-- R364: past the head, the access is up to four blocks within 256 bytes, or the tail of the run. -/
theorem SpargeSide.accessLength_of_blocks (hhead : d.head a ≤ o) :
    d.accessLength p = if (d.run - o) / spaceBlock d.space = 0 then d.run - o
      else min (min ((d.run - o) / spaceBlock d.space) 4 * spaceBlock d.space) (256 - (a + o) % 256) := by
  subst ho ha
  exact if_neg (Nat.not_lt.mpr hhead)

end

/-- R364: an access of `n` bytes at position `o` of a run from `a` on is well placed: within a run of `run` bytes, of at most 256, across no
256-byte boundary, and up to the run's end or a boundary of a block of `b` bytes. -/
def wellPlaced (run b a o n : Nat) : Prop :=
  1 ≤ n ∧ n ≤ 256 ∧ (a + o) % 256 + n ≤ 256 ∧ o + n ≤ run ∧ (o + n = run ∨ (a + o + n) % b = 0)

section
variable {run b a o : Nat} (hb : b = 8 ∨ b = 64)
include hb

/-- R364: the rest of a head is well placed. -/
theorem wellPlaced_head (hhead : o < min run ((b - a % b) % b)) : wellPlaced run b a o (min run ((b - a % b) % b) - o) := by
  unfold wellPlaced
  rcases hb with rfl | rfl <;> omega

/-- R364: from a block boundary, a tail shorter than a block is well placed. -/
theorem wellPlaced_tail (hrun : o < run) (hboundary : (a + o) % b = 0) (hshort : (run - o) / b = 0) : wellPlaced run b a o (run - o) := by
  unfold wellPlaced
  rcases hb with rfl | rfl <;> omega

/-- R364: from a block boundary, whole blocks within 256 bytes are well placed. -/
theorem wellPlaced_blocks (hboundary : (a + o) % b = 0) (hblocks : (run - o) / b ≠ 0) :
    wellPlaced run b a o (min (min ((run - o) / b) 4 * b) (256 - (a + o) % 256)) := by
  unfold wellPlaced
  rcases hb with rfl | rfl <;> omega

end

/-- Settles O54: an access is the rest of a head, a tail or whole blocks, each well placed. -/
theorem accessesStayInTheirBlocks : Obligations.AccessesStayInTheirBlocks := by
  unfold Obligations.AccessesStayInTheirBlocks
  intro d p o a hrun ho ha hplace
  have hb := spaceBlock_cases d.space
  have hbelow : o < d.run := ho ▸ Nat.mod_lt p hrun
  change wellPlaced d.run (spaceBlock d.space) a o (d.accessLength p)
  rcases Nat.lt_or_ge o (d.head a) with hhead | hhead
  · rw [SpargeSide.accessLength_of_head ho ha hhead]
    exact wellPlaced_head hb hhead
  · have hboundary : (a + o) % spaceBlock d.space = 0 := hplace.resolve_left (Nat.not_lt.mpr hhead)
    rw [SpargeSide.accessLength_of_blocks ho ha hhead]
    split
    · next hshort => exact wellPlaced_tail hb hbelow hboundary hshort
    · next hblocks => exact wellPlaced_blocks hb hboundary hblocks

end Sys2Proof.Machine
end

section
/-! PROOFS. The memory system family, scrubs and retraining: what the patrols find (R328, R331, R433), when a QDR channel is trained again
(R329), and the pauses of the DDR channels and their self-refresh (R341 to R344). -/
set_option Elab.async false
namespace Sys2Proof.Machine

/-! ### Scrubs and QDR channels (R328, R329, R331, R433) -/

section
variable {t channel : Nat} {r s : State} (hs : s = r.land t)
include hs

/-- R433: the patrol of the Cask counts an uncorrectable word, reports it and gives up what it held. -/
theorem execCaskScrub_of_uncorrectable {offset result : Nat} (hresult : result = 2 ∨ result = 3) :
    execCaskScrub t offset result r = .next (
      ((({ s with cask := { s.cask with scrub := (offset + 8) % 16777216 } } : State).count Obj.cskEccUncorr).caskErr offset).caskLost
        offset (result == 3)) := by
  have hclean : result ≠ 0 := by omega
  have hcorrected : result ≠ 1 := by omega
  subst hs
  exact congrArg _ ((if_neg hclean).trans (if_neg hcorrected))

section
variable (hchannel : channel < 12)
include hchannel

section
variable (hservice : (s.qdr channel).state = 1)
include hservice

/-- R328: the patrol of a QDR channel in service checks its next word. -/
theorem execQdrScrub_of_service {result : Nat} : execQdrScrub t channel result r = .next (
    (s.qdrError channel (s.qdr channel).scrub result 1).modQdr channel fun x =>
      { x with scrub := ((s.qdr channel).scrub + 1) % 4194304 }) := by
  have hchecks : ¬(12 ≤ channel ∨ (s.qdr channel).state ≠ 1) := by
    rw [not_or, not_not]
    exact ⟨Nat.not_le.mpr hchannel, hservice⟩
  subst hs
  exact congrArg _ (if_neg hchecks)

/-- R329: a low margin of a channel in service arms a pause. -/
theorem execQdrMarginLow_of_service :
    execQdrMarginLow t channel r = .next ((s.modQdr channel fun x => { x with pending := true }).armPause) := by
  subst hs
  exact congrArg _ (if_pos ⟨hchannel, hservice⟩)

/-- R329: 16 uncorrectable words within 1 ms retrain a channel in service at once. -/
theorem execQdrImmediateRetrain_of_errors
    (herrors : 16 ≤ ((s.qdr channel).uncorr.filter fun a => decide (s.now < a + 1000000)).length) :
    execQdrImmediateRetrain t channel r = .next (s.modQdr channel fun x => { x with state := 2, since := s.now, uncorr := [] }) := by
  subst hs
  exact congrArg _ (if_pos ⟨hchannel, hservice, herrors⟩)

end

/-- R329: a retraining ends a pause of its own; what trained is in service, what did not is retired. -/
theorem execQdrRetrainDone_of_training {trained : Bool} {u : State} (htraining : (s.qdr channel).state = 2)
    (hu : u = if trained then (s.modQdr channel fun x => { x with state := 1, pending := false }).count Obj.memQdRetrains channel
      else (s.modQdr channel fun x => { x with state := 3, pending := false }).report (0x500 + channel) .trainFail 0 0) :
    execQdrRetrainDone t channel trained r = .next (if u.mem.pause.any (fun p => p.1 = channel) then u.pauseOver else u) := by
  have hends : ¬(12 ≤ channel ∨ (s.qdr channel).state ≠ 2) := by
    rw [not_or, not_not]
    exact ⟨Nat.not_le.mpr hchannel, htraining⟩
  subst hu hs
  exact congrArg _ (if_neg hends)

end

section
variable (hchannel : channel < 8)
include hchannel

/-- R331: the patrol of a DDR channel in service checks its next 64 bytes. -/
theorem execDdrScrub_of_service {result lane part : Nat} (hservice : (s.ddr channel).state = .service) :
    execDdrScrub t channel result lane part r = .next (
      (s.ddrError channel ((s.ddr channel).scrub * 64) result lane part).modDdr channel fun x =>
        { x with scrub := ((s.ddr channel).scrub + 1) % max 1 (ddrCapacity (s.val Obj.memDdConfig) / 64) }) := by
  have hchecks : ¬(8 ≤ channel ∨ (s.ddr channel).state ≠ .service) := by
    rw [not_or, not_not]
    exact ⟨Nat.not_le.mpr hchannel, hservice⟩
  subst hs
  exact congrArg _ (if_neg hchecks)

end

end

/-- Settles O29: each clause is the lemma of its command. -/
theorem scrubAndQdrCommandsTakeEffect : Obligations.ScrubAndQdrCommandsTakeEffect := by
  unfold Obligations.ScrubAndQdrCommandsTakeEffect
  refine ⟨?qdrScrub, ?ddrScrub, ?caskCorrected, ?caskLost, ?margin, ?immediate, ?trained, ?failed⟩
  case qdrScrub =>
    intro t channel result r s hs hchannel hservice
    exact execQdrScrub_of_service hs hchannel hservice
  case ddrScrub =>
    intro t channel result lane part r s hs hchannel hservice
    exact execDdrScrub_of_service hs hchannel hservice
  case caskCorrected =>
    rintro t offset r s rfl
    rfl
  case caskLost =>
    intro t offset result r s hs hresult
    exact execCaskScrub_of_uncorrectable hs hresult
  case margin =>
    intro t channel r s hs hchannel hservice
    exact execQdrMarginLow_of_service hs hchannel hservice
  case immediate =>
    intro t channel r s hs hchannel hservice herrors
    exact execQdrImmediateRetrain_of_errors hs hchannel hservice herrors
  case trained =>
    intro t channel r s hs hchannel htraining
    exact execQdrRetrainDone_of_training hs hchannel htraining rfl
  case failed =>
    intro t channel r s hs hchannel htraining
    exact execQdrRetrainDone_of_training hs hchannel htraining rfl

/-! ### Retraining and self-refresh of DDR channels (R341 to R344) -/

/-- R344: MEM_RETRAIN of a QDR channel. -/
theorem memRetrain_of_qdr {v : Nat} (hv : v < 12) (s : State) :
    memRetrain v s = ((s.modQdr v fun x => { x with pending := true }).armPause, .ok) := if_pos hv

/-- R344: MEM_RETRAIN of a DDR channel. -/
theorem memRetrain_of_ddr {v : Nat} (hlow : 16 ≤ v) (hhigh : v < 24) (s : State) :
    memRetrain v s = ((s.modDdr (v - 16) fun x => { x with pending := true }).armPause, .ok) :=
  (if_neg (by omega)).trans (if_pos ⟨hlow, hhigh⟩)

section
variable {t : Nat} {r s : State} (hs : s = r.land t)
include hs

/-- R342: at its calendar turn the pause of a frame begins, and the channel chosen is held for its retraining. -/
theorem execRetrainPause_of_turn {c : CTime} {u : State} (harmed : s.mem.armed = some c) (hturn : s.calTurn (pauseEntry c) = true)
    (hu : u = { s.calTicked with mem := { s.calTicked.mem with
      armed := none, pauseFrame := some (if s.calTicked.pauseInstant c.frame = c then c.frame else sub32 c.frame 1) } }) :
    execRetrainPause t r = .next (
      match u.pauseChoice with
      | none => u
      | some k =>
        let v : State := { u with mem := { u.mem with pause := some (k, u.now) } }
        if k < 12 then v.modQdr k fun x => { x with state := 2, since := v.now }
        else v.modDdr (k - 16) fun x => { x with state := .paused }) := by
  subst hu hs
  simp only [execRetrainPause, harmed, hturn, Bool.true_eq_false, if_false] <;> rfl

section
variable {c since : Nat} (hpause : s.mem.pause = some (16 + c, since))
include hpause

/-- R343: a DDR pause ends with its channel in service, or retired. -/
theorem execRetrainDone_of_pause {trained : Bool} : execRetrainDone t trained r = .next (State.pauseOver (
    if trained ∧ (s.ddr c).retiring = false then
      (((s.modDdr c fun x => { x with state := .service, pending := false, due := false, lastRetrain := s.now }).count
        Obj.memDdRetrains c).putValue Obj.memDdLastRetrain c (.bytes (time80 s.deviceTime))).cacheTraining c
    else s.retireDdr c 1)) := by
  subst hs
  simp only [execRetrainDone, hpause, if_neg (Nat.not_lt.mpr (Nat.le_add_right 16 c)), Nat.add_sub_cancel_left]

end

section
variable {channel : Nat} (hchannel : channel < 8)
include hchannel

/-- R342: a live channel that a period has passed falls due. -/
theorem execRetrainDue_of_passed (hperiod : s.val Obj.memDdRetrainS ≠ 0) (hlive : (s.ddr channel).state ≠ .retired)
    (htrained : (s.ddr channel).state ≠ .training) (hdue : (s.ddr channel).due = false)
    (hpassed : retrainPeriods (giga * s.val Obj.memDdRetrainS) channel (s.ddr channel).lastRetrain <
      retrainPeriods (giga * s.val Obj.memDdRetrainS) channel s.now) :
    execRetrainDue t channel r = .next ((s.modDdr channel fun x => { x with due := true }).armPause) := by
  have hfalls : ¬(8 ≤ channel ∨ giga * s.val Obj.memDdRetrainS = 0 ∨ (s.ddr channel).state = .retired ∨
      (s.ddr channel).state = .training ∨ (s.ddr channel).due = true ∨
      retrainPeriods (giga * s.val Obj.memDdRetrainS) channel s.now ≤
        retrainPeriods (giga * s.val Obj.memDdRetrainS) channel (s.ddr channel).lastRetrain) := by
    simp only [Nat.not_le.mpr hchannel, Nat.mul_ne_zero giga_pos.ne' hperiod, hlive, htrained, hdue, Nat.not_le.mpr hpassed,
      Bool.false_eq_true, or_self, not_false_eq_true]
  subst hs
  exact congrArg _ (if_neg hfalls)

/-- R341: a channel in service that may idle, and did for long enough, enters self-refresh. -/
theorem execSelfRefreshEntry_of_idle (hservice : (s.ddr channel).state = .service) (hmay : s.ddrMayIdle = true)
    (hidle : (s.ddr channel).lastRequest + 1000 * s.val Obj.memDdSrIdleUs ≤ s.now) :
    execSelfRefreshEntry t channel r = .next (s.modDdr channel fun x =>
      { x with state := .selfRefresh, entryTemp := s.pwr.tj, openRows := [], accessed := [] }) := by
  have henters : ¬(8 ≤ channel ∨ (s.ddr channel).state ≠ .service ∨ (!s.ddrMayIdle) = true ∨
      s.now < (s.ddr channel).lastRequest + 1000 * s.val Obj.memDdSrIdleUs) := by
    simp only [Nat.not_le.mpr hchannel, hservice, hmay, Nat.not_lt.mpr hidle, ne_eq, not_true_eq_false, Bool.not_true,
      Bool.false_eq_true, or_self, not_false_eq_true]
  subst hs
  exact congrArg _ (if_neg henters)

/-- R341: a channel leaves self-refresh, and is retrained where its temperature moved. -/
theorem execSelfRefreshExit_of_selfRefresh {u : State} (hrefresh : (s.ddr channel).state = .selfRefresh)
    (hu : u = s.modDdr channel fun x => { x with state := .service, lastRequest := s.now }) :
    execSelfRefreshExit t channel r = .next (
      if 100 < (u.pwr.tj - (s.ddr channel).entryTemp).natAbs then
        ((u.modDdr channel fun x => { x with lastRetrain := u.now }).count Obj.memDdRetrains channel).putValue
          Obj.memDdLastRetrain channel (.bytes (time80 u.deviceTime))
      else u) := by
  have hleaves : ¬(8 ≤ channel ∨ (s.ddr channel).state ≠ .selfRefresh) := by
    rw [not_or, not_not]
    exact ⟨Nat.not_le.mpr hchannel, hrefresh⟩
  subst hu hs
  exact congrArg _ (if_neg hleaves)

end

end

/-- Settles O30: each clause is the lemma of its command; a pause that ends splits on whether its channel trained. -/
theorem retrainingCommandsTakeEffect : Obligations.RetrainingCommandsTakeEffect := by
  unfold Obligations.RetrainingCommandsTakeEffect
  refine ⟨?due, ?pause, ?trained, ?failed, ?qdr, ?ddr, ?enters, ?leaves⟩
  case due =>
    intro t channel r s hs hchannel hperiod hlive htrained hdue hpassed
    exact execRetrainDue_of_passed hs hchannel hperiod hlive htrained hdue hpassed
  case pause =>
    intro t c r s hs harmed hturn
    exact execRetrainPause_of_turn hs harmed hturn rfl
  case trained =>
    intro t c since r s hs hpause hkept
    exact (execRetrainDone_of_pause hs hpause).trans (congrArg (Host.Outcome.next ∘ State.pauseOver) (if_pos ⟨rfl, hkept⟩))
  case failed =>
    intro t c since r s hs hpause
    exact (execRetrainDone_of_pause hs hpause).trans
      (congrArg (Host.Outcome.next ∘ State.pauseOver) (if_neg fun h => Bool.noConfusion h.1))
  case qdr =>
    rintro t who v r s rfl haccepted hv
    exact objectCommand_takes haccepted rfl (memRetrain_of_qdr hv _)
  case ddr =>
    rintro t who v r s rfl haccepted hlow hhigh
    exact objectCommand_takes haccepted rfl (memRetrain_of_ddr hlow hhigh _)
  case enters =>
    intro t channel r s hs hchannel hservice hmay hidle
    exact execSelfRefreshEntry_of_idle hs hchannel hservice hmay hidle
  case leaves =>
    intro t channel r s hs hchannel hrefresh
    exact execSelfRefreshExit_of_selfRefresh hs hchannel hrefresh rfl

end Sys2Proof.Machine
end

section
/-! PROOFS. The memory system family, refresh (R337, R340), arbitration (R353 to R356) and the test of a Grist bank (R352). -/
set_option Elab.async false
namespace Sys2Proof.Machine

/-- R340: a channel in service or paused is refreshed. -/
theorem State.not_unrefreshed {s : State} {channel : Nat} (hchannel : channel < 8)
    (hstate : (s.ddr channel).state = .service ∨ (s.ddr channel).state = .paused) :
    ¬(8 ≤ channel ∨ ((s.ddr channel).state ≠ .service ∧ (s.ddr channel).state ≠ .paused)) := by
  rw [not_or, not_and_or, not_not, not_not]
  exact ⟨Nat.not_le.mpr hchannel, hstate⟩

section
variable {t channel : Nat} {r s : State} (hs : s = r.land t) (hchannel : channel < 8)
include hs hchannel

section
variable {bank : Nat} (hstate : (s.ddr channel).state = .service ∨ (s.ddr channel).state = .paused)
include hstate

/-- R340: a refresh at its interval pays back one that is owed. -/
theorem execDdrRefresh_due : execDdrRefresh t channel bank 0 r = .next (s.modDdr channel fun x =>
    { x with
      owed := Table.set 4 x.owed bank
        (if 4 < Table.get 4 (s.ddr channel).owed bank then Table.get 4 (s.ddr channel).owed bank - 1
          else Table.get 4 (s.ddr channel).owed bank)
      openRows := Table.erase x.openRows bank
      accessed := Table.erase x.accessed bank }) := by
  have hrefreshes := State.not_unrefreshed hchannel hstate
  subst hs
  exact congrArg _ (if_neg hrefreshes)

/-- R340: a refresh ahead of its interval, while fewer than four are ahead. -/
theorem execDdrRefresh_ahead (hroom : 0 < Table.get 4 (s.ddr channel).owed bank) :
    execDdrRefresh t channel bank 1 r = .next (s.modDdr channel fun x =>
      { x with
        owed := Table.set 4 x.owed bank (Table.get 4 (s.ddr channel).owed bank - 1)
        openRows := Table.erase x.openRows bank
        accessed := Table.erase x.accessed bank }) := by
  have hrefreshes := State.not_unrefreshed hchannel hstate
  subst hs
  simp only [execDdrRefresh, if_neg hrefreshes, hroom, OfNat.one_ne_ofNat, if_false, if_true]

/-- R340: a refresh is postponed while fewer than four are owed. -/
theorem execDdrRefresh_postponed (hroom : Table.get 4 (s.ddr channel).owed bank < 8) :
    execDdrRefresh t channel bank 2 r = .next (s.modDdr channel fun x =>
      { x with owed := Table.set 4 x.owed bank (Table.get 4 (s.ddr channel).owed bank + 1) }) := by
  have hrefreshes := State.not_unrefreshed hchannel hstate
  subst hs
  simp only [execDdrRefresh, if_neg hrefreshes, hroom, if_true]

end

/-- R340: a hot DRAM halves its channel's refresh interval. -/
theorem execDramTempRead_of_channel {hot : Bool} :
    execDramTempRead t channel hot r = .next (s.modDdr channel fun x => { x with halved := hot }) := by
  subst hs
  exact congrArg _ (if_pos hchannel)

/-- R337: an open row that idled is closed. -/
theorem execPageClose_of_idle {bank : Nat} (hopen : ((s.ddr channel).openRows.any fun p => p.1 == bank) = true)
    (hidle : Table.get 0 (s.ddr channel).accessed bank + s.val Obj.memDdPageIdleNs ≤ s.now) :
    execPageClose t channel bank r = .next (s.modDdr channel fun x =>
      { x with openRows := Table.erase x.openRows bank, accessed := Table.erase x.accessed bank }) := by
  subst hs
  exact congrArg _ (if_pos ⟨hchannel, hopen, hidle⟩)

end

/-- R352: MEM_GR_SELFTEST of a bank that is not retired drains it, where no bank is under test. -/
theorem memGrSelftest_of_free {v : Nat} {s : State}
    (hfree : ((List.range 32).any fun b => s.bank b == .draining || s.bank b == .testing) = false) (hkept : s.bank v ≠ .retired) :
    memGrSelftest v s = (s.setBank v .draining, .ok) := by
  simp only [memGrSelftest, hfree, hkept, Bool.false_eq_true, if_false]

section
variable {t bank : Nat} {r s : State} (hs : s = r.land t) (hbank : bank < 32)
include hs hbank

/-- R352: a drained bank without a staging line starts its test. -/
theorem execGristTestStart_of_drained (hdraining : s.bank bank = .draining)
    (hnone : (s.mem.staging.any fun l => l.bank == bank) = false) :
    execGristTestStart t bank r =
      .next { s.setBank bank .testing with mem := { (s.setBank bank .testing).mem with testFrom := s.now } } := by
  subst hs
  exact congrArg _ (if_pos ⟨hbank, hdraining, hnone⟩)

/-- R352: 2 ms after its start the test of a bank ends. -/
theorem execGristTestDone_of_due {passed : Bool} (htesting : s.bank bank = .testing) (hdue : s.mem.testFrom + 2000000 ≤ s.now) :
    execGristTestDone t bank passed r = .next (if passed then s.setBank bank .service else s.retireBank bank) := by
  have hends : ¬(32 ≤ bank ∨ s.bank bank ≠ .testing ∨ s.now < s.mem.testFrom + 2000000) := by
    rw [not_or, not_or, not_not]
    exact ⟨Nat.not_le.mpr hbank, htesting, Nat.not_lt.mpr hdue⟩
  subst hs
  exact congrArg _ (if_neg hends)

end

/-- Settles O31: each clause is the lemma of its command; an arbitration splits on whether a row won. -/
theorem refreshArbitrationAndTestCommandsTakeEffect : Obligations.RefreshArbitrationAndTestCommandsTakeEffect := by
  unfold Obligations.RefreshArbitrationAndTestCommandsTakeEffect
  refine ⟨?due, ?ahead, ?postponed, ?temperature, ?page, ?arbitration, ?priority, ?selftest, ?testStart, ?testDone⟩
  case due =>
    intro t channel bank r s hs hchannel hstate
    exact execDdrRefresh_due hs hchannel hstate
  case ahead =>
    intro t channel bank r s hs hchannel hstate hroom
    exact execDdrRefresh_ahead hs hchannel hstate hroom
  case postponed =>
    intro t channel bank r s hs hchannel hstate hroom
    exact execDdrRefresh_postponed hs hchannel hstate hroom
  case temperature =>
    intro t channel hot r s hs hchannel
    exact execDramTempRead_of_channel hs hchannel
  case page =>
    intro t channel bank r s hs hchannel hopen hidle
    exact execPageClose_of_idle hs hchannel hopen hidle
  case arbitration =>
    rintro t channel requests panic emergency beat r s rfl hchannel
    have hserves : ¬(24 ≤ channel ∨ (12 ≤ channel ∧ channel < 16)) := by omega
    refine (if_neg hserves).trans ?_
    dsimp only
    split <;> next hwon => simp only [hwon]
  case priority =>
    rintro t who row v r s rfl haccepted
    exact objectCommand_keeps haccepted rfl rfl
  case selftest =>
    rintro t who v r s rfl haccepted hfree hkept
    exact objectCommand_takes haccepted rfl (memGrSelftest_of_free hfree hkept)
  case testStart =>
    intro t bank r s hs hbank hdraining hnone
    exact execGristTestStart_of_drained hs hbank hdraining hnone
  case testDone =>
    intro t bank passed r s hs hbank htesting hdue
    exact execGristTestDone_of_due hs hbank htesting hdue

end Sys2Proof.Machine
end

section
/-! PROOFS. The Sparge, Kegs and Wort lines family, Keg pools: the search for a free buffer (R371, R375) finds the lowest one, and none only
where no buffer is free; and a request that meets no other is granted what the search finds (R371, R372). -/
set_option Elab.async false
namespace Sys2Proof.Machine

/-! ### The search (R371, R375) -/

/-- A row that does not read as the default is listed. -/
theorem Table.mem_keys_of_get_ne {α : Type} {d : α} {m : Table α} {k : Nat} (h : Table.get d m k ≠ d) : k ∈ m.map Prod.fst := by
  induction m with
  | nil => exact absurd rfl h
  | cons p m ih =>
    by_cases hkey : p.1 = k
    · exact List.mem_cons.mpr (.inl hkey.symm)
    · rw [Table.get, if_neg hkey] at h
      exact List.mem_cons_of_mem _ (ih h)

/-- Whether buffer `x` of a pool may not be granted: it is in use or withdrawn. -/
def State.kegTaken (s : State) (pool x : Nat) : Prop :=
  s.kegUses (kegHandle pool x) ≠ 0 ∨ s.kegWithdrawn (kegHandle pool x) = true

/-- The handles that the use counts and the withdrawn state words list. -/
def Keg.listed (k : Keg) : List Nat := k.uses.map Prod.fst ++ k.withdrawn.flatMap fun g => List.range' (16 * g) 16

theorem Keg.length_listed (k : Keg) : k.listed.length = k.uses.length + 16 * k.withdrawn.length := by
  simp only [Keg.listed, List.length_append, List.length_map, List.length_flatMap, List.length_range', List.map_const',
    List.sum_replicate, smul_eq_mul]
  omega

section
variable {s : State} {pool : Nat}

theorem State.kegTaken_iff {x : Nat} :
    s.kegTaken pool x ↔ ¬(s.kegUses (kegHandle pool x) = 0 ∧ (!s.kegWithdrawn (kegHandle pool x)) = true) := by
  rw [State.kegTaken, Bool.not_eq_true', not_and_or, Bool.not_eq_false]

/-- The handle of a buffer that may not be granted is listed. -/
theorem State.kegTaken.listed {x : Nat} (h : s.kegTaken pool x) : kegHandle pool x ∈ s.keg.listed := by
  rcases h with huses | hwithdrawn
  · exact List.mem_append_left _ (Table.mem_keys_of_get_ne huses)
  · refine List.mem_append_right _ (List.mem_flatMap.mpr ⟨_, List.contains_iff_mem.mp hwithdrawn, ?_⟩)
    rw [List.mem_range'_1]
    omega

/-- Fewer buffers than the fuel of the search are in use or withdrawn. -/
theorem State.kegTaken_length_le {n : Nat} (h : ∀ x < n, s.kegTaken pool x) :
    n ≤ s.keg.uses.length + 16 * s.keg.withdrawn.length := by
  have hinjective : Function.Injective (kegHandle pool) := fun _ _ => Nat.add_left_cancel
  have hsubset : (List.range n).map (kegHandle pool) ⊆ s.keg.listed := by
    intro k hk
    obtain ⟨x, hx, rfl⟩ := List.mem_map.mp hk
    exact (h x (List.mem_range.mp hx)).listed
  have hlength := (List.subperm_of_subset (List.nodup_range.map hinjective) hsubset).length_le
  rwa [List.length_map, List.length_range, Keg.length_listed] at hlength

/-- The search answers the first free buffer from `from_` on. -/
theorem State.kegLowest_some {fuel from_ x : Nat} (h : s.kegLowest pool fuel from_ = some x) :
    from_ ≤ x ∧ x < s.kegCount pool ∧ ¬s.kegTaken pool x ∧ ∀ y, from_ ≤ y → y < x → s.kegTaken pool y := by
  induction fuel generalizing from_ with
  | zero => cases h
  | succ fuel ih =>
    rw [State.kegLowest] at h
    split at h
    · cases h
    · next hbelow =>
      split at h
      · next hfree =>
        obtain rfl := Option.some.inj h
        exact ⟨le_rfl, Nat.not_le.mp hbelow, fun htaken => State.kegTaken_iff.mp htaken hfree, fun y hfrom hlt => by omega⟩
      · next htaken =>
        obtain ⟨hfrom, hcount, hfree, hbefore⟩ := ih h
        refine ⟨by omega, hcount, hfree, fun y hy hlt => ?_⟩
        rcases Nat.eq_or_lt_of_le hy with rfl | hlater
        · exact State.kegTaken_iff.mpr htaken
        · exact hbefore y hlater hlt

/-- A search that answers none has found every buffer it looked at in use or withdrawn. -/
theorem State.kegLowest_none {fuel from_ : Nat} (h : s.kegLowest pool fuel from_ = none) {y : Nat} (hfrom : from_ ≤ y)
    (hreach : y < from_ + fuel) (hbelow : y < s.kegCount pool) : s.kegTaken pool y := by
  induction fuel generalizing from_ with
  | zero => omega
  | succ fuel ih =>
    rw [State.kegLowest, if_neg (by omega)] at h
    split at h
    · cases h
    · next hfree =>
      rcases Nat.eq_or_lt_of_le hfrom with rfl | hlater
      · exact State.kegTaken_iff.mpr hfree
      · exact ih h hlater (by omega)

/-- R371: the Keg finds the lowest buffer that is neither in use nor withdrawn. -/
theorem State.kegFirstFree_some {x : Nat} (h : s.kegFirstFree pool = some x) :
    x < s.kegCount pool ∧ ¬s.kegTaken pool x ∧ ∀ y < x, s.kegTaken pool y := by
  obtain ⟨-, hcount, hfree, hbefore⟩ := State.kegLowest_some h
  exact ⟨hcount, hfree, fun y => hbefore y (Nat.zero_le y)⟩

/-- R371: where the Keg finds none, no buffer is free: the search looks at more of them than can be in use or withdrawn. -/
theorem State.kegFirstFree_none (h : s.kegFirstFree pool = none) {y : Nat} (hbelow : y < s.kegCount pool) : s.kegTaken pool y := by
  have hseen := fun z => State.kegLowest_none (y := z) h (Nat.zero_le z)
  by_contra hfree
  have hbeyond : ∀ z < s.keg.uses.length + 16 * s.keg.withdrawn.length + 1, s.kegTaken pool z := by
    intro z hz
    by_contra hz'
    refine hfree (hseen y ?_ hbelow)
    by_contra hy
    exact hz' (hseen z (by omega) (by omega))
  exact Nat.not_succ_le_self _ (State.kegTaken_length_le hbeyond)

/-! ### A request alone at its pool (R371, R372) -/

/-- A new request of a port for a pool. -/
def State.kegRequest (s : State) (port pool : Nat) (spill : Bool) : KegReq :=
  { port := port, pool := pool, spill := spill, spilled := false, since := s.now, first := pool, born := s.now }

/-- The state in which a request waits too. -/
def State.kegAwaits (s : State) (q : KegReq) : State := { s with keg := { s.keg with waiting := s.keg.waiting ++ [q] } }

/-- R371: buffer `x` of a pool is granted to a port, whose turn it was. -/
def State.kegGrant (s : State) (pool port x : Nat) : State :=
  let u := s.kegSetUses (kegHandle pool x) 1
  { u with keg := u.keg.granted pool port }

theorem State.kegAsk_of_size {port size : Nat} {spill : Bool} (hsize : 0 < size) (hpool : kegFirstPool size = some pool) :
    s.kegAsk port size spill = s.kegAwaits (s.kegRequest port pool spill) := by
  simp only [State.kegAsk, if_neg (Nat.ne_of_gt hsize), hpool]
  rfl

theorem State.kegServe_of_none {ecc : Nat} (h : s.kegCompeting pool = []) : s.kegServe pool ecc = s := by
  simp only [State.kegServe, h, Keg.firstOf]

/-- R371: a request of one pool competes there, and nowhere else. -/
theorem State.kegCompeting_awaits {q : KegReq} (hsince : q.since ≤ s.now) :
    (s.kegAwaits q).kegCompeting pool = s.kegCompeting pool ++ if q.pool = pool then [q] else [] := by
  refine (List.filter_append ..).trans (congrArg _ ?_)
  by_cases hq : q.pool = pool
  · rw [if_pos hq]
    exact List.filter_cons_of_pos (decide_eq_true ⟨hq, hsince⟩)
  · rw [if_neg hq]
    exact List.filter_cons_of_neg fun h => hq (of_decide_eq_true h).1

/-- R371: a pool that serves one request and no other grants it the buffer found, and answers its handle. -/
theorem State.kegServe_of_alone {q : KegReq} {x : Nat} (hnone : s.kegCompeting pool = []) (hpool : q.pool = pool)
    (hsince : q.since ≤ s.now) (hspilled : q.spilled = false) (hfree : s.kegFirstFree pool = some x) :
    (s.kegAwaits q).kegServe pool 0 = (s.kegGrant pool q.port x).send (.handle q.port (kegHandle pool x)) := by
  have halone : (s.kegAwaits q).kegCompeting pool = [q] := by
    rw [State.kegCompeting_awaits hsince, hnone, if_pos hpool, List.nil_append]
  have hnew : q ∉ s.keg.waiting := by
    intro hwaits
    have hcompetes : q ∈ s.kegCompeting pool := List.mem_filter.mpr ⟨hwaits, decide_eq_true ⟨hpool, hsince⟩⟩
    rw [hnone] at hcompetes
    exact List.not_mem_nil hcompetes
  have herase : (s.kegAwaits q).keg.waiting.erase q = s.keg.waiting := by
    rw [State.kegAwaits, List.erase_append_right _ hnew, List.erase_cons_head, List.append_nil]
  have htry : s.kegTry q.port pool false 0 = (s.kegGrant pool q.port x, some (kegHandle pool x)) := by
    simp only [State.kegTry, hfree, OfNat.zero_ne_ofNat, if_false, State.kegGrant, State.when, Bool.false_eq_true]
  have hleaves : ({ s.kegAwaits q with keg := { (s.kegAwaits q).keg with waiting := s.keg.waiting } } : State) = s := rfl
  simp only [State.kegServe, halone, Keg.firstOf, List.erase_cons_head, List.foldl_nil, ite_self, hspilled, herase, hleaves, htry,
    State.kegAnswer]

/-- R371: pools for which nothing competes serve nothing. -/
theorem foldl_kegServe_of_none {pools : List Nat} {ecc : Nat → Nat} (h : ∀ p ∈ pools, s.kegCompeting p = []) :
    pools.foldl (fun s p => s.kegServe p (ecc p)) s = s := by
  induction pools with
  | nil => rfl
  | cons p pools ih =>
    rw [List.foldl_cons, State.kegServe_of_none (h p List.mem_cons_self)]
    exact ih fun q hq => h q (List.mem_cons_of_mem _ hq)

theorem State.kegUses_kegGrant {port x : Nat} : (s.kegGrant pool port x).kegUses (kegHandle pool x) = 1 := by
  simp only [State.kegUses, State.kegGrant, State.kegSetUses, Keg.granted, Table.get_set, if_true]

/-- R371, R372: of a cycle with one request, the request is granted the buffer that the Keg finds. -/
theorem execAllocate_of_alone {t port size x : Nat} {spill : Bool} {r : State} (hs : s = r.land t) (hsize : 0 < size)
    (hpool : kegFirstPool size = some pool) (hnone : ∀ p, s.kegCompeting p = []) (hfree : s.kegFirstFree pool = some x) :
    execAllocate t port size spill ⟨0, []⟩ r = .next ((s.kegGrant pool port x).send (.handle port (kegHandle pool x))) := by
  subst hs
  have hmem : pool ∈ List.range 5 := List.mem_of_find?_eq_some hpool
  obtain ⟨before, after, hsplit⟩ := List.append_of_mem hmem
  have hnodup : (before ++ pool :: after).Nodup := hsplit ▸ List.nodup_range
  have hbefore : ∀ p ∈ before, ((r.land t).kegAwaits ((r.land t).kegRequest port pool spill)).kegCompeting p = [] := by
    intro p hp
    have hother : p ≠ pool := (List.nodup_append.mp hnodup).2.2 p hp pool List.mem_cons_self
    rw [State.kegCompeting_awaits le_rfl, hnone, List.nil_append]
    exact if_neg hother.symm
  have hafter : ∀ p ∈ after, (((r.land t).kegGrant pool port x).send (.handle port (kegHandle pool x))).kegCompeting p = [] := by
    intro p _
    rw [State.kegCompeting, State.send_keg, State.send_now]
    exact hnone p
  refine congrArg Host.Outcome.next ?_
  simp only [List.foldl_nil, State.kegAsk_of_size hsize hpool, ite_self, hsplit, List.foldl_append, List.foldl_cons]
  rw [foldl_kegServe_of_none hbefore, State.kegServe_of_alone (hnone pool) rfl le_rfl rfl hfree]
  exact foldl_kegServe_of_none hafter

end

/-- Settles O51: the search is the lowest free buffer's, or none where all are taken, and a request alone is granted it. -/
theorem kegGrantsTheLowestFreeBuffer : Obligations.KegGrantsTheLowestFreeBuffer := by
  unfold Obligations.KegGrantsTheLowestFreeBuffer
  refine ⟨fun s pool x hfound => ?_, fun s pool hnone y => State.kegFirstFree_none hnone, ?_⟩
  · obtain ⟨hcount, hfree, hbefore⟩ := State.kegFirstFree_some hfound
    obtain ⟨hunused, hkept⟩ := not_or.mp hfree
    exact ⟨hcount, not_not.mp hunused, Bool.not_eq_true _ ▸ hkept, hbefore⟩
  · intro t port size spill r s pool x hs hsize hpool hnone hfree
    exact ⟨s.kegGrant pool port x, execAllocate_of_alone hs hsize hpool hnone hfree, State.kegUses_kegGrant⟩

/-! ### Frees and takes (R374) -/

section
variable {s : State} {handle ecc : Nat}

/-- R374: a free or a take of a valid handle in use acts. -/
theorem State.kegChecked_of_used {port : Nat} {f : State → State} (hvalid : s.handleValid handle = true)
    (hkept : s.kegWithdrawn handle = false) (hused : s.kegUses handle ≠ 0) (hecc : ecc ≠ 2) :
    s.kegChecked port handle ecc f = f s := by
  simp only [State.kegChecked, hvalid, hecc, hkept, hused, Bool.true_eq_false, Bool.false_eq_true, if_false]

end

/-- Settles O33: the pools of a cycle serve as the command says; frees and takes are the checks of R374, which a handle in use passes. -/
theorem kegCommandsTakeEffect : Obligations.KegCommandsTakeEffect := by
  unfold Obligations.KegCommandsTakeEffect
  refine ⟨?allocate, ?spill, ?free, ?doubleFree, ?badFree, ?take, ?fullTake⟩
  case allocate =>
    rintro t port size spill cycle r s rfl
    rfl
  case spill =>
    rintro t port pool ecc r s rfl hcompetes
    exact if_pos hcompetes
  case free =>
    rintro t port handle ecc r s rfl hvalid hkept hused hecc
    exact congrArg _ (State.kegChecked_of_used hvalid hkept hused hecc)
  case doubleFree =>
    rintro t port handle ecc r s rfl hvalid hkept hunused hecc
    refine congrArg Host.Outcome.next ?_
    simp only [State.kegFree, State.kegChecked, hvalid, hecc, hkept, hunused, Bool.true_eq_false, Bool.false_eq_true, if_false, if_true]
  case badFree =>
    rintro t port handle ecc r s rfl hinvalid
    exact congrArg _ (if_pos hinvalid)
  case take =>
    rintro t port handle ecc r s rfl hvalid hkept hused hecc hroom
    exact (congrArg Host.Outcome.next (State.kegChecked_of_used hvalid hkept hused hecc)).trans
      (congrArg _ (if_neg (Nat.not_le.mpr hroom)))
  case fullTake =>
    rintro t port handle ecc r s rfl hvalid hkept hfull hecc
    exact (congrArg Host.Outcome.next (State.kegChecked_of_used hvalid hkept (by omega) hecc)).trans
      (congrArg _ (if_pos hfull))

end Sys2Proof.Machine
end

section
/-! PROOFS. The Sparge, Kegs and Wort lines family, Wort lines (R376 to R379): every way in which a push changes a line keeps it within its
depth, and on a credit-mode line nothing is lost. -/
set_option Elab.async false
namespace Sys2Proof.Machine

/-! ### A line after it was replaced -/

section
variable {s : State} {line : Nat} {l : WortLine}

theorem State.wortLine_setWort_of_ne {m : Nat} (h : m ≠ line) : (s.setWort line l).wortLine m = s.wortLine m :=
  (Table.get_set ..).trans (if_neg h)

/-- A line replaced is the line written but for the fills it records. -/
theorem State.wortLine_setWort_self : ∃ levels, (s.setWort line l).wortLine line = { l with levels := levels } := by
  have hread : ∀ x : WortLine, Table.get WortLine.empty (Table.set WortLine.empty s.wort line x) line = x := fun x =>
    (Table.get_set ..).trans (if_pos rfl)
  unfold State.setWort State.wortLine
  dsimp only
  split
  · exact ⟨l.levels, hread _⟩
  · exact ⟨_, hread _⟩

theorem State.fill_setWort_self : ((s.setWort line l).wortLine line).fill = l.fill := by
  obtain ⟨levels, hread⟩ := State.wortLine_setWort_self (s := s) (line := line) (l := l)
  rw [hread]
  rfl

end

/-- Messages that enter add at most their words to a line's fill. -/
theorem WortLine.fill_append_le (l : WortLine) (ms : List WortMsg) :
    ({ l with msgs := l.msgs ++ ms } : WortLine).fill ≤ l.fill + (ms.map WortMsg.size).sum := by
  simp only [WortLine.fill, List.map_append, List.sum_append]
  omega

/-! ### What keeps every line within its depth (R376) -/

/-- Every line within its depth in `s` is within it in `u`. -/
def State.KeepsDepth (s u : State) : Prop := ∀ m, (s.wortLine m).fill ≤ wortDepth m → (u.wortLine m).fill ≤ wortDepth m

theorem State.KeepsDepth.refl (s : State) : s.KeepsDepth s := fun _ => id

theorem State.KeepsDepth.trans {s u v : State} (hsu : s.KeepsDepth u) (huv : u.KeepsDepth v) : s.KeepsDepth v :=
  fun m hm => huv m (hsu m hm)

/-- A line may be replaced by one within its depth. -/
theorem State.setWort_keepsDepth {s : State} {line : Nat} {l : WortLine}
    (h : (s.wortLine line).fill ≤ wortDepth line → l.fill ≤ wortDepth line) : s.KeepsDepth (s.setWort line l) := by
  intro m hm
  by_cases hline : m = line
  · subst hline
    rw [State.fill_setWort_self]
    exact h hm
  · rwa [State.wortLine_setWort_of_ne hline]

section
variable (s : State) (line : Nat)

theorem State.count_keepsDepth (o : Obj) (row : Nat) : s.KeepsDepth (s.count o row) := by
  intro m hm
  rwa [State.wortLine, State.count_wort]

/-- R377: a message enters a credit-mode line where its words have room. -/
theorem State.pushCredit_keepsDepth (words : List Nat) : s.KeepsDepth (s.pushCredit line words) := by
  unfold State.pushCredit
  dsimp only
  split
  · next hroom =>
    refine State.setWort_keepsDepth fun _ => (WortLine.fill_append_le ..).trans ?_
    exact hroom.2
  · exact State.setWort_keepsDepth id

theorem State.report_keepsDepth (source : Nat) (k : Kind) (address detail : Nat) : s.KeepsDepth (s.report source k address detail) := by
  have hpushed := s.pushCredit_keepsDepth (faultLine source) (faultMsg source k address detail).words
  unfold State.report State.reportMsg
  dsimp only
  split
  · exact hpushed
  · exact hpushed

/-- R378: a message enters a drop-mode line where more than its words have room, which covers the marker before it. -/
theorem State.pushDrop_keepsDepth (words : List Nat) : s.KeepsDepth (s.pushDrop line words) := by
  unfold State.pushDrop
  extract_lets l mark entered due counted
  split
  · have hset : s.KeepsDepth (s.setWort line { l with flushed := l.flushed + 1 }) := State.setWort_keepsDepth fun h => h
    exact hset.trans (State.count_keepsDepth _ _ _)
  · split
    · next hroom =>
      have hmark : (mark.map WortMsg.size).sum ≤ 1 := by
        simp only [mark]
        split <;> simp [WortMsg.size]
      have hentered : s.KeepsDepth entered := by
        refine State.setWort_keepsDepth fun _ => ?_
        have hfill := l.fill_append_le (mark ++ [{ words := words, marker := false, bad := false }])
        simp only [List.map_append, List.sum_append, List.map_cons, List.map_nil, List.sum_singleton, WortMsg.size, ← List.append_assoc]
          at hfill hmark
        exact hfill.trans (by omega)
      split
      · exact hentered
      · exact hentered.trans (State.count_keepsDepth _ _ _)
    · have hset : s.KeepsDepth (s.setWort line
          { l with dropRun := l.dropRun + 1, lastGapDrop := if due then some s.now else l.lastGapDrop }) :=
        State.setWort_keepsDepth fun h => h
      have hcounted : s.KeepsDepth counted := hset.trans (State.count_keepsDepth _ _ _)
      split
      · exact hcounted.trans (State.report_keepsDepth _ _ _ _ _)
      · exact hcounted

/-- R376: a push keeps every line within its depth, whatever its mode. -/
theorem State.push_keepsDepth (words : List Nat) : s.KeepsDepth (s.push line words) := by
  unfold State.push
  split
  · exact s.pushDrop_keepsDepth line words
  · exact s.pushCredit_keepsDepth line words

end

/-! ### PUSH (R376 to R378) -/

/-- R377: the message enters the line or waits for it, behind all that came before. -/
theorem State.pushCredit_order (s : State) (line : Nat) (words : List Nat) :
    ((s.pushCredit line words).wortLine line).msgs ++ ((s.pushCredit line words).wortLine line).waiting =
      (s.wortLine line).msgs ++ (s.wortLine line).waiting ++ [{ words := words, marker := false, bad := false }] := by
  unfold State.pushCredit
  extract_lets l m
  split
  · next hroom =>
    obtain ⟨levels, hread⟩ := State.wortLine_setWort_self (s := s) (line := line) (l := { l with msgs := l.msgs ++ [m] })
    have hnone : l.waiting = [] := List.isEmpty_iff.mp hroom.1
    rw [hread]
    change l.msgs ++ [m] ++ l.waiting = l.msgs ++ l.waiting ++ [m]
    rw [hnone, List.append_nil, List.append_nil]
  · obtain ⟨levels, hread⟩ := State.wortLine_setWort_self (s := s) (line := line) (l := { l with waiting := l.waiting ++ [m] })
    rw [hread, List.append_assoc]

section
variable {t line : Nat} {words : List Nat} {r s : State} (hs : s = r.land t) (hline : line < 128) (hlow : 1 ≤ words.length)
  (hhigh : words.length ≤ 8)
include hs hline hlow hhigh

/-- R376: a message of 1 to 8 words is pushed by the line's mode. -/
theorem execPush_of_message : execPush t line words r = .next (s.push line (words.map (· % 2 ^ 64))) := by
  subst hs
  simp only [execPush, State.when, hline, hlow, hhigh, decide_true, Bool.and_self, if_true]

theorem execPush_of_credit (hmode : wortDropMode line = false) :
    execPush t line words r = .next (s.pushCredit line (words.map (· % 2 ^ 64))) := by
  rw [execPush_of_message hs hline hlow hhigh, State.push, hmode, if_neg Bool.false_ne_true]

theorem execPush_of_drop (hmode : wortDropMode line = true) :
    execPush t line words r = .next (s.pushDrop line (words.map (· % 2 ^ 64))) := by
  rw [execPush_of_message hs hline hlow hhigh, State.push, hmode, if_pos rfl]

end

/-- A PUSH keeps every line within its depth. -/
theorem execPush_keepsDepth {t line : Nat} {words : List Nat} {r u : State} (h : execPush t line words r = .next u) :
    (r.land t).KeepsDepth u := by
  obtain rfl := Host.Outcome.next.inj h
  unfold State.when
  split
  · exact State.push_keepsDepth _ _ _
  · exact .refl _

/-- Settles O52: each way a push changes a line keeps the depths, and a credit-mode line keeps its order. -/
theorem pushKeepsEveryLineWithinItsDepth : Obligations.PushKeepsEveryLineWithinItsDepth := by
  unfold Obligations.PushKeepsEveryLineWithinItsDepth
  refine ⟨fun t line words r u hnext => execPush_keepsDepth hnext, ?_⟩
  intro t line words r s hs hline hlow hhigh hmode
  exact ⟨_, execPush_of_credit hs hline hlow hhigh hmode, State.pushCredit_order ..⟩

/-! ### Single results (R376 to R379) -/

/-- R377: with room and nothing waiting, the message is queued. -/
theorem State.pushCredit_of_room {s : State} {line : Nat} {words : List Nat} (hnone : (s.wortLine line).waiting = [])
    (hroom : (s.wortLine line).fill + words.length ≤ wortDepth line) :
    s.pushCredit line words =
      s.setWort line { s.wortLine line with msgs := (s.wortLine line).msgs ++ [{ words := words, marker := false, bad := false }] } :=
  if_pos ⟨List.isEmpty_iff.mpr hnone, hroom⟩

/-- R378: without room the message is dropped. -/
theorem State.pushDrop_of_full {s : State} {line : Nat} {words : List Nat} (hflush : (s.wortLine line).flushing = false)
    (hfull : wortDepth line ≤ (s.wortLine line).fill + words.length) :
    s.pushDrop line words = (
      let due := (s.wortLine line).lastGapDrop.all fun at_ => decide (at_ + giga ≤ s.now)
      let l := { s.wortLine line with
        dropRun := (s.wortLine line).dropRun + 1, lastGapDrop := if due then some s.now else (s.wortLine line).lastGapDrop }
      let u := (s.setWort line l).count Obj.wrtDrops line
      if due then u.report 0x5A0 .gapDrop 0 line else u) := by
  simp only [State.pushDrop, hflush, Bool.false_eq_true, if_false, Nat.not_lt.mpr hfull]

/-- R376: without an ECC error the next word of the oldest message leaves. -/
theorem execPop_of_sound {t line ecc : Nat} {m : WortMsg} {rest : List WortMsg} {r s : State} (hs : s = r.land t)
    (hmsgs : (s.wortLine line).msgs = m :: rest) (hcorrected : ecc ≠ 1) (huncorrected : ecc ≠ 2) :
    execPop t line ecc r = .next (
      let l := { s.wortLine line with popped := (s.wortLine line).popped + 1 }
      (s.setWort line (if m.size ≤ l.popped then l.dropFirst (wortDepth line) else l)).send
        (.word line (m.words.getD (s.wortLine line).popped 0) m.marker m.bad)) := by
  have hsound : s.wortEcc line ecc = s := (if_neg hcorrected).trans (if_neg huncorrected)
  subst hs
  simp only [execPop, hsound, hmsgs, List.isEmpty_cons, Bool.false_eq_true, if_false, Nat.add_sub_cancel]

section
variable {line : Nat} {s : State} (hmode : wortDropMode line = true)
include hmode

/-- R379: a flush begins. -/
theorem wortFlushSet_of_running (hflush : (s.wortLine line).flushing = false) :
    wortFlushSet line s = (
      let l := s.wortLine line
      let kept := if l.popped = 0 then [] else l.msgs.take 1
      (s.setWort line { l with msgs := kept, flushing := true, flushed := l.msgs.length - kept.length }).put Obj.wrtFlush line 1,
      .ok) := by
  simp only [wortFlushSet, hmode, hflush, Bool.true_eq_false, Bool.false_eq_true, if_false]

/-- R379: a flush ends with a marker. -/
theorem wortFlushClear_of_flushing (hflush : (s.wortLine line).flushing = true) :
    wortFlushClear line s = (
      let l := s.wortLine line
      ((s.setWort line { l with msgs := l.msgs ++ [wortMarker l.flushed], flushing := false, flushed := 0 }).count
        Obj.wrtMarkers line).put Obj.wrtFlush line 0,
      .ok) := by
  simp only [wortFlushClear, hmode, hflush, Bool.true_eq_false, if_false, if_true]

end

/-- Settles O34: each clause is the lemma of what the push, the pop or the flush does there. -/
theorem wortCommandsTakeEffect : Obligations.WortCommandsTakeEffect := by
  unfold Obligations.WortCommandsTakeEffect
  refine ⟨?queued, ?dropped, ?flushed, ?pop, ?flushSet, ?flushClear⟩
  case queued =>
    intro t line words r s hs hline hlow hhigh hmode hnone hroom
    rw [exec, execPush_of_credit hs hline hlow hhigh hmode, State.pushCredit_of_room hnone (by rwa [List.length_map])]
  case dropped =>
    intro t line words r s hs hline hlow hhigh hmode hflush hfull
    rw [exec, execPush_of_drop hs hline hlow hhigh hmode, State.pushDrop_of_full hflush (by rwa [List.length_map])]
  case flushed =>
    intro t line words r s hs hline hlow hhigh hmode hflush
    exact (execPush_of_drop hs hline hlow hhigh hmode).trans (congrArg _ (if_pos hflush))
  case pop =>
    intro t line ecc m rest r s hs hmsgs hcorrected huncorrected
    exact execPop_of_sound hs hmsgs hcorrected huncorrected
  case flushSet =>
    rintro t who line r s rfl haccepted hmode hflush
    exact objectCommand_takes haccepted rfl (wortFlushSet_of_running hmode hflush)
  case flushClear =>
    rintro t who line r s rfl haccepted hmode hflush
    exact objectCommand_takes haccepted rfl (wortFlushClear_of_flushing hmode hflush)

end Sys2Proof.Machine
end

section
/-! PROOFS. The Sparge, Kegs and Wort lines family, bursts (R362 to R367): a burst that writes stores the next bytes of its funnel where its
descriptor aims, and nothing else of a memory changes; and the single results of the Sparge's commands. -/
set_option Elab.async false
namespace Sys2Proof.Machine

/-! ### A write of a space, read back (R326, R362) -/

/-- A row of a table after a write of another row, whatever the defaults. -/
theorem Table.get_set_of_ne {α : Type} [DecidableEq α] (d e : α) {m : Table α} {k j : Nat} {v : α} (h : j ≠ k) :
    Table.get d (Table.set e m k v) j = Table.get d m j := by
  unfold Table.set
  split
  · exact (Table.get_erase ..).trans (if_neg h)
  · exact (Table.get_insert ..).trans (if_neg h)

/-- The count of the Sparge's bytes is no count of a Keg pool. -/
theorem State.kegCount_count_spgBytes (s : State) (n pool : Nat) : (s.count Obj.spgBytes 0 n).kegCount pool = s.kegCount pool := by
  unfold State.kegCount
  split
  · next hpool =>
    have hkey : Obj.kegPoolCountNow.key pool ≠ Obj.spgBytes.key 0 := by
      have hcounts : Obj.kegPoolCountNow.code = 0x343009 := rfl
      have hbytes : Obj.spgBytes.code = 0x340002 := rfl
      simp only [Obj.key, hcounts, hbytes]
      omega
    simp only [State.val, Store.nat, Store.read, State.count_live, Store.write, Table.get_set_of_ne _ _ hkey]
  · rfl

theorem State.spaceByte_count_spgBytes (s : State) (n : Nat) (d : SpargeSide) (j : Nat) :
    (s.count Obj.spgBytes 0 n).spaceByte d j = s.spaceByte d j := by
  have hwork : ∀ k, (s.count Obj.spgBytes 0 n).workByte k = s.workByte k := fun k => by
    rw [State.workByte, State.inBrightCopy, State.count_workMem, State.count_sets, State.count_brew]
    rfl
  have hkeg : ∀ k, (s.count Obj.spgBytes 0 n).kegAddress k = s.kegAddress k := fun k => by
    simp only [State.kegAddress, State.kegBase, State.kegCount_count_spgBytes]
  unfold State.spaceByte
  split
  · exact hwork _
  · rw [State.count_storeMem]
  · rw [State.count_sramMem]
  · rw [hwork, hkeg]
  · rw [State.count_steepMem]
  · rfl

/-- What the Sparge's channels hold is no byte of a space. -/
theorem State.spaceByte_sparge (s : State) (x : Sparge) (d : SpargeSide) (j : Nat) :
    ({ s with sparge := x } : State).spaceByte d j = s.spaceByte d j := rfl

/-- What a write of working memory leaves alone: the objects in force and the other memories. -/
def State.besidesWork (s : State) : Store × Table Byte × Table Byte × Table Byte := (s.live, s.storeMem, s.sramMem, s.steepMem)

theorem State.besidesWork_workPut (s : State) (a : Nat) (v : Byte) : (s.workPut a v).besidesWork = s.besidesWork := by
  unfold State.workPut
  dsimp only
  (repeat' split) <;> rfl

theorem State.besidesWork_workWrite (s : State) (a : Nat) (bs : Bytes) : (s.workWrite a bs).besidesWork = s.besidesWork := by
  induction bs generalizing s a with
  | nil => rfl
  | cons v bs ih => exact (ih _ _).trans (State.besidesWork_workPut s a v)

theorem State.kegAddress_workWrite (s : State) (a : Nat) (bs : Bytes) (k : Nat) : (s.workWrite a bs).kegAddress k = s.kegAddress k := by
  have hlive : (s.workWrite a bs).live = s.live := congrArg Prod.fst (State.besidesWork_workWrite s a bs)
  simp only [State.kegAddress, State.kegBase, State.kegCount, State.val, hlive]

theorem spaces_of_le {n : Nat} (h : n ≤ 4) : n = 0 ∨ n = 1 ∨ n = 2 ∨ n = 3 ∨ n = 4 := by omega

section
variable (s : State) {d : SpargeSide} (hspace : d.space ≤ 4) (a : Nat) (bs : Bytes)
include hspace

/-- R362: a space after a write reads the bytes written, and every other byte as before. -/
theorem State.spaceByte_spaceWrite (j : Nat) : (s.spaceWrite d a bs).spaceByte d j =
    if a ≤ j ∧ j < a + bs.length then bs.getD (j - a) 0 else s.spaceByte d j := by
  rcases spaces_of_le hspace with h | h | h | h | h <;> simp only [State.spaceByte, State.spaceWrite, h]
  case inl => exact State.workByte_workWrite ..
  case inr.inl => exact get_putBytes ..
  case inr.inr.inl => exact get_putBytes ..
  case inr.inr.inr.inl =>
    rw [State.kegAddress_workWrite, State.workByte_workWrite]
    exact if_congr (by omega) (congrArg (bs.getD · 0) (by omega)) rfl
  case inr.inr.inr.inr => exact get_putBytes ..

/-- R362: a write of one space leaves every other memory as it was. -/
theorem State.spaceWrite_frame :
    (d.space ≠ 0 ∧ d.space ≠ 3 → (s.spaceWrite d a bs).workMem = s.workMem ∧ (s.spaceWrite d a bs).sets = s.sets ∧
      (s.spaceWrite d a bs).brew = s.brew) ∧ (d.space ≠ 1 → (s.spaceWrite d a bs).storeMem = s.storeMem) ∧
    (d.space ≠ 2 → (s.spaceWrite d a bs).sramMem = s.sramMem) ∧ (d.space ≠ 4 → (s.spaceWrite d a bs).steepMem = s.steepMem) := by
  have hwork : ∀ b, (s.workWrite b bs).storeMem = s.storeMem ∧ (s.workWrite b bs).sramMem = s.sramMem ∧
      (s.workWrite b bs).steepMem = s.steepMem := fun b => by
    simpa only [State.besidesWork, Prod.mk.injEq] using (Prod.mk.inj (State.besidesWork_workWrite s b bs)).2
  rcases spaces_of_le hspace with h | h | h | h | h <;> simp [State.spaceWrite, h, hwork]

end

/-! ### The decision and the burst (R364 to R366) -/

/-- R365: a channel that a decision passed over. -/
def State.passOver (s : State) (c : Nat) : State := s.setSpargeCh c { s.spargeCh c with passed := (s.spargeCh c).passed + 1 }

/-- R365: the channels passed over differ in the Sparge alone, and no other channel does. -/
theorem foldl_passOver (ready : List Nat) (s : State) : ∃ sparge, ready.foldl State.passOver s = { s with sparge := sparge } ∧
    ∀ c ∉ ready, ({ s with sparge := sparge } : State).spargeCh c = s.spargeCh c := by
  induction ready generalizing s with
  | nil => exact ⟨s.sparge, rfl, fun _ _ => rfl⟩
  | cons c ready ih =>
    obtain ⟨sparge, hfold, hother⟩ := ih (s.passOver c)
    refine ⟨sparge, hfold, fun k hk => ?_⟩
    obtain ⟨hne, hrest⟩ := not_or.mp (hk ∘ List.mem_cons.mpr)
    exact (hother k hrest).trans ((Table.get_set ..).trans (if_neg hne))

section
variable {s : State} {asserted ready : List Nat} {c : Nat} (hchosen : s.spargeChoose ready = some c)
  (hreq : (s.spargeCh c).req = 0 ∨ asserted.contains (s.spargeCh c).req = true)
include hchosen hreq

/-- R365, R366: the channel chosen, whose request line is none or asserted, issues its burst, and the others are passed over. -/
theorem spargeDecide_of_ready (fuel : Nat) : spargeDecide asserted (fuel + 1) ready s =
    ((ready.filter (· != c)).foldl State.passOver s).spargeBurst c := by
  have hready : ¬((s.spargeCh c).req ≠ 0 ∧ asserted.contains (s.spargeCh c).req = false) := by
    rwa [not_and_or, not_not, Bool.not_eq_false]
  simp only [spargeDecide, hchosen]
  exact if_neg hready

end

/-- R364: a burst of a channel that does not read writes the funnel's first bytes, and is counted. -/
theorem State.spargeBurst_of_write {s : State} {c : Nat} (hwrites : (s.spargeCh c).nextReads = false) :
    ∃ sparge ch n, s.spargeBurst c =
      ((({ s with sparge := sparge } : State).spaceWrite (spargeDest (s.spargeCh c).words)
        ((spargeDest (s.spargeCh c).words).at_ (s.spargeCh c).writePos)
        ((s.spargeCh c).funnel.take ((spargeDest (s.spargeCh c).words).accessLength (s.spargeCh c).writePos))).count
          Obj.spgBytes 0 n).setSpargeCh c ch :=
  ⟨_, _, _, if_neg (ne_true_of_eq_false hwrites)⟩

/-- Settles O55: the burst chosen is a write of a space, which reads back as `State.spaceByte_spaceWrite` says; the count of its bytes and
the Sparge's channels are no byte of a memory. -/
theorem burstStoresWhereItAims : Obligations.BurstStoresWhereItAims := by
  unfold Obligations.BurstStoresWhereItAims
  rintro t asserted r s c rfl hchosen hreq hwrites hspace
  obtain ⟨passed, hfold, hother⟩ := foldl_passOver ((r.land t).spargeReady.filter (· != c)) (r.land t)
  have hch := hother c fun hmem => by simpa using (List.mem_filter.mp hmem).2
  obtain ⟨sparge, ch, n, hburst⟩ := State.spargeBurst_of_write (s := { r.land t with sparge := passed }) (hch ▸ hwrites)
  rw [hch] at hburst
  have hnext := (spargeDecide_of_ready hchosen hreq 31).trans ((congrArg (State.spargeBurst · c) hfold).trans hburst)
  refine ⟨_, congrArg Host.Outcome.next hnext, fun j => ?_, ?_⟩
  · rw [State.setSpargeCh, State.spaceByte_sparge, State.spaceByte_count_spgBytes, State.spaceByte_spaceWrite _ hspace]
    rfl
  · simpa only [State.setSpargeCh, State.count_workMem, State.count_sets, State.count_brew, State.count_storeMem, State.count_sramMem,
      State.count_steepMem] using State.spaceWrite_frame { r.land t with sparge := sparge } hspace _ _

/-! ### Single results (R363 to R368) -/

section
variable {t channel : Nat} {r s : State} (hs : s = r.land t)
include hs

/-- R363: a descriptor posted with GO on a free channel starts it, or ends it with a format error. -/
theorem execDescriptorPost_of_free {words : List Nat} (hchannel : channel < 32) (hfree : (s.spargeCh channel).isFree = true)
    (hgo : bit (words.getD 0 0) 0 = true) :
    execDescriptorPost t channel words r = .next (
      if s.spargeFormat words then
        (s.setSpargeCh channel { SpargeChannel.idle with words := words, ended := 3 }).report 0x580 .busErr 0 (4 * 256 + channel)
      else s.setSpargeCh channel
        { SpargeChannel.idle with state := .run, words := words, retriesLeft := bits (words.getD 0 0) 6 4 }) := by
  subst hs
  simp only [execDescriptorPost, State.when, hchannel, hfree, decide_true, Bool.and_self, if_true, State.spargePost, hgo,
    Bool.true_eq_false, if_false]

section
variable {timeout : Bool} {u : State} (hrun : (s.spargeCh channel).state = .run) (hflight : (s.spargeCh channel).flight.isSome = true)
  (hu : u = (s.count Obj.spgBusErrs).spargeUndo channel)
include hrun hflight hu

/-- R367: with retries left, a failed burst waits to be issued again. -/
theorem execBurstFail_of_retries (hretries : 0 < (u.spargeCh channel).retriesLeft) :
    execBurstFail t channel timeout r = .next (u.setSpargeCh channel
      { u.spargeCh channel with state := .retry, retriesLeft := (u.spargeCh channel).retriesLeft - 1, failedAt := u.now }) := by
  subst hu hs
  exact (if_pos ⟨hrun, hflight⟩).trans (if_pos hretries)

/-- R367: without a retry left, the channel halts and its error is reported. -/
theorem execBurstFail_of_exhausted (hretries : (u.spargeCh channel).retriesLeft = 0) :
    execBurstFail t channel timeout r = .next (
      ((u.setSpargeCh channel { u.spargeCh channel with state := .halted, ended := 4 }).put Obj.spgChLastErr channel
        ((u.spargeCh channel).burstAt.2 * 2 ^ 48 + (u.spargeCh channel).burstAt.1 % 2 ^ 48 : Nat)).report 0x580 .busErr
          ((u.spargeCh channel).burstAt.1 % 2 ^ 48) ((if timeout then 2 else 1) * 256 + channel)) := by
  subst hu hs
  exact (if_pos ⟨hrun, hflight⟩).trans (if_neg (Nat.not_lt.mpr (Nat.le_zero.mpr hretries)))

end

/-- R367: 1 µs after its failure a burst is issued again. -/
theorem execBurstRetry_of_due (hretry : (s.spargeCh channel).state = .retry) (hdue : (s.spargeCh channel).failedAt + 1000 ≤ s.now) :
    execBurstRetry t channel r = .next ((s.count Obj.spgChRetries channel).spargeBurst channel) := by
  subst hs
  exact if_pos ⟨hretry, hdue⟩

/-- R368: a channel with everything written is done, and posts the descriptor chained to it. -/
theorem execDescriptorDone_of_written (hrun : (s.spargeCh channel).state = .run)
    (hwritten : (spargeDest (s.spargeCh channel).words).total ≤ (s.spargeCh channel).writePos) :
    execDescriptorDone t channel r = .next (
      let ch := s.spargeCh channel
      let w0 := ch.words.getD 0 0
      let u := s.setSpargeCh channel { ch with state := .done, flight := none, interrupt := ch.interrupt || bit w0 8, ended := 2 }
      let v := u.spargePost channel (u.sramWords (bits w0 47 32 * 64))
      if bit w0 9 then v.setSpargeCh channel { v.spargeCh channel with interrupt := ch.interrupt || bit w0 8 } else u) := by
  subst hs
  exact (if_pos ⟨hrun, hwritten⟩).trans (apply_ite Host.Outcome.next ..).symm

/-- R367: a halted channel issues its burst again. -/
theorem execChannelResume_of_halted (hhalted : (s.spargeCh channel).state = .halted) :
    execChannelResume t channel r = .next ((s.setSpargeCh channel
      { s.spargeCh channel with retriesLeft := bits ((s.spargeCh channel).words.getD 0 0) 6 4, ended := 0 }).spargeBurst channel) := by
  subst hs
  exact if_pos hhalted

/-- R368: a channel aborted is idle. -/
theorem execChannelAbort_of_busy (hbusy : (s.spargeCh channel).state ≠ .idle) :
    execChannelAbort t channel r = .next (s.setSpargeCh channel
      { s.spargeCh channel with state := .idle, flight := none, funnel := [], ended := 5 }) := by
  subst hs
  exact if_neg hbusy

end

/-- R360: a descriptor within the diagnostic window is posted on channel 31. -/
theorem spgDiagDesc_of_window {data : Bytes} {s : State} (hreserved : reservedWords (wordsOf data) = false)
    (hsource : (spargeSource (wordsOf data)).inWindow = true) (hdest : (spargeDest (wordsOf data)).inWindow = true)
    (hfree : (s.spargeCh 31).isFree = true) : spgDiagDesc data s = (s.spargePost 31 (wordsOf data), .ok) := by
  simp only [spgDiagDesc, hreserved, hsource, hdest, hfree, Bool.true_eq_false, Bool.false_eq_true, or_self, if_false]

/-- Settles O32: each clause is the lemma of its command. -/
theorem spargeCommandsTakeEffect : Obligations.SpargeCommandsTakeEffect := by
  unfold Obligations.SpargeCommandsTakeEffect
  refine ⟨?post, ?format, ?req, ?issue, ?failed, ?halts, ?retry, ?done, ?resume, ?abort, ?diag⟩
  case post =>
    intro t channel words r s hs hchannel hfree hgo hformat
    exact (execDescriptorPost_of_free hs hchannel hfree hgo).trans (congrArg _ (if_neg (ne_true_of_eq_false hformat)))
  case format =>
    intro t channel words r s hs hchannel hfree hgo hformat
    exact (execDescriptorPost_of_free hs hchannel hfree hgo).trans (congrArg _ (if_pos hformat))
  case req =>
    rintro t source r s rfl
    rfl
  case issue =>
    rintro t asserted c r s rfl hchosen hreq
    exact congrArg _ (spargeDecide_of_ready hchosen hreq 31)
  case failed =>
    intro t channel timeout r s hs hrun hflight hretries
    exact execBurstFail_of_retries hs hrun hflight rfl hretries
  case halts =>
    intro t channel timeout r s hs hrun hflight hretries
    exact execBurstFail_of_exhausted hs hrun hflight rfl hretries
  case retry =>
    intro t channel r s hs hretry hdue
    exact execBurstRetry_of_due hs hretry hdue
  case done =>
    intro t channel r s hs hrun hwritten
    exact execDescriptorDone_of_written hs hrun hwritten
  case resume =>
    intro t channel r s hs hhalted
    exact execChannelResume_of_halted hs hhalted
  case abort =>
    intro t channel r s hs hbusy
    exact execChannelAbort_of_busy hs hbusy
  case diag =>
    rintro t who data r s rfl haccepted hreserved hsource hdest hfree
    exact objectCommand_takes haccepted rfl (spgDiagDesc_of_window hreserved hsource hdest hfree)

end Sys2Proof.Machine
end

section
/-! PROOFS. The Cellar Watch family, collection and latches: the collector's messages and self-test (R385, R386, R393), SAFE (R394, R395),
latches and acknowledgements (R391, R399), injections and forces (R396, R397). -/
set_option Elab.async false
namespace Sys2Proof.Machine

/-! ### The collector and SAFE (R385, R386, R393 to R395) -/

section
variable {t : Nat} {r s : State} (hs : s = r.land t)
include hs

section
variable {parity : Bool} {line : Nat} {m : WortMsg} {rest : List WortMsg} (hline : s.nextFaultLine = some line)
include hline

/-- R386: the oldest message of the line served leaves it and is collected. -/
theorem execFaultMessage_of_sound {u : State} (hmsgs : (s.wortLine line).msgs = m :: rest) (hsound : m.bad = false)
    (hu : u = s.setWort line ((s.wortLine line).dropFirst (wortDepth line))) :
    execFaultMessage t false parity r =
      .next (State.collect { u with cellar := { u.cellar with lastLine := line } } (FaultMsg.ofWords m.words) parity) := by
  subst hu hs
  simp only [execFaultMessage, hline, hmsgs, hsound, Bool.false_eq_true, if_false]

/-- R386: a message with damaged words leaves its line, and the collector reports itself. -/
theorem execFaultMessage_of_damaged {u v : State} (hv : v = s.wortEcc line 2) (hmsgs : (v.wortLine line).msgs = m :: rest)
    (hdamaged : m.bad = true) (hu : u = v.setWort line ((v.wortLine line).dropFirst (wortDepth line))) :
    execFaultMessage t true parity r =
      .next (State.report { u with cellar := { u.cellar with lastLine := line } } 0x000 .collectorSelf line 3) := by
  subst hu hv hs
  simp only [execFaultMessage, hline, hmsgs, hdamaged, if_true]

end

/-- R393: every CWT_SELFTEST_S the self-test ends the run of failures or adds to it; the second in a row is reported. -/
theorem execCollectorSelftest_of_due {passed : Bool} (hdue : s.cellar.lastSelftest + giga * s.val Obj.cwtSelftestS ≤ s.now) :
    execCollectorSelftest t passed r = .next (
      let fails := if passed then 0 else s.cellar.selftestFails + 1
      let u : State := { s with cellar := { s.cellar with selftestFails := fails, lastSelftest := s.now } }
      if fails = 2 then u.report 0x000 .collectorSelf 0 4 else u) := by
  subst hs
  exact congrArg _ (if_neg (Nat.not_lt.mpr hdue))

/-- R394: the SAFE logic obeys its signal. -/
theorem execSafeEntry_of_signal {m : FaultMsg} (hsignal : s.cellar.safeSignal = some m) : execSafeEntry t r = .next (s.enterSafe m) := by
  subst hs
  simp only [execSafeEntry, hsignal]

end

/-- Settles O35: each clause is the lemma of its command; the two results of a self-test are one lemma. -/
theorem faultCollectionCommandsTakeEffect : Obligations.FaultCollectionCommandsTakeEffect := by
  unfold Obligations.FaultCollectionCommandsTakeEffect
  refine ⟨?sound, ?damaged, ?passed, ?failed, ?safe, ?commanded⟩
  case sound =>
    intro t parity line m rest r s hs hline hmsgs hsound
    exact execFaultMessage_of_sound hs hline hmsgs hsound rfl
  case damaged =>
    intro t parity line m rest r s hs hline hmsgs hdamaged
    exact execFaultMessage_of_damaged hs hline rfl hmsgs hdamaged rfl
  case passed =>
    intro t r s hs hdue
    exact execCollectorSelftest_of_due hs hdue
  case failed =>
    intro t r s hs hdue
    exact execCollectorSelftest_of_due hs hdue
  case safe =>
    intro t m r s hs hsignal
    exact execSafeEntry_of_signal hs hsignal
  case commanded =>
    rintro t who v r s rfl haccepted
    exact objectCommand_takes haccepted rfl rfl

/-! ### Latches and acknowledgements (R391, R399) -/

/-- R391: bit 0 of CWT_CLEAR empties the real latch alone. -/
theorem cwtClear_real (s : State) : cwtClear 1 s =
    (({ s with cellar := { s.cellar with realLatch := { held := none, overflow := false } } } : State).brewRec 0x000 0x008 1, .ok) := rfl

/-- R391: bit 1 of CWT_CLEAR empties the injected latch alone. -/
theorem cwtClear_injected (s : State) : cwtClear 2 s =
    (({ s with cellar := { s.cellar with injLatch := { held := none, overflow := false } } } : State).brewRec 0x000 0x008 2, .ok) := rfl

/-- The bits of a power of two. -/
theorem bit_two_pow (k n : Nat) : bit (2 ^ k) n = decide (n = k) := by
  rw [bit, bits, Nat.add_sub_cancel_left, pow_one]
  rcases Nat.lt_trichotomy n k with hlt | rfl | hgt
  · obtain ⟨d, rfl⟩ := Nat.exists_eq_add_of_lt hlt
    rw [show 2 ^ (n + d + 1) = 2 ^ n * (2 ^ d * 2) by ring, Nat.mul_div_cancel_left _ (Nat.two_pow_pos n), Nat.mul_mod_left]
    exact (decide_eq_false (by omega)).symm
  · rw [Nat.div_self (Nat.two_pow_pos n)]
    exact (decide_eq_true rfl).symm
  · rw [Nat.div_eq_of_lt (Nat.pow_lt_pow_right Nat.one_lt_two hgt)]
    exact (decide_eq_false (Nat.ne_of_gt hgt)).symm

/-- R399: a class is acknowledged, and no other. -/
theorem cwtAck_of_class {cls : Nat} (hcls : cls < 7) (s : State) : cwtAck (2 ^ cls) s =
    ({ s with cellar := { s.cellar with unacked := s.cellar.unacked.filter fun c => c != cls } }, .ok) := by
  have hself : bit (2 ^ cls) 7 = false := (bit_two_pow cls 7).trans (decide_eq_false (Nat.ne_of_gt hcls))
  have hclass : (fun c => !(decide (c < 7) && bit (2 ^ cls) c)) = fun c => c != cls := by
    funext c
    by_cases hc : c = cls
    · subst hc
      simp only [bit_two_pow, hcls, decide_true, Bool.and_self, Bool.not_true, bne_self_eq_false]
    · simp only [bit_two_pow, hc, decide_false, Bool.and_false, Bool.not_false, bne_iff_ne.mpr hc]
  simp only [cwtAck, hself, hclass, Bool.not_false, Bool.and_true]

/-- R399: the collector's own fault is acknowledged, and no class. -/
theorem cwtAck_of_self (s : State) :
    cwtAck 128 s = ({ s with cellar := { s.cellar with selfUnacked := false } }, .ok) := by
  have hclass : (fun c => !(decide (c < 7) && bit 128 c)) = fun _ => true := by
    funext c
    rw [show (128 : Nat) = 2 ^ 7 from rfl, bit_two_pow]
    simp only [Bool.not_eq_true', Bool.and_eq_false_iff, decide_eq_false_iff_not]
    omega
  have hself : bit 128 7 = true := rfl
  simp only [cwtAck, hself, hclass, Bool.not_true, Bool.and_false, List.filter_true]

/-! ### Injections (R396) -/

section
variable {data : Bytes} {s : State} (hlength : data.length = 12)
include hlength

/-- R396: the message of an injection is its first 12 bytes. -/
theorem FaultMsg.ofBytes_append (rest : Bytes) : FaultMsg.ofBytes (data ++ rest) = FaultMsg.ofBytes data := by
  rw [FaultMsg.ofBytes, FaultMsg.ofBytes, List.take_left' hlength, List.take_of_length_le hlength.le]

/-- R396: the place of an injection is the byte after its message. -/
theorem fieldBE_append_byte (x : Byte) : fieldBE (data ++ [x]) 12 1 = x.toNat := by
  rw [fieldBE, slice, List.drop_left' hlength]
  exact Nat.zero_add _

/-- R396: in MANUFACTURE a valid message is reported with INJ set, and at AT 1 its unit acts too. -/
theorem cwtInject_of_valid {x : Byte} {m : FaultMsg} (hm : m = { FaultMsg.ofBytes data with inj := true })
    (hreserved : (FaultMsg.ofBytes data).reserved = 0) (hvalid : (FaultMsg.ofBytes data).valid = true)
    (hlife : s.trust.lifecycle = 1) (hx : x.toNat ≤ 1) :
    cwtInject (data ++ [x]) s = (if x.toNat = 1 then (s.reportMsg m).unitActs m else s.reportMsg m, .ok) := by
  have hrange : ¬(1 < x.toNat ∨ m.valid = false) := by
    rw [not_or, Bool.not_eq_false]
    exact ⟨Nat.not_lt.mpr hx, hm ▸ hvalid⟩
  subst hm
  unfold cwtInject
  rw [FaultMsg.ofBytes_append hlength, fieldBE_append_byte hlength]
  exact (if_neg (not_not.mpr hreserved)).trans ((if_neg hrange).trans (if_neg (not_not.mpr hlife)))

end

/-! ### Forces (R397) -/

/-- R397: the state in which a force is armed. -/
def State.forceArmed (s : State) (code target : Nat) : State := { s with cellar := { s.cellar with force := some (code, target) } }

/-- Table 16-7: a force's word spells its code and its target. -/
theorem force_fields {code target : Nat} (hcode : code ≤ 5) (htarget : target < forceTargets code) :
    bits (code + 256 * target) 7 0 = code ∧ bits (code + 256 * target) 15 8 = target := by
  have hbyte : forceTargets code ≤ 96 := by
    unfold forceTargets
    split_ifs <;> omega
  simp only [bits]
  omega

section
variable {target : Nat} {s : State} (hlife : s.trust.lifecycle = 1 ∨ s.trust.lifecycle = 2) (hfree : s.cellar.force = none)
include hlife hfree

/-- R397: in MANUFACTURE or DEPLOYED, with nothing forced, a force of a target in range is armed; 1 on an idle Tun and 2 act at once. -/
theorem cwtForce_of_accepted {code : Nat} (hfirst : 1 ≤ code) (hlast : code ≤ 5) (htarget : target < forceTargets code) :
    cwtForce (code + 256 * target) s = (
      let u := s.forceArmed code target
      if code = 1 ∧ (u.tun target).task.isNone then
        ((((u.reportAs true (0x300 + target) .eccUncorr 0 0).count Obj.tunFaults target).forceActed).tunFault target, .ok)
      else if code = 2 then
        ((match u.portOfLane target with
          | some n => (if (u.port n).state = PortState.disabled then u else u.portDown n 1 target true)
          | none => u).forceActed, .ok)
      else (u, .ok)) := by
  obtain ⟨hcodeField, htargetField⟩ := force_fields hlast htarget
  have hrange : ¬(code < 1 ∨ 5 < code ∨ forceTargets code ≤ target) := by omega
  have hserves : ¬(s.trust.lifecycle ≠ 1 ∧ s.trust.lifecycle ≠ 2) := by omega
  have hunarmed : ¬s.cellar.force.isSome = true := by
    rw [hfree]
    exact Bool.false_ne_true
  unfold cwtForce
  rw [hcodeField, htargetField]
  exact (if_neg hrange).trans ((if_neg hserves).trans (if_neg hunarmed))

/-- R397: force 1 on a Tun at work waits for its next chance. -/
theorem cwtForce_of_busy_tun (htarget : target < 64) (htask : (s.tun target).task.isNone = false) :
    cwtForce (1 + 256 * target) s = (s.forceArmed 1 target, .ok) := by
  have hbusy : ¬(1 = 1 ∧ ((s.forceArmed 1 target).tun target).task.isNone = true) := fun h => ne_true_of_eq_false htask h.2
  exact (cwtForce_of_accepted hlife hfree le_rfl (by decide) htarget).trans ((if_neg hbusy).trans (if_neg (by decide)))

/-- R397: force 1 on an idle Tun acts at once. -/
theorem cwtForce_of_idle_tun (htarget : target < 64) (htask : (s.tun target).task.isNone = true) :
    cwtForce (1 + 256 * target) s =
      (((((s.forceArmed 1 target).reportAs true (0x300 + target) .eccUncorr 0 0).count Obj.tunFaults target).forceActed).tunFault target,
        .ok) :=
  (cwtForce_of_accepted hlife hfree le_rfl (by decide) htarget).trans (if_pos ⟨rfl, htask⟩)

/-- R397: force 2 acts at once on the port that holds the lane. -/
theorem cwtForce_of_lane (htarget : target < 96) : cwtForce (2 + 256 * target) s = (
    (match (s.forceArmed 2 target).portOfLane target with
      | some n => (if ((s.forceArmed 2 target).port n).state = PortState.disabled then s.forceArmed 2 target
          else (s.forceArmed 2 target).portDown n 1 target true)
      | none => s.forceArmed 2 target).forceActed, .ok) :=
  (cwtForce_of_accepted hlife hfree (by decide) (by decide) htarget).trans ((if_neg (by simp)).trans (if_pos rfl))

/-- R397: forces 3 to 5 wait for their next chance. -/
theorem cwtForce_of_waiting {code : Nat} (hfirst : 3 ≤ code) (hlast : code ≤ 5) (htarget : target < forceTargets code) :
    cwtForce (code + 256 * target) s = (s.forceArmed code target, .ok) :=
  (cwtForce_of_accepted hlife hfree (by omega) hlast htarget).trans ((if_neg (by omega)).trans (if_neg (by omega)))

end

/-- Settles O36: clearing and acknowledging are the objects' own rules on fixed words; injections and forces are the lemmas above. -/
theorem latchAndInjectionCommandsTakeEffect : Obligations.LatchAndInjectionCommandsTakeEffect := by
  unfold Obligations.LatchAndInjectionCommandsTakeEffect
  refine ⟨?real, ?injected, ?ackClass, ?ackSelf, ?collect, ?act, ?busyTun, ?idleTun, ?lane, ?taster, ?digest, ?deadline⟩
  case real =>
    rintro t who r s rfl haccepted
    exact objectCommand_takes haccepted rfl (cwtClear_real _)
  case injected =>
    rintro t who r s rfl haccepted
    exact objectCommand_takes haccepted rfl (cwtClear_injected _)
  case ackClass =>
    rintro t who cls r s rfl haccepted hcls
    exact objectCommand_takes haccepted rfl (cwtAck_of_class hcls _)
  case ackSelf =>
    rintro t who r s rfl haccepted
    exact objectCommand_takes haccepted rfl (cwtAck_of_self _)
  case collect =>
    rintro t who data r s rfl haccepted hlength hreserved hvalid hlife
    exact objectCommand_takes haccepted rfl (cwtInject_of_valid hlength rfl hreserved hvalid hlife (by decide))
  case act =>
    rintro t who data r s rfl haccepted hlength hreserved hvalid hlife
    exact objectCommand_takes haccepted rfl (cwtInject_of_valid hlength rfl hreserved hvalid hlife (by decide))
  case busyTun =>
    rintro t who target r s rfl haccepted htarget hlife hfree htask
    exact objectCommand_takes haccepted rfl (cwtForce_of_busy_tun hlife hfree htarget htask)
  case idleTun =>
    rintro t who target r s rfl haccepted htarget hlife hfree htask
    exact objectCommand_takes haccepted rfl (cwtForce_of_idle_tun hlife hfree htarget htask)
  case lane =>
    rintro t who target r s rfl haccepted htarget hlife hfree
    exact objectCommand_takes haccepted rfl (cwtForce_of_lane hlife hfree htarget)
  case taster =>
    rintro t who target r s rfl haccepted htarget hlife hfree
    exact objectCommand_takes haccepted rfl (cwtForce_of_waiting hlife hfree (by decide) (by decide) htarget)
  case digest =>
    rintro t who r s rfl haccepted hlife hfree
    exact objectCommand_takes haccepted rfl (cwtForce_of_waiting hlife hfree (by decide) (by decide) Nat.one_pos)
  case deadline =>
    rintro t who r s rfl haccepted hlife hfree
    exact objectCommand_takes haccepted rfl (cwtForce_of_waiting hlife hfree (by decide) (by decide) Nat.one_pos)

end Sys2Proof.Machine
end

section
/-! PROOFS. The Cellar Watch family, interrupts and the Brew Log: claims of EXTERNAL and their end (R401, R402), the writer of the log (R409)
and its checkpoints (R411). -/
set_option Elab.async false
namespace Sys2Proof.Machine

/-! ### Claims of EXTERNAL (R401, R402) -/

section
variable {s : State}

/-- R401: the best candidate is claimed. -/
theorem State.extClaim_of_best {id : Nat} (hbest : s.extBest = some id) :
    s.extClaim = (((s.modExt fun x =>
      { x with stack := bits (s.val Obj.icuSrc id) 3 0 :: x.stack, claimed := x.claimed ++ [id] }).count Obj.icuClaims id).stormCheck id,
      id) := by
  simp only [State.extClaim, hbest]

/-- R401: a claim without a candidate is spurious. -/
theorem State.extClaim_of_none (hnone : s.extBest = none) : s.extClaim = (s.count Obj.icuSpurious, 0) := by
  simp only [State.extClaim, hnone]

/-- R401: a claim that its access lets through answers what it claims. -/
theorem execIcuExtClaim_of_accepted {t id : Nat} {who : Path} {r u : State} (hs : s = (r.land t).accessed who)
    (haccepted : s.accessRefusal who Obj.icuExtClaim 0 false = none) (hclaim : s.extClaim = (u, id)) :
    execIcuExtClaim t who r = .next (u.send (.answer who .ok (bytesBE 2 id))) := by
  subst hs
  simp only [execIcuExtClaim, haccepted, hclaim]

/-- R402: the end of a claim drops its priority. -/
theorem icuExtEoi_of_claimed {v : Nat} (hclaimed : s.icu.external.claimed.contains v = true) :
    icuExtEoi v s = (s.modExt fun x => { x with stack := x.stack.drop 1, claimed := x.claimed.filter fun id => id != v }, .ok) :=
  if_pos hclaimed

/-- R402: the end of what was not claimed is an error. -/
theorem icuExtEoi_of_unclaimed {v : Nat} (hclaimed : s.icu.external.claimed.contains v = false) :
    icuExtEoi v s = (s.count Obj.icuEoiErrs, .ok) :=
  if_neg (ne_true_of_eq_false hclaimed)

end

/-! ### The Brew Log (R409, R411) -/

section
variable {t : Nat} {r s : State} (hs : s = r.land t)
include hs

section
variable {line : Nat} {m : WortMsg} {rest : List WortMsg} {u : State} (hline : s.nextLogLine = some line)
  (hmsgs : (s.wortLine line).msgs = m :: rest) (hu : u = s.setWort line ((s.wortLine line).dropFirst (wortDepth line)))
include hline hmsgs hu

/-- R409: the oldest record of the line served is written. -/
theorem execLogWrite_of_record (hrecord : m.marker = false) :
    execLogWrite t r = .next (State.logRecord { u with brew := { u.brew with lastLine := line } } (BrewRec.ofWords m.words)) := by
  subst hu hs
  simp only [execLogWrite, hline, hmsgs, hrecord, Bool.false_eq_true, if_false]

/-- R409: for a marker a gap record is written, and its count added. -/
theorem execLogWrite_of_marker {v : State} (hmarker : m.marker = true) (hv : v = { u with brew := { u.brew with lastLine := line } }) :
    execLogWrite t r = .next ((v.count Obj.logGapRecords 0 (m.words.headD 0)).logRecord
      { seq := 0, ctime := v.ctime, time := fieldBE (time80 v.deviceTime) 0 10, source := 0x000, event := 0x001, flags := 0,
        args := line * 2 ^ 32 + m.words.headD 0 }) := by
  subst hv hu hs
  simp only [execLogWrite, hline, hmsgs, hmarker, if_true]

end

/-- R411: a checkpoint that is due copies what was not copied yet, or fails and copies nothing. -/
theorem execLogCheckpoint_of_due {written : Bool}
    (hdue : s.brew.ckptDue = true ∨ s.brew.lastCkpt + giga * s.val Obj.logCkptS ≤ s.now) :
    execLogCheckpoint t written r = .next (
      if written then
        State.put { s with brew := { s.brew with
          ckpt := newest 65536 (s.brew.ckpt ++ s.brew.uncopied), ckptSeq := s.brew.nextSeq - 1, lastCkpt := s.now, ckptFailed := false,
          ckptDue := false } } Obj.logCkptLastSeq 0 (s.brew.nextSeq - 1 : Nat)
      else
        (State.caskErr { s with brew := { s.brew with lastCkpt := s.now, ckptFailed := true, ckptDue := false } } (caskBase 4)).brewRec
          0x000 0x006 s.brew.uncopied.length) := by
  have hcopies : ¬(s.brew.ckptDue = false ∧ s.now < s.brew.lastCkpt + giga * s.val Obj.logCkptS) := by
    rwa [not_and_or, Bool.not_eq_false, Nat.not_lt]
  subst hs
  exact (if_neg hcopies).trans (apply_ite Host.Outcome.next ..).symm

end

/-- Settles O37: the claims, the log's writer and its checkpoints are the lemmas above; the other objects take the word written, and the
storms and the poll have no condition. -/
theorem interruptAndLogCommandsTakeEffect : Obligations.InterruptAndLogCommandsTakeEffect := by
  unfold Obligations.InterruptAndLogCommandsTakeEffect
  refine ⟨?source, ?claim, ?spurious, ?eoi, ?eoiError, ?mask, ?storm, ?stormClear, ?poll, ?record, ?gap, ?mark, ?copied, ?failed⟩
  case source =>
    rintro t who row v r s rfl haccepted
    exact objectCommand_takes haccepted rfl rfl
  case claim =>
    intro t who id r s hs haccepted hbest
    exact execIcuExtClaim_of_accepted hs haccepted (State.extClaim_of_best hbest)
  case spurious =>
    intro t who r s hs haccepted hnone
    exact execIcuExtClaim_of_accepted hs haccepted (State.extClaim_of_none hnone)
  case eoi =>
    rintro t who v r s rfl haccepted hclaimed
    exact objectCommand_takes haccepted rfl (icuExtEoi_of_claimed hclaimed)
  case eoiError =>
    rintro t who v r s rfl haccepted hclaimed
    exact objectCommand_takes haccepted rfl (icuExtEoi_of_unclaimed hclaimed)
  case mask =>
    rintro t who row v r s rfl haccepted
    exact objectCommand_takes haccepted rfl rfl
  case storm =>
    rintro t who row v r s rfl haccepted
    exact objectCommand_takes haccepted rfl rfl
  case stormClear =>
    rintro t r s rfl
    rfl
  case poll =>
    rintro t r s rfl
    rfl
  case record =>
    intro t line m rest r s hs hline hmsgs hrecord
    exact execLogWrite_of_record hs hline hmsgs rfl hrecord
  case gap =>
    intro t line m rest r s hs hline hmsgs hmarker
    exact execLogWrite_of_marker hs hline hmsgs rfl hmarker rfl
  case mark =>
    rintro t who v r s rfl haccepted
    exact objectCommand_takes haccepted rfl rfl
  case copied =>
    intro t r s hs hdue
    exact execLogCheckpoint_of_due hs hdue
  case failed =>
    intro t r s hs hdue
    exact execLogCheckpoint_of_due hs hdue

end Sys2Proof.Machine
end

section
/-! PROOFS. The trust family: images and their effects (R418 to R426), fuses (R415, R416), the lifecycle (R413), access keys (R421 to
R423) and attestation (R427 to R429). -/
set_option Elab.async false
namespace Sys2Proof.Machine

/-! ### Images -/

/-- R413, R418: the verifier takes an image. -/
theorem secImage_of_free {who : Path} {image : Bytes} {s : State} (hlife : s.trust.lifecycle ≠ 3) (hfree : s.verifierBusy = false) :
    secImage who image s = (s.checkImage who true image, .ok) :=
  (if_neg hlife).trans (if_neg (ne_true_of_eq_false hfree))

/-- R418: what the end of a check shows and reports, whatever the image is for. -/
def State.checkReported (s : State) (job : ImageJob) (stored : Bool) : State :=
  let status := s.imageStatus job stored
  let u := ((s.modTrust fun x => { x with checking := none }).put Obj.secImageStatus 0 status).put Obj.secImageType 0 (imageType job.image % 256 : Nat)
  let u := if status = 1 then u else u.imageFailed status (imageType job.image)
  let u := if status = 10 then (u.caskErr (caskBase 3)).count Obj.cskEccUncorr else u
  if status = 10 ∧ imageType job.image = 2 then u.firmwareAreaLost else u

section
variable {t : Nat} {r s : State} (hs : s = r.land t)
include hs

section
variable {stored : Bool} {job : ImageJob} (hjob : s.trust.checking = some job)
include hjob

/-- R418: the check of an image ends: its report comes first, then what the image was for. -/
theorem execImageCheckDone_of_checking :
    execImageCheckDone t stored r = .next (
      if !job.sec then (s.checkReported job stored).recipeChecked job.image (s.imageStatus job stored)
      else if s.imageStatus job stored = 1 then (s.checkReported job stored).modTrust fun x => { x with accepted := some job }
      else s.checkReported job stored) := by
  subst hs
  simp only [execImageCheckDone, hjob, State.checkReported]

/-- R418: an image of SEC_IMAGE that passes waits for its effect. -/
theorem execImageCheckDone_of_sec (hsec : job.sec = true) :
    execImageCheckDone t stored r = .next (
      if s.imageStatus job stored = 1 then (s.checkReported job stored).modTrust fun x => { x with accepted := some job }
      else s.checkReported job stored) := by
  rw [execImageCheckDone_of_checking hs hjob, hsec]
  rfl

/-- R152, R419: a recipe image that passes both checks is staged. -/
theorem execImageCheckDone_of_recipe (hsec : job.sec = false) :
    execImageCheckDone t stored r =
      .next ((s.checkReported job stored).recipeChecked job.image (s.imageStatus job stored)) := by
  rw [execImageCheckDone_of_checking hs hjob, hsec]
  rfl

end

section
variable {b : Bytes}

/-- R420: a firmware patch is stored. -/
theorem execFirmwarePatch_of_accepted (hb : s.acceptedOf 2 = some b) :
    execFirmwarePatch t r = .next ((s.modTrust fun x => { x with fwStored := some b, fwRemove := false }).imageDone) := by
  subst hs
  simp only [execFirmwarePatch, hb]

/-- R415: a vendor key entry's fuse begins to blow. -/
theorem execKeyRevoke_of_accepted (hb : s.acceptedOf 3 = some b) :
    execKeyRevoke t r = .next (((s.blow (64 + fieldBE (imagePayload b) 0 1) 1).applied 2 b).imageDone) := by
  subst hs
  simp only [execKeyRevoke, hb]

/-- R424: the claim key is left, and no lock. -/
theorem execKeyReset_of_accepted {u : State} (hb : s.acceptedOf 4 = some b)
    (hu : u = s.modTrust fun x => { x with keys := s.claimKeys }) :
    execKeyReset t r = .next (State.applied { u with strel := { u.strel with auth := [] } } 3 b).imageDone := by
  subst hs hu
  simp only [execKeyReset, hb]

/-- R425: a VENDOR key fills its slot for its time. -/
theorem execVendorGrant_of_accepted (hb : s.acceptedOf 5 = some b) :
    execVendorGrant t r = .next (((s.modTrust fun x =>
      { x with vendor := Table.insert x.vendor (fieldBE (imagePayload b) 4 1)
                { key := s.grantKey b, expires := s.now + fieldBE (imagePayload b) 8 4 * giga } }).applied 4 b).imageDone) := by
  subst hs
  simp only [execVendorGrant, hb]

/-- R426: an identity is taken. -/
theorem execIdentity_of_accepted (hb : s.acceptedOf 6 = some b) :
    execIdentity t r = .next ((s.modTrust fun x => { x with identity := some b }).imageDone) := by
  subst hs
  simp only [execIdentity, hb]

end

/-! ### Fuses -/

section
variable {b : Blow} {rest : List Blow} (hblowing : s.trust.blowing = b :: rest) (hover : b.since + 100000 ≤ s.now)
include hblowing hover

/-- R415: the fuse of a vendor key entry is blown. -/
theorem execRollbackFuseBlown_of_entry (hentry : 64 ≤ b.fuse) :
    execRollbackFuseBlown t r = .next (s.modTrust fun x =>
      { x with revoked := x.revoked ++ [b.fuse - 64], blowing := rest.map fun (y : Blow) => { y with since := s.now } }) := by
  subst hs
  simp only [execRollbackFuseBlown, hblowing, Nat.not_lt.mpr hover, hentry, if_false, if_true]

/-- R416: a counter's fuse counts one more. -/
theorem execRollbackFuseBlown_of_counter {more : List Blow} (hcounter : b.fuse < 64)
    (hmore : more = if b.target ≤ s.counter b.fuse + 1 then [] else [{ b with since := s.now }]) :
    execRollbackFuseBlown t r = .next (s.modTrust fun x =>
      { x with counters := Table.set 0 x.counters b.fuse (s.counter b.fuse + 1),
               blowing := more ++ rest.map fun (y : Blow) => { y with since := s.now } }) := by
  subst hs hmore
  simp only [execRollbackFuseBlown, hblowing, Nat.not_lt.mpr hover, Nat.not_le.mpr hcounter, if_false]

end

/-! ### The tree and the lifecycle -/

/-- R429: the tree in the making is ready. -/
theorem execBottomTreeDone_of_making (hmaking : s.trust.attState = 1) :
    execBottomTreeDone t r = .next (s.modTrust fun x => { x with attState := 0 }) := by
  subst hs
  exact congrArg _ (if_pos hmaking)

/-- R413: a blank device gets its secret. -/
theorem execBlankToManufacture_of_blank (hblank : s.trust.lifecycle = 0) :
    execBlankToManufacture t r =
      .next ((s.modTrust fun x => { x with lifecycle := 1, secret := fit 32 (Config.newSecret s.draws) }).drawn) := by
  subst hs
  exact congrArg _ (if_pos hblank)

end

/-- Settles O38: an accepted image is the one case of each effect; the end of a check and of a blow has two. -/
theorem imageCommandsTakeEffect : Obligations.ImageCommandsTakeEffect := by
  unfold Obligations.ImageCommandsTakeEffect
  refine ⟨?image, ?checked, ?recipe, ?firmware, ?revoke, ?reset, ?grant, ?expiry, ?identity, ?entry, ?counter⟩
  case image =>
    rintro t who image r s rfl haccepted hlife hfree
    exact objectCommand_takes haccepted rfl (secImage_of_free hlife hfree)
  case checked =>
    intro t stored job r s hs hjob hsec
    exact execImageCheckDone_of_sec hs hjob hsec
  case recipe =>
    intro t stored job r s hs hjob hsec
    exact execImageCheckDone_of_recipe hs hjob hsec
  case firmware =>
    intro t b r s hs hb
    exact execFirmwarePatch_of_accepted hs hb
  case revoke =>
    intro t b r s hs hb
    exact execKeyRevoke_of_accepted hs hb
  case reset =>
    intro t b r s hs hb
    exact execKeyReset_of_accepted hs hb rfl
  case grant =>
    intro t b r s hs hb
    exact execVendorGrant_of_accepted hs hb
  case expiry =>
    rintro t slot r s rfl
    rfl
  case identity =>
    intro t b r s hs hb
    exact execIdentity_of_accepted hs hb
  case entry =>
    intro t b rest r s hs hblowing hover hentry
    exact execRollbackFuseBlown_of_entry hs hblowing hover hentry
  case counter =>
    intro t b rest r s hs hblowing hover hcounter
    exact execRollbackFuseBlown_of_counter hs hblowing hover hcounter rfl

/-! ### Effects of the security objects -/

section
variable {s : State} {who : Path} {v seq : Nat} {data : Bytes} {z : Session}

/-- R413: the device is deployed. -/
theorem secLifecycleAdvance_of_identity (hlife : s.trust.lifecycle = 1) (hidentity : s.trust.identity.isNone = false) :
    secLifecycleAdvance s =
      ((s.modTrust fun x =>
        { x with lifecycle := 2, keys := s.claimKeys.filter fun p => p.1 == 8 || p.1 == 16, vendor := [] }).clearRehearsals, .ok) :=
  if_neg (not_or_intro (not_not_intro hlife) (ne_true_of_eq_false hidentity))

/-- R413: the device is retired, and SAFE commanded. -/
theorem secRetire_of_deployed (hv : v = Config.serial) (hlife : s.trust.lifecycle = 2) :
    secRetire v s = cwtSafeEnter (
      let u := s.modTrust fun x => { x with lifecycle := 3, keys := [], vendor := [], accepted := none }
      let u := { u with strel := { u.strel with auth := [] } }
      { u with sets := { u.sets with slotA := Slot.empty, slotB := Slot.empty, saving := none, savePending := none, loading := none } }) :=
  (if_neg (not_not_intro hv)).trans (if_neg (not_not_intro hlife))

/-- R416: the recipe counter rises to the SVN of the bank in use. -/
theorem secRollbackCommit_of_bank (hbank : (s.bankNamed s.tuns.inUse).digest.isEmpty = false) :
    secRollbackCommit 1 s = (s.raiseCounter 1 (s.bankNamed s.tuns.inUse).svn, .ok) := by
  simp only [secRollbackCommit, hbank, Bool.false_eq_true, if_false, if_true]

/-- R416: the firmware counter rises to the SVN of the active patch. -/
theorem secRollbackCommit_of_firmware {b : Bytes} (hb : s.trust.fwActive = some b) :
    secRollbackCommit 0 s = (s.raiseCounter 0 (imageSvn b), .ok) := by
  simp only [secRollbackCommit, Nat.zero_ne_one, hb, if_false, if_true]

/-- R422: a session fills a slot of a role up to its own. -/
theorem secKeyInstall_of_session {role slot k : Nat} {key : Bytes} {u : State} (hz : s.sessionOf who = some z)
    (hrole : role = fieldBE data 0 1) (hslot : slot = fieldBE data 1 1) (hk : k = 4 * role + slot)
    (hkey : key = z.unwrap seq (slice data 4 48)) (hreserved : fieldBE data 2 2 = 0) (hslot3 : slot ≤ 3) (hrole3 : role < 3)
    (hown : role ≤ z.role.code) (hzero : key ≠ zeros 48)
    (hu : u = s.modTrust fun x => { x with keys := Table.insert x.keys k key }) :
    secKeyInstall who seq data s = ({ u with strel := { u.strel with auth := Table.erase u.strel.auth k } }, .ok) := by
  have hrange : ¬(3 < slot ∨ 3 < role) := by omega
  have hkeyOk : ¬(role = 3 ∨ key = zeros 48) := not_or_intro (by omega) hzero
  subst hrole hslot hk hkey hu
  simp only [secKeyInstall, hz, hreserved, hrange, Nat.not_lt.mpr hown, hkeyOk, ne_eq, not_true_eq_false, if_false]

/-- R422: a session writes the twin key. -/
theorem twnKey_of_session (hz : s.sessionOf who = some z) :
    twnKey who seq data s = (s.modTrust fun x => { x with keys := Table.insert x.keys 16 (z.unwrap seq data) }, .ok) := by
  simp only [twnKey, hz]

/-- R423: a slot of VIEWER, OPERATOR or BREWER is emptied, while the last BREWER key stays. -/
theorem secKeyErase_of_role {keys : Table Bytes} (hkeys : keys = Table.erase s.trust.keys (4 * bits v 15 8 + bits v 7 0))
    (hrole : bits v 15 8 < 3) (hslot : bits v 7 0 ≤ 3)
    (hbrewer : bits v 15 8 = 2 → (keys.any fun p => decide (8 ≤ p.1) && decide (p.1 < 12)) = true) :
    secKeyErase v s = (s.modTrust fun x => { x with keys := keys }, .ok) := by
  have hrange : ¬(3 < bits v 15 8 ∨ 3 < bits v 7 0) := by omega
  have hstays : ¬(bits v 15 8 = 2 ∧ (!(keys.any fun p => decide (8 ≤ p.1) && decide (p.1 < 12))) = true) := by
    rintro ⟨hrole2, hlast⟩
    simp only [hbrewer hrole2, Bool.not_true, Bool.false_eq_true] at hlast
  subst hkeys
  exact (if_neg hrange).trans ((if_neg hrole.ne).trans (if_neg hstays))

/-- R425: a VENDOR slot is emptied. -/
theorem secKeyErase_of_vendor (hrole : bits v 15 8 = 3) (hslot : bits v 7 0 ≤ 3) :
    secKeyErase v s = (s.modTrust fun x => { x with vendor := Table.erase x.vendor (bits v 7 0) }, .ok) := by
  have hrange : ¬(3 < bits v 15 8 ∨ 3 < bits v 7 0) := by omega
  exact (if_neg hrange).trans (if_pos hrole)

/-- R428: an open session keeps its nonce. -/
theorem secAttNonce_of_session {id : Nat} (hlife : s.trust.lifecycle ≠ 3) (hz : s.session id = some z) :
    secAttNonce (.strel id) data s = (s.setSession { z with attNonce := some data }, .ok) := by
  simp only [secAttNonce, hlife, hz, if_false]

/-- R428: the CAN path keeps its own. -/
theorem secAttNonce_of_can (hlife : s.trust.lifecycle ≠ 3) :
    secAttNonce .can data s = ({ s with can := { s.can with attNonce := some data } }, .ok) :=
  if_neg hlife

/-! ### Reports (R427 to R429) -/

/-- A time that may be unset is not within `g` of now where it would be past by then. -/
theorem any_within_of_all_past {now g : Nat} {o : Option Nat} (hpast : o.all (fun a => decide (a + g ≤ now)) = true) :
    o.any (fun a => decide (now < a + g)) = false := by
  cases o with
  | none => rfl
  | some a =>
    simpa only [Option.all_some, Option.any_some, decide_eq_true_eq, decide_eq_false_iff_not, Nat.not_lt] using hpast

section
variable (hblank : s.trust.lifecycle ≠ 0) (hretired : s.trust.lifecycle ≠ 3)
include hblank hretired

/-- R427: a report of the path's nonce is signed with the next leaf. -/
theorem State.readReport_of_nonce {n : Bytes} (hmade : s.trust.attState ≠ 1) (hleaves : s.trust.attState ≠ 2)
    (hrate : s.trust.attAt.all (fun a => decide (a + giga ≤ s.now)) = true)
    (hn : s.attNonce who = some n) :
    s.readReport who 0 = ((s.keepReport who (s.attSigned n s.trust.qNext)).leafUsed.drawn, .ok (s.attSigned n s.trust.qNext)) := by
  have hready : ¬(s.trust.attState = 1 ∨ s.trust.attAt.any (fun a => decide (s.now < a + giga)) = true) :=
    not_or_intro hmade (ne_true_of_eq_false (any_within_of_all_past hrate))
  simp only [State.readReport, hblank, hretired, or_self, ne_eq, not_true_eq_false, hleaves, hready, hn, if_false]

/-- R428: further bytes of the last report. -/
theorem State.readReport_of_offset {offset : Nat} (hoffset : offset ≠ 0) (hsigned : (s.attReport who).isEmpty = false)
    (hwithin : offset ≤ (s.attReport who).length) :
    s.readReport who offset = (s, .ok ((s.attReport who).drop offset)) := by
  simp only [State.readReport, hblank, hretired, or_self, ne_eq, hoffset, not_false_eq_true, hsigned, Nat.not_lt.mpr hwithin,
    Bool.false_eq_true, if_false, if_true]

end

/-- R428: a read that its access lets through answers the bytes it finds. -/
theorem execSecAttReport_of_ok {t offset : Nat} {r u : State} {b : Bytes} (hs : s = (r.land t).accessed who)
    (haccepted : s.accessRefusal who Obj.secAttReport 0 false = none) (hread : s.readReport who offset = (u, .ok b)) :
    execSecAttReport t who offset r = .next (u.send (.answer who .ok b)) := by
  subst hs
  simp only [execSecAttReport, haccepted, hread]

end

/-- Settles O39: each object's effect under its conditions, by the lemmas above. -/
theorem securityCommandsTakeEffect : Obligations.SecurityCommandsTakeEffect := by
  unfold Obligations.SecurityCommandsTakeEffect
  refine ⟨?advance, ?retire, ?commitRecipe, ?commitFirmware, ?install, ?erase, ?eraseVendor, ?removePatch, ?nonce, ?nonceCan, ?report,
    ?reportRest, ?tree, ?manufacture, ?twinKey⟩
  case advance =>
    rintro t who v r s rfl haccepted hlife hidentity
    exact objectCommand_takes haccepted rfl (secLifecycleAdvance_of_identity hlife hidentity)
  case retire =>
    rintro t who v r s rfl haccepted hv hlife
    exact objectCommand_takes haccepted rfl (secRetire_of_deployed hv hlife)
  case commitRecipe =>
    rintro t who r s rfl haccepted hbank
    exact objectCommand_takes haccepted rfl (secRollbackCommit_of_bank hbank)
  case commitFirmware =>
    rintro t who b r s rfl haccepted hb
    exact objectCommand_takes haccepted rfl (secRollbackCommit_of_firmware hb)
  case install =>
    rintro t who seq data z r s rfl haccepted hz hreserved hslot hrole hown hzero
    exact objectCommand_takes haccepted rfl (secKeyInstall_of_session hz rfl rfl rfl rfl hreserved hslot hrole hown hzero rfl)
  case erase =>
    rintro t who v r s rfl haccepted hrole hslot hbrewer
    exact objectCommand_takes haccepted rfl (secKeyErase_of_role rfl hrole hslot hbrewer)
  case eraseVendor =>
    rintro t who v r s rfl haccepted hrole hslot
    exact objectCommand_takes haccepted rfl (secKeyErase_of_vendor hrole hslot)
  case removePatch =>
    rintro t who v r s rfl haccepted
    exact objectCommand_takes haccepted rfl rfl
  case nonce =>
    rintro t who data id z r s rfl haccepted rfl hlife hz
    exact objectCommand_takes haccepted rfl (secAttNonce_of_session hlife hz)
  case nonceCan =>
    rintro t who data r s rfl haccepted rfl hlife
    exact objectCommand_takes haccepted rfl (secAttNonce_of_can hlife)
  case report =>
    intro t who n r s hs haccepted hblank hretired hmade hleaves hrate hn
    exact execSecAttReport_of_ok hs haccepted (State.readReport_of_nonce hblank hretired hmade hleaves hrate hn)
  case reportRest =>
    intro t who offset r s hs haccepted hblank hretired hoffset hsigned hwithin
    exact execSecAttReport_of_ok hs haccepted (State.readReport_of_offset hblank hretired hoffset hsigned hwithin)
  case tree =>
    intro t r s hs hmaking
    exact execBottomTreeDone_of_making hs hmaking
  case manufacture =>
    intro t r s hs hblank
    exact execBlankToManufacture_of_blank hs hblank
  case twinKey =>
    rintro t who seq data z r s rfl haccepted hz
    exact objectCommand_takes haccepted rfl (twnKey_of_session hz)

end Sys2Proof.Machine
end

section
/-! PROOFS. The package family: reset and its causes (R443, R447, R451), the sensors (R449), AVS (R445, R446) and the phases of start-up
(R452). -/
set_option Elab.async false
namespace Sys2Proof.Machine

/-! ### Reset -/

section
variable {t : Nat} {r s : State} (hs : s = r.land t)
include hs

/-- R452: the rising edge of PORST_N samples the straps. -/
theorem execPorstNRelease_of_low {nodeId twinRole bootSel : Nat} (hlow : s.pwr.porst = false) :
    execPorstNRelease t nodeId twinRole bootSel r = .next ((s.modPwr fun p =>
      { p with porst := true, nodeId := nodeId % 128, twinRole := twinRole % 2, bootSel := bootSel % 4 }).leaveReset) := by
  subst hs
  exact congrArg _ (if_neg (ne_true_of_eq_false hlow))

/-- R443: a rail below its level holds the device in reset. -/
theorem execBrownout_of_level_lost {rail mv : Nat} (hlow : mv < brownoutLevel rail) :
    execBrownout t rail mv r =
      .next ((s.modPwr fun p => { p with brown := rail :: p.brown.filter fun q => q != rail }).deviceReset 1) := by
  subst hs
  exact congrArg _ (if_neg (Nat.not_le.mpr hlow))

/-- R443: a rail at its level again no longer does. -/
theorem execBrownoutRecovery_of_held {rail mv : Nat} (hmv : brownoutLevel rail ≤ mv) (hheld : s.pwr.brown.contains rail = true) :
    execBrownoutRecovery t rail mv r = .next ((s.modPwr fun p => { p with brown := p.brown.filter fun q => q != rail }).leaveReset) := by
  subst hs
  refine congrArg _ (if_neg (not_or_intro (Nat.not_lt.mpr hmv) ?_))
  simpa only [Bool.not_eq_true'] using ne_false_of_eq_true hheld

/-- R451: a reset that was asked for comes once its delay is over. -/
theorem execPwrResetDelay_of_over {a : Nat} (ha : s.pwr.resetAt = some a) (hover : a ≤ s.now) :
    execPwrResetDelay t r = .next (s.deviceReset 2) := by
  subst hs
  refine congrArg _ (if_pos ?_)
  simpa only [ha, Option.any_some, decide_eq_true_eq] using hover

/-- R451: the Maltster has two cores with a watchdog. -/
theorem execMaltsterWatchdog_of_core {core : Nat} (hcore : core < 2) : execMaltsterWatchdog t core r = .next (s.deviceReset 3) := by
  subst hs
  exact congrArg _ (if_pos hcore)

/-- R447: the clock is back. -/
theorem execRefclkSysReturn_of_lost (hlost : s.pwr.refclk = false) :
    execRefclkSysReturn t r = .next ((s.modPwr fun p => { p with refclk := true }).leaveReset) := by
  subst hs
  exact congrArg _ (if_neg (ne_true_of_eq_false hlost))

end

/-- R451: the device's serial asks for a reset 10 ms later. -/
theorem pwrReset_of_serial {s : State} {v : Nat} (hv : v = Config.serial) :
    pwrReset v s = (s.modPwr fun p => { p with resetAt := some (s.now + 10000000) }, .ok) :=
  if_neg (not_not_intro hv)

/-- Settles O40: each command is one case of its condition; assertion of PORST_N and loss of the clock have none. -/
theorem resetCommandsTakeEffect : Obligations.ResetCommandsTakeEffect := by
  unfold Obligations.ResetCommandsTakeEffect
  refine ⟨?porstLow, ?porstHigh, ?brownout, ?recovery, ?request, ?delay, ?watchdog, ?clockLost, ?clockBack⟩
  case porstLow =>
    rintro t r s rfl
    rfl
  case porstHigh =>
    intro t nodeId twinRole bootSel r s hs hlow
    exact execPorstNRelease_of_low hs hlow
  case brownout =>
    intro t rail mv r s hs hlow
    exact execBrownout_of_level_lost hs hlow
  case recovery =>
    intro t rail mv r s hs hmv hheld
    exact execBrownoutRecovery_of_held hs hmv hheld
  case request =>
    rintro t who v r s rfl haccepted hv
    exact objectCommand_takes haccepted rfl (pwrReset_of_serial hv)
  case delay =>
    intro t a r s hs ha hover
    exact execPwrResetDelay_of_over hs ha hover
  case watchdog =>
    intro t core r s hs hcore
    exact execMaltsterWatchdog_of_core hs hcore
  case clockLost =>
    rintro t r s rfl
    rfl
  case clockBack =>
    intro t r s hs hlost
    exact execRefclkSysReturn_of_lost hs hlost

/-! ### Sensors and AVS -/

section
variable {t : Nat} {r s : State} (hs : s = r.land t)
include hs

/-- R449: what a reading of the sensors does, of the state `u` and the temperature `tj` that it finds. -/
theorem execSensorRead_of_due {readings : List Int} {u : State} {tj : Int} (hu : u = s.exclude readings) (htj : tj = u.hottest readings)
    (hdue : s.pwr.lastSensor + 1000000 ≤ s.now) (hheld : s.pwr.held = false) :
    execSensorRead t readings r = .next (
      let v := u.modPwr fun p =>
        { p with sensors := (List.range 16).map fun k => (k, readings.getD k 0), tj := tj,
                 tjLevels := (u.pwr.tjLevels.filter fun p : Nat × Int => decide (u.now ≤ p.1 + giga)) ++ [(u.now, tj)],
                 life := p.life + lifeSpent (u.now - p.lastSensor) tj, lastSensor := u.now }
      if 1250 ≤ tj then v.trip else v.thermWarn.thermCrit) := by
  have hread : ¬(s.now < s.pwr.lastSensor + 1000000 ∨ s.pwr.held = true) :=
    not_or_intro (Nat.not_lt.mpr hdue) (ne_true_of_eq_false hheld)
  subst hs
  simp only [execSensorRead, hread, if_false, ← hu, ← htj]

/-- R450: the life spent is saved once an hour. -/
theorem execLifeSave_of_due (hdue : s.pwr.lifeAt + 3600 * giga ≤ s.now) :
    execLifeSave t r = .next ({ (s.modPwr fun p => { p with lifeAt := s.now }) with cask := { s.cask with lifeSaved := s.pwr.life } }) := by
  subst hs
  exact congrArg _ (if_neg (Nat.not_lt.mpr hdue))

section
variable (hruns : s.pwr.avsRuns = true)
include hruns

/-- R445, R446: a step of the ramp, with or without its acknowledgement. -/
theorem execAvsRampStep_of_due {acked : Bool} (hramp : s.pwr.vout ≠ s.pwr.vt) (hdue : s.pwr.avsAt + 1000000 ≤ s.now) :
    execAvsRampStep t acked r = .next (
      if acked = false then s.avsStop 1
      else s.vout (if s.pwr.vout < s.pwr.vt then min (s.pwr.vout + 5) s.pwr.vt else max (s.pwr.vout - 5) s.pwr.vt)) := by
  have hstep : ¬(s.pwr.avsRuns = false ∨ s.pwr.vout = s.pwr.vt ∨ s.now < s.pwr.avsAt + 1000000) :=
    not_or_intro (ne_false_of_eq_true hruns) (not_or_intro hramp (Nat.not_lt.mpr hdue))
  subst hs
  exact congrArg _ (if_neg hstep)

/-- R445, R446: a check at the target whose transactions went through. -/
theorem execAvsTick_of_due {slack : Int} {readMv readDa : Nat} {q : Nat × Nat} {u : State} (htarget : s.pwr.vout = s.pwr.vt)
    (hdue : s.pwr.avsTickAt + 100000000 ≤ s.now) (hq : q = s.pwr.avsCheck slack)
    (hu : u = s.modPwr fun p => { p with vt := q.1, avsGood := q.2, avsTickAt := s.now }) :
    execAvsTick t slack true readMv readDa r = .next (State.readBack (if u.pwr.vout = q.1 then u else u.vout q.1) readMv readDa) := by
  have htick : ¬(s.pwr.avsRuns = false ∨ s.pwr.vout ≠ s.pwr.vt ∨ s.now < s.pwr.avsTickAt + 100000000) :=
    not_or_intro (ne_false_of_eq_true hruns) (not_or_intro (not_not_intro htarget) (Nat.not_lt.mpr hdue))
  subst hs hu hq
  exact congrArg _ ((if_neg htick).trans (if_neg (Bool.noConfusion ·)))

end

/-! ### Start-up -/

/-- R452: a step of start-up in its own phase. -/
theorem startupStep_of_phase {phase : Nat} {f : State → State} (hphase : s.pwr.phase = phase) (hheld : s.pwr.held = false)
    (hhalted : s.pwr.halted = false) : startupStep t phase f r = .next (f s) := by
  have hruns : s.pwr.phase = phase ∧ (!s.pwr.held) = true ∧ (!s.pwr.halted) = true := by
    simp only [hphase, hheld, hhalted, Bool.not_false, and_self]
  subst hs
  exact congrArg _ (if_pos hruns)

end

/-- Settles O41: a step of start-up runs its function in its phase (`startupStep_of_phase`); what is left is the condition inside it. -/
theorem powerAndStartupCommandsTakeEffect : Obligations.PowerAndStartupCommandsTakeEffect := by
  unfold Obligations.PowerAndStartupCommandsTakeEffect
  refine ⟨?sensors, ?life, ?ramp, ?rampFailed, ?tick, ?boot, ?bootFailed, ?bist, ?cask, ?qdr, ?ddr, ?lanes⟩
  case sensors =>
    intro t readings r s hs hdue hheld
    exact execSensorRead_of_due hs rfl rfl hdue hheld
  case life =>
    intro t r s hs hdue
    exact execLifeSave_of_due hs hdue
  case ramp =>
    rintro t acked r s hs hruns hramp hdue rfl
    exact execAvsRampStep_of_due hs hruns hramp hdue
  case rampFailed =>
    rintro t acked r s hs hruns hramp hdue rfl
    exact execAvsRampStep_of_due hs hruns hramp hdue
  case tick =>
    rintro t slack acked readMv readDa r s hs hruns htarget hdue rfl
    exact execAvsTick_of_due hs hruns htarget hdue rfl rfl
  case boot =>
    rintro t passed osc r s hs hphase hheld hhalted rfl
    change execRomBootDone t true osc r = _
    exact startupStep_of_phase hs hphase hheld hhalted
  case bootFailed =>
    rintro t passed osc r s hs hphase hheld hhalted rfl
    change execRomBootDone t false osc r = _
    exact startupStep_of_phase hs hphase hheld hhalted
  case bist =>
    intro t failedTuns failedBanks failedLanes othersGood r s hs hphase hheld hhalted hdone
    change execBistPhaseDone t failedTuns failedBanks failedLanes othersGood r = _
    exact (startupStep_of_phase hs hphase hheld hhalted).trans (congrArg _ (if_neg (ne_true_of_eq_false hdone)))
  case cask =>
    intro t r s hs hphase hheld hhalted
    change execCaskLoadDone t r = _
    exact startupStep_of_phase hs hphase hheld hhalted
  case qdr =>
    intro t failed r s hs hphase hheld hhalted
    change execQdrTrainingDone t failed r = _
    exact startupStep_of_phase hs hphase hheld hhalted
  case ddr =>
    intro t verified failed r s hs hphase hheld hhalted
    change execDdrTrainingDone t verified failed r = _
    exact startupStep_of_phase hs hphase hheld hhalted
  case lanes =>
    intro t r s hs hphase hheld hhalted hsettled
    change execLanesDone t r = _
    exact (startupStep_of_phase hs hphase hheld hhalted).trans (congrArg _ (if_pos hsettled))

end Sys2Proof.Machine
end
